-- ==== Sys2Proof/Word.lean ====
section
/-! DEFINITION. The data types of Table EN-1 (R4, R5): the 36-bit word, the 256-bit granule, the 80-bit accumulator. -/

set_option Elab.async false

namespace Sys2Proof

/-- R4: a word is 36 bits, made of four 9-bit nonets. -/
abbrev Word := BitVec 36

/-- R4, R5: a granule is seven words and a 4-bit tag. -/
abbrev Granule := BitVec 256

/-- Table EN-1: an accumulator is 80 bits, two's complement. -/
abbrev Acc := BitVec 80

/-- A device word address (bits 31:0, R114). -/
abbrev Addr := BitVec 32

end Sys2Proof
end

