-- ==== Sys2Proof/Config.lean ====
section
/-! DEFINITION. What one implementation fixes and the values the spec leaves open. Every constant here is opaque: no proof can see
its value. -/

set_option Elab.async false

namespace Sys2Proof.Config

/-- A fresh free choice, applied to the model's counter `State.free` (log entry 5). -/
opaque freeBool : Nat → Bool

/-- A fresh free number, applied to the model's counter `State.free` (log entry 5). -/
opaque freeNat : Nat → Nat

/-- Table PL-10: the mean step time that unit `u` measures over its window number `n`, which the spec bounds only (log entry 97). -/
opaque stepTime (u n : Nat) : Nat

/-- R336: granule `i` of the saved set number `n` as the device lays it out in the keep store; the layout is internal (log entry 103). -/
opaque savedGran (n i : Nat) : BitVec 256

/-- Table QF-12: the device's serial number, bits 71:0 (SERIAL_LO, SERIAL_HI read "fixed"). -/
opaque serial : BitVec 72

/-- R448: the serial-to-ID table of an image, by IMAGE_ID; the spec gives the image no place for it (log entry 25). -/
opaque serialId : Word → BitVec 72 → Option (BitVec 16)

/-- R2: the temperature grade; true is E, false is I (log entry 4). -/
opaque gradeE : Bool

end Sys2Proof.Config
end

