-- ==== Sys2Proof/Syntax.lean ====
section
/-! DEFINITION. The commands of the block, one constructor per row of spec/opcode_table.json, in the table's order.

Operands. `u` a unit 0-255 and `w` the 36-bit instruction word that the unit issues (Table EN-7); `cid` a context ID 16u + k (R17);
`q` a 13-bit queue ID (R347); `k` the number of a register, its word offset from 0x0800_0000 (R340); `v` the value written;
`gs` granules that arrive from outside; `edges` the modulator edges of a group since its last command, oldest first, the last of them
in this tick (R264); the others name the instance the row speaks of. -/

set_option Elab.async false

namespace Sys2Proof

/-- One modulator edge of a group (R264): the ns since the edge before it, as captured in clock-in mode, and the bit of each channel, bit i
being channel 8g + i. -/
structure ModEdge where
  gap  : Nat
  bits : BitVec 8
deriving DecidableEq, Repr

/-- One constructor per row of the table of operations and events. -/
inductive Instr where
  /-- ADD (R99). Writes the wrapped 36-bit sum of its operands to the destination; long opcode o000 or short opcode o00. -/
  | add (u : Nat) (w : BitVec 36)
  /-- SUB (R99). Writes the wrapped 36-bit difference of its operands to the destination. -/
  | sub (u : Nat) (w : BitVec 36)
  /-- ADDS (R99). Writes the saturated sum and sets SAT when it clips. -/
  | adds (u : Nat) (w : BitVec 36)
  /-- SUBS (R99). Writes the saturated difference and sets SAT when it clips. -/
  | subs (u : Nat) (w : BitVec 36)
  /-- AND (R99). Writes the bitwise AND of its operands. -/
  | andW (u : Nat) (w : BitVec 36)
  /-- OR (R99). Writes the bitwise OR of its operands. -/
  | orW (u : Nat) (w : BitVec 36)
  /-- XOR (R99). Writes the bitwise XOR of its operands. -/
  | xorW (u : Nat) (w : BitVec 36)
  /-- ANDN (R99). Writes a AND NOT b. -/
  | andn (u : Nat) (w : BitVec 36)
  /-- NEG (R99). Writes the wrapped negation of its operand. -/
  | neg (u : Nat) (w : BitVec 36)
  /-- NEGS (R99). Writes the saturated negation and sets SAT when it clips. -/
  | negs (u : Nat) (w : BitVec 36)
  /-- ABS (R99). Writes the wrapped absolute value of its operand. -/
  | abs (u : Nat) (w : BitVec 36)
  /-- ABSS (R99). Writes the saturated absolute value and sets SAT when it clips. -/
  | abss (u : Nat) (w : BitVec 36)
  /-- MIN (R99). Writes the signed smaller of its two operands. -/
  | minS (u : Nat) (w : BitVec 36)
  /-- MAX (R99). Writes the signed larger of its two operands. -/
  | maxS (u : Nat) (w : BitVec 36)
  /-- MINU (R99). Writes the unsigned smaller of its two operands. -/
  | minu (u : Nat) (w : BitVec 36)
  /-- MAXU (R99). Writes the unsigned larger of its two operands. -/
  | maxu (u : Nat) (w : BitVec 36)
  /-- MOV (R99). Short operation that copies g[rs] to rd. -/
  | mov (u : Nat) (w : BitVec 36)
  /-- ADDI (R99). Writes the wrapped sum of a and the sign-extended imm14. -/
  | addi (u : Nat) (w : BitVec 36)
  /-- ADDSI (R99). Writes the saturated sum of a and the sign-extended imm14, and sets SAT when it clips. -/
  | addsi (u : Nat) (w : BitVec 36)
  /-- ANDI (R99). Writes a AND the zero-extended imm14. -/
  | andi (u : Nat) (w : BitVec 36)
  /-- ORI (R99). Writes a OR the zero-extended imm14. -/
  | ori (u : Nat) (w : BitVec 36)
  /-- XORI (R99). Writes a XOR the zero-extended imm14. -/
  | xori (u : Nat) (w : BitVec 36)
  /-- LUI (R99). Writes imm14 placed in bits 35:22, with bits 21:0 zero. -/
  | lui (u : Nat) (w : BitVec 36)
  /-- ORHI (R99). Writes a OR (zero-extended imm14 × 2^14). -/
  | orhi (u : Nat) (w : BitVec 36)
  /-- MINI (R99). Writes the signed smaller of a and the sign-extended imm14. -/
  | mini (u : Nat) (w : BitVec 36)
  /-- MAXI (R99). Writes the signed larger of a and the sign-extended imm14. -/
  | maxi (u : Nat) (w : BitVec 36)
  /-- ADDQ (R99). Short operation that adds the sign-extended q to rd. -/
  | addq (u : Nat) (w : BitVec 36)
  /-- MOVQ (R99). Short operation that writes the sign-extended q to rd. -/
  | movq (u : Nat) (w : BitVec 36)
  /-- ANDQ (R99). Short operation that ANDs rd with the sign-extended q. -/
  | andq (u : Nat) (w : BitVec 36)
  /-- ORQ (R99). Short operation that ORs rd with the zero-extended q. -/
  | orq (u : Nat) (w : BitVec 36)
  /-- XORQ (R99). Short operation that XORs rd with the zero-extended q. -/
  | xorq (u : Nat) (w : BitVec 36)
  /-- NOP (R99). Short operation that takes a step with no effect. -/
  | nop (u : Nat) (w : BitVec 36)
  /-- CEQ (R100). Writes 1 when a equals b, and 0 otherwise. -/
  | ceq (u : Nat) (w : BitVec 36)
  /-- CNE (R100). Writes 1 when a differs from b, and 0 otherwise. -/
  | cne (u : Nat) (w : BitVec 36)
  /-- CLT (R100). Writes 1 when a is less than b, signed. -/
  | clt (u : Nat) (w : BitVec 36)
  /-- CLE (R100). Writes 1 when a is less than or equal to b, signed. -/
  | cle (u : Nat) (w : BitVec 36)
  /-- CLTU (R100). Writes 1 when a is less than b, unsigned. -/
  | cltu (u : Nat) (w : BitVec 36)
  /-- CLEU (R100). Writes 1 when a is less than or equal to b, unsigned. -/
  | cleu (u : Nat) (w : BitVec 36)
  /-- CEQI (R100). Writes 1 when a equals the sign-extended imm14. -/
  | ceqi (u : Nat) (w : BitVec 36)
  /-- CNEI (R100). Writes 1 when a differs from the sign-extended imm14. -/
  | cnei (u : Nat) (w : BitVec 36)
  /-- CLTI (R100). Writes 1 when a is less than the sign-extended imm14, signed. -/
  | clti (u : Nat) (w : BitVec 36)
  /-- CLEI (R100). Writes 1 when a is less than or equal to the sign-extended imm14, signed. -/
  | clei (u : Nat) (w : BitVec 36)
  /-- CGTI (R100). Writes 1 when a is greater than the sign-extended imm14, signed. -/
  | cgti (u : Nat) (w : BitVec 36)
  /-- CGEI (R100). Writes 1 when a is greater than or equal to the sign-extended imm14, signed. -/
  | cgei (u : Nat) (w : BitVec 36)
  /-- CLTUI (R100). Writes 1 when a is less than the zero-extended imm14, unsigned. -/
  | cltui (u : Nat) (w : BitVec 36)
  /-- CGEUI (R100). Writes 1 when a is greater than or equal to the zero-extended imm14, unsigned. -/
  | cgeui (u : Nat) (w : BitVec 36)
  /-- SLL (R101). Shifts a left by the count in bits 6:0 of b; a count of 36 or more gives 0. -/
  | sll (u : Nat) (w : BitVec 36)
  /-- SRL (R101). Shifts a right by the count, with zero fill. -/
  | srl (u : Nat) (w : BitVec 36)
  /-- SRA (R101). Shifts a right by the count, with sign fill. -/
  | sra (u : Nat) (w : BitVec 36)
  /-- ROL (R101). Rotates a left by the count modulo 36. -/
  | rol (u : Nat) (w : BitVec 36)
  /-- SLLI (R101). Shifts a left by the count in imm14[6:0]. -/
  | slli (u : Nat) (w : BitVec 36)
  /-- SRLI (R101). Shifts a right by the count in imm14[6:0], with zero fill. -/
  | srli (u : Nat) (w : BitVec 36)
  /-- SRAI (R101). Shifts a right by the count in imm14[6:0], with sign fill. -/
  | srai (u : Nat) (w : BitVec 36)
  /-- ROLI (R101). Rotates a left by the count in imm14[6:0]. -/
  | roli (u : Nat) (w : BitVec 36)
  /-- SLLQ (R101). Short operation that shifts rd left by q. -/
  | sllq (u : Nat) (w : BitVec 36)
  /-- SRLQ (R101). Short operation that shifts rd right by q, with zero fill. -/
  | srlq (u : Nat) (w : BitVec 36)
  /-- SRAQ (R101). Short operation that shifts rd right by q, with sign fill. -/
  | sraq (u : Nat) (w : BitVec 36)
  /-- CLZ (R101). Writes the number of leading zero bits of a. -/
  | clz (u : Nat) (w : BitVec 36)
  /-- POPC (R101). Writes the number of one bits of a. -/
  | popc (u : Nat) (w : BitVec 36)
  /-- NEX (R101). Writes the zero-extended nonet n of a. -/
  | nex (u : Nat) (w : BitVec 36)
  /-- NIN (R102). Replaces nonet n of g[rd] with bits 8:0 of a. -/
  | nin (u : Nat) (w : BitVec 36)
  /-- BFX (R102). Extracts a bit field of width w at position p from a. -/
  | bfx (u : Nat) (w : BitVec 36)
  /-- MUL (R103). Writes bits 35:0 of the product. -/
  | mul (u : Nat) (w : BitVec 36)
  /-- MULH (R103). Writes bits 71:36 of the signed product. -/
  | mulh (u : Nat) (w : BitVec 36)
  /-- MULHU (R103). Writes bits 71:36 of the unsigned product. -/
  | mulhu (u : Nat) (w : BitVec 36)
  /-- MULQ (R103). Writes the rounded and saturated Q.35 product, and sets SAT when it clips. -/
  | mulq (u : Nat) (w : BitVec 36)
  /-- MAC (R104). Adds the product to accumulator m[A], and sets OV on an 80-bit overflow. -/
  | mac (u : Nat) (w : BitVec 36)
  /-- MSU (R104). Subtracts the product from accumulator m[A]. -/
  | msu (u : Nat) (w : BitVec 36)
  /-- MACZ (R104). Replaces accumulator m[A] with the product. -/
  | macz (u : Nat) (w : BitVec 36)
  /-- MSUZ (R104). Replaces accumulator m[A] with the negated product. -/
  | msuz (u : Nat) (w : BitVec 36)
  /-- MFA (R105). Writes the accumulator shifted right, truncated and wrapped, or rounded and saturated. -/
  | mfa (u : Nat) (w : BitVec 36)
  /-- MTA (R103). Loads the accumulator with sext(a) × 2^SHIFT. -/
  | mta (u : Nat) (w : BitVec 36)
  /-- DIV (R108). Starts a signed division on the long-operation engine, giving quotient and remainder in a pair. -/
  | div (u : Nat) (w : BitVec 36)
  /-- DIVU (R108). Starts an unsigned division on the long-operation engine. -/
  | divu (u : Nat) (w : BitVec 36)
  /-- SQRT (R107). Starts a Q.35 square root on the long-operation engine. -/
  | sqrt (u : Nat) (w : BitVec 36)
  /-- RSQRT (R107). Starts a reciprocal square root on the long-operation engine. -/
  | rsqrt (u : Nat) (w : BitVec 36)
  /-- SINCOS (R528). Starts the sine and cosine of the angle fraction on the long-operation engine. -/
  | sincos (u : Nat) (w : BitVec 36)
  /-- LONG_OP_COMPLETE (R110). A long operation completes: it writes its destination unless a later writer suppresses it, sets its status bits and frees its engine slot. -/
  | longOpComplete (u : Nat) (slot : Nat)
  /-- LD (R117). Loads a word from ea, locally in class L or as a remote load. -/
  | ld (u : Nat) (w : BitVec 36)
  /-- LDNU (R114). Loads the zero-extended nonet of a word. -/
  | ldnu (u : Nat) (w : BitVec 36)
  /-- LDNS (R114). Loads the sign-extended nonet of a word. -/
  | ldns (u : Nat) (w : BitVec 36)
  /-- LD2 (R120). Loads a pair from local memory; a split access adds one step. -/
  | ld2 (u : Nat) (w : BitVec 36)
  /-- LDT (R114). Loads the tag of the granule that holds the word. -/
  | ldt (u : Nat) (w : BitVec 36)
  /-- LDX (R114). Loads a word from a + g[rs2]. -/
  | ldx (u : Nat) (w : BitVec 36)
  /-- ST (R117). Stores g[rd] at ea, locally or as a posted remote store. -/
  | st (u : Nat) (w : BitVec 36)
  /-- STN (R114). Stores bits 8:0 of g[rd] into one nonet of a word. -/
  | stn (u : Nat) (w : BitVec 36)
  /-- ST2 (R120). Stores a pair to local memory; a split access writes both halves or neither. -/
  | st2 (u : Nat) (w : BitVec 36)
  /-- STX (R114). Stores g[rd] at a + g[rs2]. -/
  | stx (u : Nat) (w : BitVec 36)
  /-- REMOTE_LOAD_COMPLETE (R118). A remote load's data returns and is written to d of its context's bank, and the waiting context may go on. -/
  | remoteLoadComplete (cid : Nat)
  /-- REMOTE_STORE_ARRIVE (R119). A posted remote store reaches its destination and is written, or is discarded when the domain is off. -/
  | remoteStoreArrive (i : Nat)
  /-- BR (R122). Branches to an address relative to the branch, after two delay slots. -/
  | br (u : Nat) (w : BitVec 36)
  /-- CALL (R122). Branches relative to the call and writes LNK with the address of the call + 3. -/
  | call (u : Nat) (w : BitVec 36)
  /-- JR (R122). Jumps to a + sext(imm14). -/
  | jr (u : Nat) (w : BitVec 36)
  /-- CALLR (R122). Jumps to a + sext(imm14) and writes LNK. -/
  | callr (u : Nat) (w : BitVec 36)
  /-- RET (R122). Jumps to LNK.ADDR. -/
  | ret (u : Nat) (w : BitVec 36)
  /-- DBNZ (R122). Decrements the counter and branches when the new value is non-zero. -/
  | dbnz (u : Nat) (w : BitVec 36)
  /-- ARM (R246). Arms the angle trigger at a + imm14 on the bound timebase, classes it, and writes the status to d. -/
  | arm (u : Nat) (w : BitVec 36)
  /-- ARMI (R246). Arms the angle trigger at TRG plus an increment, with SLIP handling. -/
  | armi (u : Nat) (w : BitVec 36)
  /-- DLINE (R254). Arms the deadline relative to the start time of the activation. -/
  | dline (u : Nat) (w : BitVec 36)
  /-- DISARM (R127). Disarms the angle trigger, the deadline, or both. -/
  | disarm (u : Nat) (w : BitVec 36)
  /-- PUSH (R353). Appends a word to the queue of the port, waiting for credit when a new granule is needed. -/
  | push (u : Nat) (w : BitVec 36)
  /-- POP (R358). Pops the next word, or returns the idle word or the last word popped and sets UND. -/
  | pop (u : Nat) (w : BitVec 36)
  /-- POPW (R132). Pops the next word, holding the context until a word is present. -/
  | popw (u : Nat) (w : BitVec 36)
  /-- POPW_COMPLETE (R132). A waiting POPW receives its word and takes its completion step. -/
  | popwComplete (cid : Nat)
  /-- QSTAT (R359). Writes the status word of the queue and clears the port's event flags. -/
  | qstat (u : Nat) (w : BitVec 36)
  /-- QFLUSH (R360). Flushes the queue of the port. -/
  | qflush (u : Nat) (w : BitVec 36)
  /-- QMARK (R363). Sets the rewind mark of the D-queue at its read position. -/
  | qmark (u : Nat) (w : BitVec 36)
  /-- QREW (R364). Rewinds the D-queue's read position to its mark and writes the status. -/
  | qrew (u : Nat) (w : BitVec 36)
  /-- MFC (R134). Reads a control register named by its control number. -/
  | mfc (u : Nat) (w : BitVec 36)
  /-- MTC (R75). Writes a control register; some fields take effect only after SYNC, and cross-context writes have conditions. -/
  | mtc (u : Nat) (w : BitVec 36)
  /-- SYNC (R161). Makes the context's pending MTC writes take effect. -/
  | sync (u : Nat) (w : BitVec 36)
  /-- SYNC_I (R171). Waits for instruction-store stores, then discards the fetch buffer and the BTB and refetches. -/
  | syncI (u : Nat) (w : BitVec 36)
  /-- FENCE (R137). Waits until every earlier access of the context is complete and visible. -/
  | fence (u : Nat) (w : BitVec 36)
  /-- WAITL (R159). Waits until every long operation of the context has completed. -/
  | waitl (u : Nat) (w : BitVec 36)
  /-- YIELD (R138). Waits as WAITL, ends the activation and signals the scheduler. -/
  | yield (u : Nat) (w : BitVec 36)
  /-- SLEEP (R139). Requests a low-power mode from the power manager and waits for the answer. -/
  | sleep (u : Nat) (w : BitVec 36)
  /-- TRAP (R140). Raises a precise TRAP with the trap code. -/
  | trap (u : Nat) (w : BitVec 36)
  /-- FETCH_GRANULE_ARRIVE (R162). An instruction granule read completes into the fetch buffer or a resume granule. -/
  | fetchGranuleArrive (u : Nat) (g : Nat)
  /-- BTB_FLUSH (R172). A write of FETCH_CTL.BTB_FLUSH invalidates every BTB entry. -/
  | btbFlush (u : Nat)
  /-- DISPATCH_REQUEST (R179). A dispatch request arrives at a unit: the context becomes READY, or the request is an overrun. -/
  | dispatchRequest (cid : Nat)
  /-- DISPATCH_ACCEPT (R180). The unit accepts a dispatch at a step boundary and runs six dispatch steps, preempting the outgoing context. -/
  | dispatchAccept (u : Nat) (n : Nat)
  /-- FRC_CLEAR (R193). A write of FRC with CAUSE = 0 to a HALTED context returns it to IDLE. -/
  | frcClear (cid : Nat) (v : BitVec 36)
  /-- OTHER_PC_WRITE (R188). A write of another context's PC discards its pending target and replay list and refills the resume granule. -/
  | otherPcWrite (cid : Nat) (v : BitVec 36)
  /-- CONTAIN_HALT (R203). A write of CONTAIN.HALT = 1 applies the level's halt, quiesce or fence and writes an SW_CONTAIN notice. -/
  | containHalt (lvl : Nat) (i : Nat) (rel : Nat)
  /-- CONTAIN_RESUME (R202). A write of RELEASE = 1 releases the scope and resumes its contexts. -/
  | containResume (lvl : Nat) (i : Nat)
  /-- CONTAIN_RESTART (R202). A write of RELEASE = 2 releases the scope and restarts its contexts at their entry points. -/
  | containRestart (lvl : Nat) (i : Nat)
  /-- RECOVERY_WINDOW_EXPIRE (R197). A scope's recovery window closes after its time has elapsed. -/
  | recoveryWindowExpire (lvl : Nat) (i : Nat)
  /-- TRIGGER_FIRE (R250). A heap entry reaches its fire tick; when its target is reached it fires a dispatch request, and otherwise it is re-predicted. -/
  | triggerFire (cid : Nat)
  /-- DEADLINE_EXPIRE (R256). A deadline's tick arrives: it is disarmed, counted, and may trap the context. -/
  | deadlineExpire (cid : Nat)
  /-- SCH_DISPATCH (R262). A write of SCH CMD.DISPATCH makes a dispatch request with source 2. -/
  | schDispatch (cid : Nat)
  /-- SCH_DIS_ANG (R262). A write of SCH CMD.DIS_ANG disarms the context's angle trigger. -/
  | schDisAng (cid : Nat)
  /-- SCH_DIS_DL (R262). A write of SCH CMD.DIS_DL disarms the context's deadline. -/
  | schDisDl (cid : Nat)
  /-- ENCODER_UPDATE (R213). At a multiple of UPD_PER after a count edge, an ENCODER update is produced. -/
  | encoderUpdate (n : Nat)
  /-- BOUND_UPDATE (R214). No count edge arrives for 1.5 count times, so the velocity is bounded down. -/
  | boundUpdate (n : Nat)
  /-- TRIPLE_APPLY (R216). The estimator applies an update and publishes a new triple, re-predicting heap entries, edges and carriers. -/
  | tripleApply (n : Nat)
  /-- TIMEBASE_LOSS (R221). No update arrives for LOSS_TO, so the timebase enters LOST and sends a loss event. -/
  | timebaseLoss (n : Nat)
  /-- TB_POS_WRITE (R213). A write of TBn.POS produces a SOFTWARE update. -/
  | tbPosWrite (n : Nat) (v : BitVec 36)
  /-- TB_CONFIG_WRITE (R237). A write of SRC, EN, DIR or SCALE takes effect at the next tick and may restart tracking. -/
  | tbConfigWrite (n : Nat) (r : Nat) (v : BitVec 36)
  /-- TB_OFFSET_WRITE (R212). A write of OFFSET moves the timebase value by the change of OFFSET. -/
  | tbOffsetWrite (n : Nat) (v : BitVec 36)
  /-- PPS_EDGE (R226). A PPS_IN rising edge is captured, qualified, and drives alignment by servo or step. -/
  | ppsEdge
  /-- PPS_HOLDOVER (R227). No good edge arrives within 1 s + QUAL_TOL, so a LOCKED unit enters HOLDOVER. -/
  | ppsHoldover
  /-- SET_NOW (R229). A write of SET_NOW steps TIME_S to TIME_S_NEXT. -/
  | setNow (v : BitVec 36)
  /-- TIME_F_READ (R224). A read of TIME_F latches TIME_S for the requester. -/
  | timeFRead (req : Nat)
  /-- PPS_OUT_RISE (R231). TIME_F passes zero, so PPS_OUT rises. -/
  | ppsOutRise
  /-- PPS_OUT_FALL (R231). OUT_HIGH_MS elapses, so PPS_OUT falls. -/
  | ppsOutFall
  /-- MIRROR_GAP_SEND (R232). MIN_GAP expires and the newest held triple is published. -/
  | mirrorGapSend (n : Nat)
  /-- MIRROR_REFRESH (R232). With no update for 100 µs, the present triple is sent again. -/
  | mirrorRefresh (n : Nat)
  /-- TIME_SAMPLE_SEND (R451). After TIME_F passes zero, a TIME packet is sent on every DOWN link. -/
  | timeSampleSend
  /-- DECIMATION (R269). At every M-th edge a decimation point passes values to the secondary stage and may form FREE items. -/
  | decimation (g : Nat) (edges : List ModEdge)
  /-- STROBE (R270). The published value reaches or crosses `n` strobe points, so a strobe occurs. -/
  | strobe (g n : Nat)
  /-- SW_STROBE (R270). A write of SW_STROBE makes one strobe per group set. -/
  | swStrobe (v : BitVec 36)
  /-- STROBED_OUTPUT (R271). The first edge after a strobe gives the filter values, and the strobed item is pushed. -/
  | strobedOutput (g : Nat) (edges : List ModEdge)
  /-- CLK_LOST (R265). No clock-in edge arrives for CLK_TO, so the group freezes. -/
  | clkLost (g : Nat)
  /-- CLK_BACK (R265). The first edge after a loss restarts the group. -/
  | clkBack (g : Nat) (edges : List ModEdge)
  /-- STUCK (R266). A bitstream holds one value beyond its limit, so STUCK is set. -/
  | stuck (c : Nat) (edges : List ModEdge)
  /-- GROUP_RESTART (R290). A change of the clocking, DEC or ORDER restarts the group. -/
  | groupRestart (k : Nat) (v : BitVec 36)
  /-- GROUP_RESTART_END (R290). N × M edges pass after a restart, and output resumes. -/
  | groupRestartEnd (g : Nat) (edges : List ModEdge)
  /-- STROBE_CONFIG_WRITE (R290). A write of STRB_CTL or STRB_PH takes effect at the next tick, with no strobe in that tick. -/
  | strobeConfigWrite (g : Nat) (r : Nat) (v : BitVec 36)
  /-- WINDOW_CHANGE (R275). A digital window's level changes between inside and outside. -/
  | windowChange (c : Nat) (edges : List ModEdge)
  /-- COMPARATOR_CROSSING (R277). A comparator pin crosses a threshold, changing its outside level at Reel. -/
  | comparatorCrossing (n : Nat) (uv : Nat)
  /-- COMPARATOR_THRESHOLD_WRITE (R278). A write of HI or LO settles within 1 µs and may trip Reel. -/
  | comparatorThresholdWrite (n : Nat) (v : BitVec 36) (uv : Nat)
  /-- ENCODER_EDGE (R280). A qualified A or B edge changes the count and records EDGE_T. -/
  | encoderEdge (n : Nat) (a : Bool) (b : Bool)
  /-- ENCODER_INDEX (R283). An index edge records IDX_CNT and IDX_T. -/
  | encoderIndex (n : Nat)
  /-- COUNT_WRITE (R283). A write of COUNT takes effect without a timebase jump. -/
  | countWrite (n : Nat) (v : BitVec 36)
  /-- RESOLVER_SAMPLE (R284). At a carrier sample position, the resolver tracker samples and delivers an angle. -/
  | resolverSample (r : Nat) (edges : List ModEdge)
  /-- EDGE_T (R300). An EDGE_T command item is applied as a pending edge at a device time. -/
  | edgeT (q : Nat)
  /-- EDGE_A (R301). An EDGE_A command item is classed and converted to a placement time. -/
  | edgeA (q : Nat)
  /-- CMP (R306). A CMP command item sets CMP_SH and may set the commit latch. -/
  | cmp (q : Nat)
  /-- CGSET (R306). A CGSET command item sets the generator's period shadow. -/
  | cgset (q : Nat)
  /-- EDGE_LOCK (R301). An edge reaches 64 ns before its placement time and is locked. -/
  | edgeLock (p : Nat)
  /-- EDGE_PLACE (R299). A pending edge is placed at its 125 ps step. -/
  | edgePlace (p : Nat)
  /-- CARRIER_EDGE (R304). The carrier crosses the compare value, so a CARRIER pin changes level. -/
  | carrierEdge (p : Nat)
  /-- HANDOVER (R306). A hand-over point takes a set commit latch and makes the shadows active. -/
  | handover (g : Nat)
  /-- DEAD_TIME_EXPIRE (R305). A delayed change to active takes effect after DT. -/
  | deadTimeExpire (p : Nat)
  /-- PIN_CTL_WRITE (R295). A write of PIN_CTL takes effect at the next tick, with all its fields together. -/
  | pinCtlWrite (p : Nat) (v : BitVec 36)
  /-- CG_CTL_WRITE (R525). A write of CG_CTL or PHASE starts, stops or re-maps the generator. -/
  | cgCtlWrite (g : Nat) (r : Nat) (v : BitVec 36)
  /-- COMMIT_SET (R307). A write of COMMIT.SET sets the commit latch. -/
  | commitSet (g : Nat)
  /-- FLT_N_FALL (R310). An FLT_N pin falls below its switching level and is active at Reel. -/
  | fltNFall (n : Nat)
  /-- SOFTWARE_TRIP (R310). A write of TRIP.SW sets the trip latch. -/
  | softwareTrip (b : Nat) (v : BitVec 36)
  /-- TRIP_CLEAR (R312). A write of TRIP.CLR clears the latch when no source is active. -/
  | tripClear (b : Nat)
  /-- REEL_SOURCE_WRITE (R310). A write of SRC0-SRC4 that enables an active source sets the latch. -/
  | reelSourceWrite (b : Nat) (r : Nat) (v : BitVec 36)
  /-- SCRUB_READ (R338). The scrubber reads, corrects and counts the next granule. -/
  | scrubRead (m : Nat)
  /-- TAG_WR (R327). A write of CLU.TAG_WR replaces the tag of one granule. -/
  | tagWr (c : Nat) (v : BitVec 36)
  /-- MRAM_PROGRAM_DONE (R333). An MRAM program with verify completes, or repeats, or raises IMEM_BANK. -/
  | mramProgramDone (c : Nat) (ok : Bool)
  /-- PUSH_VISIBLE (R356). A pushed word or granule becomes visible at the consumer. -/
  | pushVisible (q : Nat)
  /-- CREDIT_RETURN (R356). A freed credit reaches the producer and releases a waiting push. -/
  | creditReturn (q : Nat)
  /-- MISMATCH_RECLAIM_DONE (R366). The reclaim of a mismatch reset ends, and CRED returns to CAP. -/
  | mismatchReclaimDone (q : Nat)
  /-- QUEUE_FLUSH_WRITE (R360). A write of CMD_STAT.FLUSH flushes the queue. -/
  | queueFlushWrite (q : Nat) (v : BitVec 36)
  /-- MARK_CLR (R363). A write of CMD_STAT.MARK_CLR releases the rewind mark. -/
  | markClr (q : Nat)
  /-- CROSSING_RESET_SEEN (R377). The peer sees a crossing reset and drops pending items. -/
  | crossingResetSeen (d : Nat) (i : Nat)
  /-- CROSSING_RESET_END_SEEN (R377). The peer sees a crossing reset end and resumes. -/
  | crossingResetEndSeen (d : Nat) (i : Nat)
  /-- CROSSING_ACKNOWLEDGE (R375). An acknowledge returns, ending the phase and sending a held pulse. -/
  | crossingAcknowledge (d : Nat) (i : Nat)
  /-- DMA_GO (R399). A write of CH_CTL.GO starts the channel fetching at CH_HEAD. -/
  | dmaGo (c : Nat) (v : BitVec 36)
  /-- DMA_DISABLE (R400). A write of CH_CTL.EN = 0 aborts the channel and ends the chain. -/
  | dmaDisable (c : Nat) (v : BitVec 36)
  /-- DESC_ARRIVE (R384). A descriptor arrives in the buffer and is checked. -/
  | descArrive (c : Nat)
  /-- DMA_READ_COMPLETE (R380). A DMA granule read or queue take lands in the buffer. -/
  | dmaReadComplete (c : Nat)
  /-- DMA_WRITE_RESPONSE (R392). A DMA write or push is answered. -/
  | dmaWriteResponse (c : Nat) (ok : Bool)
  /-- DMA_RECORD_ANSWERED (R396). A completion record write is answered, so TAIL advances and notification is sent. -/
  | dmaRecordAnswered (c : Nat)
  /-- DMA_CQ_HEAD_WRITE (R397). A write of CQ_HEAD frees ring room for a waiting record. -/
  | dmaCqHeadWrite (q : Nat) (v : BitVec 36)
  /-- SQ_DOORBELL (R412). An SQ tail doorbell write starts fetching packets. -/
  | sqDoorbell (r : Nat) (v : Nat) (aligned : Bool)
  /-- CQ_DOORBELL (R421). A CQ head doorbell write acknowledges and frees held results. -/
  | cqDoorbell (r : Nat) (v : Nat) (aligned : Bool)
  /-- SQ_READ_COMPLETE (R412). A packet is wholly in the device and is executed or forwarded. -/
  | sqReadComplete (r : Nat) (gs : List (BitVec 256))
  /-- HOST_NOP (R415). A NOP command completes with an empty result. -/
  | hostNop (r : Nat)
  /-- REG_RD (R416). A REG_RD command reads registers. -/
  | regRd (r : Nat)
  /-- REG_WR (R416). A REG_WR command writes registers. -/
  | regWr (r : Nat)
  /-- MEM_RD (R417). A MEM_RD command reads granules. -/
  | memRd (r : Nat)
  /-- MEM_WR (R417). A MEM_WR command writes granules. -/
  | memWr (r : Nat)
  /-- Q_PUSH (R418). A Q_PUSH command pushes granules to HQn. -/
  | qPush (r : Nat)
  /-- Q_TAKE (R418). A Q_TAKE command takes present granules from HQn. -/
  | qTake (r : Nat)
  /-- FETCH (R422). A FETCH command returns a copy of a held result, or NOT_READY. -/
  | fetch (r : Nat)
  /-- Q_PUSH_TIMEOUT (R418). Q_TO expires, so the Q_PUSH ends with Q_FULL. -/
  | qPushTimeout (r : Nat)
  /-- FORWARD_RESULT (R423). A forwarded result returns to the entry device. -/
  | forwardResult (gs : List (BitVec 256))
  /-- FORWARD_TIMEOUT (R424). FWD_TO expires, so the command ends with TIMEOUT. -/
  | forwardTimeout (r : Nat) (seq : Nat)
  /-- HOST_EVT_RAISE (R409). A write of HOST_EVT raises MSI-X vectors. -/
  | hostEvtRaise (v : BitVec 36)
  /-- MSIX_UNMASK (R409). Unmasking a vector sends its pending message. -/
  | msixUnmask (n : Nat)
  /-- HOST_PORT_RESET (R407). PERST_N, hot reset, FLR or link-down resets the host port. -/
  | hostPortReset
  /-- RING_ENABLE (R411). A write of RING_CTL.EN from 0 to 1 enables the ring with zero pointers. -/
  | ringEnable (r : Nat) (v : BitVec 36)
  /-- RING_DISABLE (R411). A write of RING_CTL.EN from 1 to 0 stops fetching and discards held results. -/
  | ringDisable (r : Nat) (v : BitVec 36)
  /-- LINK_ENABLE (R431). A write of LINK_CTL.EN = 1 moves the link to DETECT. -/
  | linkEnable (l : Nat) (v : BitVec 36)
  /-- LINK_DISABLE (R431). A write of LINK_CTL.EN = 0 moves the link to DISABLED. -/
  | linkDisable (l : Nat) (v : BitVec 36)
  /-- LINK_SIGNAL_DETECT (R431). A signal is seen, so the link moves to TRAIN. -/
  | linkSignalDetect (l : Nat)
  /-- LINK_DETECT_RETRY (R431). The 1 ms DETECT retry expires. -/
  | linkDetectRetry (l : Nat)
  /-- LINK_TRAINED (R431). Training settles, so the link enters HELLO. -/
  | linkTrained (l : Nat) (width : Nat) (rate : Nat) (rev : Bool)
  /-- LINK_TRAIN_TIMEOUT (R431). A TRAIN, HELLO or RETRAIN bound expires. -/
  | linkTrainTimeout (l : Nat)
  /-- LINK_SIGNAL_LOSS (R432). Loss of signal for more than 1 µs takes the link DOWN. -/
  | linkSignalLoss (l : Nat)
  /-- LINK_DOWN_EXPIRE (R431). 1 ms in DOWN expires, and the link returns to DETECT. -/
  | linkDownExpire (l : Nat)
  /-- LINK_RETRAIN_WRITE (R431). A write of LINK_CTL.RETRAIN moves a FENCED link to TRAIN. -/
  | linkRetrainWrite (l : Nat) (v : BitVec 36)
  /-- LINK_FLIT (R436). A LINK flit carrying acknowledges, credits or a NAK is received. -/
  | linkFlit (l : Nat) (m : BitVec 256)
  /-- LINK_FLIT_SEND (R436). The every-32-flits or 200 ns LINK flit is sent. -/
  | linkFlitSend (l : Nat)
  /-- HELLO (R431). A HELLO flit reports the neighbour's ID and serial. -/
  | hello (l : Nat) (m : BitVec 256)
  /-- PROBE_SEND (R450). The 1 ms probe timer sends a PROBE. -/
  | probeSend (l : Nat)
  /-- PROBE (R450). A PROBE is received and answered. -/
  | probe (l : Nat) (m : BitVec 256)
  /-- PROBE_REPLY (R450). A PROBE_REPLY gives a one-way delay. -/
  | probeReply (l : Nat) (m : BitVec 256)
  /-- VIOL (R459). A VIOL flit from the partner is received and counted. -/
  | viol (l : Nat) (m : BitVec 256)
  /-- LINK_ABORT_FLIT (R443). An ABORT flit discards the partial packet of its VC. -/
  | linkAbortFlit (l : Nat) (m : BitVec 256)
  /-- LINK_FENCE_FLIT (R460). A FENCE flit from the partner is received. -/
  | linkFenceFlit (l : Nat) (m : BitVec 256)
  /-- QUEUE_PACKET (R442). A QUEUE packet is received and forwarded or ejected. -/
  | queuePacket (l : Nat) (vc : Nat) (gs : List (BitVec 256))
  /-- COMMAND_PACKET (R438). A COMMAND packet is received and executed or forwarded. -/
  | commandPacket (l : Nat) (vc : Nat) (gs : List (BitVec 256))
  /-- RESULT_PACKET (R423). A RESULT packet is received and routed to its entry device. -/
  | resultPacket (l : Nat) (vc : Nat) (gs : List (BitVec 256))
  /-- TIME_PACKET (R452). A TIME packet is received and aligns device time under FABRIC. -/
  | timePacket (l : Nat) (vc : Nat) (gs : List (BitVec 256))
  /-- MIRROR_PACKET (R454). A MIRROR packet is applied to mirrors and forwarded on the time tree. -/
  | mirrorPacket (l : Nat) (vc : Nat) (gs : List (BitVec 256))
  /-- DISC_REQ (R448). A DISC_REQ is answered with a DISC_RESP. -/
  | discReq (l : Nat) (gs : List (BitVec 256))
  /-- DISC_RESP (R448). The root receives a DISC_RESP and continues discovery. -/
  | discResp (l : Nat) (gs : List (BitVec 256))
  /-- ASSIGN (R448). An ASSIGN sets DEV_ID and ASSIGNED. -/
  | assign (l : Nat) (gs : List (BitVec 256))
  /-- ASSIGN_ACK (R448). The root receives an ASSIGN_ACK. -/
  | assignAck (l : Nat) (gs : List (BitVec 256))
  /-- DISCOVERY_TIMEOUT (R448). 100 µs without an answer repeats the request or skips the device. -/
  | discoveryTimeout
  /-- SAFE_BROADCAST (R456). A SAFE broadcast writes a PEER_SAFE notice, applies PEER_ACT and is forwarded. -/
  | safeBroadcast (l : Nat) (gs : List (BitVec 256))
  /-- ALIVE (R457). An ALIVE broadcast releases a peer fence. -/
  | alive (l : Nat) (gs : List (BitVec 256))
  /-- PEER_FENCE_RELEASE (R457). A write of PEER_FENCE.V = 0 releases a fence. -/
  | peerFenceRelease (i : Nat) (v : BitVec 36)
  /-- MODE_REQ_STANDBY (R474). A write of MODE_REQ = 1 begins entry into STANDBY. -/
  | modeReqStandby (force : Bool)
  /-- MODE_REQ_RETAIN (R474). A write of MODE_REQ = 2 begins entry into RETAIN. -/
  | modeReqRetain (force : Bool)
  /-- MODE_REQ_SENTINEL (R474). A write of MODE_REQ = 3 begins entry into SENTINEL. -/
  | modeReqSentinel (force : Bool)
  /-- MODE_REQ_RUN (R466). A write of MODE_REQ = 4 leaves BOOST or wakes with cause HOST. -/
  | modeReqRun (force : Bool)
  /-- MODE_REQ_BOOST (R490). A write of MODE_REQ = 5 ramps to BOOST. -/
  | modeReqBoost (force : Bool)
  /-- DOM_CTL_ON (R485). A DOM_CTL write with ON = 1 powers a domain up. -/
  | domCtlOn (d : Nat) (force : Bool)
  /-- DOM_CTL_OFF (R485). A DOM_CTL write with ON = 0 requests a domain power-down. -/
  | domCtlOff (d : Nat) (force : Bool)
  /-- AGENT_GRANT (R471). An agent grants; when all have granted, entry proceeds past AP1. -/
  | agentGrant (d : Nat)
  /-- AGENT_DEFER (R470). An agent defers the request. -/
  | agentDefer (d : Nat)
  /-- AGENT_REFUSE (R472). An agent refuses, and the request is abandoned. -/
  | agentRefuse (d : Nat)
  /-- DEFER_TIMEOUT (R470). A DEFER bound expires, so the agent answers REFUSE or GRANT. -/
  | deferTimeout (d : Nat)
  /-- DOMAIN_POWER_DOWN_DONE (R486). A domain finishes powering down. -/
  | domainPowerDownDone (d : Nat)
  /-- DOMAIN_POWER_UP_DONE (R486). A domain is powered up and usable, and takes its image writes. -/
  | domainPowerUpDone (d : Nat) (ok : Bool)
  /-- WAKE_TIMER (R477). WAKE_TIMER expires and wakes the device. -/
  | wakeTimer
  /-- WARM_N (R477). WARM_N low for at least 1 µs begins a warm start. -/
  | warmN
  /-- AVS_STEP_COMPLETE (R43). The regulator reports VDone, and the next step is requested. -/
  | avsStepComplete (rail : Nat) (v : Nat)
  /-- AVS_TIMEOUT (R45). A 50 mV step is not complete within 500 µs. -/
  | avsTimeout (rail : Nat) (v : Nat)
  /-- TEMP_SENSOR_UPDATE (R61). A temperature sensor updates and checks the BOOST and critical limits. -/
  | tempSensorUpdate (i : Nat) (t : Nat)
  /-- THERMAL_BOOST_EXIT (R62). A region stays above the BOOST limit for 1 ms, so the device leaves BOOST. -/
  | thermalBoostExit (rg : Nat)
  /-- RAIL_FAULT (R40). A main rail stays out of range for 2 µs, so the device enters SAFE. -/
  | railFault (rail : Nat)
  /-- MAIN_PG_FALL (R40). MAIN_PG falls, so the device enters SAFE. -/
  | mainPgFall
  /-- MAIN_PG_RISE (R39). MAIN_PG rises during power-up. -/
  | mainPgRise
  /-- POWER_UP_TIMEOUT (R39). MAIN_PG or PLL lock misses its bound, so the start fails. -/
  | powerUpTimeout
  /-- REFCLK_LOSS (R52). REFCLK stops or the PLL loses lock, so the device enters SAFE. -/
  | refclkLoss
  /-- BANK_SUPPLY (R42). VDD_EBn is out of range, so the bank is kept off. -/
  | bankSupply (b : Nat)
  /-- CLUSTER_POWER (R488). A cluster rail fault or a failed self-check raises CLUSTER_POWER. -/
  | clusterPower (c : Nat) (why : Nat)
  /-- RESET_N_FALL (R38). RESET_N goes low, driving SAFE_N and MAIN_EN low. -/
  | resetNFall
  /-- RESET_N_RISE (R39). RESET_N rises, sampling BOOT_SEL and beginning a cold start. -/
  | resetNRise (sel : Nat)
  /-- VAO_POWER_UP (R337). VAO powers up, resetting the always-on domain and the keep store. -/
  | vaoPowerUp
  /-- VAO_LOSS (R465). Loss of VAO takes the device to OFF. -/
  | vaoLoss
  /-- JASPER_CONVERSION (R491). The SAR converts the next enabled channel and filters it. -/
  | jasperConversion (code : Nat)
  /-- JS_IN_QUALIFY (R492). An input level qualifies after DEB + 1 samples and counts rising edges. -/
  | jsInQualify (n : Nat) (lvl : Bool)
  /-- JS_COUNT_WINDOW (R492). WIN elapses, so COUNT returns to 0. -/
  | jsCountWindow (n : Nat)
  /-- JASPER_PASS (R494). A 10 µs pass evaluates the 64 rules. -/
  | jasperPass
  /-- JASPER_LATCH_CLEAR (R496). A write of LATCH_LO or LATCH_HI clears rule latches. -/
  | jasperLatchClear (hi : Bool) (v : BitVec 36)
  /-- JASPER_RULE_WRITE (R494). A write of a rule word resets its qualified state. -/
  | jasperRuleWrite (i : Nat) (b : Bool) (v : BitVec 36)
  /-- OTP_BURN (R521). A write of OTP_CTL.BURN burns the key hash and AUTH. -/
  | otpBurn (v : BitVec 36)
  /-- START_COLD_REQUEST (R501). A write of START_CTL.COLD requests a cold start. -/
  | startColdRequest
  /-- START_WARM_REQUEST (R501). A write of START_CTL.WARM requests a warm start. -/
  | startWarmRequest
  /-- IMAGE_SECTION (R512). The loader receives an image section and checks or stages it. -/
  | imageSection (gs : List (BitVec 256))
  /-- NO_IMAGE (R505). 10 s pass without a granule, so the start fails. -/
  | noImage
  /-- START_DISCOVERY_TIMEOUT (R506). A non-root device is not assigned within 1 s, so the start fails with DISCOVERY. -/
  | startDiscoveryTimeout
  /-- START_TIMEOUT (R510). A start has not completed after 30 s, so it fails with TIMEOUT. -/
  | startTimeout
  /-- START_RETRY (R510). 10 ms after a failed start, a new start begins. -/
  | startRetry
  /-- REGISTER_WRITE (R8). A write to a register with no row of its own acts under its access codes. -/
  | registerWrite (k : Nat) (v : BitVec 64)
  /-- REGISTER_READ_CLEAR (R10). A read of an RS field returns it and clears it. -/
  | registerReadClear (k : Nat)
  /-- PERST_N_RISE (R477). PERST_N rises and, with WAKE_EN.PERST_N set, wakes the device from STANDBY, RETAIN or SENTINEL or abandons an entry. -/
  | perstNRise
  /-- FLT_N_RISE (R310). An FLT_N pin rises above its switching level, and the source stops being active at Reel. -/
  | fltNRise (n : Nat)
  /-- ENCODER_GLITCH (R281). A QE input pulse shorter than FILT + 1 samples is discarded and counted in GLITCH. -/
  | encoderGlitch (n : Nat)
  /-- SQ_READ_ERROR (R427). A device read of a ring ends with a completion timeout, unsupported request, completer abort or poisoned data, so the ring enters ERROR or the command ends with HOST_POISON. -/
  | sqReadError (r : Nat) (poisoned : Bool)
  /-- PCIE_LINK_UP (R405). The PCIe link finishes training, and PORT_STAT shows LINK_UP with its width and speed. -/
  | pcieLinkUp (width : Nat) (speed : Nat)
  /-- FLIT_CRC_FAILURE (R435). A received flit fails its CRC: it is discarded, a NAK is sent, and 64 failures within 1 ms retrain the link. -/
  | flitCrcFailure (l : Nat)
  /-- ROUTER_FAULT (R197). A region router fault is detected and handled at region level with cause ROUTER. -/
  | routerFault (rg : Nat)
  /-- BRIDGE_FAULT (R197). A die bridge fault is detected and handled at die level with cause BRIDGE, fencing the die. -/
  | bridgeFault (d : Nat)
  /-- BIT_ERROR (R321). Stored or moving data takes one or more bit errors, which the next decode corrects, poisons or mis-corrects. -/
  | bitError (tgt : Nat) (a : Nat) (mask : Nat)
  /-- BAR_ACCESS_VIOLATION (R343). A host BAR0 access that is not an aligned 8-byte access, or a BAR2 access outside its regions, completes with 0 or is discarded, and a violation is logged. -/
  | barAccessViolation (bar : Nat)
  /-- PLL_LOCK (R39). The 1 GHz PLL locks after REFCLK is detected, and device time starts at the next tick. -/
  | pllLock
  /-- DIGEST_COMPARE_TIMEOUT (R508). 10 ms after step 2 of a warm start, the topology digest is compared even though not every enabled link is UP. -/
  | digestCompareTimeout
deriving DecidableEq, Repr

end Sys2Proof
end

