-- ==== Sys2Proof/Machine/State.lean ====
section
/-! DEFINITION. The state of the device: every register, memory, queue, counter, mode and pin the spec gives it, as plain data, with the
queue of waiting commands; the fault and refusal reasons; the state right after reset.

Instances that come in thousands (contexts, descriptors, memory bytes, registers) are held sparsely: a list of (key, value) pairs with
keys strictly rising, where an unlisted key holds a default. The control registers of Table MM-9 are one such list: key = word offset
from 0x0800_0000, default = the Reset column of the register's table (`Sys2Proof.Machine.resetWord`, Fields.lean). -/

set_option Elab.async false

namespace Sys2Proof.Machine

/-- Why a step can stop. -/
inductive Fault where
  /-- Raised by every meaning whose command names an instance the device does not have (a unit above 255, a comparator above 47, ...):
  the spec gives no such instance. Safe: the machine stops where the hardware has nothing that could act. -/
  | noSuchInstance
deriving DecidableEq, Repr

/-- Why a command has no meaning. -/
inductive Refusal where
  /-- Raised by an arm of `exec` whose command has no meaning yet. Safe. -/
  | notModelled (mnemonic : String)
deriving DecidableEq, Repr

/-! ### Contexts and units (chapters 03 to 06) -/

/-- R174, Table CX-1. -/
inductive CtxState where
  | idle | ready | running | preempted | halted | unbound
deriving DecidableEq, Repr

/-- What a fixed-distance producer writes (Table PL-3). -/
inductive Dest where
  | g (r : Nat) | lnk | trg | atBit | dlBit
deriving DecidableEq, Repr

/-- A producer whose result is not yet committed (R146): `due` is the step at whose opening it commits. -/
structure Pend where
  dst : Dest
  val : Word
  due : Nat
deriving DecidableEq, Repr

/-- An entry of the replay list (R185): the word and its slot, its destination (a pair when `pair`), the operand values of the original
issue, the address of a split LD2, the due flags of the two halves. -/
structure Replay where
  w    : Word
  slot : Nat
  rd   : Nat
  pair : Bool
  a    : Word
  b    : Word
  ea   : Nat
  dueLo : Bool
  dueHi : Bool
deriving DecidableEq, Repr

/-- An imprecise trap that has arisen and is taken before a word at step `due` or later: POISON of a load (R121), or STATUS of a long
operation (R142), whose `due` is the step that issued it (R158). -/
structure PTrap where
  due    : Nat
  poison : Bool
  detail : Nat
  addr   : Nat
deriving DecidableEq, Repr

/-- A remote load in flight (R118): `how` 0 a whole word, 1 LDNU, 2 LDNS of nonet `n`, 3 the tag (LDT); `op` its long opcode; `errs` the bit
errors that the flit of its answer meets on the mesh (R320). -/
structure RLoad where
  ea  : Nat
  rd  : Nat
  how : Nat
  n   : Nat
  op  : Nat
  errs : Nat
deriving DecidableEq, Repr

/-- The waits of Table PL-1 that a context is in: at issue of its next word (`fetch`, `credit`, `lopSlot`, `waitl`, `fence`), or after a
word has issued (`split`: the added step of a split LD2 is due; `popw` holds the word and its slot). -/
inductive Wait where
  | none
  | fetch | credit | lopSlot | waitl | fence
  | split (w : Word) (rd ea : Nat)
  | syncI
  | remoteLoad
  | popw (w : Word) (slot q rd : Nat)
  | sleep (rd : Nat)
deriving DecidableEq, Repr

/-- A dispatch request: its source (Table SH-5, ACT_INFO.SRC), flags LATE, REV, LOSS, HELD, its lateness and its device time. -/
structure Req where
  cid  : Nat
  src  : Nat
  late : Bool
  rev  : Bool
  loss : Bool
  held : Bool
  lateNs : Nat
  time : Nat
deriving DecidableEq, Repr

/-- One context (R71 to R76, R174, R185, R188). -/
structure Ctx where
  g       : List (Nat × Word)
  m0      : Acc
  m1      : Acc
  pc      : Addr
  targets : List (Nat × Addr)
  lnk     : Addr
  st      : CtxState
  pri     : Nat
  trapEn  : Nat
  trapEnNext : Option Nat
  sticky  : Nat
  atBit   : Bool
  dlBit   : Bool
  tbr     : Nat
  tbrNext : Option Nat
  trg     : Word
  frc     : Word
  entry   : Option Addr
  pend    : List Pend
  traps   : List PTrap
  replay  : List Replay
  rload   : Option RLoad
  wait    : Wait
  age     : Nat
  req     : Option Req
  actSteps : Nat
  timeLatch : Word
  handlerHeld : Bool
  restartDue : Bool
  start   : Nat
  target  : Word
deriving DecidableEq, Repr

/-- A long operation in an engine slot (R157): its word and operand values, its results, whether each half is still due (R111), the status
bits it sets at completion (R110), whether reads of the destination return the result already, and the step that issued it. -/
structure Lop where
  slot    : Nat
  cid     : Nat
  w       : Word
  a       : Word
  b       : Word
  lo      : Word
  hi      : Word
  rd      : Nat
  pair    : Bool
  dueLo   : Bool
  dueHi   : Bool
  sets    : Nat
  written : Bool
  step    : Nat
deriving DecidableEq, Repr

/-- A dispatch in progress (R180): the incoming context's number in the unit, and the dispatch steps done. -/
structure Disp where
  k    : Nat
  done : Nat
deriving DecidableEq, Repr

/-- An instruction granule held by a unit. `bad` 0 good code, 1 tag not code, 2 poisoned or uncorrectable. -/
structure FGran where
  g    : Nat
  data : Granule
  bad  : Nat
deriving DecidableEq, Repr

/-- A branch-target buffer entry (R165): the branch's address, its target, the target granule. -/
structure Btb where
  at_    : Addr
  target : Addr
  gran   : FGran
deriving DecidableEq, Repr

/-- A posted remote store on its way (R119): `nib` is 4 for a whole word, otherwise the nonet of an STN; `step` is the unit's step that sent
it (R168); `pb` when its flit was found uncorrectable on the mesh (R320, R322). -/
structure Posted where
  cid : Nat
  ea  : Nat
  val : Word
  nib : Nat
  step : Nat
  pb  : Bool
deriving DecidableEq, Repr

/-- One unit (R145, R162 to R172, Table PL-10). `fbuf` holds the granules of the stream that issues, `nbuf` those of the pending branch
targets, `freq` the requests on their way (for the buffer, or for the resume granule of a context, with the unit's step count at the
request), `btbWait` the branches whose target
granule is on its way to the BTB; `lops` is in issue order, `btb` most recently used first. `win` and `winPrev` are the latest two windows
of 1,024 ns in which the unit took a step, counted from 1 (STEP_TIME; 0 none). -/
structure UnitSt where
  steps    : Nat
  win      : Nat
  winPrev  : Nat
  run      : Option Nat
  disp     : Option Disp
  lops     : List Lop
  owner    : Nat
  waitLof  : Nat
  waitCredit : Nat
  waitBank : Nat
  waitFetch : Nat
  btbHit   : Nat
  btbMiss  : Nat
  lookahead : Bool
  btbEn    : Bool
  lookaheadNext : Option Bool
  btbEnNext : Option Bool
  fbuf     : List FGran
  nbuf     : List FGran
  freq     : List (Nat × Option Nat × Nat)
  btb      : List Btb
  btbWait  : List (Addr × Addr)
  resume   : List (Nat × FGran)
deriving DecidableEq, Repr

/-! ### Scheduler (chapter 08) -/

/-- R241, Table SH-5 ANG.STATE. -/
inductive AngState where
  | disarmed | predicted | held | away
deriving DecidableEq, Repr

/-- How a fire is flagged (R251 to R253). -/
structure Flags where
  late : Bool
  rev  : Bool
  loss : Bool
  held : Bool
deriving DecidableEq, Repr

/-- No flag. -/
def Flags.none : Flags := { late := false, rev := false, loss := false, held := false }

/-- The heap entries of one context (R241): the angle trigger and the deadline, the overrun count and the deferred request.
`reachedAt` is the tick at which the trigger was found reached or due to fire, while it waits for a quiesce to end (R260) or for its turn
(R242), with the flags of its fire; `dlDue` that the deadline waits for its turn; `inc` is the increment of the ARMI that armed it (R260).
`bad` tells that the two copies of the entry differ (R243). -/
structure Heap where
  ang     : AngState
  tb      : Nat
  target  : Word
  d0      : Int
  pred    : Nat
  reachedAt : Option Nat
  flags   : Flags
  inc     : Option Word
  dl      : Option Nat
  dlDue   : Bool
  ovr     : Nat
  deferred : Bool
  revFlag : Bool
  bad     : Bool
deriving DecidableEq, Repr

/-! ### Timebases and device time (chapter 07) -/

/-- TBn.STAT.STATE. -/
inductive TbState where
  | off | acquire | track | lost | stale | fallback
deriving DecidableEq, Repr

/-- An update waiting for the estimator (R215): the measured position with 24 bits below the tf, its tick and device time, the jump of an
index realignment that it carries (R220), and its place in the order of arrival (R216). -/
structure Upd where
  m    : Int
  t    : Int
  dev  : Nat
  jump : Int
  ord  : Nat
deriving DecidableEq, Repr

/-- One timebase (R209): P_u in 2⁻²⁴ tf modulo 2⁶⁰, t_u as a tick and as device time, V, D in 2⁻²⁴ tf per tick; the update that waits;
whether the next update is the first and whether V has been set since enabling (R215); the last sign of V (R219); the measured position
accumulated and the count (or angle, or the parent's P_u) up to which it is (R212); the last count edge and the edges since the last update
(R213); the value that NOBACK holds (R218); the index edge that waits, as its count (R220); UPD_T when it was written; the fallback
timebase's position already added (R221); what publishing needs (R232); and of the latest write of R237 its tick with STATE, POS and VEL as they
read before it. -/
structure Tb where
  pu    : Int
  tu    : Int
  dev   : Nat
  v     : Int
  d     : Int
  st    : TbState
  upd   : Option Upd
  first : Bool
  vset  : Bool
  lastSign : Int
  mAcc  : Int
  lastCount : Int
  edgeCount : Int
  edgeTick : Int
  edgeDev  : Nat
  edges    : Nat
  holdAt  : Option Int
  idxSeen : Bool
  idx     : Option Int
  updT    : Option Word
  fbPos   : Int
  held    : Bool
  sentAt  : Option Nat
  was     : Option (Nat × Nat × Word × Word)
deriving DecidableEq, Repr

/-- Device time and the other clocks. `dev` counts 2⁻⁶⁵ s (R223: 2⁻²⁹ × 2⁻³⁶ s), modulo 2¹⁰¹; `tick` counts the ticks of the model. -/
structure Clock where
  tick  : Nat
  dev   : Nat
  run   : Bool
  ao    : Nat
  nextWritten : Bool
  hostLatch : Word
deriving DecidableEq, Repr

/-- PPS capture and servo (R226 to R231): the device time of the last captured edge (moved by steps), the run of good edges, the error of
the last edge when it was good and no step came after it, the frequency term in units of TIME_SLEW, the tick at which HOLDOVER was entered and that of
the last good edge, whether PPS_OUT is high and the device time of its fall. -/
structure Pps where
  lastEdge : Option Nat
  goodRun  : Nat
  prevErr  : Option Int
  freq     : Int
  holdFrom : Nat
  goodAt   : Option Nat
  outHigh  : Bool
  outFall  : Nat
deriving DecidableEq, Repr

/-! ### Queue pool (chapter 12) -/

/-- A cell: its words, whether its last word ends an item (E), whether it is closed, its poison bit, the error mask of its codeword, and
whether it has been decoded at the head (R367); then the words and the rest are those delivered, and `orig` keeps the granule, poison bit and
errors as they stay stored, where the decode found errors. -/
structure QCell where
  ws      : List Word
  e       : Bool
  closed  : Bool
  pb      : Bool
  err     : Nat
  checked : Bool
  orig    : Option (Granule × Bool × Nat)
deriving DecidableEq, Repr

/-- A push on its way to its queue (R356): one word, or a whole granule; `pb` when it is poisoned, `cr` when it took a credit. -/
inductive Push where
  | word (v : Word) (e pb cr : Bool)
  | gran (v : Granule) (pb cr : Bool)
deriving DecidableEq, Repr

/-- One queue. `cells` runs from the oldest cell in use; the read position is word `rdw` of the cell at index `rdc`, and `mark` is a
word of the oldest cell. `fill` counts the words of the producer's open granule, `open_` tells that an item without its END has
arrived, `back` counts credits on their way to the producer, `reclaim` cells being reclaimed (R366). `flagsP`, `flagsC` are the QSTAT
flags of the two ports (Table QU-3, bits 3:0). -/
structure Queue where
  cells   : List QCell
  rdc     : Nat
  rdw     : Nat
  mark    : Option Nat
  transit : List Push
  fill    : Nat
  open_   : Bool
  back    : Nat
  reclaim : Nat
  resetting : Bool
  last    : Word
  discard : Bool
  skip    : Bool
  markLost : Bool
  poolWait : Bool
  flagsP  : Nat
  flagsC  : Nat
  copyBad : Bool
  lastReset : Option Nat
deriving DecidableEq, Repr

/-- A crossing of Table QU-6 (R375 to R377): the contexts whose dispatch toggle is in its acknowledge phase, oldest first, the pulses held
behind them, whether a crossing reset is seen by the peer of the side that asserts it, and whether the backbone side (`near`) and the other
side (`far`) assert one. -/
structure Xing where
  phase  : List Nat
  held   : List Req
  reset  : Bool
  near   : Bool
  far    : Bool
deriving DecidableEq, Repr

/-! ### Measurement front (chapter 09) -/

/-- One sigma-delta group: the edges since the restart (newest first), their number and that of the decimation points since the restart,
CLK_LOST, the tick of the strobe that waits for its edge and whether a restart delays it, the tick of the last write of STRB_CTL or STRB_PH and
the settings before it (none: it was itself the tick after such a write, R290), the strobe timebase's value last compared (R270), and per stream
the strobe points skipped and the items replaced since its last item, and the item held with the SAT and LATE of its status word. -/
structure Grp where
  hist    : List ModEdge
  edges   : Nat
  points  : Nat
  lost    : Bool
  strobe  : Option Nat
  lateStrobe : Bool
  quiet   : Option (Nat × Option (Word × Word))
  at_     : Option Word
  skip    : List (Nat × Nat)
  repl    : List (Nat × Nat)
  held    : List (Nat × List Word × Option Nat)
deriving DecidableEq, Repr

/-- One channel: the smoothing register, the run of equal bits and whether it is told as STUCK, the window level (0 inside, 1 above HI,
2 below LO), and the edges in a row at which the fast value lay outside. -/
structure Chan where
  u      : Int
  run    : Nat
  bit    : Bool
  told   : Bool
  out    : Nat
  qual   : Nat
deriving DecidableEq, Repr

/-- One comparator: the pin voltage in microvolts and the sides on which it is outside. -/
structure Comp where
  uv : Nat
  hi : Bool
  lo : Bool
deriving DecidableEq, Repr

/-- One encoder interface: the qualified levels. -/
structure Enc where
  a : Bool
  b : Bool
deriving DecidableEq, Repr

/-- One resolver tracker (0 to 7) or grid tracker (8 to 15): whether it has a previous sample; the carrier position last seen; and the tick of
a sampling position that waits for its edge, with whether it is the second of its period (R284). -/
structure Trk where
  seen : Bool
  pos  : Option Nat
  due  : Option (Nat × Bool)
deriving DecidableEq, Repr

/-- An event source of MFR or EVO on one die (R289, R317): the held event and the open merge groups. -/
structure EvtSrc where
  held   : Option (List Word)
  groups : List (Nat × Nat)
deriving DecidableEq, Repr

/-! ### Event outputs (chapter 10) -/

/-- A pending edge (R299 to R301). Times are in steps of 125 ps of the tick count: `at_ / den` is the placement time, unless `dev` gives a
device time in 2⁻³⁶ s; `ang` is the timebase, the target and δ₀ of an EDGE_A; `level` 0 inactive, 1 active, 2 toggle; `lock` when the time stands
as computed; `held` when it waits for its target with V = 0. -/
structure Edge where
  at_   : Int
  den   : Int
  dev   : Option Nat
  ang   : Option (Nat × Word × Int)
  level : Nat
  lock  : Bool
  held  : Bool
deriving DecidableEq, Repr

/-- One pin: its edge list, the level last placed, the underlying level (true is active), the level after dead time, whether it follows its
generator (R295), the time of a change that dead time delays, the time of its previous edge as a fraction, whether it is held safe until a SYNC
release (R313), the carrier edges that are locked, with their levels (R303), and the tick of the last write of CMP_SH with its value before that
tick (R307). A pulse that R305 suppresses has the level active, no delay, and nothing on the pad. -/
structure Pin where
  edges  : List Edge
  placed : Bool
  under  : Bool
  out    : Bool
  follow : Bool
  delay  : Option Int
  prev   : Option (Int × Int)
  safe   : Bool
  locks  : List (Int × Bool)
  shWas  : Option (Nat × Nat)
deriving DecidableEq, Repr

/-- One carrier generator: whether it runs, whether it waits for TIME_F to pass zero (ALIGN), t₀ in halves of a 125 ps step, the tick of the latest
commit setting (R307), the hand-over points passed so far as an index of its position, the locked hand-over as its time and direction
(R526), whether the position has not yet passed the point taken at its locked time, and the tick of the last write of PER_SH with its
value before that tick (R307). -/
structure Gen where
  run   : Bool
  wait  : Bool
  t0    : Int
  setAt : Nat
  idx   : Int
  lock  : Option (Int × Int)
  lead  : Int
  shWas : Option (Nat × Nat)
deriving DecidableEq, Repr

/-- One bank of Reel: whether its latch covers all 32 pins, whatever COVER holds (R315), and the last tick in which TRIP.SW was active (R310). -/
structure Bank where
  all   : Bool
  swAt  : Option Nat
deriving DecidableEq, Repr

/-! ### DMA (chapter 13) -/

/-- A channel's transfer: the descriptor's granule and whether it could be read, the granules read so far, the reads and takes issued that have
not landed, the granules of the group in progress, the
output granules that wait for credit and those issued (each with its number in transfer order and its poison bit), the status so far, whether a
poisoned granule was written, FAULT_ADDR, whether reading has stopped, whether a disable has ended the chain (R400), the device time of the
last write response or of the end, and the codeword positions in error in the next source granule on its way (R321). -/
structure Dma where
  desc   : Granule
  known  : Bool
  reads  : Nat
  asked  : Nat
  buf    : List (Granule × Bool)
  out    : List (Nat × Granule × Bool)
  issued : List (Nat × Granule × Bool)
  status : Nat
  poisoned : Bool
  faultAddr : Nat
  stop   : Bool
  cut    : Bool
  endDev : Nat
  errs   : Nat
  limit  : Option Nat
deriving DecidableEq, Repr

/-! ### Host port (chapter 14) -/

/-- A command that waits or executes: the ring that carried it (8: forwarded to this device by the device `src`), its header and data granules
(`bad`: which of the data came poisoned over the fabric), the granules done so far, whether it has started, and whether its ring has been disabled since it was fetched (R407, R411). -/
structure HCmd where
  ring  : Nat
  hdr   : Granule
  data  : List Granule
  bad   : List Bool
  done  : Nat
  fwd   : Bool
  src   : Nat
  begun : Bool
  dead  : Bool
deriving DecidableEq, Repr

/-- A held result (R420): its command, destination and reserved granules; complete when `recd` is not empty; `wrote` is the CQ position after
its original record, when that is written. -/
structure HRes where
  ring : Nat
  seq  : Nat
  op   : Nat
  dest : Nat
  user : Nat
  rsv  : Nat
  recd : List Granule
  wrote : Option Nat
deriving DecidableEq, Repr

/-- The host port's hidden state: commands waiting or executing, results, records waiting for room, MSI-X masks and pending bits, the rings
in a run of BAD_HEADER slots, the rings stalled for result room with the granules they need, the VLOG entries not read yet, Corrected
Internal Error in the AER correctable error status, and the forwarded commands of rings disabled since, whose results will be discarded
(R411). -/
structure HostSt where
  cmds    : List HCmd
  res     : List HRes
  waiting : List (Nat × List Granule)
  masks   : Nat
  pend    : Nat
  badRun  : List Nat
  stalled : List (Nat × Nat)
  unread  : List Nat
  aer     : Bool
  orphans : List HRes
deriving DecidableEq, Repr

/-- A message that has left the device: an MSI-X message, a PCIe correctable error message, records written to a host ring, a 296-bit flit
on link `l`, the data of a BAR0 read of slot `k` (R13). -/
inductive Msg where
  | msix (n : Nat)
  | errCor
  | cq (ring pos : Nat) (gs : List Granule)
  | flit (l : Nat) (f : BitVec 296)
  | bar (k : Nat) (v : BitVec 64)
deriving DecidableEq, Repr

/-! ### Quadrille (chapter 15) -/

/-- A packet in an input buffer: its head (HOPS counted up) while it has not moved on, the bodies buffered with their poison bits, the
bodies still to arrive, whether the head has moved on, the output link (none: this device), whether the rest is to be dropped, and whether
it came before the link last entered UP. -/
structure RxPkt where
  head  : Granule
  body  : List (Granule × Bool)
  need  : Nat
  moved : Bool
  out   : Option Nat
  drop  : Bool
  old   : Bool
deriving DecidableEq, Repr

/-- One link. Receiver: the next sequence number expected, whether it discards until that number arrives, the input buffer per VC, the
running counts of slots freed and of slots filled, and the bit errors that wait for the next packet. Transmitter: the next sequence number,
the last one acknowledged, the NAKs since ACK_SEQ advanced, the replay buffer, the packets of this device that wait per VC, the source that
each VC is in the middle of (0 to 5 an input, 6 + p the injection queue of port p, 12 the device), the last credit counts received, the
flits sent since a data flit (R439). Then the delay probes (R450), HELLO seen both ways, the times of CRC failures and of violations, and
the neighbour's serial. -/
structure Link where
  rxSeq   : Nat
  nak     : Bool
  rx      : List (Nat × List RxPkt)
  freed   : List (Nat × Nat)
  filled  : List (Nat × Nat)
  errs    : List (Nat × Nat)
  txSeq   : Nat
  acked   : Nat
  naks    : Nat
  replay  : List (Nat × BitVec 296)
  tx      : List (Nat × List Granule)
  cur     : List (Nat × Nat)
  seen    : List (Nat × Nat)
  others  : Nat
  delays  : List Nat
  t1      : Option Nat
  probes  : Nat
  helloRx : Bool
  helloTx : Bool
  crcAt   : List Nat
  violAt  : List Nat
  nbrSerial : BitVec 72
deriving DecidableEq, Repr

/-- The fabric's hidden state: broadcasts seen (SRC, MSEQ, tick), the running MSEQ; of the root's discovery the devices still to ask (path
length, path, serial), the request that waits for an answer (type, path length, path, ID) and how often it was sent, the devices found (ID,
path, serial) and the next member; the hop count and master of the time source, whether a sample has asked for
a step of whole seconds, the VLOG entries not read yet, the RESULT packets that have reached this device, the sources that eject into each
ejection endpoint, the TIME_CFG in force (R463), whether TIME_F has passed zero with no sample sent since (R451), and the ID_CFG.MODE at the last
start (R463). `imageReturn` is the link by which the last command arrived (R504). -/
structure Qdl where
  seen    : List (Nat × Nat × Nat)
  mseq    : Nat
  walk    : List (Nat × Nat × Nat)
  asked   : Option (Nat × Nat × Nat × Nat)
  tries   : Nat
  found   : List (Nat × Nat × BitVec 72)
  nextId  : Nat
  srcHops : Nat
  master  : Nat
  samplePend : Bool
  imageReturn : Option Nat
  unread  : List Nat
  results : List (List Granule)
  eject   : List (Nat × Nat)
  timeCfg : Word
  sampleDue : Bool
  idMode  : Nat
deriving DecidableEq, Repr

/-! ### Power, Jasper, start (chapters 16, 17) -/

/-- A transition or domain request in progress (R466): `goal` 1-3 a mode, 4 BOOST to RUN, 5 BOOST, 10 + d domain d off, 80 + d domain d on. `step`: 0 before the
agents are asked, then as MODE.STEP. `from_` is the mode at the request, `wake` the cause and rule of a wake that waits.
`asker` is the requester's context, or none for the host. -/
structure Trans where
  goal   : Nat
  force  : Bool
  asker  : Option Nat
  waiting : List Nat
  deferred : List Nat
  granted : List Nat
  step   : Nat
  from_  : Nat
  wake   : Option (Nat × Nat)
deriving DecidableEq, Repr

/-- The power manager's hidden state: the transition or request in progress; of a completed entry its time (in ns of the always-on clock), its
requester's context (none: the host) and the mode it came from; per rail the target and the last voltage requested (× 5 mV); the regions
above the BOOST limit and those whose forward bias has been removed (R62); whether BOOST is refused under R62; the banks whose supply is out of range; whether the next start is cold (R40). -/
structure Pwr where
  trans    : Option Trans
  asleepAt : Nat
  asker    : Option Nat
  fromMode : Nat
  targetE  : Nat
  targetW  : Nat
  askedE   : Nat
  askedW   : Nat
  hot      : List Nat
  unbiased : List Nat
  thermLock : Bool
  bankBad  : List Nat
  startCold : Bool
deriving DecidableEq, Repr

/-- The pins of the always-on domain and the plant pins that no block of its own holds. Bit b of `safeN`: the power manager holds SAFE_Nb low.
Bit n of `fltLow`: FLT_Nn lies below its switching level. `refclk`: REFCLK runs and the PLL is locked. -/
structure Pins where
  resetN  : Bool
  mainPg  : Bool
  mainEn  : Bool
  thermN  : Bool
  safeN   : Nat
  fltLow  : Nat
  bootSel : Nat
  refclk  : Bool
deriving DecidableEq, Repr

/-- Jasper's hidden state: per analog channel the last codes, newest first, and the filter value y as n / 2ᵏ; the channel after the one converted
last; per rule the passes for which its raw result has held and its condition; the log entries not read yet. -/
structure Jsp where
  codes : List (Nat × List Nat)
  y     : List (Nat × Nat × Nat)
  seq   : Nat
  hold  : List (Nat × Nat)
  cond  : List (Nat × Bool)
  unread : List Nat
deriving DecidableEq, Repr

/-- One image section as it was staged (R512): header and body granules. -/
structure Section where
  hdr  : Granule
  body : List Granule
deriving DecidableEq, Repr

/-- A start in progress (R500 to R511): `kind` as START_STAT.KIND, `step` 1 to 7 and 0 when none; when it began (ns of the always-on clock);
the image applied or kept staged, the one being loaded, the granules of the section being received; the domains still to be switched on; the
sources tried; whether the header of the slot (step 4) or the digest (step 6) may yet let a warm start skip; whether a start has failed and
waits for its retry, warm or not; whether the digest is due (R508); whether the saved set was restored; a start that a command has asked for (0 none, 1 cold, 2 warm). Then the OTP. -/
structure Start where
  kind    : Nat
  step    : Nat
  began   : Nat
  stage   : List Section
  loading : List Section
  buf     : List Granule
  domains : List Nat
  tried   : Nat
  skipTry : Bool
  failed  : Bool
  retryWarm : Bool
  digestDue : Bool
  restored : Bool
  due     : Nat
  key     : BitVec 256
  keySet  : Bool
  authReq : Bool
deriving DecidableEq, Repr

/-- A program of an instruction-store granule whose verify is due (R333): the granule, the programs made so far, and whose store it is: 0 no
unit's, 1 + u unit u's (R171), 65 the image loader's (R517). -/
structure Prog where
  g   : Nat
  n   : Nat
  by_ : Nat
deriving DecidableEq, Repr

/-- A containment scope (Table CX-9): `lvl` 0 context, 1 cluster, 2 region, 3 die, 4 package. -/
structure Scope where
  lvl : Nat
  i   : Nat
deriving DecidableEq, Repr

/-- A fault or notice that has arisen and is not yet handled: what its record holds (Table CX-11). -/
structure Raised where
  scope  : Scope
  cause  : Nat
  notice : Bool
  reason : Nat
  prec   : Bool
  slot   : Nat
  detail : Nat
  pc     : Nat
  addr   : Nat
  word   : Nat
deriving DecidableEq, Repr

/-- Fault containment (R197 to R203): scopes held, scopes with an open window; whether the package SAFE state
has been entered by the command under way. -/
structure Contain where
  held    : List Scope
  windows : List Scope
  entered : Bool
deriving DecidableEq, Repr

/-- The saved set of RETAIN and SENTINEL (R483, Table PW-8), and its number and length in granules in the keep store's save area (R336). -/
structure Saved where
  ctxs  : List (Nat × Ctx)
  heaps : List (Nat × Heap)
  tbs   : List (Nat × Tb)
  regs  : List (Nat × Word)
  dev   : Nat
  ao    : Nat
  mark  : Nat
  grans : Nat
deriving DecidableEq, Repr

/-- The whole machine. `pending` is the queue of waiting commands; `free` and `order` are the model's own counters (log entries 5, 6).
`fired` holds per region the latest tick in which its heap took an entry and how many it took (R242). `dmaTurn` is the DMA channel that the read engine served last (R381). -/
structure State where
  pending : List Instr
  free    : Nat
  order   : Nat
  clock   : Clock
  regs    : List (Nat × Word)
  mem     : List Host.Cell
  poison  : List Nat
  errs    : List (Nat × Nat)
  ctxs    : List (Nat × Ctx)
  units   : List (Nat × UnitSt)
  heaps   : List (Nat × Heap)
  fired   : List (Nat × (Nat × Nat))
  reqs    : List Req
  posted  : List Posted
  tbs     : List (Nat × Tb)
  pps     : Pps
  queues  : List (Nat × Queue)
  xings   : List (Nat × Xing)
  grps    : List (Nat × Grp)
  chans   : List (Nat × Chan)
  comps   : List (Nat × Comp)
  encs    : List (Nat × Enc)
  trks    : List (Nat × Trk)
  evts    : List (Nat × EvtSrc)
  evPins  : List (Nat × Pin)
  gens    : List (Nat × Gen)
  banks   : List (Nat × Bank)
  dma     : List (Nat × Dma)
  dmaTurn : Nat
  host    : HostSt
  links   : List (Nat × Link)
  qdl     : Qdl
  pwr     : Pwr
  pins    : Pins
  jsp     : Jsp
  start   : Start
  contain : Contain
  raised  : List Raised
  saved   : Option Saved
  scrub   : List (Nat × Nat)
  program : List Prog
  sent    : List Msg
deriving DecidableEq, Repr

/-! ### The values at reset of what is held sparsely -/

/-- R72, Tables EN-4 to EN-6: every register of a context reads 0 and its state code is 0, IDLE. -/
def Ctx.init : Ctx :=
  { g := [], m0 := 0, m1 := 0, pc := 0, targets := [], lnk := 0, st := .idle, pri := 0, trapEn := 0, trapEnNext := none, sticky := 0,
    atBit := false, dlBit := false, tbr := 0, tbrNext := none, trg := 0, frc := 0, entry := none, pend := [], traps := [], replay := [],
    rload := none, wait := .none, age := 0, req := none, actSteps := 0, timeLatch := 0, handlerHeld := false, restartDue := false, start := 0, target := 0 }

/-- Table PL-10: counters 0, LOOKAHEAD and BTB_EN 1. -/
def UnitSt.init : UnitSt :=
  { steps := 0, win := 0, winPrev := 0, run := none, disp := none, lops := [], owner := 0, waitLof := 0, waitCredit := 0, waitBank := 0, waitFetch := 0,
    btbHit := 0, btbMiss := 0, lookahead := true, btbEn := true, lookaheadNext := none, btbEnNext := none, fbuf := [], nbuf := [],
    freq := [], btb := [], btbWait := [], resume := [] }

/-- Table SH-5: nothing armed. -/
def Heap.init : Heap :=
  { ang := .disarmed, tb := 0, target := 0, d0 := 0, pred := 0, reachedAt := none, flags := Flags.none, inc := none, dl := none, dlDue := false, ovr := 0, deferred := false,
    revFlag := false, bad := false }

/-- Table TB-5: STATE OFF, POS and VEL 0. -/
def Tb.init : Tb :=
  { pu := 0, tu := 0, dev := 0, v := 0, d := 0, st := .off, upd := none, first := false, vset := false, lastSign := 0, mAcc := 0,
    lastCount := 0, edgeCount := 0, edgeTick := 0, edgeDev := 0, edges := 0, holdAt := none, idxSeen := false, idx := none, updT := none,
    fbPos := 0, held := false, sentAt := none, was := none }

/-- An empty queue: CRED equals CAP (R353, R370). -/
def Queue.init : Queue :=
  { cells := [], rdc := 0, rdw := 0, mark := none, transit := [], fill := 0, open_ := false, back := 0, reclaim := 0, resetting := false, last := 0,
    discard := false, skip := false, markLost := false, poolWait := false, flagsP := 0, flagsC := 0, copyBad := false, lastReset := none }

/-- A crossing at rest. -/
def Xing.init : Xing := { phase := [], held := [], reset := false, near := false, far := false }

/-- A group with no sample taken. -/
def Grp.init : Grp :=
  { hist := [], edges := 0, points := 0, lost := false, strobe := none, lateStrobe := false, quiet := none, at_ := none, skip := [], repl := [],
    held := [] }

/-- A channel with no sample taken; its window reads inside (R263). -/
def Chan.init : Chan := { u := 0, run := 0, bit := false, told := false, out := 0, qual := 0 }

/-- A comparator whose pin is at 0 V and inside. -/
def Comp.init : Comp := { uv := 0, hi := false, lo := false }

/-- An encoder interface with both inputs low. -/
def Enc.init : Enc := { a := false, b := false }

/-- A tracker with no sample taken. -/
def Trk.init : Trk := { seen := false, pos := none, due := none }

/-- An event source with no event held. -/
def EvtSrc.init : EvtSrc := { held := none, groups := [] }

/-- A pin with no edge pending and an inactive level. -/
def Pin.init : Pin :=
  { edges := [], placed := false, under := false, out := false, follow := false, delay := none, prev := none, safe := false, locks := [],
    shWas := none }

/-- A generator that does not run. -/
def Gen.init : Gen := { run := false, wait := false, t0 := 0, setAt := 0, idx := 0, lock := none, lead := 0, shWas := none }

/-- A bank with its latch set as at a power-up (R315, TRIP.LATCHED resets to 1). -/
def Bank.init : Bank := { all := true, swAt := none }

/-- A channel in IDLE. -/
def Dma.init : Dma :=
  { desc := 0, known := false, reads := 0, asked := 0, buf := [], out := [], issued := [], status := 0, poisoned := false, faultAddr := 0, stop := false,
    cut := false, endDev := 0, errs := 0, limit := none }

/-- A link in DISABLED. -/
def Link.init : Link :=
  { rxSeq := 0, nak := false, rx := [], freed := [], filled := [], errs := [], txSeq := 0, acked := 4095, naks := 0, replay := [], tx := [],
    cur := [], seen := [], others := 0, delays := [], t1 := none, probes := 0, helloRx := false, helloTx := false, crcAt := [],
    violAt := [], nbrSerial := 0 }

/-- R465, R498: the machine when VAO has powered up and RESET_N is still low: SENTINEL, every switched domain off, every register at its
Reset value, memory with nothing listed, no image applied. The values the spec gives none for are those of log entries 3 to 8. -/
def State.reset : State :=
  { pending := [], free := 0, order := 0,
    clock := { tick := 0, dev := 0, run := false, ao := 0, nextWritten := false, hostLatch := 0 },
    regs := [], mem := [], poison := [], errs := [], ctxs := [], units := [], heaps := [], fired := [], reqs := [], posted := [], tbs := [],
    pps := { lastEdge := none, goodRun := 0, prevErr := none, freq := 0, holdFrom := 0, goodAt := none, outHigh := false, outFall := 0 },
    queues := [], xings := [], grps := [], chans := [], comps := [], encs := [], trks := [], evts := [], evPins := [], gens := [],
    banks := [], dma := [], dmaTurn := 63,
    host := { cmds := [], res := [], waiting := [], masks := 2 ^ 64 - 1, pend := 0, badRun := [], stalled := [], unread := [], aer := false, orphans := [] },
    links := [],
    qdl := { seen := [], mseq := 0, walk := [], asked := none, tries := 0, found := [], nextId := 0, srcHops := 0,
             master := 0, samplePend := false, imageReturn := none, unread := [], results := [], eject := [], timeCfg := 0,
             sampleDue := false, idMode := 0 },
    pwr := { trans := none, asleepAt := 0, asker := none, fromMode := 0, targetE := 160, targetW := 160, askedE := 160, askedW := 160, hot := [], unbiased := [],
             thermLock := false, bankBad := [], startCold := false },
    pins := { resetN := false, mainPg := false, mainEn := false, thermN := true, safeN := 15, fltLow := 255, bootSel := 0, refclk := false },
    jsp := { codes := [], y := [], seq := 0, hold := [], cond := [], unread := [] },
    start := { kind := 0, step := 0, began := 0, stage := [], loading := [], buf := [], domains := [], tried := 0, skipTry := false,
               failed := false, retryWarm := false, digestDue := false, restored := false, due := 0, key := 0, keySet := false, authReq := false },
    contain := { held := [], windows := [], entered := false },
    raised := [], saved := none, scrub := [], program := [], sent := [] }

end Sys2Proof.Machine
end

