-- ==== Sys2Proof/Machine/Fields.lean ====
section
/-! DEFINITION. The control registers: where each lies (Table MM-9 and the chapters' tables), its fields with their access codes
and reset values (R8 to R13), and the names of the fields. One line per register of the spec's register tables. -/

set_option Elab.async false

namespace Sys2Proof.Machine

/-- Table SC-4. -/
inductive Access where
  | rw | ro | wo | w1c | rs | rws
deriving DecidableEq, Repr

/-- One field of a register: low bit, width, access code, reset value, and whether the Reset column reads "image". -/
structure Fld where
  lo  : Nat
  w   : Nat
  acc : Access
  rst : Nat
  img : Bool
deriving DecidableEq, Repr

/-- A kind of register block: a window's own registers, or one of the blocks a window repeats. -/
inductive Blk where
  | pwr | jsp | tbu | tb | mfr | grp | chan | comp | enc | rt | gt | evo | bank | gen | pin | dma | cq | ch | hst | ring | qdl | link
  | route | sch | sctx | qpl | desc | clu
deriving DecidableEq, Repr

/-- Table MM-9 and the block offsets of the chapters, in words of 8 bytes: the number of the register at word `o` of instance `i`. -/
def keyOf (b : Blk) (i o : Nat) : Nat :=
  match b with
  | .pwr => o
  | .jsp => 0x2000 + o
  | .tbu => 0x4000 + o
  | .tb => 0x4200 + 0x10 * i + o
  | .mfr => 0x6000 + o
  | .grp => 0x6200 + 8 * i + o
  | .chan => 0x6400 + 8 * i + o
  | .comp => 0x6800 + 4 * i + o
  | .enc => 0x6A00 + 8 * i + o
  | .rt => 0x6C00 + 8 * i + o
  | .gt => 0x6C80 + 8 * i + o
  | .evo => 0x8000 + o
  | .bank => 0x8080 + 0x20 * i + o
  | .gen => 0x8200 + 8 * i + o
  | .pin => 0x8400 + 8 * i + o
  | .dma => 0xA000 + o
  | .cq => 0xA020 + 4 * i + o
  | .ch => 0xA200 + 8 * i + o
  | .hst => 0xC000 + o
  | .ring => 0xC080 + 8 * i + o
  | .qdl => 0xE000 + o
  | .link => 0xE080 + 0x20 * i + o
  | .route => 0xE200 + i + o
  | .sch => 0x10000 + 0x2000 * i + o
  | .sctx => 0x10000 + 0x2000 * (i / 512) + 0x200 + 10 * (i % 512) + o
  | .qpl => 0x20000 + 0x10000 * i + o
  | .desc => 0x20000 + 0x10000 * (i / 4096) + 0x8000 + 8 * (i % 4096) + o
  | .clu => 0x40000 + 0x200 * i + o

/-- A range of instances: `n` blocks of `sz` words from `base`. -/
def inRange (k base sz n : Nat) : Bool := decide (base ≤ k ∧ k < base + sz * n)

/-- The block, instance and word that a register number lies in (the inverse of `keyOf`); none outside Table MM-9's windows but UNT. -/
def locate (k : Nat) : Option (Blk × Nat × Nat) :=
  if k < 0x2000 then some (.pwr, 0, k)
  else if k < 0x4000 then some (.jsp, 0, k - 0x2000)
  else if k < 0x6000 then
    if inRange k 0x4200 0x10 64 then some (.tb, (k - 0x4200) / 0x10, (k - 0x4200) % 0x10) else some (.tbu, 0, k - 0x4000)
  else if k < 0x8000 then
    if inRange k 0x6200 8 12 then some (.grp, (k - 0x6200) / 8, (k - 0x6200) % 8)
    else if inRange k 0x6400 8 96 then some (.chan, (k - 0x6400) / 8, (k - 0x6400) % 8)
    else if inRange k 0x6800 4 48 then some (.comp, (k - 0x6800) / 4, (k - 0x6800) % 4)
    else if inRange k 0x6A00 8 16 then some (.enc, (k - 0x6A00) / 8, (k - 0x6A00) % 8)
    else if inRange k 0x6C00 8 8 then some (.rt, (k - 0x6C00) / 8, (k - 0x6C00) % 8)
    else if inRange k 0x6C80 8 8 then some (.gt, (k - 0x6C80) / 8, (k - 0x6C80) % 8)
    else some (.mfr, 0, k - 0x6000)
  else if k < 0xA000 then
    if inRange k 0x8080 0x20 4 then some (.bank, (k - 0x8080) / 0x20, (k - 0x8080) % 0x20)
    else if inRange k 0x8200 8 64 then some (.gen, (k - 0x8200) / 8, (k - 0x8200) % 8)
    else if inRange k 0x8400 8 128 then some (.pin, (k - 0x8400) / 8, (k - 0x8400) % 8)
    else some (.evo, 0, k - 0x8000)
  else if k < 0xC000 then
    if inRange k 0xA020 4 8 then some (.cq, (k - 0xA020) / 4, (k - 0xA020) % 4)
    else if inRange k 0xA200 8 64 then some (.ch, (k - 0xA200) / 8, (k - 0xA200) % 8)
    else some (.dma, 0, k - 0xA000)
  else if k < 0xE000 then
    if inRange k 0xC080 8 8 then some (.ring, (k - 0xC080) / 8, (k - 0xC080) % 8) else some (.hst, 0, k - 0xC000)
  else if k < 0x10000 then
    if inRange k 0xE080 0x20 6 then some (.link, (k - 0xE080) / 0x20, (k - 0xE080) % 0x20)
    else if inRange k 0xE200 1 512 then some (.route, k - 0xE200, 0)
    else some (.qdl, 0, k - 0xE000)
  else if k < 0x20000 then
    let r := (k - 0x10000) / 0x2000
    let o := (k - 0x10000) % 0x2000
    if inRange o 0x200 10 512 then some (.sctx, 512 * r + (o - 0x200) / 10, (o - 0x200) % 10) else some (.sch, r, o)
  else if k < 0x40000 then
    let d := (k - 0x20000) / 0x10000
    let o := (k - 0x20000) % 0x10000
    if 0x8000 ≤ o then some (.desc, 4096 * d + (o - 0x8000) / 8, (o - 0x8000) % 8) else some (.qpl, d, o)
  else if k < 0x44000 then some (.clu, (k - 0x40000) / 0x200, (k - 0x40000) % 0x200)
  else none

/-- Table SC-2, CX-13, PW-11, ST-10: the fields of the register at word `o` of the block. -/
def pwrFields (o : Nat) : List Fld :=
  if 32 ≤ o ∧ o < 43 then [⟨14, 1, .ro, 0, false⟩, ⟨13, 1, .ro, 0, false⟩, ⟨12, 1, .ro, 0, false⟩, ⟨0, 12, .ro, 0, false⟩] else -- TS
  if 72 ≤ o ∧ o < 80 then [⟨0, 32, .wo, 0, false⟩] else -- OTP_KEY
  match o with
  | 0 => [⟨27, 9, .ro, 1, false⟩, ⟨15, 12, .ro, 256, false⟩, ⟨12, 3, .ro, 1, false⟩, ⟨9, 3, .ro, 0, false⟩] -- FAMILY
  | 480 => [⟨8, 6, .ro, 0, false⟩, ⟨0, 6, .rw, 0, false⟩] -- FRQ_PTR
  | 481 => [⟨20, 16, .ro, 0, false⟩, ⟨19, 1, .w1c, 0, false⟩, ⟨0, 10, .rs, 0, false⟩] -- FRQ_STAT
  | 1 => [⟨5, 3, .ro, 0, false⟩, ⟨4, 1, .ro, 0, false⟩, ⟨3, 1, .ro, 0, false⟩, ⟨0, 3, .ro, 3, false⟩] -- MODE
  | 2 => [⟨3, 1, .wo, 0, false⟩, ⟨0, 3, .wo, 0, false⟩] -- MODE_REQ
  | 3 => [⟨0, 36, .ro, 0, false⟩] -- MODE_STAT
  | 4 => [⟨1, 1, .rw, 0, false⟩, ⟨0, 1, .rw, 0, false⟩] -- WAKE_EN
  | 5 => [⟨0, 32, .rw, 0, false⟩] -- WAKE_TIMER
  | 6 => [⟨28, 8, .ro, 0, false⟩, ⟨22, 6, .ro, 0, false⟩, ⟨19, 3, .ro, 0, false⟩, ⟨17, 2, .ro, 0, false⟩, ⟨16, 1, .rs, 0, false⟩, ⟨0, 16, .ro, 0, false⟩] -- WAKE_REC0
  | 7 => [⟨0, 36, .ro, 0, false⟩] -- WAKE_REC1
  | 8 => [⟨0, 36, .ro, 0, false⟩] -- WAKE_REC2
  | 9 => [⟨0, 36, .ro, 0, false⟩] -- DOM_ON_LO
  | 10 => [⟨0, 14, .ro, 0, false⟩] -- DOM_ON_HI
  | 11 => [⟨7, 1, .wo, 0, false⟩, ⟨6, 1, .wo, 0, false⟩, ⟨0, 6, .wo, 0, false⟩] -- DOM_CTL
  | 12 => [⟨0, 36, .ro, 0, false⟩] -- DOM_STAT
  | 13 => [⟨4, 1, .ro, 0, false⟩, ⟨2, 2, .rw, 0, false⟩, ⟨0, 2, .rw, 0, false⟩] -- START_FAILS
  | 14 => [⟨0, 8, .rw, (if Config.gradeE then 120 else 100), false⟩] -- THERM_CTL
  | 15 => [⟨16, 8, .rw, 0, true⟩, ⟨8, 8, .rw, 0, true⟩, ⟨0, 8, .rw, 0, true⟩] -- VCORE_CTL
  | 16 => [⟨20, 2, .ro, 0, false⟩, ⟨19, 1, .ro, 0, false⟩, ⟨18, 1, .ro, 0, false⟩, ⟨17, 1, .ro, 0, false⟩, ⟨16, 1, .ro, 0, false⟩, ⟨8, 8, .ro, 0, false⟩, ⟨0, 8, .ro, 0, false⟩] -- VCORE_STAT
  | 17 => [⟨0, 36, .ro, 0, false⟩] -- AO_TIME
  | 18 => [⟨1, 1, .ro, 0, false⟩, ⟨0, 1, .ro, 0, false⟩] -- RET_STAT
  | 64 => [⟨2, 1, .rw, 0, false⟩, ⟨1, 1, .wo, 0, false⟩, ⟨0, 1, .wo, 0, false⟩] -- START_CTL
  | 65 => [⟨33, 3, .ro, 0, false⟩, ⟨29, 4, .ro, 0, false⟩, ⟨28, 1, .ro, 0, false⟩, ⟨27, 1, .ro, 0, false⟩, ⟨26, 1, .ro, 0, false⟩, ⟨25, 1, .ro, 0, false⟩, ⟨21, 4, .ro, 0, false⟩, ⟨17, 4, .ro, 0, false⟩, ⟨0, 17, .ro, 0, false⟩] -- START_STAT
  | 66 => [⟨0, 36, .ro, 0, false⟩] -- IMAGE_ID
  | 67 => [⟨0, 20, .ro, 0, false⟩] -- START_TIME
  | 68 => [⟨1, 1, .ro, 0, false⟩, ⟨0, 1, .ro, 0, false⟩] -- SEC
  | 69 => [⟨1, 1, .wo, 0, false⟩, ⟨0, 1, .wo, 0, false⟩] -- OTP_CTL
  | 482 => [⟨27, 9, .rs, 0, false⟩, ⟨18, 9, .rs, 0, false⟩, ⟨9, 9, .rs, 0, false⟩, ⟨0, 9, .rs, 0, false⟩] -- KEEP_ECC
  | 483 => [⟨33, 3, .ro, 0, false⟩, ⟨0, 16, .ro, 0, false⟩] -- KEEP_ERR_ADDR
  | 484 => [⟨0, 10, .rw, 10, false⟩] -- KEEP_SCRUB
  | _ => []

/-- Table TB-4: the fields of the register at word `o` of the block. -/
def tbuFields (o : Nat) : List Fld :=
  match o with
  | 0 => [⟨0, 36, .ro, 0, false⟩] -- TIME_F
  | 1 => [⟨0, 36, .ro, 0, false⟩] -- TIME_S
  | 2 => [⟨0, 36, .rw, 0, false⟩] -- TIME_S_NEXT
  | 3 => [⟨24, 4, .rw, 8, false⟩, ⟨20, 4, .rw, 4, false⟩, ⟨4, 16, .rw, 1000, false⟩, ⟨3, 1, .wo, 0, false⟩, ⟨2, 1, .rw, 0, false⟩, ⟨0, 2, .rw, 0, true⟩] -- TIME_CTL
  | 4 => [⟨0, 36, .rw, 36893488147, false⟩] -- TIME_INC
  | 5 => [⟨0, 36, .rw, 0, false⟩] -- TIME_SLEW
  | 6 => [⟨14, 22, .ro, 0, false⟩, ⟨5, 9, .rs, 0, false⟩, ⟨4, 1, .ro, 0, false⟩, ⟨3, 1, .ro, 0, false⟩, ⟨0, 3, .ro, 0, false⟩] -- TIME_STAT
  | 7 => [⟨16, 10, .rw, 100, false⟩, ⟨6, 10, .rw, 100, false⟩, ⟨2, 4, .rw, 3, false⟩, ⟨1, 1, .rw, 0, false⟩, ⟨0, 1, .rw, 0, false⟩] -- PPS_CTL
  | 8 => [⟨0, 36, .ro, 0, false⟩] -- PPS_CAP_F
  | 9 => [⟨0, 36, .ro, 0, false⟩] -- PPS_CAP_S
  | 10 => [⟨0, 36, .ro, 0, false⟩] -- PPS_ERR
  | 11 => [⟨27, 9, .rs, 0, false⟩, ⟨18, 9, .rs, 0, false⟩, ⟨9, 9, .rs, 0, false⟩] -- PPS_STAT
  | 12 => [⟨0, 32, .rw, 0, true⟩] -- PUB_LO
  | 13 => [⟨0, 32, .rw, 0, true⟩] -- PUB_HI
  | 14 => [⟨0, 8, .rw, 10, false⟩] -- PUB_CTL
  | 15 => [⟨0, 36, .rs, 0, false⟩] -- UPD_STAT
  | _ => []

/-- Table TB-5: the fields of the register at word `o` of the block. -/
def tbFields (o : Nat) : List Fld :=
  match o with
  | 0 => [⟨26, 6, .rw, 0, true⟩, ⟨10, 16, .rw, 0, true⟩, ⟨4, 6, .rw, 0, true⟩, ⟨0, 4, .rw, 0, true⟩] -- SRC
  | 1 => [⟨27, 2, .rw, 0, true⟩, ⟨19, 8, .rw, 0, true⟩, ⟨18, 1, .rw, 0, true⟩, ⟨12, 6, .rw, 0, true⟩, ⟨10, 2, .rw, 0, true⟩, ⟨6, 4, .rw, 0, true⟩, ⟨2, 4, .rw, 0, true⟩, ⟨1, 1, .rw, 0, true⟩, ⟨0, 1, .rw, 0, true⟩] -- CTL
  | 2 => [⟨16, 16, .rw, 0, true⟩, ⟨0, 16, .rw, 0, true⟩] -- TIMING
  | 3 => [⟨0, 36, .rw, 0, true⟩] -- SCALE
  | 4 => [⟨0, 36, .rw, 0, true⟩] -- OFFSET
  | 5 => [⟨0, 36, .rw, 0, false⟩] -- POS
  | 6 => [⟨0, 36, .ro, 0, false⟩] -- VEL
  | 7 => [⟨0, 36, .rw, 0, false⟩] -- UPD_T
  | 8 => [⟨23, 4, .ro, 0, false⟩, ⟨14, 9, .rs, 0, false⟩, ⟨5, 9, .rs, 0, false⟩, ⟨4, 1, .w1c, 0, false⟩, ⟨3, 1, .w1c, 0, false⟩, ⟨0, 3, .ro, 0, false⟩] -- STAT
  | _ => []

/-- Table SH-4: the fields of the register at word `o` of the block. -/
def schFields (o : Nat) : List Fld :=
  match o with
  | 0 => [⟨0, 12, .rw, 16, false⟩] -- CTL
  | 1 => [⟨16, 10, .ro, 0, false⟩, ⟨6, 10, .ro, 0, false⟩] -- STAT
  | 2 => [⟨0, 36, .rs, 0, false⟩] -- FIRES
  | 3 => [⟨0, 36, .rs, 0, false⟩] -- LATE
  | 4 => [⟨0, 36, .rs, 0, false⟩] -- OVERRUNS
  | 5 => [⟨0, 36, .rs, 0, false⟩] -- DL_MISS
  | 6 => [⟨0, 10, .rs, 0, false⟩] -- REPRED
  | 480 => [⟨18, 1, .ro, 0, false⟩, ⟨10, 8, .ro, 0, false⟩, ⟨9, 1, .ro, 0, false⟩, ⟨8, 1, .ro, 0, false⟩, ⟨2, 1, .wo, 0, false⟩, ⟨0, 2, .wo, 0, false⟩] -- CONTAIN
  | _ => []

/-- Table SH-5: the fields of the register at word `o` of the block. -/
def sctxFields (o : Nat) : List Fld :=
  match o with
  | 0 => [⟨13, 1, .rw, 0, true⟩, ⟨9, 4, .rw, 0, true⟩, ⟨7, 2, .rw, 0, true⟩, ⟨6, 1, .rw, 0, true⟩, ⟨4, 2, .rw, 0, true⟩, ⟨2, 2, .rw, 0, true⟩] -- CFG
  | 1 => [⟨6, 6, .ro, 0, false⟩, ⟨0, 2, .ro, 0, false⟩] -- ANG
  | 2 => [⟨0, 36, .ro, 0, false⟩] -- PRED_F
  | 3 => [⟨0, 36, .ro, 0, false⟩] -- DL_S
  | 4 => [⟨0, 36, .ro, 0, false⟩] -- DL_F
  | 5 => [⟨0, 36, .ro, 0, false⟩] -- ACT_S
  | 6 => [⟨0, 36, .ro, 0, false⟩] -- ACT_F
  | 7 => [⟨30, 2, .ro, 0, false⟩, ⟨29, 1, .ro, 0, false⟩, ⟨28, 1, .ro, 0, false⟩, ⟨27, 1, .ro, 0, false⟩, ⟨26, 1, .ro, 0, false⟩, ⟨12, 12, .ro, 0, false⟩, ⟨0, 12, .ro, 0, false⟩] -- ACT_INFO
  | 8 => [⟨2, 1, .wo, 0, false⟩, ⟨1, 1, .wo, 0, false⟩, ⟨0, 1, .wo, 0, false⟩] -- CMD
  | _ => []

/-- Table MF-5: the fields of the register at word `o` of the block. -/
def mfrFields (o : Nat) : List Fld :=
  match o with
  | 0 => [⟨0, 1, .rw, 0, true⟩] -- EVT_CTL
  | 1 => [⟨9, 9, .rs, 0, false⟩, ⟨0, 9, .rs, 0, false⟩] -- EVT_STAT
  | 2 => [⟨0, 12, .wo, 0, false⟩] -- SW_STROBE
  | _ => []

/-- Table MF-6: the fields of the register at word `o` of the block. -/
def grpFields (o : Nat) : List Fld :=
  if 3 ≤ o ∧ o < 7 then [⟨24, 12, .ro, 0, true⟩, ⟨16, 8, .rw, 0, true⟩, ⟨8, 8, .rw, 0, true⟩, ⟨3, 1, .rw, 0, true⟩, ⟨2, 1, .rw, 0, true⟩, ⟨0, 2, .rw, 0, true⟩] else -- STREAMi
  match o with
  | 0 => [⟨18, 11, .rw, 0, true⟩, ⟨10, 8, .rw, 0, true⟩, ⟨2, 8, .rw, 0, true⟩, ⟨1, 1, .rw, 0, true⟩, ⟨0, 1, .rw, 0, true⟩] -- CTL
  | 1 => [⟨6, 24, .rw, 0, true⟩, ⟨5, 1, .rw, 0, true⟩] -- STRB_CTL
  | 2 => [⟨30, 6, .rw, 0, true⟩, ⟨0, 24, .rw, 0, true⟩] -- STRB_PH
  | 7 => [⟨27, 9, .rs, 0, false⟩, ⟨18, 9, .rs, 0, false⟩, ⟨9, 9, .rs, 0, false⟩, ⟨1, 8, .w1c, 0, false⟩, ⟨0, 1, .ro, 0, false⟩] -- STAT
  | _ => []

/-- Table MF-7: the fields of the register at word `o` of the block. -/
def chanFields (o : Nat) : List Fld :=
  match o with
  | 0 => [⟨25, 7, .rw, 0, true⟩, ⟨21, 4, .rw, 0, true⟩, ⟨15, 6, .rw, 0, true⟩, ⟨13, 2, .rw, 0, true⟩, ⟨9, 4, .rw, 0, true⟩, ⟨3, 6, .rw, 0, true⟩, ⟨0, 3, .rw, 0, true⟩] -- CFG
  | 1 => [⟨0, 36, .rw, 0, true⟩] -- OFFSET
  | 2 => [⟨0, 18, .rw, 0, true⟩] -- GAIN
  | 3 => [⟨18, 18, .rw, 0, true⟩, ⟨0, 18, .rw, 0, true⟩] -- WIN
  | 4 => [⟨0, 36, .ro, 0, false⟩] -- LAST
  | 5 => [⟨0, 18, .ro, 0, false⟩] -- FAST
  | 6 => [⟨27, 9, .rs, 0, false⟩, ⟨2, 1, .w1c, 0, false⟩, ⟨1, 1, .w1c, 0, false⟩, ⟨0, 1, .ro, 0, false⟩] -- STAT
  | _ => []

/-- Table MF-8: the fields of the register at word `o` of the block. -/
def compFields (o : Nat) : List Fld :=
  match o with
  | 0 => [⟨23, 1, .rw, 0, true⟩, ⟨22, 1, .rw, 0, true⟩, ⟨20, 2, .rw, 0, true⟩, ⟨10, 10, .rw, 0, true⟩, ⟨0, 10, .rw, 0, true⟩] -- CTL
  | 1 => [⟨27, 9, .rs, 0, false⟩, ⟨2, 1, .w1c, 0, false⟩, ⟨1, 1, .w1c, 0, false⟩, ⟨0, 1, .ro, 0, false⟩] -- STAT
  | _ => []

/-- Table MF-9: the fields of the register at word `o` of the block. -/
def encFields (o : Nat) : List Fld :=
  match o with
  | 0 => [⟨9, 1, .rw, 0, true⟩, ⟨8, 1, .rw, 0, true⟩, ⟨3, 5, .rw, 0, true⟩, ⟨0, 2, .rw, 0, true⟩] -- CTL
  | 1 => [⟨0, 36, .rw, 0, false⟩] -- COUNT
  | 2 => [⟨0, 36, .ro, 0, false⟩] -- EDGE_T
  | 3 => [⟨0, 36, .ro, 0, false⟩] -- IDX_CNT
  | 4 => [⟨0, 36, .ro, 0, false⟩] -- IDX_T
  | 5 => [⟨19, 1, .w1c, 0, false⟩, ⟨18, 1, .ro, 0, false⟩, ⟨9, 9, .rs, 0, false⟩, ⟨0, 9, .rs, 0, false⟩] -- STAT
  | _ => []

/-- Table MF-10, a resolver tracker: NTH and CH_C are reserved. -/
def rtFields (o : Nat) : List Fld :=
  match o with
  | 0 => [⟨14, 6, .rw, 0, true⟩, ⟨8, 3, .rw, 0, true⟩, ⟨5, 3, .rw, 0, true⟩, ⟨1, 4, .rw, 0, true⟩, ⟨0, 1, .rw, 0, true⟩] -- CTL
  | 1 => [⟨0, 24, .rw, 0, true⟩] -- EXC_PH
  | 2 => [⟨18, 18, .rw, 0, true⟩, ⟨0, 18, .rw, 0, true⟩] -- AMP_WIN
  | 3 => [⟨0, 36, .ro, 0, false⟩] -- ANGLE
  | 4 => [⟨0, 18, .ro, 0, false⟩] -- AMP
  | 5 => [⟨9, 1, .ro, 0, false⟩, ⟨0, 9, .rs, 0, false⟩] -- STAT
  | _ => []

/-- Table MF-10, a grid tracker: EXC_CG and PH are reserved. -/
def gtFields (o : Nat) : List Fld :=
  match o with
  | 0 => [⟨20, 8, .rw, 0, true⟩, ⟨11, 3, .rw, 0, true⟩, ⟨8, 3, .rw, 0, true⟩, ⟨5, 3, .rw, 0, true⟩, ⟨1, 4, .rw, 0, true⟩, ⟨0, 1, .rw, 0, true⟩] -- CTL
  | 1 => [] -- EXC_PH
  | 2 => [⟨18, 18, .rw, 0, true⟩, ⟨0, 18, .rw, 0, true⟩] -- AMP_WIN
  | 3 => [⟨0, 36, .ro, 0, false⟩] -- ANGLE
  | 4 => [⟨0, 18, .ro, 0, false⟩] -- AMP
  | 5 => [⟨9, 1, .ro, 0, false⟩, ⟨0, 9, .rs, 0, false⟩] -- STAT
  | _ => []

/-- Table EV-9: the fields of the register at word `o` of the block. -/
def evoFields (o : Nat) : List Fld :=
  match o with
  | 0 => [⟨9, 9, .rs, 0, false⟩, ⟨0, 9, .rs, 0, false⟩] -- CMD_STAT
  | 1 => [⟨9, 9, .rs, 0, false⟩, ⟨0, 9, .rs, 0, false⟩] -- EVT_STAT
  | _ => []

/-- Table EV-10: the fields of the register at word `o` of the block. -/
def bankFields (o : Nat) : List Fld :=
  match o with
  | 0 => [⟨2, 1, .rw, 0, true⟩, ⟨0, 2, .rw, 0, true⟩] -- BANK_CTL
  | 1 => [⟨0, 32, .rw, 0, true⟩] -- COVER
  | 2 => [⟨0, 36, .rw, 0, true⟩] -- SRC0
  | 3 => [⟨12, 8, .rw, 0, true⟩, ⟨0, 12, .rw, 0, true⟩] -- SRC1
  | 4 => [⟨0, 36, .rw, 0, true⟩] -- SRC2
  | 5 => [⟨0, 36, .rw, 0, true⟩] -- SRC3
  | 6 => [⟨0, 24, .rw, 0, true⟩] -- SRC4
  | 7 => [⟨4, 1, .w1c, 0, false⟩, ⟨3, 1, .w1c, 0, false⟩, ⟨2, 1, .ro, 1, false⟩, ⟨1, 1, .wo, 0, false⟩, ⟨0, 1, .wo, 0, false⟩] -- TRIP
  | 8 => [⟨27, 9, .rs, 0, false⟩, ⟨7, 4, .ro, 5, false⟩, ⟨0, 7, .ro, 0, false⟩] -- TRIP_REC
  | 9 => [⟨0, 36, .ro, 0, false⟩] -- TRIP_T
  | _ => []

/-- Table EV-11: the fields of the register at word `o` of the block. -/
def genFields (o : Nat) : List Fld :=
  match o with
  | 0 => [⟨6, 6, .rw, 0, true⟩, ⟨5, 1, .rw, 0, true⟩, ⟨4, 1, .rw, 0, true⟩, ⟨2, 2, .rw, 0, true⟩, ⟨1, 1, .rw, 0, true⟩, ⟨0, 1, .rw, 0, true⟩] -- CG_CTL
  | 1 => [⟨0, 32, .rw, 0, true⟩] -- PER_SH
  | 2 => [⟨0, 36, .ro, 0, true⟩] -- PER_ACT
  | 3 => [⟨0, 36, .rw, 0, true⟩] -- PHASE
  | 4 => [⟨1, 1, .ro, 0, false⟩, ⟨0, 1, .wo, 0, false⟩] -- COMMIT
  | 5 => [⟨24, 12, .ro, 0, false⟩, ⟨0, 24, .ro, 0, false⟩] -- POS
  | 6 => [⟨18, 18, .rs, 0, false⟩, ⟨0, 18, .rs, 0, false⟩] -- CG_STAT
  | _ => []

/-- Table EV-12: the fields of the register at word `o` of the block. -/
def pinFields (o : Nat) : List Fld :=
  match o with
  | 0 => [⟨28, 1, .rw, 0, true⟩, ⟨12, 16, .rw, 0, true⟩, ⟨11, 1, .rw, 0, true⟩, ⟨10, 1, .rw, 0, true⟩, ⟨6, 4, .rw, 0, true⟩, ⟨5, 1, .rw, 0, true⟩, ⟨3, 2, .rw, 0, true⟩, ⟨0, 3, .rw, 0, true⟩] -- PIN_CTL
  | 1 => [⟨0, 25, .rw, 0, true⟩] -- CMP_SH
  | 2 => [⟨0, 36, .ro, 0, true⟩] -- CMP_ACT
  | 3 => [⟨27, 9, .rs, 0, false⟩, ⟨18, 9, .rs, 0, false⟩, ⟨9, 9, .rs, 0, false⟩, ⟨0, 4, .ro, 0, false⟩] -- PIN_STAT
  | 4 => [⟨1, 1, .ro, 1, false⟩, ⟨0, 1, .ro, 0, false⟩] -- OUT
  | _ => []

/-- Table MM-11: the fields of the register at word `o` of the block. -/
def cluFields (o : Nat) : List Fld :=
  match o with
  | 0 => [⟨27, 9, .rs, 0, false⟩, ⟨18, 9, .rs, 0, false⟩, ⟨9, 9, .rs, 0, false⟩, ⟨0, 9, .rs, 0, false⟩] -- DMEM_ECC
  | 1 => [⟨27, 9, .rs, 0, false⟩, ⟨18, 9, .rs, 0, false⟩, ⟨9, 9, .rs, 0, false⟩, ⟨0, 9, .rs, 0, false⟩] -- IMEM_ECC
  | 2 => [⟨33, 3, .ro, 0, false⟩, ⟨0, 16, .ro, 0, false⟩] -- DMEM_ERR_ADDR
  | 3 => [⟨0, 36, .ro, 0, false⟩] -- IMEM_ERR_ADDR
  | 4 => [⟨24, 3, .rw, 4, false⟩, ⟨22, 2, .rw, 2, false⟩, ⟨12, 10, .rw, 60, false⟩, ⟨2, 10, .rw, 100, false⟩] -- SCRUB_CTL
  | 5 => [⟨18, 18, .rs, 0, false⟩, ⟨0, 18, .rs, 0, false⟩] -- SCRUB_STAT
  | 6 => [⟨21, 1, .wo, 0, false⟩, ⟨4, 16, .wo, 0, false⟩, ⟨0, 4, .wo, 0, false⟩] -- TAG_WR
  | 7 => [⟨0, 36, .ro, 0, false⟩] -- IMEM_WR
  | 8 => [⟨9, 9, .rs, 0, false⟩, ⟨0, 9, .rs, 0, false⟩] -- WR_STAT
  | 480 => [⟨18, 1, .ro, 0, false⟩, ⟨10, 8, .ro, 0, false⟩, ⟨9, 1, .ro, 0, false⟩, ⟨8, 1, .ro, 0, false⟩, ⟨2, 1, .wo, 0, false⟩, ⟨0, 2, .wo, 0, false⟩] -- CONTAIN
  | _ => []

/-- Table QU-10: the fields of the register at word `o` of the block. -/
def qplFields (o : Nat) : List Fld :=
  if 32 ≤ o ∧ o < 42 then [⟨27, 9, .rs, 0, false⟩, ⟨18, 9, .rs, 0, false⟩, ⟨9, 9, .rs, 0, false⟩, ⟨1, 1, .ro, 0, false⟩, ⟨0, 1, .ro, 0, false⟩] else -- XING_STAT
  match o with
  | 0 => [⟨18, 18, .ro, 131072, false⟩, ⟨0, 18, .ro, 0, true⟩] -- POOL_STAT
  | 1 => [⟨27, 9, .rs, 0, false⟩, ⟨18, 9, .rs, 0, false⟩, ⟨9, 9, .rs, 0, false⟩, ⟨0, 9, .rs, 0, false⟩] -- POOL_ECC
  | 2 => [⟨27, 9, .rs, 0, false⟩, ⟨18, 9, .rs, 0, false⟩, ⟨9, 9, .rs, 0, false⟩] -- POOL_STAT2
  | 3 => [⟨6, 2, .ro, 0, true⟩, ⟨4, 2, .ro, 0, true⟩, ⟨2, 2, .ro, 0, true⟩, ⟨0, 2, .ro, 0, true⟩] -- XING_CTL
  | 480 => [⟨18, 1, .ro, 0, false⟩, ⟨10, 8, .ro, 0, false⟩, ⟨9, 1, .ro, 0, false⟩, ⟨8, 1, .ro, 0, false⟩, ⟨2, 1, .wo, 0, false⟩, ⟨0, 2, .wo, 0, false⟩] -- CONTAIN
  | _ => []

/-- Table QU-11: the fields of the register at word `o` of the block. -/
def descFields (o : Nat) : List Fld :=
  match o with
  | 0 => [⟨9, 1, .rw, 0, true⟩, ⟨8, 1, .rw, 0, true⟩, ⟨7, 1, .rw, 0, true⟩, ⟨6, 1, .ro, 0, true⟩] -- CFG
  | 1 => [⟨17, 4, .ro, 0, true⟩, ⟨0, 17, .ro, 0, true⟩] -- PROD
  | 2 => [⟨17, 4, .ro, 0, true⟩, ⟨0, 17, .ro, 0, true⟩] -- CONS
  | 3 => [⟨17, 17, .ro, 0, true⟩, ⟨0, 17, .ro, 0, true⟩] -- CAP
  | 4 => [⟨19, 17, .ro, 0, false⟩, ⟨0, 19, .ro, 0, false⟩] -- LEVEL
  | 5 => [⟨0, 36, .rw, 0, true⟩] -- IDLE
  | 6 => [⟨27, 9, .rs, 0, false⟩, ⟨18, 9, .rs, 0, false⟩, ⟨9, 9, .rs, 0, false⟩, ⟨0, 9, .rs, 0, false⟩] -- CNT
  | 7 => [⟨7, 1, .wo, 0, false⟩, ⟨6, 1, .wo, 0, false⟩, ⟨4, 1, .ro, 0, false⟩, ⟨3, 1, .ro, 0, false⟩, ⟨2, 1, .ro, 0, false⟩, ⟨1, 1, .w1c, 0, false⟩, ⟨0, 1, .w1c, 0, false⟩] -- CMD_STAT
  | _ => []

/-- Table DM-9: the fields of the register at word `o` of the block. -/
def dmaFields (o : Nat) : List Fld :=
  match o with
  | 0 => [⟨26, 10, .ro, 0, false⟩, ⟨19, 7, .ro, 0, false⟩] -- DMA_STAT
  | 1 => [⟨27, 9, .rs, 0, false⟩, ⟨18, 9, .rs, 0, false⟩, ⟨9, 9, .rs, 0, false⟩, ⟨0, 9, .rs, 0, false⟩] -- DMA_ECC
  | 2 => [⟨33, 3, .ro, 0, false⟩, ⟨0, 32, .ro, 0, false⟩] -- DMA_ERR_ADDR
  | _ => []

/-- Table DM-10: the fields of the register at word `o` of the block. -/
def cqFields (o : Nat) : List Fld :=
  match o with
  | 0 => [⟨0, 32, .rw, 0, true⟩] -- CQ_BASE
  | 1 => [⟨9, 12, .rw, 0, true⟩, ⟨7, 2, .rw, 0, true⟩, ⟨0, 4, .rw, 0, true⟩] -- CQ_CFG
  | 2 => [⟨0, 13, .rw, 0, true⟩] -- CQ_HEAD
  | 3 => [⟨0, 13, .ro, 0, true⟩] -- CQ_TAIL
  | _ => []

/-- Table DM-11: the fields of the register at word `o` of the block. -/
def chFields (o : Nat) : List Fld :=
  match o with
  | 0 => [⟨6, 8, .rw, 0, true⟩, ⟨4, 2, .rw, 0, true⟩, ⟨1, 1, .wo, 0, false⟩, ⟨0, 1, .rw, 0, true⟩] -- CH_CTL
  | 1 => [⟨0, 32, .rw, 0, true⟩] -- CH_HEAD
  | 2 => [⟨0, 32, .ro, 0, false⟩] -- CH_CUR
  | 3 => [⟨33, 3, .ro, 0, false⟩, ⟨28, 5, .ro, 0, false⟩, ⟨12, 16, .ro, 0, false⟩, ⟨3, 1, .w1c, 0, false⟩, ⟨2, 1, .w1c, 0, false⟩, ⟨1, 1, .w1c, 0, false⟩] -- CH_STAT
  | 4 => [⟨0, 24, .ro, 0, false⟩] -- CH_DONE
  | 5 => [⟨18, 18, .rs, 0, false⟩, ⟨0, 18, .rs, 0, false⟩] -- CH_CNT
  | _ => []

/-- Table HP-11: the fields of the register at word `o` of the block. -/
def hstFields (o : Nat) : List Fld :=
  if 16 ≤ o ∧ o < 80 then [⟨16, 1, .rw, 0, true⟩, ⟨0, 16, .rw, 0, true⟩] else -- FWD_ID
  if 96 ≤ o ∧ o < 128 ∧ (o - 96) % 2 = 0 then [⟨28, 8, .ro, 0, false⟩, ⟨24, 4, .ro, 0, false⟩, ⟨0, 16, .ro, 0, false⟩] else -- VLOG
  if 97 ≤ o ∧ o < 129 ∧ (o - 97) % 2 = 0 then [⟨0, 36, .ro, 0, false⟩] else -- VLOG
  match o with
  | 0 => [⟨8, 4, .ro, 0, false⟩, ⟨4, 4, .ro, 0, false⟩, ⟨3, 1, .ro, 0, false⟩] -- PORT_STAT
  | 1 => [⟨26, 10, .ro, 0, false⟩, ⟨14, 12, .ro, 0, false⟩] -- RES_STAT
  | 2 => [⟨16, 16, .rw, 100, false⟩, ⟨0, 16, .rw, 1000, false⟩] -- TIMEOUTS
  | 3 => [⟨27, 9, .rs, 0, false⟩, ⟨18, 9, .rs, 0, false⟩, ⟨0, 4, .ro, 0, false⟩] -- VLOG_STAT
  | 4 => [⟨0, 32, .wo, 0, false⟩] -- HOST_EVT
  | 5 => [⟨0, 9, .rs, 0, false⟩] -- LATE_RES
  | _ => []

/-- Table HP-12: the fields of the register at word `o` of the block. -/
def ringFields (o : Nat) : List Fld :=
  match o with
  | 0 => [⟨6, 5, .rw, 4, false⟩, ⟨1, 5, .rw, 4, false⟩, ⟨0, 1, .rw, 0, false⟩] -- RING_CTL
  | 1 => [⟨0, 32, .rw, 0, false⟩] -- SQ_BASE_LO
  | 2 => [⟨0, 32, .rw, 0, false⟩] -- SQ_BASE_HI
  | 3 => [⟨0, 32, .rw, 0, false⟩] -- CQ_BASE_LO
  | 4 => [⟨0, 32, .rw, 0, false⟩] -- CQ_BASE_HI
  | 5 => [⟨17, 17, .ro, 0, false⟩, ⟨0, 17, .ro, 0, false⟩] -- SQ_PTR
  | 6 => [⟨17, 17, .ro, 0, false⟩, ⟨0, 17, .ro, 0, false⟩] -- CQ_PTR
  | 7 => [⟨27, 9, .rs, 0, false⟩, ⟨18, 9, .rs, 0, false⟩, ⟨0, 3, .ro, 0, false⟩] -- RING_STAT
  | _ => []

/-- Table QF-12: the fields of the register at word `o` of the block. -/
def qdlFields (o : Nat) : List Fld :=
  if 32 ≤ o ∧ o < 64 then [⟨17, 1, .rw, 0, false⟩, ⟨16, 1, .ro, 0, false⟩, ⟨0, 16, .ro, 0, false⟩] else -- PEER_FENCE
  if 96 ≤ o ∧ o < 128 ∧ (o - 96) % 2 = 0 then [⟨28, 8, .ro, 0, false⟩, ⟨24, 4, .ro, 0, false⟩, ⟨22, 2, .ro, 0, false⟩, ⟨0, 16, .ro, 0, false⟩] else -- VLOG
  if 97 ≤ o ∧ o < 129 ∧ (o - 97) % 2 = 0 then [⟨0, 36, .ro, 0, false⟩] else -- VLOG
  match o with
  | 0 => [⟨16, 1, .ro, 0, false⟩, ⟨0, 16, .ro, 0, false⟩] -- DEV_ID
  | 1 => [⟨3, 1, .rw, 0, true⟩, ⟨0, 2, .rw, 0, true⟩] -- ID_CFG
  | 2 => [⟨0, 36, .ro, (Config.serial.toNat % 2 ^ 36), false⟩] -- SERIAL_LO
  | 3 => [⟨0, 36, .ro, (Config.serial.toNat / 2 ^ 36), false⟩] -- SERIAL_HI
  | 4 => [⟨0, 32, .ro, 0, false⟩] -- TOPO_DIGEST
  | 5 => [⟨11, 9, .rs, 0, false⟩, ⟨2, 9, .rs, 0, false⟩, ⟨1, 1, .ro, 0, false⟩, ⟨0, 1, .ro, 0, false⟩] -- TOPO_STAT
  | 6 => [⟨4, 6, .rw, 0, true⟩, ⟨3, 1, .rw, 0, true⟩, ⟨0, 3, .rw, 0, true⟩] -- TIME_CFG
  | 7 => [⟨2, 4, .rw, 0, true⟩, ⟨0, 2, .rw, 0, true⟩] -- MGMT_CTL
  | 8 => [⟨27, 9, .rs, 0, false⟩, ⟨18, 9, .rs, 0, false⟩, ⟨9, 9, .rs, 0, false⟩, ⟨0, 9, .rs, 0, false⟩] -- MGMT_STAT
  | 9 => [⟨27, 9, .rs, 0, false⟩, ⟨18, 9, .rs, 0, false⟩, ⟨9, 9, .rs, 0, false⟩, ⟨0, 9, .rs, 0, false⟩] -- DROP_STAT
  | 10 => [⟨27, 9, .rs, 0, false⟩, ⟨18, 9, .rs, 0, false⟩, ⟨0, 4, .ro, 0, false⟩] -- VLOG_STAT
  | 11 => [⟨27, 9, .rs, 0, false⟩, ⟨18, 9, .rs, 0, false⟩, ⟨9, 9, .rs, 0, false⟩, ⟨0, 9, .rs, 0, false⟩] -- XECC
  | _ => []

/-- Table QF-13: the fields of the register at word `o` of the block. -/
def linkFields (o : Nat) : List Fld :=
  match o with
  | 0 => [⟨6, 1, .rw, 0, true⟩, ⟨5, 1, .wo, 0, false⟩, ⟨3, 2, .rw, 0, true⟩, ⟨2, 1, .rw, 0, true⟩, ⟨0, 1, .rw, 0, true⟩] -- LINK_CTL
  | 1 => [⟨20, 16, .ro, 0, false⟩, ⟨17, 3, .ro, 0, false⟩, ⟨16, 1, .ro, 0, false⟩, ⟨10, 3, .ro, 0, false⟩, ⟨9, 1, .ro, 0, false⟩, ⟨8, 1, .ro, 0, false⟩, ⟨0, 3, .ro, 0, false⟩] -- LINK_STAT
  | 2 => [⟨0, 20, .ro, 0, false⟩] -- DELAY
  | 3 => [⟨27, 9, .rs, 0, false⟩, ⟨18, 9, .rs, 0, false⟩, ⟨9, 9, .rs, 0, false⟩, ⟨0, 9, .rs, 0, false⟩] -- ERR
  | 4 => [⟨27, 9, .rs, 0, false⟩, ⟨18, 9, .rs, 0, false⟩, ⟨9, 9, .rs, 0, false⟩] -- VIOL
  | 5 => [⟨0, 36, .ro, 0, false⟩] -- CREDIT
  | 6 => [⟨0, 36, .rs, 0, false⟩] -- FLITS_TX
  | 7 => [⟨0, 36, .rs, 0, false⟩] -- FLITS_RX
  | _ => []

/-- Table QF-14: the fields of the register at word `o` of the block. -/
def routeFields (o : Nat) : List Fld :=
  match o with
  | 0 => [⟨7, 1, .rw, 0, true⟩, ⟨4, 3, .rw, 0, true⟩, ⟨3, 1, .rw, 0, true⟩, ⟨0, 3, .rw, 0, true⟩] -- 
  | _ => []

/-- Table PW-12: the fields of the register at word `o` of the block. -/
def jspFields (o : Nat) : List Fld :=
  if 2 ≤ o ∧ o < 10 then [⟨2, 4, .rw, 0, false⟩, ⟨0, 2, .rw, 0, false⟩] else -- AIN_FILT
  if 10 ≤ o ∧ o < 18 then [⟨16, 12, .ro, 0, false⟩, ⟨0, 12, .ro, 0, false⟩] else -- AIN_VAL
  if 18 ≤ o ∧ o < 34 then [⟨16, 8, .rw, 0, false⟩, ⟨0, 16, .rw, 0, false⟩] else -- DIN
  if 34 ≤ o ∧ o < 50 then [⟨16, 1, .ro, 0, false⟩, ⟨0, 16, .ro, 0, false⟩] else -- DIN_CNT
  if 64 ≤ o ∧ o < 192 ∧ (o - 64) % 2 = 0 then [⟨33, 3, .rw, 0, false⟩, ⟨27, 6, .rw, 0, false⟩, ⟨15, 12, .rw, 0, false⟩, ⟨14, 1, .rw, 0, false⟩, ⟨12, 2, .rw, 0, false⟩, ⟨0, 12, .rw, 0, false⟩] else -- OP
  if 65 ≤ o ∧ o < 193 ∧ (o - 65) % 2 = 0 then [⟨24, 6, .rw, 0, false⟩, ⟨18, 5, .rw, 0, false⟩, ⟨16, 1, .rw, 0, false⟩, ⟨15, 1, .rw, 0, false⟩, ⟨11, 4, .rw, 0, false⟩, ⟨7, 4, .rw, 0, false⟩, ⟨3, 4, .rw, 0, false⟩, ⟨2, 1, .rw, 0, false⟩] else -- 
  if 192 ≤ o ∧ o < 224 ∧ (o - 192) % 2 = 0 then [⟨30, 6, .ro, 0, false⟩, ⟨18, 12, .ro, 0, false⟩, ⟨15, 3, .ro, 0, false⟩] else -- RULE
  if 193 ≤ o ∧ o < 225 ∧ (o - 193) % 2 = 0 then [⟨0, 36, .ro, 0, false⟩] else -- AO_T
  match o with
  | 0 => [⟨8, 12, .rw, 8, false⟩, ⟨0, 8, .rw, 0, false⟩] -- ADC_CTL
  | 1 => [⟨0, 16, .rw, 0, false⟩] -- DIN_INV
  | 50 => [⟨4, 4, .ro, 0, false⟩, ⟨0, 4, .rw, 0, false⟩] -- OUT
  | 52 => [⟨0, 36, .ro, 0, false⟩] -- Q_LO
  | 53 => [⟨0, 28, .ro, 0, false⟩] -- Q_HI
  | 54 => [⟨0, 36, .w1c, 0, false⟩] -- LATCH_LO
  | 55 => [⟨0, 28, .w1c, 0, false⟩] -- LATCH_HI
  | 224 => [⟨27, 9, .rs, 0, false⟩, ⟨18, 9, .rs, 0, false⟩, ⟨0, 4, .ro, 0, false⟩] -- LOG_STAT
  | _ => []

/-- The fields of the register at word `o` of a block of kind `b`; none where no register lies. -/
def fieldsAt (b : Blk) (o : Nat) : List Fld :=
  match b with
  | .pwr => pwrFields o
  | .jsp => jspFields o
  | .tbu => tbuFields o
  | .tb => tbFields o
  | .mfr => mfrFields o
  | .grp => grpFields o
  | .chan => chanFields o
  | .comp => compFields o
  | .enc => encFields o
  | .rt => rtFields o
  | .gt => gtFields o
  | .evo => evoFields o
  | .bank => bankFields o
  | .gen => genFields o
  | .pin => pinFields o
  | .dma => dmaFields o
  | .cq => cqFields o
  | .ch => chFields o
  | .hst => hstFields o
  | .ring => ringFields o
  | .qdl => qdlFields o
  | .link => linkFields o
  | .route => routeFields o
  | .sch => schFields o
  | .sctx => sctxFields o
  | .qpl => qplFields o
  | .desc => descFields o
  | .clu => cluFields o

/-- The fields of register `k`; none where no register lies (R342). -/
def fieldsOf (k : Nat) : List Fld :=
  match locate k with
  | some (b, _, o) => fieldsAt b o
  | none => []

/-- The reset value of register `k`: each field at its Reset column, "image" fields 0 (R514), reserved bits 0 (R11). -/
def resetWord (k : Nat) : Word :=
  BitVec.ofNat 36 ((fieldsOf k).foldl (fun acc f => acc + f.rst * 2 ^ f.lo) 0)

/-- A named field: its block kind, word, low bit and width. -/
structure FRef where
  b  : Blk
  o  : Nat
  lo : Nat
  w  : Nat
deriving DecidableEq, Repr

/-- The same field `n` words further: a register that its table repeats. -/
def FRef.nth (f : FRef) (n : Nat) : FRef := { f with o := f.o + n }

namespace F

/-- pwr CHIP_ID_FAMILY. -/
def pwr_CHIP_ID_FAMILY : FRef := ⟨.pwr, 0, 27, 9⟩
/-- pwr CHIP_ID_PART. -/
def pwr_CHIP_ID_PART : FRef := ⟨.pwr, 0, 15, 12⟩
/-- pwr CHIP_ID_STEP_MAJOR. -/
def pwr_CHIP_ID_STEP_MAJOR : FRef := ⟨.pwr, 0, 12, 3⟩
/-- pwr CHIP_ID_STEP_MINOR. -/
def pwr_CHIP_ID_STEP_MINOR : FRef := ⟨.pwr, 0, 9, 3⟩
/-- pwr FRQ_PTR_TAIL. -/
def pwr_FRQ_PTR_TAIL : FRef := ⟨.pwr, 480, 8, 6⟩
/-- pwr FRQ_PTR_HEAD. -/
def pwr_FRQ_PTR_HEAD : FRef := ⟨.pwr, 480, 0, 6⟩
/-- pwr FRQ_STAT_SEQ. -/
def pwr_FRQ_STAT_SEQ : FRef := ⟨.pwr, 481, 20, 16⟩
/-- pwr FRQ_STAT_OVF. -/
def pwr_FRQ_STAT_OVF : FRef := ⟨.pwr, 481, 19, 1⟩
/-- pwr FRQ_STAT_DROPPED. -/
def pwr_FRQ_STAT_DROPPED : FRef := ⟨.pwr, 481, 0, 10⟩
/-- tbu TIME_F. -/
def tbu_TIME_F : FRef := ⟨.tbu, 0, 0, 36⟩
/-- tbu TIME_S. -/
def tbu_TIME_S : FRef := ⟨.tbu, 1, 0, 36⟩
/-- tbu TIME_S_NEXT. -/
def tbu_TIME_S_NEXT : FRef := ⟨.tbu, 2, 0, 36⟩
/-- tbu TIME_CTL_FI_SH. -/
def tbu_TIME_CTL_FI_SH : FRef := ⟨.tbu, 3, 24, 4⟩
/-- tbu TIME_CTL_SLEW_S. -/
def tbu_TIME_CTL_SLEW_S : FRef := ⟨.tbu, 3, 20, 4⟩
/-- tbu TIME_CTL_STEP_THR. -/
def tbu_TIME_CTL_STEP_THR : FRef := ⟨.tbu, 3, 4, 16⟩
/-- tbu TIME_CTL_SET_NOW. -/
def tbu_TIME_CTL_SET_NOW : FRef := ⟨.tbu, 3, 3, 1⟩
/-- tbu TIME_CTL_STEP_EN. -/
def tbu_TIME_CTL_STEP_EN : FRef := ⟨.tbu, 3, 2, 1⟩
/-- tbu TIME_CTL_SRC. -/
def tbu_TIME_CTL_SRC : FRef := ⟨.tbu, 3, 0, 2⟩
/-- tbu TIME_INC. -/
def tbu_TIME_INC : FRef := ⟨.tbu, 4, 0, 36⟩
/-- tbu TIME_SLEW. -/
def tbu_TIME_SLEW : FRef := ⟨.tbu, 5, 0, 36⟩
/-- tbu TIME_STAT_HOLD_S. -/
def tbu_TIME_STAT_HOLD_S : FRef := ⟨.tbu, 6, 14, 22⟩
/-- tbu TIME_STAT_STEPS. -/
def tbu_TIME_STAT_STEPS : FRef := ⟨.tbu, 6, 5, 9⟩
/-- tbu TIME_STAT_SLEW_LIM. -/
def tbu_TIME_STAT_SLEW_LIM : FRef := ⟨.tbu, 6, 4, 1⟩
/-- tbu TIME_STAT_PLL_LOCK. -/
def tbu_TIME_STAT_PLL_LOCK : FRef := ⟨.tbu, 6, 3, 1⟩
/-- tbu TIME_STAT_STATE. -/
def tbu_TIME_STAT_STATE : FRef := ⟨.tbu, 6, 0, 3⟩
/-- tbu PPS_CTL_OUT_HIGH_MS. -/
def tbu_PPS_CTL_OUT_HIGH_MS : FRef := ⟨.tbu, 7, 16, 10⟩
/-- tbu PPS_CTL_QUAL_TOL. -/
def tbu_PPS_CTL_QUAL_TOL : FRef := ⟨.tbu, 7, 6, 10⟩
/-- tbu PPS_CTL_QUAL_N. -/
def tbu_PPS_CTL_QUAL_N : FRef := ⟨.tbu, 7, 2, 4⟩
/-- tbu PPS_CTL_OUT_EN. -/
def tbu_PPS_CTL_OUT_EN : FRef := ⟨.tbu, 7, 1, 1⟩
/-- tbu PPS_CTL_IN_EN. -/
def tbu_PPS_CTL_IN_EN : FRef := ⟨.tbu, 7, 0, 1⟩
/-- tbu PPS_CAP_F. -/
def tbu_PPS_CAP_F : FRef := ⟨.tbu, 8, 0, 36⟩
/-- tbu PPS_CAP_S. -/
def tbu_PPS_CAP_S : FRef := ⟨.tbu, 9, 0, 36⟩
/-- tbu PPS_ERR. -/
def tbu_PPS_ERR : FRef := ⟨.tbu, 10, 0, 36⟩
/-- tbu PPS_STAT_MISSED. -/
def tbu_PPS_STAT_MISSED : FRef := ⟨.tbu, 11, 27, 9⟩
/-- tbu PPS_STAT_BAD. -/
def tbu_PPS_STAT_BAD : FRef := ⟨.tbu, 11, 18, 9⟩
/-- tbu PPS_STAT_GOOD. -/
def tbu_PPS_STAT_GOOD : FRef := ⟨.tbu, 11, 9, 9⟩
/-- tbu PUB_LO_MASK. -/
def tbu_PUB_LO_MASK : FRef := ⟨.tbu, 12, 0, 32⟩
/-- tbu PUB_HI_MASK. -/
def tbu_PUB_HI_MASK : FRef := ⟨.tbu, 13, 0, 32⟩
/-- tbu PUB_CTL_MIN_GAP. -/
def tbu_PUB_CTL_MIN_GAP : FRef := ⟨.tbu, 14, 0, 8⟩
/-- tbu UPD_STAT_COALESCED. -/
def tbu_UPD_STAT_COALESCED : FRef := ⟨.tbu, 15, 0, 36⟩
/-- tb SRC_RTB. -/
def tb_SRC_RTB : FRef := ⟨.tb, 0, 26, 6⟩
/-- tb SRC_RDEV. -/
def tb_SRC_RDEV : FRef := ⟨.tb, 0, 10, 16⟩
/-- tb SRC_INST. -/
def tb_SRC_INST : FRef := ⟨.tb, 0, 4, 6⟩
/-- tb SRC_KIND. -/
def tb_SRC_KIND : FRef := ⟨.tb, 0, 0, 4⟩
/-- tb CTL_INDEX. -/
def tb_CTL_INDEX : FRef := ⟨.tb, 1, 27, 2⟩
/-- tb CTL_BACK_MAX. -/
def tb_CTL_BACK_MAX : FRef := ⟨.tb, 1, 19, 8⟩
/-- tb CTL_NOBACK. -/
def tb_CTL_NOBACK : FRef := ⟨.tb, 1, 18, 1⟩
/-- tb CTL_FB. -/
def tb_CTL_FB : FRef := ⟨.tb, 1, 12, 6⟩
/-- tb CTL_LOSS_ACT. -/
def tb_CTL_LOSS_ACT : FRef := ⟨.tb, 1, 10, 2⟩
/-- tb CTL_BETA_SH. -/
def tb_CTL_BETA_SH : FRef := ⟨.tb, 1, 6, 4⟩
/-- tb CTL_ALPHA_SH. -/
def tb_CTL_ALPHA_SH : FRef := ⟨.tb, 1, 2, 4⟩
/-- tb CTL_DIR. -/
def tb_CTL_DIR : FRef := ⟨.tb, 1, 1, 1⟩
/-- tb CTL_EN. -/
def tb_CTL_EN : FRef := ⟨.tb, 1, 0, 1⟩
/-- tb TIMING_LOSS_TO. -/
def tb_TIMING_LOSS_TO : FRef := ⟨.tb, 2, 16, 16⟩
/-- tb TIMING_UPD_PER. -/
def tb_TIMING_UPD_PER : FRef := ⟨.tb, 2, 0, 16⟩
/-- tb SCALE. -/
def tb_SCALE : FRef := ⟨.tb, 3, 0, 36⟩
/-- tb OFFSET. -/
def tb_OFFSET : FRef := ⟨.tb, 4, 0, 36⟩
/-- tb POS. -/
def tb_POS : FRef := ⟨.tb, 5, 0, 36⟩
/-- tb VEL. -/
def tb_VEL : FRef := ⟨.tb, 6, 0, 36⟩
/-- tb UPD_T. -/
def tb_UPD_T : FRef := ⟨.tb, 7, 0, 36⟩
/-- tb STAT_HOPS. -/
def tb_STAT_HOPS : FRef := ⟨.tb, 8, 23, 4⟩
/-- tb STAT_HOLDS. -/
def tb_STAT_HOLDS : FRef := ⟨.tb, 8, 14, 9⟩
/-- tb STAT_COALESCE. -/
def tb_STAT_COALESCE : FRef := ⟨.tb, 8, 5, 9⟩
/-- tb STAT_JUMP. -/
def tb_STAT_JUMP : FRef := ⟨.tb, 8, 4, 1⟩
/-- tb STAT_REV. -/
def tb_STAT_REV : FRef := ⟨.tb, 8, 3, 1⟩
/-- tb STAT_STATE. -/
def tb_STAT_STATE : FRef := ⟨.tb, 8, 0, 3⟩
/-- sch CTL_LATE_THR. -/
def sch_CTL_LATE_THR : FRef := ⟨.sch, 0, 0, 12⟩
/-- sch STAT_ARMED_DL. -/
def sch_STAT_ARMED_DL : FRef := ⟨.sch, 1, 16, 10⟩
/-- sch STAT_ARMED_ANG. -/
def sch_STAT_ARMED_ANG : FRef := ⟨.sch, 1, 6, 10⟩
/-- sch FIRES. -/
def sch_FIRES : FRef := ⟨.sch, 2, 0, 36⟩
/-- sch LATE. -/
def sch_LATE : FRef := ⟨.sch, 3, 0, 36⟩
/-- sch OVERRUNS. -/
def sch_OVERRUNS : FRef := ⟨.sch, 4, 0, 36⟩
/-- sch DL_MISS. -/
def sch_DL_MISS : FRef := ⟨.sch, 5, 0, 36⟩
/-- sch REPRED_MAX_PASS. -/
def sch_REPRED_MAX_PASS : FRef := ⟨.sch, 6, 0, 10⟩
/-- sctx CFG_HV. -/
def sctx_CFG_HV : FRef := ⟨.sctx, 0, 13, 1⟩
/-- sctx CFG_HANDLER. -/
def sctx_CFG_HANDLER : FRef := ⟨.sctx, 0, 9, 4⟩
/-- sctx CFG_OVR_ACT. -/
def sctx_CFG_OVR_ACT : FRef := ⟨.sctx, 0, 7, 2⟩
/-- sctx CFG_LOSS_ACT. -/
def sctx_CFG_LOSS_ACT : FRef := ⟨.sctx, 0, 6, 1⟩
/-- sctx CFG_REV_ACT. -/
def sctx_CFG_REV_ACT : FRef := ⟨.sctx, 0, 4, 2⟩
/-- sctx CFG_LATE_ACT. -/
def sctx_CFG_LATE_ACT : FRef := ⟨.sctx, 0, 2, 2⟩
/-- sctx ANG_TB. -/
def sctx_ANG_TB : FRef := ⟨.sctx, 1, 6, 6⟩
/-- sctx ANG_STATE. -/
def sctx_ANG_STATE : FRef := ⟨.sctx, 1, 0, 2⟩
/-- sctx PRED_F. -/
def sctx_PRED_F : FRef := ⟨.sctx, 2, 0, 36⟩
/-- sctx DL_S. -/
def sctx_DL_S : FRef := ⟨.sctx, 3, 0, 36⟩
/-- sctx DL_F. -/
def sctx_DL_F : FRef := ⟨.sctx, 4, 0, 36⟩
/-- sctx ACT_S. -/
def sctx_ACT_S : FRef := ⟨.sctx, 5, 0, 36⟩
/-- sctx ACT_F. -/
def sctx_ACT_F : FRef := ⟨.sctx, 6, 0, 36⟩
/-- sctx ACT_INFO_SRC. -/
def sctx_ACT_INFO_SRC : FRef := ⟨.sctx, 7, 30, 2⟩
/-- sctx ACT_INFO_LATE. -/
def sctx_ACT_INFO_LATE : FRef := ⟨.sctx, 7, 29, 1⟩
/-- sctx ACT_INFO_REV. -/
def sctx_ACT_INFO_REV : FRef := ⟨.sctx, 7, 28, 1⟩
/-- sctx ACT_INFO_LOSS. -/
def sctx_ACT_INFO_LOSS : FRef := ⟨.sctx, 7, 27, 1⟩
/-- sctx ACT_INFO_HELD. -/
def sctx_ACT_INFO_HELD : FRef := ⟨.sctx, 7, 26, 1⟩
/-- sctx ACT_INFO_OVR_CNT. -/
def sctx_ACT_INFO_OVR_CNT : FRef := ⟨.sctx, 7, 12, 12⟩
/-- sctx ACT_INFO_LATE_NS. -/
def sctx_ACT_INFO_LATE_NS : FRef := ⟨.sctx, 7, 0, 12⟩
/-- sctx CMD_DIS_DL. -/
def sctx_CMD_DIS_DL : FRef := ⟨.sctx, 8, 2, 1⟩
/-- sctx CMD_DIS_ANG. -/
def sctx_CMD_DIS_ANG : FRef := ⟨.sctx, 8, 1, 1⟩
/-- sctx CMD_DISPATCH. -/
def sctx_CMD_DISPATCH : FRef := ⟨.sctx, 8, 0, 1⟩
/-- mfr EVT_CTL_EN. -/
def mfr_EVT_CTL_EN : FRef := ⟨.mfr, 0, 0, 1⟩
/-- mfr EVT_STAT_DROPPED_W. -/
def mfr_EVT_STAT_DROPPED_W : FRef := ⟨.mfr, 1, 9, 9⟩
/-- mfr EVT_STAT_DROPPED_E. -/
def mfr_EVT_STAT_DROPPED_E : FRef := ⟨.mfr, 1, 0, 9⟩
/-- mfr SW_STROBE_GROUP. -/
def mfr_SW_STROBE_GROUP : FRef := ⟨.mfr, 2, 0, 12⟩
/-- grp CTL_DEC. -/
def grp_CTL_DEC : FRef := ⟨.grp, 0, 18, 11⟩
/-- grp CTL_CLK_TO. -/
def grp_CTL_CLK_TO : FRef := ⟨.grp, 0, 10, 8⟩
/-- grp CTL_CLKDIV. -/
def grp_CTL_CLKDIV : FRef := ⟨.grp, 0, 2, 8⟩
/-- grp CTL_CLKMODE. -/
def grp_CTL_CLKMODE : FRef := ⟨.grp, 0, 1, 1⟩
/-- grp CTL_EN. -/
def grp_CTL_EN : FRef := ⟨.grp, 0, 0, 1⟩
/-- grp STRB_CTL_PER. -/
def grp_STRB_CTL_PER : FRef := ⟨.grp, 1, 6, 24⟩
/-- grp STRB_CTL_EN. -/
def grp_STRB_CTL_EN : FRef := ⟨.grp, 1, 5, 1⟩
/-- grp STRB_PH_TB. -/
def grp_STRB_PH_TB : FRef := ⟨.grp, 2, 30, 6⟩
/-- grp STRB_PH_PHASE. -/
def grp_STRB_PH_PHASE : FRef := ⟨.grp, 2, 0, 24⟩
/-- grp STREAM_QUEUE. -/
def grp_STREAM_QUEUE : FRef := ⟨.grp, 3, 24, 12⟩
/-- grp STREAM_NTH. -/
def grp_STREAM_NTH : FRef := ⟨.grp, 3, 16, 8⟩
/-- grp STREAM_CHMASK. -/
def grp_STREAM_CHMASK : FRef := ⟨.grp, 3, 8, 8⟩
/-- grp STREAM_STATUS. -/
def grp_STREAM_STATUS : FRef := ⟨.grp, 3, 3, 1⟩
/-- grp STREAM_STAMP. -/
def grp_STREAM_STAMP : FRef := ⟨.grp, 3, 2, 1⟩
/-- grp STREAM_MODE. -/
def grp_STREAM_MODE : FRef := ⟨.grp, 3, 0, 2⟩
/-- grp STAT_MERGED. -/
def grp_STAT_MERGED : FRef := ⟨.grp, 7, 27, 9⟩
/-- grp STAT_SKIPPED. -/
def grp_STAT_SKIPPED : FRef := ⟨.grp, 7, 18, 9⟩
/-- grp STAT_REPLACED. -/
def grp_STAT_REPLACED : FRef := ⟨.grp, 7, 9, 9⟩
/-- grp STAT_STUCK. -/
def grp_STAT_STUCK : FRef := ⟨.grp, 7, 1, 8⟩
/-- grp STAT_CLK_LOST. -/
def grp_STAT_CLK_LOST : FRef := ⟨.grp, 7, 0, 1⟩
/-- chan CFG_STUCK. -/
def chan_CFG_STUCK : FRef := ⟨.chan, 0, 25, 7⟩
/-- chan CFG_QUAL. -/
def chan_CFG_QUAL : FRef := ⟨.chan, 0, 21, 4⟩
/-- chan CFG_FDEC. -/
def chan_CFG_FDEC : FRef := ⟨.chan, 0, 15, 6⟩
/-- chan CFG_FORDER. -/
def chan_CFG_FORDER : FRef := ⟨.chan, 0, 13, 2⟩
/-- chan CFG_IIR_SH. -/
def chan_CFG_IIR_SH : FRef := ⟨.chan, 0, 9, 4⟩
/-- chan CFG_SH. -/
def chan_CFG_SH : FRef := ⟨.chan, 0, 3, 6⟩
/-- chan CFG_ORDER. -/
def chan_CFG_ORDER : FRef := ⟨.chan, 0, 0, 3⟩
/-- chan OFFSET. -/
def chan_OFFSET : FRef := ⟨.chan, 1, 0, 36⟩
/-- chan GAIN. -/
def chan_GAIN : FRef := ⟨.chan, 2, 0, 18⟩
/-- chan WIN_HI. -/
def chan_WIN_HI : FRef := ⟨.chan, 3, 18, 18⟩
/-- chan WIN_LO. -/
def chan_WIN_LO : FRef := ⟨.chan, 3, 0, 18⟩
/-- chan LAST. -/
def chan_LAST : FRef := ⟨.chan, 4, 0, 36⟩
/-- chan FAST_RAW. -/
def chan_FAST_RAW : FRef := ⟨.chan, 5, 0, 18⟩
/-- chan STAT_SAT. -/
def chan_STAT_SAT : FRef := ⟨.chan, 6, 27, 9⟩
/-- chan STAT_WIN_LO. -/
def chan_STAT_WIN_LO : FRef := ⟨.chan, 6, 2, 1⟩
/-- chan STAT_WIN_HI. -/
def chan_STAT_WIN_HI : FRef := ⟨.chan, 6, 1, 1⟩
/-- chan STAT_WIN. -/
def chan_STAT_WIN : FRef := ⟨.chan, 6, 0, 1⟩
/-- comp CTL_EN_LO. -/
def comp_CTL_EN_LO : FRef := ⟨.comp, 0, 23, 1⟩
/-- comp CTL_EN_HI. -/
def comp_CTL_EN_HI : FRef := ⟨.comp, 0, 22, 1⟩
/-- comp CTL_HYST. -/
def comp_CTL_HYST : FRef := ⟨.comp, 0, 20, 2⟩
/-- comp CTL_LO. -/
def comp_CTL_LO : FRef := ⟨.comp, 0, 10, 10⟩
/-- comp CTL_HI. -/
def comp_CTL_HI : FRef := ⟨.comp, 0, 0, 10⟩
/-- comp STAT_COUNT. -/
def comp_STAT_COUNT : FRef := ⟨.comp, 1, 27, 9⟩
/-- comp STAT_TRIP_LO. -/
def comp_STAT_TRIP_LO : FRef := ⟨.comp, 1, 2, 1⟩
/-- comp STAT_TRIP_HI. -/
def comp_STAT_TRIP_HI : FRef := ⟨.comp, 1, 1, 1⟩
/-- comp STAT_OUT. -/
def comp_STAT_OUT : FRef := ⟨.comp, 1, 0, 1⟩
/-- enc CTL_IDXQ. -/
def enc_CTL_IDXQ : FRef := ⟨.enc, 0, 9, 1⟩
/-- enc CTL_SWAP. -/
def enc_CTL_SWAP : FRef := ⟨.enc, 0, 8, 1⟩
/-- enc CTL_FILT. -/
def enc_CTL_FILT : FRef := ⟨.enc, 0, 3, 5⟩
/-- enc CTL_MODE. -/
def enc_CTL_MODE : FRef := ⟨.enc, 0, 0, 2⟩
/-- enc COUNT. -/
def enc_COUNT : FRef := ⟨.enc, 1, 0, 36⟩
/-- enc EDGE_T. -/
def enc_EDGE_T : FRef := ⟨.enc, 2, 0, 36⟩
/-- enc IDX_CNT. -/
def enc_IDX_CNT : FRef := ⟨.enc, 3, 0, 36⟩
/-- enc IDX_T. -/
def enc_IDX_T : FRef := ⟨.enc, 4, 0, 36⟩
/-- enc STAT_IDX_SEEN. -/
def enc_STAT_IDX_SEEN : FRef := ⟨.enc, 5, 19, 1⟩
/-- enc STAT_DIR. -/
def enc_STAT_DIR : FRef := ⟨.enc, 5, 18, 1⟩
/-- enc STAT_GLITCH. -/
def enc_STAT_GLITCH : FRef := ⟨.enc, 5, 9, 9⟩
/-- enc STAT_QERR. -/
def enc_STAT_QERR : FRef := ⟨.enc, 5, 0, 9⟩
/-- rt CTL_NTH. -/
def rt_CTL_NTH : FRef := ⟨.rt, 0, 20, 8⟩
/-- rt CTL_EXC_CG. -/
def rt_CTL_EXC_CG : FRef := ⟨.rt, 0, 14, 6⟩
/-- rt CTL_CH_C. -/
def rt_CTL_CH_C : FRef := ⟨.rt, 0, 11, 3⟩
/-- rt CTL_CH_B. -/
def rt_CTL_CH_B : FRef := ⟨.rt, 0, 8, 3⟩
/-- rt CTL_CH_A. -/
def rt_CTL_CH_A : FRef := ⟨.rt, 0, 5, 3⟩
/-- rt CTL_GROUP. -/
def rt_CTL_GROUP : FRef := ⟨.rt, 0, 1, 4⟩
/-- rt CTL_EN. -/
def rt_CTL_EN : FRef := ⟨.rt, 0, 0, 1⟩
/-- rt EXC_PH_PH. -/
def rt_EXC_PH_PH : FRef := ⟨.rt, 1, 0, 24⟩
/-- rt AMP_WIN_AMAX. -/
def rt_AMP_WIN_AMAX : FRef := ⟨.rt, 2, 18, 18⟩
/-- rt AMP_WIN_AMIN. -/
def rt_AMP_WIN_AMIN : FRef := ⟨.rt, 2, 0, 18⟩
/-- rt ANGLE. -/
def rt_ANGLE : FRef := ⟨.rt, 3, 0, 36⟩
/-- rt AMP_VAL. -/
def rt_AMP_VAL : FRef := ⟨.rt, 4, 0, 18⟩
/-- rt STAT_FAULT. -/
def rt_STAT_FAULT : FRef := ⟨.rt, 5, 9, 1⟩
/-- rt STAT_AMP_ERR. -/
def rt_STAT_AMP_ERR : FRef := ⟨.rt, 5, 0, 9⟩
/-- evo CMD_STAT_BAD_W. -/
def evo_CMD_STAT_BAD_W : FRef := ⟨.evo, 0, 9, 9⟩
/-- evo CMD_STAT_BAD_E. -/
def evo_CMD_STAT_BAD_E : FRef := ⟨.evo, 0, 0, 9⟩
/-- evo EVT_STAT_DROPPED_W. -/
def evo_EVT_STAT_DROPPED_W : FRef := ⟨.evo, 1, 9, 9⟩
/-- evo EVT_STAT_DROPPED_E. -/
def evo_EVT_STAT_DROPPED_E : FRef := ⟨.evo, 1, 0, 9⟩
/-- bank BANK_CTL_RELEASE. -/
def bank_BANK_CTL_RELEASE : FRef := ⟨.bank, 0, 2, 1⟩
/-- bank BANK_CTL_DRIVE. -/
def bank_BANK_CTL_DRIVE : FRef := ⟨.bank, 0, 0, 2⟩
/-- bank COVER_MASK. -/
def bank_COVER_MASK : FRef := ⟨.bank, 1, 0, 32⟩
/-- bank SRC0. -/
def bank_SRC0 : FRef := ⟨.bank, 2, 0, 36⟩
/-- bank SRC1_FLT. -/
def bank_SRC1_FLT : FRef := ⟨.bank, 3, 12, 8⟩
/-- bank SRC1_AC_HI. -/
def bank_SRC1_AC_HI : FRef := ⟨.bank, 3, 0, 12⟩
/-- bank SRC2. -/
def bank_SRC2 : FRef := ⟨.bank, 4, 0, 36⟩
/-- bank SRC3. -/
def bank_SRC3 : FRef := ⟨.bank, 5, 0, 36⟩
/-- bank SRC4_WIN. -/
def bank_SRC4_WIN : FRef := ⟨.bank, 6, 0, 24⟩
/-- bank TRIP_CLR_FAIL. -/
def bank_TRIP_CLR_FAIL : FRef := ⟨.bank, 7, 4, 1⟩
/-- bank TRIP_MORE. -/
def bank_TRIP_MORE : FRef := ⟨.bank, 7, 3, 1⟩
/-- bank TRIP_LATCHED. -/
def bank_TRIP_LATCHED : FRef := ⟨.bank, 7, 2, 1⟩
/-- bank TRIP_CLR. -/
def bank_TRIP_CLR : FRef := ⟨.bank, 7, 1, 1⟩
/-- bank TRIP_SW. -/
def bank_TRIP_SW : FRef := ⟨.bank, 7, 0, 1⟩
/-- bank TRIP_REC_COUNT. -/
def bank_TRIP_REC_COUNT : FRef := ⟨.bank, 8, 27, 9⟩
/-- bank TRIP_REC_KIND. -/
def bank_TRIP_REC_KIND : FRef := ⟨.bank, 8, 7, 4⟩
/-- bank TRIP_REC_INST. -/
def bank_TRIP_REC_INST : FRef := ⟨.bank, 8, 0, 7⟩
/-- bank TRIP_T. -/
def bank_TRIP_T : FRef := ⟨.bank, 9, 0, 36⟩
/-- gen CG_CTL_TB. -/
def gen_CG_CTL_TB : FRef := ⟨.gen, 0, 6, 6⟩
/-- gen CG_CTL_ALIGN. -/
def gen_CG_CTL_ALIGN : FRef := ⟨.gen, 0, 5, 1⟩
/-- gen CG_CTL_HO. -/
def gen_CG_CTL_HO : FRef := ⟨.gen, 0, 4, 1⟩
/-- gen CG_CTL_SHAPE. -/
def gen_CG_CTL_SHAPE : FRef := ⟨.gen, 0, 2, 2⟩
/-- gen CG_CTL_SRC. -/
def gen_CG_CTL_SRC : FRef := ⟨.gen, 0, 1, 1⟩
/-- gen CG_CTL_EN. -/
def gen_CG_CTL_EN : FRef := ⟨.gen, 0, 0, 1⟩
/-- gen PER_SH_VAL. -/
def gen_PER_SH_VAL : FRef := ⟨.gen, 1, 0, 32⟩
/-- gen PER_ACT. -/
def gen_PER_ACT : FRef := ⟨.gen, 2, 0, 36⟩
/-- gen PHASE. -/
def gen_PHASE : FRef := ⟨.gen, 3, 0, 36⟩
/-- gen COMMIT_PENDING. -/
def gen_COMMIT_PENDING : FRef := ⟨.gen, 4, 1, 1⟩
/-- gen COMMIT_SET. -/
def gen_COMMIT_SET : FRef := ⟨.gen, 4, 0, 1⟩
/-- gen POS_PERIODS. -/
def gen_POS_PERIODS : FRef := ⟨.gen, 5, 24, 12⟩
/-- gen POS_X. -/
def gen_POS_X : FRef := ⟨.gen, 5, 0, 24⟩
/-- gen CG_STAT_LATE_COMMIT. -/
def gen_CG_STAT_LATE_COMMIT : FRef := ⟨.gen, 6, 18, 18⟩
/-- gen CG_STAT_COMMITS. -/
def gen_CG_STAT_COMMITS : FRef := ⟨.gen, 6, 0, 18⟩
/-- pin PIN_CTL_LEVEL. -/
def pin_PIN_CTL_LEVEL : FRef := ⟨.pin, 0, 28, 1⟩
/-- pin PIN_CTL_DT. -/
def pin_PIN_CTL_DT : FRef := ⟨.pin, 0, 12, 16⟩
/-- pin PIN_CTL_PAIR. -/
def pin_PIN_CTL_PAIR : FRef := ⟨.pin, 0, 11, 1⟩
/-- pin PIN_CTL_EDGE_LATE. -/
def pin_PIN_CTL_EDGE_LATE : FRef := ⟨.pin, 0, 10, 1⟩
/-- pin PIN_CTL_CG. -/
def pin_PIN_CTL_CG : FRef := ⟨.pin, 0, 6, 4⟩
/-- pin PIN_CTL_ACTIVE. -/
def pin_PIN_CTL_ACTIVE : FRef := ⟨.pin, 0, 5, 1⟩
/-- pin PIN_CTL_SAFE. -/
def pin_PIN_CTL_SAFE : FRef := ⟨.pin, 0, 3, 2⟩
/-- pin PIN_CTL_MODE. -/
def pin_PIN_CTL_MODE : FRef := ⟨.pin, 0, 0, 3⟩
/-- pin CMP_SH_VAL. -/
def pin_CMP_SH_VAL : FRef := ⟨.pin, 1, 0, 25⟩
/-- pin CMP_ACT. -/
def pin_CMP_ACT : FRef := ⟨.pin, 2, 0, 36⟩
/-- pin PIN_STAT_LATE. -/
def pin_PIN_STAT_LATE : FRef := ⟨.pin, 3, 27, 9⟩
/-- pin PIN_STAT_DROPPED. -/
def pin_PIN_STAT_DROPPED : FRef := ⟨.pin, 3, 18, 9⟩
/-- pin PIN_STAT_SUPPR. -/
def pin_PIN_STAT_SUPPR : FRef := ⟨.pin, 3, 9, 9⟩
/-- pin PIN_STAT_DEPTH. -/
def pin_PIN_STAT_DEPTH : FRef := ⟨.pin, 3, 0, 4⟩
/-- pin OUT_FORCED. -/
def pin_OUT_FORCED : FRef := ⟨.pin, 4, 1, 1⟩
/-- pin OUT_LEVEL. -/
def pin_OUT_LEVEL : FRef := ⟨.pin, 4, 0, 1⟩
/-- clu DMEM_ECC_CE1. -/
def clu_DMEM_ECC_CE1 : FRef := ⟨.clu, 0, 27, 9⟩
/-- clu DMEM_ECC_CE2. -/
def clu_DMEM_ECC_CE2 : FRef := ⟨.clu, 0, 18, 9⟩
/-- clu DMEM_ECC_UE. -/
def clu_DMEM_ECC_UE : FRef := ⟨.clu, 0, 9, 9⟩
/-- clu DMEM_ECC_PRD. -/
def clu_DMEM_ECC_PRD : FRef := ⟨.clu, 0, 0, 9⟩
/-- clu IMEM_ECC. -/
def clu_IMEM_ECC : FRef := ⟨.clu, 1, 0, 36⟩
/-- clu DMEM_ERR_ADDR_TYPE. -/
def clu_DMEM_ERR_ADDR_TYPE : FRef := ⟨.clu, 2, 33, 3⟩
/-- clu DMEM_ERR_ADDR_GRAN. -/
def clu_DMEM_ERR_ADDR_GRAN : FRef := ⟨.clu, 2, 0, 16⟩
/-- clu IMEM_ERR_ADDR. -/
def clu_IMEM_ERR_ADDR : FRef := ⟨.clu, 3, 0, 36⟩
/-- clu SCRUB_CTL_BANK_LIM. -/
def clu_SCRUB_CTL_BANK_LIM : FRef := ⟨.clu, 4, 24, 3⟩
/-- clu SCRUB_CTL_IMEM_THR. -/
def clu_SCRUB_CTL_IMEM_THR : FRef := ⟨.clu, 4, 22, 2⟩
/-- clu SCRUB_CTL_IMEM_PER. -/
def clu_SCRUB_CTL_IMEM_PER : FRef := ⟨.clu, 4, 12, 10⟩
/-- clu SCRUB_CTL_DMEM_PER. -/
def clu_SCRUB_CTL_DMEM_PER : FRef := ⟨.clu, 4, 2, 10⟩
/-- clu SCRUB_STAT_IMEM_PASSES. -/
def clu_SCRUB_STAT_IMEM_PASSES : FRef := ⟨.clu, 5, 18, 18⟩
/-- clu SCRUB_STAT_DMEM_PASSES. -/
def clu_SCRUB_STAT_DMEM_PASSES : FRef := ⟨.clu, 5, 0, 18⟩
/-- clu TAG_WR_MEM. -/
def clu_TAG_WR_MEM : FRef := ⟨.clu, 6, 21, 1⟩
/-- clu TAG_WR_GRAN. -/
def clu_TAG_WR_GRAN : FRef := ⟨.clu, 6, 4, 16⟩
/-- clu TAG_WR_TAG. -/
def clu_TAG_WR_TAG : FRef := ⟨.clu, 6, 0, 4⟩
/-- clu IMEM_WR. -/
def clu_IMEM_WR : FRef := ⟨.clu, 7, 0, 36⟩
/-- clu WR_STAT_VERIFY_RETRY. -/
def clu_WR_STAT_VERIFY_RETRY : FRef := ⟨.clu, 8, 9, 9⟩
/-- clu WR_STAT_OFF_WR. -/
def clu_WR_STAT_OFF_WR : FRef := ⟨.clu, 8, 0, 9⟩
/-- qpl POOL_STAT_FREE. -/
def qpl_POOL_STAT_FREE : FRef := ⟨.qpl, 0, 18, 18⟩
/-- qpl POOL_STAT_UNRES. -/
def qpl_POOL_STAT_UNRES : FRef := ⟨.qpl, 0, 0, 18⟩
/-- qpl POOL_ECC_CE1. -/
def qpl_POOL_ECC_CE1 : FRef := ⟨.qpl, 1, 27, 9⟩
/-- qpl POOL_ECC_CE2. -/
def qpl_POOL_ECC_CE2 : FRef := ⟨.qpl, 1, 18, 9⟩
/-- qpl POOL_ECC_UE. -/
def qpl_POOL_ECC_UE : FRef := ⟨.qpl, 1, 9, 9⟩
/-- qpl POOL_ECC_LINK. -/
def qpl_POOL_ECC_LINK : FRef := ⟨.qpl, 1, 0, 9⟩
/-- qpl POOL_STAT2_MISMATCHES. -/
def qpl_POOL_STAT2_MISMATCHES : FRef := ⟨.qpl, 2, 27, 9⟩
/-- qpl POOL_STAT2_POOL_WAIT. -/
def qpl_POOL_STAT2_POOL_WAIT : FRef := ⟨.qpl, 2, 18, 9⟩
/-- qpl POOL_STAT2_BAD_TAG. -/
def qpl_POOL_STAT2_BAD_TAG : FRef := ⟨.qpl, 2, 9, 9⟩
/-- qpl XING_CTL_MODE3. -/
def qpl_XING_CTL_MODE3 : FRef := ⟨.qpl, 3, 6, 2⟩
/-- qpl XING_CTL_MODE2. -/
def qpl_XING_CTL_MODE2 : FRef := ⟨.qpl, 3, 4, 2⟩
/-- qpl XING_CTL_MODE1. -/
def qpl_XING_CTL_MODE1 : FRef := ⟨.qpl, 3, 2, 2⟩
/-- qpl XING_CTL_MODE0. -/
def qpl_XING_CTL_MODE0 : FRef := ⟨.qpl, 3, 0, 2⟩
/-- qpl XING_STAT_MERGED. -/
def qpl_XING_STAT_MERGED : FRef := ⟨.qpl, 32, 27, 9⟩
/-- qpl XING_STAT_LOST. -/
def qpl_XING_STAT_LOST : FRef := ⟨.qpl, 32, 18, 9⟩
/-- qpl XING_STAT_PEER_RESETS. -/
def qpl_XING_STAT_PEER_RESETS : FRef := ⟨.qpl, 32, 9, 9⟩
/-- qpl XING_STAT_LOCAL_RESET. -/
def qpl_XING_STAT_LOCAL_RESET : FRef := ⟨.qpl, 32, 1, 1⟩
/-- qpl XING_STAT_REALIGN. -/
def qpl_XING_STAT_REALIGN : FRef := ⟨.qpl, 32, 0, 1⟩
/-- desc CFG_IDLE_EN. -/
def desc_CFG_IDLE_EN : FRef := ⟨.desc, 0, 9, 1⟩
/-- desc CFG_MARK_POL. -/
def desc_CFG_MARK_POL : FRef := ⟨.desc, 0, 8, 1⟩
/-- desc CFG_POISON_ACT. -/
def desc_CFG_POISON_ACT : FRef := ⟨.desc, 0, 7, 1⟩
/-- desc CFG_CLASS. -/
def desc_CFG_CLASS : FRef := ⟨.desc, 0, 6, 1⟩
/-- desc PROD_KIND. -/
def desc_PROD_KIND : FRef := ⟨.desc, 1, 17, 4⟩
/-- desc PROD_INST. -/
def desc_PROD_INST : FRef := ⟨.desc, 1, 0, 17⟩
/-- desc CONS. -/
def desc_CONS : FRef := ⟨.desc, 2, 0, 36⟩
/-- desc CAP_RESERVE. -/
def desc_CAP_RESERVE : FRef := ⟨.desc, 3, 17, 17⟩
/-- desc CAP. -/
def desc_CAP : FRef := ⟨.desc, 3, 0, 17⟩
/-- desc LEVEL_CELLS. -/
def desc_LEVEL_CELLS : FRef := ⟨.desc, 4, 19, 17⟩
/-- desc LEVEL_WORDS. -/
def desc_LEVEL_WORDS : FRef := ⟨.desc, 4, 0, 19⟩
/-- desc IDLE. -/
def desc_IDLE : FRef := ⟨.desc, 5, 0, 36⟩
/-- desc CNT_FLUSHES. -/
def desc_CNT_FLUSHES : FRef := ⟨.desc, 6, 27, 9⟩
/-- desc CNT_UNDERRUNS. -/
def desc_CNT_UNDERRUNS : FRef := ⟨.desc, 6, 18, 9⟩
/-- desc CNT_CE. -/
def desc_CNT_CE : FRef := ⟨.desc, 6, 9, 9⟩
/-- desc CNT_POISONED. -/
def desc_CNT_POISONED : FRef := ⟨.desc, 6, 0, 9⟩
/-- desc CMD_STAT_FLUSH. -/
def desc_CMD_STAT_FLUSH : FRef := ⟨.desc, 7, 7, 1⟩
/-- desc CMD_STAT_MARK_CLR. -/
def desc_CMD_STAT_MARK_CLR : FRef := ⟨.desc, 7, 6, 1⟩
/-- desc CMD_STAT_MARK. -/
def desc_CMD_STAT_MARK : FRef := ⟨.desc, 7, 4, 1⟩
/-- desc CMD_STAT_DISCARD. -/
def desc_CMD_STAT_DISCARD : FRef := ⟨.desc, 7, 3, 1⟩
/-- desc CMD_STAT_RESETTING. -/
def desc_CMD_STAT_RESETTING : FRef := ⟨.desc, 7, 2, 1⟩
/-- desc CMD_STAT_MISMATCH. -/
def desc_CMD_STAT_MISMATCH : FRef := ⟨.desc, 7, 1, 1⟩
/-- desc CMD_STAT_MARK_LOST. -/
def desc_CMD_STAT_MARK_LOST : FRef := ⟨.desc, 7, 0, 1⟩
/-- dma DMA_STAT_BUF_USED. -/
def dma_DMA_STAT_BUF_USED : FRef := ⟨.dma, 0, 26, 10⟩
/-- dma DMA_STAT_ACTIVE. -/
def dma_DMA_STAT_ACTIVE : FRef := ⟨.dma, 0, 19, 7⟩
/-- dma DMA_ECC_CE1. -/
def dma_DMA_ECC_CE1 : FRef := ⟨.dma, 1, 27, 9⟩
/-- dma DMA_ECC_CE2. -/
def dma_DMA_ECC_CE2 : FRef := ⟨.dma, 1, 18, 9⟩
/-- dma DMA_ECC_UE. -/
def dma_DMA_ECC_UE : FRef := ⟨.dma, 1, 9, 9⟩
/-- dma DMA_ECC_PRD. -/
def dma_DMA_ECC_PRD : FRef := ⟨.dma, 1, 0, 9⟩
/-- dma DMA_ERR_ADDR_TYPE. -/
def dma_DMA_ERR_ADDR_TYPE : FRef := ⟨.dma, 2, 33, 3⟩
/-- dma DMA_ERR_ADDR_ADDR. -/
def dma_DMA_ERR_ADDR_ADDR : FRef := ⟨.dma, 2, 0, 32⟩
/-- cq CQ_BASE_ADDR. -/
def cq_CQ_BASE_ADDR : FRef := ⟨.cq, 0, 0, 32⟩
/-- cq CQ_CFG_CTX. -/
def cq_CQ_CFG_CTX : FRef := ⟨.cq, 1, 9, 12⟩
/-- cq CQ_CFG_NOTIFY. -/
def cq_CQ_CFG_NOTIFY : FRef := ⟨.cq, 1, 7, 2⟩
/-- cq CQ_CFG_SIZE_LOG. -/
def cq_CQ_CFG_SIZE_LOG : FRef := ⟨.cq, 1, 0, 4⟩
/-- cq CQ_HEAD_HEAD. -/
def cq_CQ_HEAD_HEAD : FRef := ⟨.cq, 2, 0, 13⟩
/-- cq CQ_TAIL_TAIL. -/
def cq_CQ_TAIL_TAIL : FRef := ⟨.cq, 3, 0, 13⟩
/-- ch CH_CTL_MAX_OUT. -/
def ch_CH_CTL_MAX_OUT : FRef := ⟨.ch, 0, 6, 8⟩
/-- ch CH_CTL_PRI. -/
def ch_CH_CTL_PRI : FRef := ⟨.ch, 0, 4, 2⟩
/-- ch CH_CTL_GO. -/
def ch_CH_CTL_GO : FRef := ⟨.ch, 0, 1, 1⟩
/-- ch CH_CTL_EN. -/
def ch_CH_CTL_EN : FRef := ⟨.ch, 0, 0, 1⟩
/-- ch CH_HEAD_ADDR. -/
def ch_CH_HEAD_ADDR : FRef := ⟨.ch, 1, 0, 32⟩
/-- ch CH_CUR_ADDR. -/
def ch_CH_CUR_ADDR : FRef := ⟨.ch, 2, 0, 32⟩
/-- ch CH_STAT_STATE. -/
def ch_CH_STAT_STATE : FRef := ⟨.ch, 3, 33, 3⟩
/-- ch CH_STAT_LAST_STATUS. -/
def ch_CH_STAT_LAST_STATUS : FRef := ⟨.ch, 3, 28, 5⟩
/-- ch CH_STAT_SEQ. -/
def ch_CH_STAT_SEQ : FRef := ⟨.ch, 3, 12, 16⟩
/-- ch CH_STAT_REC_LOST. -/
def ch_CH_STAT_REC_LOST : FRef := ⟨.ch, 3, 3, 1⟩
/-- ch CH_STAT_GO_LOST. -/
def ch_CH_STAT_GO_LOST : FRef := ⟨.ch, 3, 2, 1⟩
/-- ch CH_STAT_POISONED. -/
def ch_CH_STAT_POISONED : FRef := ⟨.ch, 3, 1, 1⟩
/-- ch CH_DONE_DONE. -/
def ch_CH_DONE_DONE : FRef := ⟨.ch, 4, 0, 24⟩
/-- ch CH_CNT_DESCS. -/
def ch_CH_CNT_DESCS : FRef := ⟨.ch, 5, 18, 18⟩
/-- ch CH_CNT_WAITS. -/
def ch_CH_CNT_WAITS : FRef := ⟨.ch, 5, 0, 18⟩
/-- hst PORT_STAT_WIDTH. -/
def hst_PORT_STAT_WIDTH : FRef := ⟨.hst, 0, 8, 4⟩
/-- hst PORT_STAT_SPEED. -/
def hst_PORT_STAT_SPEED : FRef := ⟨.hst, 0, 4, 4⟩
/-- hst PORT_STAT_LINK_UP. -/
def hst_PORT_STAT_LINK_UP : FRef := ⟨.hst, 0, 3, 1⟩
/-- hst RES_STAT_ENTRIES. -/
def hst_RES_STAT_ENTRIES : FRef := ⟨.hst, 1, 26, 10⟩
/-- hst RES_STAT_GRANULES. -/
def hst_RES_STAT_GRANULES : FRef := ⟨.hst, 1, 14, 12⟩
/-- hst TIMEOUTS_Q_TO. -/
def hst_TIMEOUTS_Q_TO : FRef := ⟨.hst, 2, 16, 16⟩
/-- hst TIMEOUTS_FWD_TO. -/
def hst_TIMEOUTS_FWD_TO : FRef := ⟨.hst, 2, 0, 16⟩
/-- hst VLOG_STAT_COUNT. -/
def hst_VLOG_STAT_COUNT : FRef := ⟨.hst, 3, 27, 9⟩
/-- hst VLOG_STAT_LOST. -/
def hst_VLOG_STAT_LOST : FRef := ⟨.hst, 3, 18, 9⟩
/-- hst VLOG_STAT_NEXT. -/
def hst_VLOG_STAT_NEXT : FRef := ⟨.hst, 3, 0, 4⟩
/-- hst HOST_EVT_RAISE. -/
def hst_HOST_EVT_RAISE : FRef := ⟨.hst, 4, 0, 32⟩
/-- hst LATE_RES_LATE. -/
def hst_LATE_RES_LATE : FRef := ⟨.hst, 5, 0, 9⟩
/-- hst FWD_ID_V. -/
def hst_FWD_ID_V : FRef := ⟨.hst, 16, 16, 1⟩
/-- hst FWD_ID_ID. -/
def hst_FWD_ID_ID : FRef := ⟨.hst, 16, 0, 16⟩
/-- hst VLOG_CODE. -/
def hst_VLOG_CODE : FRef := ⟨.hst, 96, 28, 8⟩
/-- hst VLOG_RING. -/
def hst_VLOG_RING : FRef := ⟨.hst, 96, 24, 4⟩
/-- hst VLOG_SEQ. -/
def hst_VLOG_SEQ : FRef := ⟨.hst, 96, 0, 16⟩
/-- hst VLOG_TIME_F. -/
def hst_VLOG_TIME_F : FRef := ⟨.hst, 97, 0, 36⟩
/-- ring RING_CTL_CQ_LOG. -/
def ring_RING_CTL_CQ_LOG : FRef := ⟨.ring, 0, 6, 5⟩
/-- ring RING_CTL_SQ_LOG. -/
def ring_RING_CTL_SQ_LOG : FRef := ⟨.ring, 0, 1, 5⟩
/-- ring RING_CTL_EN. -/
def ring_RING_CTL_EN : FRef := ⟨.ring, 0, 0, 1⟩
/-- ring SQ_BASE_LO. -/
def ring_SQ_BASE_LO : FRef := ⟨.ring, 1, 0, 36⟩
/-- ring SQ_BASE_HI. -/
def ring_SQ_BASE_HI : FRef := ⟨.ring, 2, 0, 36⟩
/-- ring CQ_BASE_LO. -/
def ring_CQ_BASE_LO : FRef := ⟨.ring, 3, 0, 36⟩
/-- ring CQ_BASE_HI. -/
def ring_CQ_BASE_HI : FRef := ⟨.ring, 4, 0, 36⟩
/-- ring SQ_PTR_TAIL. -/
def ring_SQ_PTR_TAIL : FRef := ⟨.ring, 5, 17, 17⟩
/-- ring SQ_PTR_HEAD. -/
def ring_SQ_PTR_HEAD : FRef := ⟨.ring, 5, 0, 17⟩
/-- ring CQ_PTR_HEAD. -/
def ring_CQ_PTR_HEAD : FRef := ⟨.ring, 6, 17, 17⟩
/-- ring CQ_PTR_TAIL. -/
def ring_CQ_PTR_TAIL : FRef := ⟨.ring, 6, 0, 17⟩
/-- ring RING_STAT_NAKS. -/
def ring_RING_STAT_NAKS : FRef := ⟨.ring, 7, 27, 9⟩
/-- ring RING_STAT_STALLS. -/
def ring_RING_STAT_STALLS : FRef := ⟨.ring, 7, 18, 9⟩
/-- ring RING_STAT_STATE. -/
def ring_RING_STAT_STATE : FRef := ⟨.ring, 7, 0, 3⟩
/-- qdl DEV_ID_ASSIGNED. -/
def qdl_DEV_ID_ASSIGNED : FRef := ⟨.qdl, 0, 16, 1⟩
/-- qdl DEV_ID_ID. -/
def qdl_DEV_ID_ID : FRef := ⟨.qdl, 0, 0, 16⟩
/-- qdl ID_CFG_ROOT. -/
def qdl_ID_CFG_ROOT : FRef := ⟨.qdl, 1, 3, 1⟩
/-- qdl ID_CFG_MODE. -/
def qdl_ID_CFG_MODE : FRef := ⟨.qdl, 1, 0, 2⟩
/-- qdl SERIAL_LO. -/
def qdl_SERIAL_LO : FRef := ⟨.qdl, 2, 0, 36⟩
/-- qdl SERIAL_HI. -/
def qdl_SERIAL_HI : FRef := ⟨.qdl, 3, 0, 36⟩
/-- qdl TOPO_DIGEST_VAL. -/
def qdl_TOPO_DIGEST_VAL : FRef := ⟨.qdl, 4, 0, 32⟩
/-- qdl TOPO_STAT_MISSED. -/
def qdl_TOPO_STAT_MISSED : FRef := ⟨.qdl, 5, 11, 9⟩
/-- qdl TOPO_STAT_DUP. -/
def qdl_TOPO_STAT_DUP : FRef := ⟨.qdl, 5, 2, 9⟩
/-- qdl TOPO_STAT_SKIPPED. -/
def qdl_TOPO_STAT_SKIPPED : FRef := ⟨.qdl, 5, 1, 1⟩
/-- qdl TOPO_STAT_DONE. -/
def qdl_TOPO_STAT_DONE : FRef := ⟨.qdl, 5, 0, 1⟩
/-- qdl TIME_CFG_DOWN. -/
def qdl_TIME_CFG_DOWN : FRef := ⟨.qdl, 6, 4, 6⟩
/-- qdl TIME_CFG_UP_EN. -/
def qdl_TIME_CFG_UP_EN : FRef := ⟨.qdl, 6, 3, 1⟩
/-- qdl TIME_CFG_UP_LINK. -/
def qdl_TIME_CFG_UP_LINK : FRef := ⟨.qdl, 6, 0, 3⟩
/-- qdl MGMT_CTL_TRIP_MASK. -/
def qdl_MGMT_CTL_TRIP_MASK : FRef := ⟨.qdl, 7, 2, 4⟩
/-- qdl MGMT_CTL_PEER_ACT. -/
def qdl_MGMT_CTL_PEER_ACT : FRef := ⟨.qdl, 7, 0, 2⟩
/-- qdl MGMT_STAT_SAFE_RX. -/
def qdl_MGMT_STAT_SAFE_RX : FRef := ⟨.qdl, 8, 27, 9⟩
/-- qdl MGMT_STAT_DUP. -/
def qdl_MGMT_STAT_DUP : FRef := ⟨.qdl, 8, 18, 9⟩
/-- qdl MGMT_STAT_FENCE_FULL. -/
def qdl_MGMT_STAT_FENCE_FULL : FRef := ⟨.qdl, 8, 9, 9⟩
/-- qdl MGMT_STAT_TTL_DROP. -/
def qdl_MGMT_STAT_TTL_DROP : FRef := ⟨.qdl, 8, 0, 9⟩
/-- qdl DROP_STAT_NO_ROUTE. -/
def qdl_DROP_STAT_NO_ROUTE : FRef := ⟨.qdl, 9, 27, 9⟩
/-- qdl DROP_STAT_FENCED_DEST. -/
def qdl_DROP_STAT_FENCED_DEST : FRef := ⟨.qdl, 9, 18, 9⟩
/-- qdl DROP_STAT_UNBOUND. -/
def qdl_DROP_STAT_UNBOUND : FRef := ⟨.qdl, 9, 9, 9⟩
/-- qdl DROP_STAT_BAD_LOCAL. -/
def qdl_DROP_STAT_BAD_LOCAL : FRef := ⟨.qdl, 9, 0, 9⟩
/-- qdl VLOG_STAT_COUNT. -/
def qdl_VLOG_STAT_COUNT : FRef := ⟨.qdl, 10, 27, 9⟩
/-- qdl VLOG_STAT_LOST. -/
def qdl_VLOG_STAT_LOST : FRef := ⟨.qdl, 10, 18, 9⟩
/-- qdl VLOG_STAT_NEXT. -/
def qdl_VLOG_STAT_NEXT : FRef := ⟨.qdl, 10, 0, 4⟩
/-- qdl XECC. -/
def qdl_XECC : FRef := ⟨.qdl, 11, 0, 36⟩
/-- qdl PEER_FENCE_V. -/
def qdl_PEER_FENCE_V : FRef := ⟨.qdl, 32, 17, 1⟩
/-- qdl PEER_FENCE_PROXY. -/
def qdl_PEER_FENCE_PROXY : FRef := ⟨.qdl, 32, 16, 1⟩
/-- qdl PEER_FENCE_ID. -/
def qdl_PEER_FENCE_ID : FRef := ⟨.qdl, 32, 0, 16⟩
/-- qdl VLOG_CODE. -/
def qdl_VLOG_CODE : FRef := ⟨.qdl, 96, 28, 8⟩
/-- qdl VLOG_LINK. -/
def qdl_VLOG_LINK : FRef := ⟨.qdl, 96, 24, 4⟩
/-- qdl VLOG_VC. -/
def qdl_VLOG_VC : FRef := ⟨.qdl, 96, 22, 2⟩
/-- qdl VLOG_SRC. -/
def qdl_VLOG_SRC : FRef := ⟨.qdl, 96, 0, 16⟩
/-- qdl VLOG_TIME_F. -/
def qdl_VLOG_TIME_F : FRef := ⟨.qdl, 97, 0, 36⟩
/-- link LINK_CTL_PROXY. -/
def link_LINK_CTL_PROXY : FRef := ⟨.link, 0, 6, 1⟩
/-- link LINK_CTL_RETRAIN. -/
def link_LINK_CTL_RETRAIN : FRef := ⟨.link, 0, 5, 1⟩
/-- link LINK_CTL_MAX_WIDTH. -/
def link_LINK_CTL_MAX_WIDTH : FRef := ⟨.link, 0, 3, 2⟩
/-- link LINK_CTL_RATE. -/
def link_LINK_CTL_RATE : FRef := ⟨.link, 0, 2, 1⟩
/-- link LINK_CTL_EN. -/
def link_LINK_CTL_EN : FRef := ⟨.link, 0, 0, 1⟩
/-- link LINK_STAT_NBR_ID. -/
def link_LINK_STAT_NBR_ID : FRef := ⟨.link, 1, 20, 16⟩
/-- link LINK_STAT_NBR_LINK. -/
def link_LINK_STAT_NBR_LINK : FRef := ⟨.link, 1, 17, 3⟩
/-- link LINK_STAT_NBR_VALID. -/
def link_LINK_STAT_NBR_VALID : FRef := ⟨.link, 1, 16, 1⟩
/-- link LINK_STAT_WIDTH. -/
def link_LINK_STAT_WIDTH : FRef := ⟨.link, 1, 10, 3⟩
/-- link LINK_STAT_RATE. -/
def link_LINK_STAT_RATE : FRef := ⟨.link, 1, 9, 1⟩
/-- link LINK_STAT_REVERSED. -/
def link_LINK_STAT_REVERSED : FRef := ⟨.link, 1, 8, 1⟩
/-- link LINK_STAT_STATE. -/
def link_LINK_STAT_STATE : FRef := ⟨.link, 1, 0, 3⟩
/-- link DELAY_PS. -/
def link_DELAY_PS : FRef := ⟨.link, 2, 0, 20⟩
/-- link ERR_CRC. -/
def link_ERR_CRC : FRef := ⟨.link, 3, 27, 9⟩
/-- link ERR_REPLAY. -/
def link_ERR_REPLAY : FRef := ⟨.link, 3, 18, 9⟩
/-- link ERR_RETRAIN. -/
def link_ERR_RETRAIN : FRef := ⟨.link, 3, 9, 9⟩
/-- link ERR_ABORTS. -/
def link_ERR_ABORTS : FRef := ⟨.link, 3, 0, 9⟩
/-- link VIOL_COUNT. -/
def link_VIOL_COUNT : FRef := ⟨.link, 4, 27, 9⟩
/-- link VIOL_FENCES. -/
def link_VIOL_FENCES : FRef := ⟨.link, 4, 18, 9⟩
/-- link VIOL_NAK_RX. -/
def link_VIOL_NAK_RX : FRef := ⟨.link, 4, 9, 9⟩
/-- link CREDIT. -/
def link_CREDIT : FRef := ⟨.link, 5, 0, 36⟩
/-- link FLITS_TX. -/
def link_FLITS_TX : FRef := ⟨.link, 6, 0, 36⟩
/-- link FLITS_RX. -/
def link_FLITS_RX : FRef := ⟨.link, 7, 0, 36⟩
/-- route ROUTE_ALT_V. -/
def route_ROUTE_ALT_V : FRef := ⟨.route, 0, 7, 1⟩
/-- route ROUTE_ALT. -/
def route_ROUTE_ALT : FRef := ⟨.route, 0, 4, 3⟩
/-- route ROUTE_V. -/
def route_ROUTE_V : FRef := ⟨.route, 0, 3, 1⟩
/-- route ROUTE_LINK. -/
def route_ROUTE_LINK : FRef := ⟨.route, 0, 0, 3⟩
/-- pwr MODE_STEP. -/
def pwr_MODE_STEP : FRef := ⟨.pwr, 1, 5, 3⟩
/-- pwr MODE_SAFE_BOOT. -/
def pwr_MODE_SAFE_BOOT : FRef := ⟨.pwr, 1, 4, 1⟩
/-- pwr MODE_SAFE. -/
def pwr_MODE_SAFE : FRef := ⟨.pwr, 1, 3, 1⟩
/-- pwr MODE. -/
def pwr_MODE : FRef := ⟨.pwr, 1, 0, 3⟩
/-- pwr MODE_REQ_FORCE. -/
def pwr_MODE_REQ_FORCE : FRef := ⟨.pwr, 2, 3, 1⟩
/-- pwr MODE_REQ_MODE. -/
def pwr_MODE_REQ_MODE : FRef := ⟨.pwr, 2, 0, 3⟩
/-- pwr MODE_STAT. -/
def pwr_MODE_STAT : FRef := ⟨.pwr, 3, 0, 36⟩
/-- pwr WAKE_EN_PERST_N. -/
def pwr_WAKE_EN_PERST_N : FRef := ⟨.pwr, 4, 1, 1⟩
/-- pwr WAKE_EN_JASPER. -/
def pwr_WAKE_EN_JASPER : FRef := ⟨.pwr, 4, 0, 1⟩
/-- pwr WAKE_TIMER_MS. -/
def pwr_WAKE_TIMER_MS : FRef := ⟨.pwr, 5, 0, 32⟩
/-- pwr WAKE_REC0_CAUSE. -/
def pwr_WAKE_REC0_CAUSE : FRef := ⟨.pwr, 6, 28, 8⟩
/-- pwr WAKE_REC0_RULE. -/
def pwr_WAKE_REC0_RULE : FRef := ⟨.pwr, 6, 22, 6⟩
/-- pwr WAKE_REC0_FROM. -/
def pwr_WAKE_REC0_FROM : FRef := ⟨.pwr, 6, 19, 3⟩
/-- pwr WAKE_REC0_OUTCOME. -/
def pwr_WAKE_REC0_OUTCOME : FRef := ⟨.pwr, 6, 17, 2⟩
/-- pwr WAKE_REC0_NEW. -/
def pwr_WAKE_REC0_NEW : FRef := ⟨.pwr, 6, 16, 1⟩
/-- pwr WAKE_REC0_SEQ. -/
def pwr_WAKE_REC0_SEQ : FRef := ⟨.pwr, 6, 0, 16⟩
/-- pwr WAKE_REC1_AO_T. -/
def pwr_WAKE_REC1_AO_T : FRef := ⟨.pwr, 7, 0, 36⟩
/-- pwr WAKE_REC2_ASLEEP. -/
def pwr_WAKE_REC2_ASLEEP : FRef := ⟨.pwr, 8, 0, 36⟩
/-- pwr DOM_ON_LO. -/
def pwr_DOM_ON_LO : FRef := ⟨.pwr, 9, 0, 36⟩
/-- pwr DOM_ON_HI_ON. -/
def pwr_DOM_ON_HI_ON : FRef := ⟨.pwr, 10, 0, 14⟩
/-- pwr DOM_CTL_FORCE. -/
def pwr_DOM_CTL_FORCE : FRef := ⟨.pwr, 11, 7, 1⟩
/-- pwr DOM_CTL_ON. -/
def pwr_DOM_CTL_ON : FRef := ⟨.pwr, 11, 6, 1⟩
/-- pwr DOM_CTL_DOMAIN. -/
def pwr_DOM_CTL_DOMAIN : FRef := ⟨.pwr, 11, 0, 6⟩
/-- pwr DOM_STAT. -/
def pwr_DOM_STAT : FRef := ⟨.pwr, 12, 0, 36⟩
/-- pwr START_FAILS_SAFE_BOOT. -/
def pwr_START_FAILS_SAFE_BOOT : FRef := ⟨.pwr, 13, 4, 1⟩
/-- pwr START_FAILS_COLD. -/
def pwr_START_FAILS_COLD : FRef := ⟨.pwr, 13, 2, 2⟩
/-- pwr START_FAILS_WARM. -/
def pwr_START_FAILS_WARM : FRef := ⟨.pwr, 13, 0, 2⟩
/-- pwr THERM_CTL_BOOST_LIM. -/
def pwr_THERM_CTL_BOOST_LIM : FRef := ⟨.pwr, 14, 0, 8⟩
/-- pwr VCORE_CTL_BOOST. -/
def pwr_VCORE_CTL_BOOST : FRef := ⟨.pwr, 15, 16, 8⟩
/-- pwr VCORE_CTL_RUN_W. -/
def pwr_VCORE_CTL_RUN_W : FRef := ⟨.pwr, 15, 8, 8⟩
/-- pwr VCORE_CTL_RUN_E. -/
def pwr_VCORE_CTL_RUN_E : FRef := ⟨.pwr, 15, 0, 8⟩
/-- pwr VCORE_STAT_BIAS. -/
def pwr_VCORE_STAT_BIAS : FRef := ⟨.pwr, 16, 20, 2⟩
/-- pwr VCORE_STAT_AVS_FAIL_W. -/
def pwr_VCORE_STAT_AVS_FAIL_W : FRef := ⟨.pwr, 16, 19, 1⟩
/-- pwr VCORE_STAT_AVS_FAIL_E. -/
def pwr_VCORE_STAT_AVS_FAIL_E : FRef := ⟨.pwr, 16, 18, 1⟩
/-- pwr VCORE_STAT_RAMP_W. -/
def pwr_VCORE_STAT_RAMP_W : FRef := ⟨.pwr, 16, 17, 1⟩
/-- pwr VCORE_STAT_RAMP_E. -/
def pwr_VCORE_STAT_RAMP_E : FRef := ⟨.pwr, 16, 16, 1⟩
/-- pwr VCORE_STAT_READ_W. -/
def pwr_VCORE_STAT_READ_W : FRef := ⟨.pwr, 16, 8, 8⟩
/-- pwr VCORE_STAT_READ_E. -/
def pwr_VCORE_STAT_READ_E : FRef := ⟨.pwr, 16, 0, 8⟩
/-- pwr AO_TIME. -/
def pwr_AO_TIME : FRef := ⟨.pwr, 17, 0, 36⟩
/-- pwr RET_STAT_INPLACE. -/
def pwr_RET_STAT_INPLACE : FRef := ⟨.pwr, 18, 1, 1⟩
/-- pwr RET_STAT_VALID. -/
def pwr_RET_STAT_VALID : FRef := ⟨.pwr, 18, 0, 1⟩
/-- pwr TS_CRIT. -/
def pwr_TS_CRIT : FRef := ⟨.pwr, 32, 14, 1⟩
/-- pwr TS_OVER_BOOST. -/
def pwr_TS_OVER_BOOST : FRef := ⟨.pwr, 32, 13, 1⟩
/-- pwr TS_VALID. -/
def pwr_TS_VALID : FRef := ⟨.pwr, 32, 12, 1⟩
/-- pwr TS_TEMP. -/
def pwr_TS_TEMP : FRef := ⟨.pwr, 32, 0, 12⟩
/-- jsp ADC_CTL_PER. -/
def jsp_ADC_CTL_PER : FRef := ⟨.jsp, 0, 8, 12⟩
/-- jsp ADC_CTL_EN. -/
def jsp_ADC_CTL_EN : FRef := ⟨.jsp, 0, 0, 8⟩
/-- jsp DIN_INV_INV. -/
def jsp_DIN_INV_INV : FRef := ⟨.jsp, 1, 0, 16⟩
/-- jsp AIN_FILT_IIR_SH. -/
def jsp_AIN_FILT_IIR_SH : FRef := ⟨.jsp, 2, 2, 4⟩
/-- jsp AIN_FILT_MED. -/
def jsp_AIN_FILT_MED : FRef := ⟨.jsp, 2, 0, 2⟩
/-- jsp AIN_VAL_RAW. -/
def jsp_AIN_VAL_RAW : FRef := ⟨.jsp, 10, 16, 12⟩
/-- jsp AIN_VAL_FILT. -/
def jsp_AIN_VAL_FILT : FRef := ⟨.jsp, 10, 0, 12⟩
/-- jsp DIN_DEB. -/
def jsp_DIN_DEB : FRef := ⟨.jsp, 18, 16, 8⟩
/-- jsp DIN_WIN. -/
def jsp_DIN_WIN : FRef := ⟨.jsp, 18, 0, 16⟩
/-- jsp DIN_CNT_LEVEL. -/
def jsp_DIN_CNT_LEVEL : FRef := ⟨.jsp, 34, 16, 1⟩
/-- jsp DIN_CNT_COUNT. -/
def jsp_DIN_CNT_COUNT : FRef := ⟨.jsp, 34, 0, 16⟩
/-- jsp OUT_SAFE_N. -/
def jsp_OUT_SAFE_N : FRef := ⟨.jsp, 50, 4, 4⟩
/-- jsp OUT_JS_OUT. -/
def jsp_OUT_JS_OUT : FRef := ⟨.jsp, 50, 0, 4⟩
/-- jsp Q_LO. -/
def jsp_Q_LO : FRef := ⟨.jsp, 52, 0, 36⟩
/-- jsp Q_HI_Q. -/
def jsp_Q_HI_Q : FRef := ⟨.jsp, 53, 0, 28⟩
/-- jsp LATCH_LO. -/
def jsp_LATCH_LO : FRef := ⟨.jsp, 54, 0, 36⟩
/-- jsp LATCH_HI_LATCH. -/
def jsp_LATCH_HI_LATCH : FRef := ⟨.jsp, 55, 0, 28⟩
/-- jsp RULE_A_OP. -/
def jsp_RULE_A_OP : FRef := ⟨.jsp, 64, 33, 3⟩
/-- jsp RULE_A_SRC. -/
def jsp_RULE_A_SRC : FRef := ⟨.jsp, 64, 27, 6⟩
/-- jsp RULE_A_THR. -/
def jsp_RULE_A_THR : FRef := ⟨.jsp, 64, 15, 12⟩
/-- jsp RULE_A_CHAIN. -/
def jsp_RULE_A_CHAIN : FRef := ⟨.jsp, 64, 14, 1⟩
/-- jsp RULE_A_HSCALE. -/
def jsp_RULE_A_HSCALE : FRef := ⟨.jsp, 64, 12, 2⟩
/-- jsp RULE_A_HOLD. -/
def jsp_RULE_A_HOLD : FRef := ⟨.jsp, 64, 0, 12⟩
/-- jsp RULE_B_HYST. -/
def jsp_RULE_B_HYST : FRef := ⟨.jsp, 65, 24, 6⟩
/-- jsp RULE_B_MODES. -/
def jsp_RULE_B_MODES : FRef := ⟨.jsp, 65, 18, 5⟩
/-- jsp RULE_B_LATCH. -/
def jsp_RULE_B_LATCH : FRef := ⟨.jsp, 65, 16, 1⟩
/-- jsp RULE_B_LOG. -/
def jsp_RULE_B_LOG : FRef := ⟨.jsp, 65, 15, 1⟩
/-- jsp RULE_B_OUT_CLR. -/
def jsp_RULE_B_OUT_CLR : FRef := ⟨.jsp, 65, 11, 4⟩
/-- jsp RULE_B_OUT_SET. -/
def jsp_RULE_B_OUT_SET : FRef := ⟨.jsp, 65, 7, 4⟩
/-- jsp RULE_B_SAFE. -/
def jsp_RULE_B_SAFE : FRef := ⟨.jsp, 65, 3, 4⟩
/-- jsp RULE_B_WAKE. -/
def jsp_RULE_B_WAKE : FRef := ⟨.jsp, 65, 2, 1⟩
/-- jsp LOG0_RULE. -/
def jsp_LOG0_RULE : FRef := ⟨.jsp, 192, 30, 6⟩
/-- jsp LOG0_VALUE. -/
def jsp_LOG0_VALUE : FRef := ⟨.jsp, 192, 18, 12⟩
/-- jsp LOG0_MODE. -/
def jsp_LOG0_MODE : FRef := ⟨.jsp, 192, 15, 3⟩
/-- jsp LOG1_AO_T. -/
def jsp_LOG1_AO_T : FRef := ⟨.jsp, 193, 0, 36⟩
/-- jsp LOG_STAT_COUNT. -/
def jsp_LOG_STAT_COUNT : FRef := ⟨.jsp, 224, 27, 9⟩
/-- jsp LOG_STAT_LOST. -/
def jsp_LOG_STAT_LOST : FRef := ⟨.jsp, 224, 18, 9⟩
/-- jsp LOG_STAT_NEXT. -/
def jsp_LOG_STAT_NEXT : FRef := ⟨.jsp, 224, 0, 4⟩
/-- pwr START_CTL_RELOAD. -/
def pwr_START_CTL_RELOAD : FRef := ⟨.pwr, 64, 2, 1⟩
/-- pwr START_CTL_WARM. -/
def pwr_START_CTL_WARM : FRef := ⟨.pwr, 64, 1, 1⟩
/-- pwr START_CTL_COLD. -/
def pwr_START_CTL_COLD : FRef := ⟨.pwr, 64, 0, 1⟩
/-- pwr START_STAT_KIND. -/
def pwr_START_STAT_KIND : FRef := ⟨.pwr, 65, 33, 3⟩
/-- pwr START_STAT_STEP. -/
def pwr_START_STAT_STEP : FRef := ⟨.pwr, 65, 29, 4⟩
/-- pwr START_STAT_SLOT. -/
def pwr_START_STAT_SLOT : FRef := ⟨.pwr, 65, 28, 1⟩
/-- pwr START_STAT_SKIP_SCRUB. -/
def pwr_START_STAT_SKIP_SCRUB : FRef := ⟨.pwr, 65, 27, 1⟩
/-- pwr START_STAT_SKIP_IMAGE. -/
def pwr_START_STAT_SKIP_IMAGE : FRef := ⟨.pwr, 65, 26, 1⟩
/-- pwr START_STAT_SKIP_DISC. -/
def pwr_START_STAT_SKIP_DISC : FRef := ⟨.pwr, 65, 25, 1⟩
/-- pwr START_STAT_CAUSE. -/
def pwr_START_STAT_CAUSE : FRef := ⟨.pwr, 65, 21, 4⟩
/-- pwr START_STAT_REASON. -/
def pwr_START_STAT_REASON : FRef := ⟨.pwr, 65, 17, 4⟩
/-- pwr START_STAT_SECTION. -/
def pwr_START_STAT_SECTION : FRef := ⟨.pwr, 65, 0, 17⟩
/-- pwr IMAGE_ID. -/
def pwr_IMAGE_ID : FRef := ⟨.pwr, 66, 0, 36⟩
/-- pwr START_TIME_MS. -/
def pwr_START_TIME_MS : FRef := ⟨.pwr, 67, 0, 20⟩
/-- pwr SEC_AUTH_REQ. -/
def pwr_SEC_AUTH_REQ : FRef := ⟨.pwr, 68, 1, 1⟩
/-- pwr SEC_KEY_SET. -/
def pwr_SEC_KEY_SET : FRef := ⟨.pwr, 68, 0, 1⟩
/-- pwr OTP_CTL_AUTH. -/
def pwr_OTP_CTL_AUTH : FRef := ⟨.pwr, 69, 1, 1⟩
/-- pwr OTP_CTL_BURN. -/
def pwr_OTP_CTL_BURN : FRef := ⟨.pwr, 69, 0, 1⟩
/-- pwr OTP_KEY_VAL. -/
def pwr_OTP_KEY_VAL : FRef := ⟨.pwr, 72, 0, 32⟩
def clu_CONTAIN_ESC : FRef := ⟨.clu, 480, 18, 1⟩
end F

end Sys2Proof.Machine
end

