-- ==== Sys2Proof/Machine/Ops.lean ====
section
/-! DEFINITION. The operations that every meaning is made of: sparse lists, instances, registers by name, free values, and the memories
with the granule code (R319 to R324, R524). -/

set_option Elab.async false

namespace Sys2Proof.Machine

/-! ### Sparse lists -/

/-- The value at key `k`; `d` where the list has none. -/
def Sparse.get {α : Type} (d : α) (k : Nat) : List (Nat × α) → α
  | [] => d
  | (j, v) :: l => if j = k then v else Sparse.get d k l

/-- The list with `v` at key `k`, keeping keys rising and listing no default. -/
def Sparse.put {α : Type} [DecidableEq α] (d : α) (k : Nat) (v : α) : List (Nat × α) → List (Nat × α)
  | [] => if v = d then [] else [(k, v)]
  | (j, w) :: l =>
    if k < j then (if v = d then (j, w) :: l else (k, v) :: (j, w) :: l)
    else if k = j then (if v = d then l else (k, v) :: l)
    else (j, w) :: Sparse.put d k v l

/-- The canonical form: keys strictly rising, every key at least `lo`, no value equal to `d k`. -/
def Sparse.wf {α : Type} [DecidableEq α] (d : Nat → α) (lo : Nat) : List (Nat × α) → Bool
  | [] => true
  | (j, v) :: l => decide (lo ≤ j) && decide (v ≠ d j) && Sparse.wf d (j + 1) l

/-- A rising list of numbers with `k` in it. -/
def insertNat (k : Nat) : List Nat → List Nat
  | [] => [k]
  | j :: l => if k < j then k :: j :: l else if k = j then j :: l else j :: insertNat k l

/-- `n` applications of `f`. -/
def times {α : Type} (f : α → α) : Nat → α → α
  | 0, x => x
  | n + 1, x => times f n (f x)

/-- `f` applied for each number below `n`, rising. -/
def forN {α : Type} (n : Nat) (f : Nat → α → α) (x : α) : α := (List.range n).foldl (fun y i => f i y) x

/-! ### Instances -/

/-- Instance `k` of ctxs. -/
def State.ctx (s : State) (k : Nat) : Ctx := Sparse.get Ctx.init k s.ctxs
/-- Instance `k` of ctxs set to `x`. -/
def State.setCtx (k : Nat) (x : Ctx) (s : State) : State := { s with ctxs := Sparse.put Ctx.init k x s.ctxs }
/-- Instance `k` of ctxs changed by `f`. -/
def State.modCtx (k : Nat) (f : Ctx → Ctx) (s : State) : State := s.setCtx k (f (s.ctx k))

/-- Instance `k` of units. -/
def State.unit (s : State) (k : Nat) : UnitSt := Sparse.get UnitSt.init k s.units
/-- Instance `k` of units set to `x`. -/
def State.setUnit (k : Nat) (x : UnitSt) (s : State) : State := { s with units := Sparse.put UnitSt.init k x s.units }
/-- Instance `k` of units changed by `f`. -/
def State.modUnit (k : Nat) (f : UnitSt → UnitSt) (s : State) : State := s.setUnit k (f (s.unit k))

/-- Instance `k` of heaps. -/
def State.heap (s : State) (k : Nat) : Heap := Sparse.get Heap.init k s.heaps
/-- Instance `k` of heaps set to `x`. -/
def State.setHeap (k : Nat) (x : Heap) (s : State) : State := { s with heaps := Sparse.put Heap.init k x s.heaps }
/-- Instance `k` of heaps changed by `f`. -/
def State.modHeap (k : Nat) (f : Heap → Heap) (s : State) : State := s.setHeap k (f (s.heap k))

/-- Instance `k` of tbs. -/
def State.tb (s : State) (k : Nat) : Tb := Sparse.get Tb.init k s.tbs
/-- Instance `k` of tbs set to `x`. -/
def State.setTb (k : Nat) (x : Tb) (s : State) : State := { s with tbs := Sparse.put Tb.init k x s.tbs }
/-- Instance `k` of tbs changed by `f`. -/
def State.modTb (k : Nat) (f : Tb → Tb) (s : State) : State := s.setTb k (f (s.tb k))

/-- Instance `k` of queues. -/
def State.queue (s : State) (k : Nat) : Queue := Sparse.get Queue.init k s.queues
/-- Instance `k` of queues set to `x`. -/
def State.setQueue (k : Nat) (x : Queue) (s : State) : State := { s with queues := Sparse.put Queue.init k x s.queues }
/-- Instance `k` of queues changed by `f`. -/
def State.modQueue (k : Nat) (f : Queue → Queue) (s : State) : State := s.setQueue k (f (s.queue k))

/-- Instance `k` of xings. -/
def State.xing (s : State) (k : Nat) : Xing := Sparse.get Xing.init k s.xings
/-- Instance `k` of xings set to `x`. -/
def State.setXing (k : Nat) (x : Xing) (s : State) : State := { s with xings := Sparse.put Xing.init k x s.xings }
/-- Instance `k` of xings changed by `f`. -/
def State.modXing (k : Nat) (f : Xing → Xing) (s : State) : State := s.setXing k (f (s.xing k))

/-- Instance `k` of grps. -/
def State.grp (s : State) (k : Nat) : Grp := Sparse.get Grp.init k s.grps
/-- Instance `k` of grps set to `x`. -/
def State.setGrp (k : Nat) (x : Grp) (s : State) : State := { s with grps := Sparse.put Grp.init k x s.grps }
/-- Instance `k` of grps changed by `f`. -/
def State.modGrp (k : Nat) (f : Grp → Grp) (s : State) : State := s.setGrp k (f (s.grp k))

/-- Instance `k` of chans. -/
def State.chan (s : State) (k : Nat) : Chan := Sparse.get Chan.init k s.chans
/-- Instance `k` of chans set to `x`. -/
def State.setChan (k : Nat) (x : Chan) (s : State) : State := { s with chans := Sparse.put Chan.init k x s.chans }
/-- Instance `k` of chans changed by `f`. -/
def State.modChan (k : Nat) (f : Chan → Chan) (s : State) : State := s.setChan k (f (s.chan k))

/-- Instance `k` of comps. -/
def State.comp (s : State) (k : Nat) : Comp := Sparse.get Comp.init k s.comps
/-- Instance `k` of comps set to `x`. -/
def State.setComp (k : Nat) (x : Comp) (s : State) : State := { s with comps := Sparse.put Comp.init k x s.comps }
/-- Instance `k` of comps changed by `f`. -/
def State.modComp (k : Nat) (f : Comp → Comp) (s : State) : State := s.setComp k (f (s.comp k))

/-- Instance `k` of encs. -/
def State.enc (s : State) (k : Nat) : Enc := Sparse.get Enc.init k s.encs
/-- Instance `k` of encs set to `x`. -/
def State.setEnc (k : Nat) (x : Enc) (s : State) : State := { s with encs := Sparse.put Enc.init k x s.encs }
/-- Instance `k` of encs changed by `f`. -/
def State.modEnc (k : Nat) (f : Enc → Enc) (s : State) : State := s.setEnc k (f (s.enc k))

/-- Instance `k` of trks. -/
def State.trk (s : State) (k : Nat) : Trk := Sparse.get Trk.init k s.trks
/-- Instance `k` of trks set to `x`. -/
def State.setTrk (k : Nat) (x : Trk) (s : State) : State := { s with trks := Sparse.put Trk.init k x s.trks }
/-- Instance `k` of trks changed by `f`. -/
def State.modTrk (k : Nat) (f : Trk → Trk) (s : State) : State := s.setTrk k (f (s.trk k))

/-- Instance `k` of evts. -/
def State.evt (s : State) (k : Nat) : EvtSrc := Sparse.get EvtSrc.init k s.evts
/-- Instance `k` of evts set to `x`. -/
def State.setEvt (k : Nat) (x : EvtSrc) (s : State) : State := { s with evts := Sparse.put EvtSrc.init k x s.evts }
/-- Instance `k` of evts changed by `f`. -/
def State.modEvt (k : Nat) (f : EvtSrc → EvtSrc) (s : State) : State := s.setEvt k (f (s.evt k))

/-- Instance `k` of evPins. -/
def State.evPin (s : State) (k : Nat) : Pin := Sparse.get Pin.init k s.evPins
/-- Instance `k` of evPins set to `x`. -/
def State.setEvPin (k : Nat) (x : Pin) (s : State) : State := { s with evPins := Sparse.put Pin.init k x s.evPins }
/-- Instance `k` of evPins changed by `f`. -/
def State.modEvPin (k : Nat) (f : Pin → Pin) (s : State) : State := s.setEvPin k (f (s.evPin k))

/-- Instance `k` of gens. -/
def State.gen (s : State) (k : Nat) : Gen := Sparse.get Gen.init k s.gens
/-- Instance `k` of gens set to `x`. -/
def State.setGen (k : Nat) (x : Gen) (s : State) : State := { s with gens := Sparse.put Gen.init k x s.gens }
/-- Instance `k` of gens changed by `f`. -/
def State.modGen (k : Nat) (f : Gen → Gen) (s : State) : State := s.setGen k (f (s.gen k))

/-- Instance `k` of banks. -/
def State.bank (s : State) (k : Nat) : Bank := Sparse.get Bank.init k s.banks
/-- Instance `k` of banks set to `x`. -/
def State.setBank (k : Nat) (x : Bank) (s : State) : State := { s with banks := Sparse.put Bank.init k x s.banks }
/-- Instance `k` of banks changed by `f`. -/
def State.modBank (k : Nat) (f : Bank → Bank) (s : State) : State := s.setBank k (f (s.bank k))

/-- Instance `k` of dma. -/
def State.chDma (s : State) (k : Nat) : Dma := Sparse.get Dma.init k s.dma
/-- Instance `k` of dma set to `x`. -/
def State.setChDma (k : Nat) (x : Dma) (s : State) : State := { s with dma := Sparse.put Dma.init k x s.dma }
/-- Instance `k` of dma changed by `f`. -/
def State.modChDma (k : Nat) (f : Dma → Dma) (s : State) : State := s.setChDma k (f (s.chDma k))

/-- Instance `k` of links. -/
def State.link (s : State) (k : Nat) : Link := Sparse.get Link.init k s.links
/-- Instance `k` of links set to `x`. -/
def State.setLink (k : Nat) (x : Link) (s : State) : State := { s with links := Sparse.put Link.init k x s.links }
/-- Instance `k` of links changed by `f`. -/
def State.modLink (k : Nat) (f : Link → Link) (s : State) : State := s.setLink k (f (s.link k))

/-! ### Free values -/

/-- A free choice, and the state with the counter advanced (log entry 5). -/
def State.anyBool (s : State) : Bool × State := (Config.freeBool s.free, { s with free := s.free + 1 })

/-- A free number below `n` (`n` > 0), and the state with the counter advanced (log entry 5). -/
def State.anyBelow (n : Nat) (s : State) : Nat × State := (Config.freeNat s.free % n, { s with free := s.free + 1 })

/-- A fresh number that orders requests and preemptions (R176), and the state with the counter advanced (log entry 6). -/
def State.nextOrder (s : State) : Nat × State := (s.order, { s with order := s.order + 1 })

/-! ### Registers -/

/-- The value held for register `k`. -/
def State.reg (s : State) (k : Nat) : Word := Sparse.get (resetWord k) k s.regs

/-- Register `k` holding `v`. -/
def State.setReg (k : Nat) (v : Word) (s : State) : State := { s with regs := Sparse.put (resetWord k) k v s.regs }

/-- Bits `lo + n - 1 : lo` of a word. -/
def bits (w : Word) (lo n : Nat) : Nat := w.toNat / 2 ^ lo % 2 ^ n

/-- A word with its bits `lo + n - 1 : lo` replaced. -/
def setBits (w : Word) (lo n v : Nat) : Word :=
  BitVec.ofNat 36 (w.toNat - bits w lo n * 2 ^ lo + v % 2 ^ n * 2 ^ lo)

/-- Field `f` of instance `i`. -/
def rd (f : FRef) (i : Nat) (s : State) : Nat := bits (s.reg (keyOf f.b i f.o)) f.lo f.w

/-- Field `f` of instance `i` set to `v` by the device. -/
def wr (f : FRef) (i v : Nat) (s : State) : State :=
  s.setReg (keyOf f.b i f.o) (setBits (s.reg (keyOf f.b i f.o)) f.lo f.w v)

/-- A one-bit field read as a truth value. -/
def rdB (f : FRef) (i : Nat) (s : State) : Bool := rd f i s == 1

/-- A whole-word field as a word. -/
def rdW (f : FRef) (i : Nat) (s : State) : Word := s.reg (keyOf f.b i f.o)

/-- A signed field. -/
def rdZ (f : FRef) (i : Nat) (s : State) : Int :=
  let v := rd f i s
  if v < 2 ^ (f.w - 1) then (v : Int) else (v : Int) - 2 ^ f.w

/-- The low `n` bits of an integer, as a number. -/
def lowBits (n : Nat) (x : Int) : Nat := (x % (2 ^ n : Int)).toNat

/-- The word that holds an integer in two's complement. -/
def wordOf (x : Int) : Word := BitVec.ofNat 36 (lowBits 36 x)

/-- A counter field one higher, saturating at its maximum. -/
def bumpBy (f : FRef) (i n : Nat) (s : State) : State := wr f i (min (rd f i s + n) (2 ^ f.w - 1)) s

/-- A counter field one higher, saturating at its maximum. -/
def bump (f : FRef) (i : Nat) (s : State) : State := bumpBy f i 1 s

/-! ### Power domains (Tables AR-3, MF-1, PW-4) -/

/-- Domain `d` is on (PWR.DOM_ON). -/
def domOn (d : Nat) (s : State) : Bool :=
  if d < 36 then (rd F.pwr_DOM_ON_LO 0 s).testBit d else (rd F.pwr_DOM_ON_HI_ON 0 s).testBit (d - 36)

/-- Domain `d` shown on or off. -/
def setDom (d : Nat) (on : Bool) (s : State) : State :=
  if d < 36 then wr ⟨.pwr, 9, d, 1⟩ 0 (if on then 1 else 0) s else wr ⟨.pwr, 10, d - 36, 1⟩ 0 (if on then 1 else 0) s

/-- The measurement-front domain of group `g` (Table MF-1). -/
def grpDomain (g : Nat) : Nat := 32 + g / 3
/-- The measurement-front domain of channel `c`. -/
def chanDomain (c : Nat) : Nat := grpDomain (c / 8)
/-- The measurement-front domain of comparator `n`. -/
def compDomain (n : Nat) : Nat := 32 + n / 12
/-- The measurement-front domain of encoder interface `n`. -/
def encDomain (n : Nat) : Nat := 32 + n / 4
/-- The measurement-front domain of a tracker. -/
def trkDomain (r : Nat) : Nat := if r < 4 then 33 else 35
/-- The domain of bank `b` (R292). -/
def bankDomain (b : Nat) : Nat := 36 + b

/-- The switched domain that a register block lies in; none for the always-on domain. -/
def blkDomain (b : Blk) (i : Nat) : Option Nat :=
  match b with
  | .pwr | .jsp => none
  | .tbu | .tb | .mfr | .evo | .qdl | .route => some 48
  | .grp => some (grpDomain i)
  | .chan => some (chanDomain i)
  | .comp => some (compDomain i)
  | .enc => some (encDomain i)
  | .rt | .gt => some (trkDomain i)
  | .bank => some (bankDomain i)
  | .gen => some (bankDomain (i / 16))
  | .pin => some (bankDomain (i / 32))
  | .dma | .cq | .ch => some 40
  | .hst | .ring => some 41
  | .link => some (42 + i)
  | .sch => some (48 + i / 4)
  | .sctx => some (48 + i / 2048)
  | .qpl => some (48 + i)
  | .desc => some (48 + i / 4096)
  | .clu => some i

/-- The block is powered (R342). -/
def blkOn (b : Blk) (i : Nat) (s : State) : Bool :=
  match blkDomain b i with
  | none => true
  | some d => domOn d s

/-! ### Device time (R222 to R225) -/

/-- TIME_F: bits 2⁻¹ to 2⁻³⁶ s of device time. -/
def State.timeF (s : State) : Nat := s.clock.dev / 2 ^ 29 % 2 ^ 36

/-- TIME_S: whole seconds of device time. -/
def State.timeS (s : State) : Nat := s.clock.dev / 2 ^ 65 % 2 ^ 36

/-- TIME_F as a word. -/
def State.timeFW (s : State) : Word := BitVec.ofNat 36 s.timeF

/-! ### The granule code (R319 to R322, R524) -/

/-- g(x) = (x + 1)(x⁹ + x⁴ + 1)(x⁹ + x⁶ + x⁴ + x³ + 1): bit i is the coefficient of xⁱ. -/
def codeGen : Nat := 0xDBE5B

/-- x · p(x) mod g(x). -/
def codeShift (p : Nat) : Nat := if p < 2 ^ 18 then 2 * p else (2 * p) ^^^ codeGen

/-- xⁱ mod g(x), for i from the given one on, `n` of them. -/
def codePowers : Nat → Nat → List Nat
  | 0, _ => []
  | n + 1, p => p :: codePowers n (codeShift p)

/-- The syndromes of the 276 single errors. -/
def codeSyndromes : List Nat := codePowers 276 1

/-- The syndrome of an error mask (bit i: position i is in error). -/
def codeSyndrome (mask : Nat) : Nat :=
  (codeSyndromes.zipIdx.foldl (fun acc x => if mask.testBit x.2 then acc ^^^ x.1 else acc) 0)

/-- A pattern of at most two errors with the given syndrome: its mask and weight. -/
def codePattern (syn : Nat) : Option (Nat × Nat) :=
  if syn = 0 then some (0, 0)
  else match codeSyndromes.findIdx? (· == syn) with
    | some i => some (2 ^ i, 1)
    | none =>
      codeSyndromes.zipIdx.findSome? (fun x =>
        (codeSyndromes.findIdx? (· == (syn ^^^ x.1))).map (fun j => (2 ^ x.2 ^^^ 2 ^ j, 2)))

/-- Table MM-1. -/
inductive Decoded where
  | clean | one | two | poisoned | bad
deriving DecidableEq, Repr

/-- The data bits of a mask of codeword positions: positions 19 to 274. -/
def codeData (mask : Nat) : Granule := BitVec.ofNat 256 (mask / 2 ^ 19)

/-- R321, R322, R524: what a decode of the codeword of `data`, `pb` with the errors `err` finds and delivers: the outcome, the data, the
poison bit, and the number of bits corrected. -/
def decodeCode (data : Granule) (pb : Bool) (err : Nat) : Decoded × Granule × Bool × Nat :=
  if err = 0 then (if pb then .poisoned else .clean, data, pb, 0)
  else match codePattern (codeSyndrome err) with
    | none => (.bad, data ^^^ codeData err, true, 0)
    | some (p, n) =>
      let left := err ^^^ p
      let pb' := pb != left.testBit 275
      (if pb' then .poisoned else if n = 2 then .two else if n = 1 then .one else .clean, data ^^^ codeData left, pb', n)

/-! ### Memories

Granules are numbered over the whole device: cluster c's data SRAM from 32,768 c, its instruction store from 2²⁰ + 65,536 c, the keep
store from 3 × 2²⁰. Byte b of granule g is address 32 g + b (R5). -/

/-- The first instruction store granule. -/
def imemBase : Nat := 2 ^ 20
/-- The first keep-store granule. -/
def keepBase : Nat := 3 * 2 ^ 20

/-- The data SRAM granule `g` of cluster `c`. -/
def dmemG (c g : Nat) : Nat := 32768 * c + g
/-- The instruction store granule `g` of cluster `c`. -/
def imemG (c g : Nat) : Nat := imemBase + 65536 * c + g
/-- Keep-store granule `g`. -/
def keepG (g : Nat) : Nat := keepBase + g

/-- What a byte that nothing has written reads as (log entry 2). -/
def memDefault : BitVec 8 := 0

/-- The canonical form of memory: addresses strictly rising, and no byte equal to what an unlisted address reads as. -/
def Memory.wf (m : List Host.Cell) : Bool := Sparse.wf (fun _ => memDefault) 0 m

/-- One byte of memory. -/
def State.byte (s : State) (a : Nat) : BitVec 8 := Sparse.get memDefault a s.mem

/-- One byte of memory written. -/
def State.setByte (a : Nat) (v : BitVec 8) (s : State) : State := { s with mem := Sparse.put memDefault a v s.mem }

/-- The 256 data bits stored for granule `g`, before any error. -/
def State.granBits (s : State) (g : Nat) : Granule :=
  BitVec.ofNat 256 ((List.range 32).foldl (fun acc b => acc + (s.byte (32 * g + b)).toNat * 256 ^ b) 0)

/-- The 256 data bits of granule `g` stored. -/
def State.setGranBits (g : Nat) (v : Granule) (s : State) : State :=
  forN 32 (fun b s => s.setByte (32 * g + b) (BitVec.ofNat 8 (v.toNat / 256 ^ b))) s

/-- PB of granule `g`. -/
def State.pb (s : State) (g : Nat) : Bool := s.poison.contains g

/-- PB of granule `g` stored. -/
def State.setPb (g : Nat) (v : Bool) (s : State) : State :=
  { s with poison := if v then insertNat g s.poison else s.poison.filter (· ≠ g) }

/-- The error mask of granule `g`. -/
def State.err (s : State) (g : Nat) : Nat := Sparse.get 0 g s.errs

/-- The error mask of granule `g` stored. -/
def State.setErr (g m : Nat) (s : State) : State := { s with errs := Sparse.put 0 g m s.errs }

/-- A valid codeword stored whole. -/
def State.setCode (g : Nat) (v : Granule) (pb : Bool) (s : State) : State := ((s.setGranBits g v).setPb g pb).setErr g 0

/-- Where a memory counts: the block and instance of its registers, the words of its ECC and ERR_ADDR registers, and the granule's number
within the memory (Table MM-11, R345). -/
def eccRef (g : Nat) : Blk × Nat × Nat × Nat × Nat :=
  if g < imemBase then (.clu, g / 32768, 0, 2, g % 32768)
  else if g < keepBase then (.clu, (g - imemBase) / 65536, 1, 3, (g - imemBase) % 65536)
  else (.pwr, 0, 482, 483, g - keepBase)

/-- Granule `g` lies in an instruction store. -/
def isImem (g : Nat) : Bool := decide (imemBase ≤ g ∧ g < keepBase)

/-- R333, R334: a program of an instruction-store granule is counted in IMEM_WR; its verify is due. -/
def countProgram (g : Nat) (s : State) : State :=
  if isImem g then bump F.clu_IMEM_WR ((g - imemBase) / 65536) { s with program := s.program ++ [{ g := g, n := 1, by_ := 0 }] } else s

/-- R171: the programs after the first `n` are those of owner `b`. -/
def State.claimPrograms (s : State) (n b : Nat) : State :=
  { s with program := s.program.take n ++ (s.program.drop n).map (fun p => { p with by_ := b }) }

/-- R324: the counter of a decode outcome, and ERR_ADDR with the later outcome of no lower type. -/
def countDecode (g : Nat) (d : Decoded) (s : State) : State :=
  let (b, i, ow, oa, lg) := eccRef g
  let note (t : Nat) (s : State) : State :=
    if rd ⟨b, oa, 33, 3⟩ i s ≤ t then wr ⟨b, oa, 0, 16⟩ i lg (wr ⟨b, oa, 33, 3⟩ i t s) else s
  match d with
  | .clean => s
  | .one => bump ⟨b, ow, 27, 9⟩ i s
  | .two => note 2 (bump ⟨b, ow, 18, 9⟩ i s)
  | .bad => note 4 (bump ⟨b, ow, 9, 9⟩ i s)
  | .poisoned => note 3 (bump ⟨b, ow, 0, 9⟩ i s)

/-- R323, Table MM-2: whether a correction of `n` bits is written back. -/
def writesBack (g n : Nat) (s : State) : Bool :=
  if isImem g then
    decide (n = 2) || (decide (n = 1) && rd F.clu_SCRUB_CTL_IMEM_THR ((g - imemBase) / 65536) s == 1)
  else decide (0 < n)

/-- What a read of a granule delivers. -/
structure MemRead where
  out  : Decoded
  data : Granule
  pb   : Bool
  st   : State

/-- A read of granule `g`: the decode, its counters and the write-back (R321 to R324). -/
def readGran (g : Nat) (s : State) : MemRead :=
  let (d, v, p, n) := decodeCode (s.granBits g) (s.pb g) (s.err g)
  let s1 := countDecode g d s
  let s2 := if d = .bad ∨ writesBack g n s1 then countProgram g (s1.setCode g v p) else s1
  { out := d, data := v, pb := p, st := s2 }

/-- R320, R330: a whole-granule write; it replaces data, tag and poison. -/
def writeGran (g : Nat) (v : Granule) (pb : Bool) (s : State) : State := countProgram g (s.setCode g v pb)

/-- R320, R322, R330: a write that merges into a stored granule: read, merge, recompute the check bits; PB stays. -/
def mergeGran (g : Nat) (f : Granule → Granule) (s : State) : State :=
  let r := readGran g s
  countProgram g (r.st.setCode g (f r.data) r.pb)

/-! ### Words in granules (R4, R325) -/

/-- Word `i` of a granule. -/
def granWord (v : Granule) (i : Nat) : Word := BitVec.ofNat 36 (v.toNat / 2 ^ (36 * i))

/-- A granule with its bits `lo + n - 1 : lo` replaced. -/
def granPut (v : Granule) (lo n x : Nat) : Granule :=
  BitVec.ofNat 256 (v.toNat - v.toNat / 2 ^ lo % 2 ^ n * 2 ^ lo + x % 2 ^ n * 2 ^ lo)

/-- A granule with word `i` replaced. -/
def granSetWord (v : Granule) (i : Nat) (w : Word) : Granule := granPut v (36 * i) 36 w.toNat

/-- The tag of a granule. -/
def granTag (v : Granule) : Nat := v.toNat / 2 ^ 252

/-- A granule of the given words (at most seven, the rest 0) and tag. -/
def granOf (ws : List Word) (tag : Nat) : Granule :=
  BitVec.ofNat 256 (((ws.take 7).zipIdx.foldl (fun acc x => acc + x.1.toNat * 2 ^ (36 * x.2)) 0) + tag % 16 * 2 ^ 252)

/-- Words 0 to n − 1 of a granule. -/
def granWords (v : Granule) (n : Nat) : List Word := (List.range n).map (granWord v)

end Sys2Proof.Machine
end

