-- ==== Sys2Proof/Machine/Operands.lean ====
section
/-! DEFINITION. FJ36 words (chapter 03): mnemonics, formats, every operand form, and the checks of decode. -/

set_option Elab.async false

namespace Sys2Proof.Machine

/-- The mnemonics of FJ36 (Tables EN-9, EN-11 to EN-13). -/
inductive Mn where
  | add | sub | adds | subs | andW | orW | xorW | andn | neg | negs | abs | abss | minS | maxS | minu | maxu
  | sll | srl | sra | rol | ceq | cne | clt | cle | cltu | cleu | nex | nin | clz | popc | bfx | addi
  | addsi | andi | ori | xori | lui | orhi | slli | srli | srai | roli | ceqi | cnei | clti | clei | cgti | cgei
  | cltui | cgeui | mini | maxi | ld | ldnu | ldns | ld2 | ldt | st | stn | st2 | ldx | stx | br | call
  | jr | callr | ret | dbnz | arm | armi | dline | disarm | mul | mulh | mulhu | mulq | mfa | mta | div | divu
  | sqrt | rsqrt | sincos | push | pop | popw | qstat | qflush | qmark | qrew | mfc | mtc | sleep | trap | mov | addq
  | movq | andq | orq | xorq | nop | sllq | srlq | sraq | mac | msu | macz | msuz | sync | syncI | fence | waitl
  | yield
deriving DecidableEq, Repr

/-- The forms of Table EN-10. -/
inductive Form where
  | rr | ru | rn | rb | is | iz | ih | ic | bo | ji | jc | jn | ar | dl | da | ma | mf | mt | qp | qr | qn | cr | cw | sy | sl | tr
deriving DecidableEq, Repr

/-- Table EN-9: a long opcode that names one mnemonic. -/
def longOp (op : Nat) : Option Mn :=
  match op with
  | 0 => some .add
  | 1 => some .sub
  | 2 => some .adds
  | 3 => some .subs
  | 4 => some .andW
  | 5 => some .orW
  | 6 => some .xorW
  | 7 => some .andn
  | 8 => some .neg
  | 9 => some .negs
  | 10 => some .abs
  | 11 => some .abss
  | 12 => some .minS
  | 13 => some .maxS
  | 14 => some .minu
  | 15 => some .maxu
  | 16 => some .sll
  | 17 => some .srl
  | 18 => some .sra
  | 19 => some .rol
  | 20 => some .ceq
  | 21 => some .cne
  | 22 => some .clt
  | 23 => some .cle
  | 24 => some .cltu
  | 25 => some .cleu
  | 26 => some .nex
  | 27 => some .nin
  | 28 => some .clz
  | 29 => some .popc
  | 30 => some .bfx
  | 32 => some .addi
  | 33 => some .addsi
  | 34 => some .andi
  | 35 => some .ori
  | 36 => some .xori
  | 37 => some .lui
  | 38 => some .orhi
  | 39 => some .slli
  | 40 => some .srli
  | 41 => some .srai
  | 42 => some .roli
  | 43 => some .ceqi
  | 44 => some .cnei
  | 45 => some .clti
  | 46 => some .clei
  | 47 => some .cgti
  | 48 => some .cgei
  | 49 => some .cltui
  | 50 => some .cgeui
  | 51 => some .mini
  | 52 => some .maxi
  | 64 => some .ld
  | 65 => some .ldnu
  | 66 => some .ldns
  | 67 => some .ld2
  | 68 => some .ldt
  | 72 => some .st
  | 73 => some .stn
  | 74 => some .st2
  | 76 => some .ldx
  | 77 => some .stx
  | 80 => some .br
  | 81 => some .call
  | 82 => some .jr
  | 83 => some .callr
  | 84 => some .ret
  | 85 => some .dbnz
  | 86 => some .arm
  | 87 => some .armi
  | 88 => some .dline
  | 89 => some .disarm
  | 96 => some .mul
  | 97 => some .mulh
  | 98 => some .mulhu
  | 99 => some .mulq
  | 101 => some .mfa
  | 102 => some .mta
  | 104 => some .div
  | 105 => some .divu
  | 106 => some .sqrt
  | 107 => some .rsqrt
  | 108 => some .sincos
  | 112 => some .push
  | 113 => some .pop
  | 114 => some .popw
  | 115 => some .qstat
  | 116 => some .qflush
  | 117 => some .qmark
  | 118 => some .qrew
  | 120 => some .mfc
  | 121 => some .mtc
  | 123 => some .sleep
  | 124 => some .trap
  | _ => none

/-- Table EN-11, Table EN-12: the MAC group (o144) and the SYS group (o172) name their mnemonic in func. -/
def groupOp (op func : Nat) : Option Mn :=
  if op = 100 then
    match func / 2 % 4 with
    | 0 => some .mac | 1 => some .msu | 2 => some .macz | _ => some .msuz
  else if op = 122 then
    match func with
    | 0 => some .sync | 1 => some .syncI | 2 => some .fence | 3 => some .waitl | 4 => some .yield | _ => none
  else none

/-- Table EN-10: the form of a long opcode. -/
def formOf (op : Nat) : Option Form :=
  match op with
  | 0 | 1 | 2 | 3 | 4 | 5 | 6 | 7 | 12 | 13 | 14 | 15 | 16 | 17 | 18 | 19 | 20 | 21 | 22 | 23 | 24 | 25 | 76 | 77 | 96 | 97 | 98 | 99 | 104 | 105 => some .rr
  | 8 | 9 | 10 | 11 | 28 | 29 | 106 | 107 | 108 => some .ru
  | 26 | 27 => some .rn
  | 30 => some .rb
  | 32 | 33 | 43 | 44 | 45 | 46 | 47 | 48 | 51 | 52 | 64 | 65 | 66 | 67 | 68 | 72 | 73 | 74 => some .is
  | 34 | 35 | 36 | 38 | 49 | 50 => some .iz
  | 37 => some .ih
  | 39 | 40 | 41 | 42 => some .ic
  | 80 | 81 => some .bo
  | 82 | 83 => some .ji
  | 84 => some .jn
  | 85 => some .jc
  | 86 | 87 => some .ar
  | 88 => some .dl
  | 89 => some .da
  | 101 => some .mf
  | 102 => some .mt
  | 112 => some .qp
  | 113 | 114 | 115 | 118 => some .qr
  | 116 | 117 => some .qn
  | 120 => some .cr
  | 121 => some .cw
  | 123 => some .sl
  | 124 => some .tr
  | 100 => some .ma
  | 122 => some .sy
  | _ => none

/-- One operation of a word: its mnemonic, opcode and fields. `imm` is imm14, off24 or q as it stands in the word; `short` tells a slot. -/
structure Op where
  mn    : Mn
  short : Bool
  code  : Nat
  rd    : Nat
  rs1   : Nat
  rs2   : Nat
  func  : Nat
  imm   : Nat
deriving DecidableEq, Repr

/-- A reason of Table EN-16 against a slot, with FRC.DETAIL. -/
structure Illegal where
  reason : Nat
  slot   : Nat
  detail : Nat
deriving DecidableEq, Repr

/-- A word that passes decode: its condition and its slots. -/
inductive Fj where
  | one (c : Nat) (o : Op)
  | two (c : Nat) (k : Bool) (a b : Op)
deriving DecidableEq, Repr

/-- R77: the condition C on a register file. -/
def condHolds (c : Nat) (g : Nat → Word) : Bool := decide (g (c % 8) = 0) != decide (8 ≤ c)

/-- Sign extension of the low `n` bits. -/
def sext (n x : Nat) : Int := let y := x % 2 ^ n; if y < 2 ^ (n - 1) then (y : Int) else (y : Int) - 2 ^ n

/-- R74, Tables EN-2, EN-3, R172: control number `n` names a register, for a read or, with `write`, for a write by context number `k`. -/
def ctlDefined (n k : Nat) (write : Bool) : Bool :=
  let named (r : Nat) : Bool := decide (r ≠ 7 ∧ r ≠ 11 ∧ r ≠ 15 ∧ r < 16)
  if n < 16 then named n && (!write || (n != 0 && n != 4 && n != 6))
  else if 0x100 ≤ n ∧ n < 0x200 then
    let r := n % 16
    named r && (!write || (r != 4 && r != 6 && !(r == 0 && (n - 0x100) / 16 == k)))
  else if 0x200 ≤ n ∧ n ≤ 0x206 then !write || n == 0x203 || n == 0x204 || n == 0x205
  else false

/-- R85: a field reserved in the form is not zero. `low` is bits 23:0 of the word. -/
def reservedSet (f : Form) (low : Nat) : Bool :=
  let rd := low / 2 ^ 19 % 32
  let rs1 := low / 2 ^ 14 % 32
  let rs2 := low / 2 ^ 9 % 32
  let func := low % 512
  let imm := low % 2 ^ 14
  match f with
  | .rr => func != 0
  | .ru => rs2 != 0 || func != 0
  | .rn => rs2 != 0 || func / 4 != 0
  | .rb => func / 64 != 0
  | .is | .iz | .bo | .ar => false
  | .ih | .jc => rs1 != 0
  | .ic => imm / 128 != 0
  | .ji => rd != 0
  | .jn => low != 0
  | .dl => imm != 0
  | .da => rd != 0 || rs1 != 0 || imm / 4 != 0
  | .ma => rd != 0 || func / 16 != 0
  | .mf => rs1 != 0 || rs2 != 0
  | .mt => rd != 0 || rs2 != 0 || func / 256 != 0
  | .qp => rd != 0 || imm / 64 != 0
  | .qr => rs1 != 0 || imm / 32 != 0
  | .qn => rd != 0 || rs1 != 0 || imm / 32 != 0
  | .cr => rs1 != 0
  | .cw => rd != 0
  | .sy => rd != 0 || rs1 != 0 || rs2 != 0
  | .sl => imm / 8 != 0
  | .tr => rd != 0 || rs1 != 0

/-- R87, R88: an undefined function or field value. -/
def valueUndefined (f : Form) (low : Nat) : Bool :=
  let func := low % 512
  match f with
  | .rb => decide (func % 64 = 0 ∨ 36 < func % 64)
  | .mf | .mt => decide (44 < func / 2 % 128)
  | .sy => decide (4 < func)
  | .sl => decide (low % 8 = 0 ∨ 3 < low % 8)
  | .da => decide (low % 4 = 0)
  | _ => false

/-- R86: the opcodes whose rd names a pair. -/
def namesPair (op : Nat) : Bool := op == 67 || op == 74 || op == 104 || op == 105 || op == 108

/-- R92, R93: the first reason against a long operation, for context number `k`. -/
def longReason (op low k : Nat) : Option Nat :=
  match formOf op with
  | none => some 1
  | some f =>
    if valueUndefined f low then some 3
    else if reservedSet f low then some 4
    else if namesPair op && low / 2 ^ 19 % 2 == 1 then some 5
    else if (f == .cr && !ctlDefined (low % 2 ^ 14) k false) || (f == .cw && !ctlDefined (low % 2 ^ 14) k true) then some 6
    else none

/-- Table EN-13: the mnemonic of a short opcode; bit 4 of rs makes POP a POPW (Table EN-14). -/
def shortMn (op rs : Nat) : Option Mn :=
  match op with
  | 0 => some .add
  | 1 => some .sub
  | 2 => some .andW
  | 3 => some .orW
  | 4 => some .xorW
  | 5 => some .andn
  | 6 => some .mov
  | 7 => some .neg
  | 8 => some .adds
  | 9 => some .subs
  | 10 => some .minS
  | 11 => some .maxS
  | 12 => some .sll
  | 13 => some .srl
  | 14 => some .sra
  | 15 => some .abs
  | 16 => some .addq
  | 17 => some .movq
  | 18 => some .sllq
  | 19 => some .srlq
  | 20 => some .sraq
  | 21 => some .andq
  | 22 => some .orq
  | 23 => some .xorq
  | 24 => some .ceq
  | 25 => some .clt
  | 26 => some .cltu
  | 27 => some .cne
  | 28 => some .push
  | 29 => some (if 16 ≤ rs then .popw else .pop)
  | 31 => some .nop
  | _ => none

/-- R92: the reason against a short slot (bits 14:0). -/
def shortReason (x : Nat) : Option Nat :=
  if x / 1024 = 30 then some 2 else if x / 1024 = 31 ∧ x % 1024 ≠ 0 then some 4 else none

/-- Table EN-8, Table EN-14: the operation of a short slot. -/
def shortOf (x : Nat) : Op :=
  let op := x / 1024 % 32
  let rd := x / 32 % 32
  let rs := x % 32
  { mn := (shortMn op rs).getD .nop, short := true, code := op, rd := rd, rs1 := rd, rs2 := rs, func := 0, imm := rs }

/-- Table EN-7: the operation of a single word. -/
def longOf (op low : Nat) : Op :=
  { mn := ((longOp op).orElse (fun _ => groupOp op (low % 512))).getD .nop, short := false, code := op, rd := low / 2 ^ 19 % 32,
    rs1 := low / 2 ^ 14 % 32, rs2 := low / 2 ^ 9 % 32, func := low % 512, imm := if op = 80 ∨ op = 81 then low else low % 2 ^ 14 }

/-- A queue operation of a short slot (R82). -/
def isShortQueue (x : Nat) : Bool := x / 1024 == 28 || x / 1024 == 29

/-- R91 to R93: the decode of a word, for context number `k` of its unit. -/
def decodeFj (w : Word) (k : Nat) : Except Illegal Fj :=
  let n := w.toNat
  let c := n / 2 ^ 31 % 16
  if n < 2 ^ 35 then
    let op := n / 2 ^ 24 % 128
    let low := n % 2 ^ 24
    match longReason op low k with
    | some r => .error { reason := r, slot := 0, detail := op }
    | none => .ok (.one c (longOf op low))
  else
    let a := n / 2 ^ 15 % 2 ^ 15
    let b := n % 2 ^ 15
    match shortReason a, shortReason b with
    | some r, _ => .error { reason := r, slot := 0, detail := a / 1024 }
    | none, some r => .error { reason := r, slot := 1, detail := b / 1024 }
    | none, none =>
      if isShortQueue a && isShortQueue b then .error { reason := 7, slot := 0, detail := a / 1024 }
      else .ok (.two c (n / 2 ^ 30 % 2 == 1) (shortOf a) (shortOf b))

/-- The word holds an operation of the given mnemonic. -/
def Fj.holds (f : Fj) (m : Mn) : Bool :=
  match f with
  | .one _ o => o.mn == m
  | .two _ _ a b => a.mn == m || b.mn == m

/-! ### Operands (Table OP-1) -/

/-- Operand a. -/
def Op.argA (o : Op) (g : Nat → Word) : Word :=
  if o.short then
    match o.mn with
    | .mov | .neg | .abs | .push => g o.rs2
    | _ => g o.rd
  else g o.rs1

/-- Operand b: a register, or an immediate extended as Table EN-10 or Table EN-14 gives. -/
def Op.argB (o : Op) (g : Nat → Word) : Word :=
  if o.short then
    match o.mn with
    | .addq | .movq | .andq => wordOf (sext 5 o.imm)
    | .sllq | .srlq | .sraq | .orq | .xorq => BitVec.ofNat 36 o.imm
    | _ => g o.rs2
  else
    match formOf o.code with
    | some .is | some .ji | some .jc | some .ar => wordOf (sext 14 o.imm)
    | some .iz => BitVec.ofNat 36 o.imm
    | some .ih => BitVec.ofNat 36 o.imm
    | some .ic => BitVec.ofNat 36 (o.imm % 128)
    | _ => g o.rs2

/-- The port of a queue operation (Table EN-10, Table EN-14). -/
def Op.port (o : Op) : Nat :=
  if o.short then (if o.mn = .push then o.rd % 16 else o.imm % 16) else o.imm % 32

/-- END of a PUSH. -/
def Op.endBit (o : Op) : Bool := if o.short then decide (16 ≤ o.rd) else decide (o.imm / 32 % 2 = 1)

/-- The opcode as FRC.DETAIL holds it (Tables EN-5, CX-8). -/
def Op.detail (o : Op) : Nat := o.code

end Sys2Proof.Machine
end

