-- ==== Sys2Proof/Decode.lean ====
section
/-! DEFINITION. The table of operations and events gives no row any bits: its commands reach the block as events, so no word spells one. The
decoding of the FJ36 words that a unit issues is part of their meaning (Machine/Operands.lean); their encoder stands here. -/

set_option Elab.async false

namespace Sys2Proof

/-- The command that a word of the table's bits spells: none, since no row has bits. -/
def decodeTableWord (_nbits _w : Nat) : Option Instr := none

namespace Machine

/-- Tables EN-8, EN-13: the 15 bits of a short slot. -/
def encodeSlot (o : Op) : Nat := o.code * 2 ^ 10 + o.rd * 2 ^ 5 + o.rs2

/-- Tables EN-7, EN-8: the word of an operation, or of a pair of them. The low 14 bits of a single word are rs2 and func, which imm overlaps. -/
def encodeFj (f : Fj) : Word :=
  match f with
  | .one c o => BitVec.ofNat 36 (c * 2 ^ 31 + o.code * 2 ^ 24 + o.rd * 2 ^ 19 + o.rs1 * 2 ^ 14 + o.rs2 * 2 ^ 9 + o.func)
  | .two c k a b => BitVec.ofNat 36 (2 ^ 35 + c * 2 ^ 31 + (if k then 2 ^ 30 else 0) + encodeSlot a * 2 ^ 15 + encodeSlot b)

end Machine
end Sys2Proof
end

