-- ==== Sys2Proof/Machine/Access.lean ====
section
/-! DEFINITION. What a write of a register stores (R8 to R12): the access codes of Table SC-4 and the values that a field does not
define. -/

set_option Elab.async false

namespace Sys2Proof.Machine

/-- The two's complement value of the low `n` bits. -/
def signedOf (n v : Nat) : Int := let y := v % 2 ^ n; if y < 2 ^ (n - 1) then (y : Int) else (y : Int) - 2 ^ n

/-- The number of one bits among the low `n`. -/
def onesBelow (n v : Nat) : Nat := (List.range n).countP (fun i => v.testBit i)

/-- R211, Table TB-1: the source kinds of timebase `n`: 0 OFF to 7 MIRROR, and for TB32 to TB63 only OFF and MIRROR. -/
def kindOk (n kind : Nat) : Bool := if 32 ≤ n then kind == 0 || kind == 7 else decide (kind < 8)

/-- Table TB-1: the instances that a kind of timebase `n` defines: below the number of its kind, and a parent lower than `n`. -/
def instOk (n kind inst : Nat) : Bool :=
  match kind with
  | 1 => decide (inst < 16)
  | 2 | 3 => decide (inst < 8)
  | 6 => decide (inst < n)
  | _ => true

/-- R211: a source that timebase `n` may take. -/
def kindAllowed (n kind inst : Nat) : Bool := kindOk n kind && instOk n kind inst

/-- R398: the descriptors of a completion ring may be written: the ring is empty. -/
def cqEmpty (q : Nat) (s : State) : Bool := rd F.cq_CQ_HEAD_HEAD q s == rd F.cq_CQ_TAIL_TAIL q s

/-- R12: the value `x` for the field at bit `lo` of register word `o` is one that the field defines; `v` is the word written. -/
def fieldOk (b : Blk) (i o lo x : Nat) (v : Word) (s : State) : Bool :=
  match b, o, lo with
  | .tbu, 3, 20 => x != 0
  | .tbu, 3, 0 => x != 3
  | .tbu, 5, 0 => decide ((signedOf 36 x).natAbs ≤ 1844674) && rd F.tbu_TIME_CTL_SRC 0 s == 0
  | .tbu, 7, 16 => decide (1 ≤ x ∧ x ≤ 999)
  | .tbu, 7, 6 => x != 0
  | .tbu, 7, 2 => x != 0
  | .tbu, 14, 0 => decide (5 ≤ x)
  | .tb, 0, 0 => kindOk i x
  | .tb, 0, 4 => instOk i (if kindOk i (bits v 0 4) then bits v 0 4 else rd F.tb_SRC_KIND i s) x
  | .rt, 0, 1 | .gt, 0, 1 => decide (x < 12)
  | .desc, 0, 8 => x == 0 || rdB F.desc_CFG_CLASS i s
  | .tb, 1, 10 => x != 3
  | .tb, 1, 27 => x != 3
  | .tb, 2, 0 => decide (100 ≤ x)
  | .tb, 2, 16 => x != 0
  | .sctx, 0, 9 => x != i % 16
  | .sctx, 0, 7 => x != 3
  | .sctx, 0, 4 => x != 3
  | .sctx, 0, 2 => x != 3
  | .chan, 0, 0 => decide (x ≤ 4)
  | .chan, 0, 15 => decide (4 ≤ x ∧ x ≤ 32)
  | .grp, 0, 18 => decide (4 ≤ x ∧ x ≤ 1024)
  | .grp, 0, 2 => decide (40 ≤ x ∧ x ≤ 200)
  | .grp, 0, 10 => decide (30 ≤ x)
  | .grp, 1, 6 => x != 0
  | .grp, 3, 0 | .grp, 4, 0 | .grp, 5, 0 | .grp, 6, 0 => x != 3
  | .bank, 0, 0 => x != 3
  | .gen, 0, 2 => x != 3
  | .gen, 1, 0 => if rdB F.gen_CG_CTL_SRC i s then decide (x < 4096) else decide (512 ≤ x)
  | .pin, 0, 3 => x != 3
  | .pin, 0, 0 => decide (x ≤ 3)
  | .clu, 4, 22 => x == 1 || x == 2
  | .clu, 4, 24 => x != 0
  | .cq, 2, 0 => decide ((rd F.cq_CQ_TAIL_TAIL i s + 2 ^ 14 - x) % 2 ^ (rd F.cq_CQ_CFG_SIZE_LOG i s + 1) ≤ 2 ^ rd F.cq_CQ_CFG_SIZE_LOG i s)
  | .cq, 1, 7 => x != 3
  | .cq, 1, 0 => decide (x ≤ 12)
  | .ch, 0, 6 => x != 0
  | .ch, 1, 0 => rd F.ch_CH_STAT_STATE i s == 0
  | .ring, 0, 1 | .ring, 0, 6 => decide (4 ≤ x ∧ x ≤ 16) && !rdB F.ring_RING_CTL_EN i s
  | .ring, 1, 0 | .ring, 3, 0 => decide (x % 4096 = 0) && !rdB F.ring_RING_CTL_EN i s
  | .ring, 2, 0 | .ring, 4, 0 => !rdB F.ring_RING_CTL_EN i s
  | .hst, 2, _ => x != 0
  | .qdl, 1, 0 => x != 3
  | .qdl, 6, 0 => decide (x < 6)
  | .qdl, 7, 0 => x != 3
  | .link, 0, 3 => x != 3
  | .route, _, 0 | .route, _, 4 => decide (x < 6)
  | .pwr, 14, 0 => decide (60 ≤ x ∧ x ≤ (if Config.gradeE then 125 else 105))
  | .pwr, 15, 16 => decide (180 ≤ x ∧ x ≤ 200)
  | .pwr, 15, _ => decide (110 ≤ x ∧ x ≤ 180)
  | .pwr, 480, 0 => decide ((rd F.pwr_FRQ_PTR_TAIL 0 s + 64 - x) % 64 ≤ 32)
  | .jsp, 0, 8 => decide (onesBelow 8 (bits v 0 8) ≤ x)
  | .jsp, o, lo =>
    if 2 ≤ o ∧ o < 10 then (if lo = 0 then x != 3 else decide (x ≤ 8))
    else if 64 ≤ o ∧ o < 192 ∧ o % 2 = 0 then
      (if lo = 33 then decide (x ≤ 4) else if lo = 27 then decide (x ≤ 41) else if lo = 12 then x != 3
       else if lo = 14 then x == 0 || o != 64 else true)
    else if 64 ≤ o ∧ o < 192 ∧ (lo = 7 ∨ lo = 11) then decide (bits v 7 4 &&& bits v 11 4 = 0)
    else true
  | _, _, _ => true

/-- R8 to R12: the write of register word `o` of instance `i`, as the access codes of its fields give. No register carries RWS. -/
def storeReg (b : Blk) (i o : Nat) (v : Word) (s : State) : State :=
  let k := keyOf b i o
  s.setReg k ((fieldsAt b o).foldl (fun w f =>
    let x := bits v f.lo f.w
    match f.acc with
    | .rw => if fieldOk b i o f.lo x v s then setBits w f.lo f.w x else w
    | .w1c => setBits w f.lo f.w (bits w f.lo f.w &&& (2 ^ f.w - 1 - x))
    | _ => w) (s.reg k))

/-- R10: the RS fields of register `k` cleared by a read. -/
def clearOnRead (k : Nat) (s : State) : State :=
  s.setReg k ((fieldsOf k).foldl (fun w f => if f.acc = .rs then setBits w f.lo f.w 0 else w) (s.reg k))

/-- A read of a register as it is held: WO fields read 0. -/
def heldReg (k : Nat) (s : State) : Word :=
  (fieldsOf k).foldl (fun w f => if f.acc = .wo then setBits w f.lo f.w 0 else w) (s.reg k)

end Sys2Proof.Machine
end

