-- ==== Sys2Proof/Machine/Queues.lean ====
section
/-! DEFINITION. The queue pool (chapter 12): pushes, pops, takes, flushes, the rewind mark, mismatch resets, and the endpoints.
Queue q is descriptor q mod 4,096 of die q / 4,096 (R347). -/

set_option Elab.async false

namespace Sys2Proof.Machine

/-- A fault or notice that has arisen; it is handled at the end of the command (`finish`). -/
def raise (r : Raised) (s : State) : State := { s with raised := s.raised ++ [r] }

/-- A record of a cause above unit level, with word 6 and DETAIL. -/
def raiseAt (lvl i cause word detail : Nat) (s : State) : State :=
  raise { scope := { lvl := lvl, i := i }, cause := cause, notice := false, reason := 0, prec := false, slot := 0, detail := detail,
          pc := 0, addr := 0, word := word } s

/-! ### The die bridge and the crossings (R18, R198, R377) -/

/-- R17, Table AR-3: the die of switched domain `d`. -/
def domDie (d : Nat) : Nat :=
  if d < 32 then d / 16 else if d < 40 then (d - 32) / 2 % 2 else if d < 42 then 0 else if d < 48 then (d - 42) / 3 else d - 48

/-- R198: a die is fenced, so that the die bridge takes no flit in either direction. -/
def bridgeClosed (s : State) : Bool := s.contain.held.any (fun c => c.lvl == 3)

/-- R18, R198: what crosses from die `a` to die `b` can pass. -/
def diePath (a b : Nat) (s : State) : Bool := a == b || !bridgeClosed s

/-- Table QU-6: the crossing (10 × die + number) that joins an endpoint of Table QU-1 to the pool of its queue; none for a context. -/
def endpointXing (kind inst q : Nat) : Option Nat :=
  match kind with
  | 2 => some (10 * (inst / 24) + 4)
  | 3 | 5 => some (10 * (inst % 2) + 4)
  | 4 => some (10 * (q / 4096) + 4)
  | 6 => some 4
  | 7 => some 9
  | 8 => some (10 * (inst / 12) + 6 + inst / 4 % 3)
  | _ => none

/-- R349: the die of an endpoint. -/
def endDie (kind inst q : Nat) : Nat :=
  match kind with
  | 1 => inst / 65536
  | 2 => inst / 24
  | 3 | 5 => inst % 2
  | 4 => q / 4096
  | 8 => inst / 12
  | _ => 0

/-- R377: the crossing of an endpoint carries traffic: no crossing reset is seen. At the host's endpoints it is the command that crosses X_HP or,
forwarded, does not (`crossesHost`; R438: the executor needs no D41). -/
def xingOpen (kind inst q : Nat) (s : State) : Bool :=
  match endpointXing kind inst q with | some i => kind == 7 || !(s.xing i).reset | none => true

/-- R376: the side of crossing `i` away from the backbone asserts a crossing reset. -/
def assertFar (i : Nat) (s : State) : State := s.modXing i (fun x => { x with far := true })

/-- R376: the backbone side of crossing `i` asserts a crossing reset (XING_STAT.LOCAL_RESET). -/
def assertNear (i : Nat) (s : State) : State := s.modXing i (fun x => { x with near := true })

/-- The way between the producer of queue `q` and its pool is open. -/
def prodPath (s : State) (q : Nat) : Bool :=
  let k := rd F.desc_PROD_KIND q s
  let i := rd F.desc_PROD_INST q s
  xingOpen k i q s && diePath (endDie k i q) (q / 4096) s

/-- The way between the pool and the consumer of queue `q` is open. -/
def consPath (s : State) (q : Nat) : Bool := xingOpen (bits (rdW F.desc_CONS q s) 17 4) (bits (rdW F.desc_CONS q s) 0 17) q s

/-! ### Levels and credits -/

/-- CAP; 0 where the image leaves the descriptor unused. -/
def qCap (s : State) (q : Nat) : Nat := rd F.desc_CAP q s

/-- CLASS: true is a D-queue. -/
def qIsD (s : State) (q : Nat) : Bool := rdB F.desc_CFG_CLASS q s

/-- R354: cells in use. -/
def Queue.used (x : Queue) : Nat := x.cells.length + x.reclaim

/-- A push that took a credit. -/
def Push.holds : Push → Bool
  | .word _ _ _ cr => cr
  | .gran _ _ cr => cr

/-- A push that ends an item. -/
def Push.ends : Push → Bool
  | .word _ e _ _ => e
  | .gran v _ _ => decide (8 ≤ granTag v)

/-- R354: CRED, the credits at the producer. -/
def qCred (s : State) (q : Nat) : Nat :=
  let x := s.queue q
  qCap s q - (x.used + x.transit.countP Push.holds + x.back)

/-- Words in the queue not yet popped. -/
def Queue.words (x : Queue) : Nat := ((x.cells.drop x.rdc).map (·.ws.length)).sum - x.rdw

/-- RESERVE summed over a die's descriptors. -/
def reserveSum (s : State) (d : Nat) : Nat :=
  (s.regs.map (fun kv => match locate kv.1 with
    | some (.desc, i, 3) => if i / 4096 = d then bits kv.2 17 17 else 0
    | _ => 0)).sum

/-- Free cells of a die (POOL_STAT.FREE). -/
def poolFree (s : State) (d : Nat) : Nat :=
  131072 - ((s.queues.filter (fun kv => kv.1 / 4096 = d)).map (fun kv => kv.2.used)).sum

/-- Free cells outside every reserve (POOL_STAT.UNRES). -/
def poolUnres (s : State) (d : Nat) : Nat :=
  131072 - reserveSum s d
    - ((s.queues.filter (fun kv => kv.1 / 4096 = d)).map (fun kv => kv.2.used - rd F.desc_CAP_RESERVE kv.1 s)).sum

/-- R354: a cell may be taken, from the queue's reserve or from the unreserved free cells. -/
def cellFree (s : State) (q : Nat) : Bool :=
  decide ((s.queue q).used < rd F.desc_CAP_RESERVE q s) || decide (0 < poolUnres s (q / 4096))

/-! ### The head of a queue -/

/-- The codeword data of a closed cell (R350). -/
def QCell.gran (c : QCell) : Granule := granOf c.ws (c.ws.length + if c.e then 8 else 0)

/-- A cell that takes its words and item end from a granule. -/
def QCell.ofGran (v : Granule) (pb : Bool) : QCell :=
  { ws := granWords v (granTag v % 8), e := decide (8 ≤ granTag v), closed := true, pb := pb, err := 0, checked := false, orig := none }

/-- Cells up to and including the first that ends an item: how many, the rest, and whether an end was found. -/
def dropItem : List QCell → Nat × List QCell × Bool
  | [] => (0, [], false)
  | c :: l => if c.closed && c.e then (1, l, true) else
      let r := dropItem l
      (r.1 + 1, r.2.1, r.2.2)

/-- R367: the item at the read position is discarded, with its granules that are still to come. -/
def Queue.discardItem (x : Queue) : Queue :=
  let r := dropItem (x.cells.drop x.rdc)
  { x with cells := x.cells.take x.rdc ++ r.2.1, back := x.back + r.1, rdw := 0, skip := !r.2.2,
           mark := if x.rdc = 0 then x.mark.map (fun _ => 0) else x.mark }

/-- R367: the decode of the granule at the head, and what it counts; `n` bounds the granules discarded in a row. -/
def settleHead : Nat → Nat → State → State
  | 0, _, s => s
  | n + 1, q, s =>
    let x := s.queue q
    match x.cells[x.rdc]? with
    | none => s
    | some c =>
      if !c.closed || (c.checked && c.err == 0) then s
      else
        let d := q / 4096
        let (out, v, pb, k) := decodeCode c.gran c.pb c.err
        let s1 := if k = 1 then bump F.qpl_POOL_ECC_CE1 d s else if k = 2 then bump F.qpl_POOL_ECC_CE2 d s else s
        let s2 := if 0 < k ∧ qIsD s q then bump F.desc_CNT_CE q s1 else s1
        let s3 := if out = .bad then bump F.qpl_POOL_ECC_UE d s2 else s2
        let c' := { QCell.ofGran v pb with checked := true, orig := if c.err = 0 then none else some (c.gran, c.pb, c.err) }
        let x1 := { x with cells := x.cells.set x.rdc c' }
        if pb && !(c.pb && c.checked) then
          let s4 := bump F.desc_CNT_POISONED q s3
          let x2 := { x1 with flagsP := x1.flagsP ||| 2, flagsC := x1.flagsC ||| 2 }
          if !qIsD s q || rdB F.desc_CFG_POISON_ACT q s then settleHead n q (s4.setQueue q x2.discardItem)
          else s4.setQueue q x2
        else s3.setQueue q x1

/-- R367 for the granules now in the queue. -/
def settle (q : Nat) (s : State) : State := settleHead ((s.queue q).cells.length + 1) q s

/-- R366: a mismatch reset; a second within 10 ms is a POOL_INTEGRITY fault of the die. -/
def mismatchReset (q : Nat) (s : State) : State :=
  let x := s.queue q
  let again := match x.lastReset with | none => false | some t => decide (s.clock.tick - t ≤ 10000000)
  let s1 := s.setQueue q { x with cells := [], rdc := 0, rdw := 0, reclaim := x.reclaim + x.cells.length, resetting := true, last := 0,
                                  discard := x.discard || x.open_, open_ := false, skip := false, copyBad := false,
                                  lastReset := some s.clock.tick }
  let s2 := bump F.qpl_POOL_STAT2_MISMATCHES (q / 4096) (bump F.desc_CNT_CE q (wr F.desc_CMD_STAT_MISMATCH q 1 s1))
  let s3 := s2.modQueue q (fun x => { x with flagsP := x.flagsP ||| 8, flagsC := x.flagsC ||| 8 })
  if again then raiseAt 3 (q / 4096) 49 q 0 s3 else s3

/-- R366: the two copies are compared at every push, pop, take and flush. -/
def compareCopies (q : Nat) (s : State) : State := if (s.queue q).copyBad then mismatchReset q s else s

/-! ### Pushes -/

/-- R361: the producer's next word belongs to the item that a flush cut. -/
def Queue.cut (x : Queue) : Bool := x.discard && !x.transit.any Push.ends

/-- R353, R366: the producer's next word may be pushed: its way is open (R198, R377), and it takes no credit or a credit is there. -/
def canPushWord (s : State) (q : Nat) : Bool :=
  let x := s.queue q
  prodPath s q && (x.cut || decide (x.fill ≠ 0) || (!x.resetting && decide (0 < qCred s q)))

/-- R353: a granule may be pushed. -/
def canPushGran (s : State) (q : Nat) : Bool :=
  let x := s.queue q
  prodPath s q && (x.cut || (!x.resetting && decide (0 < qCred s q)))

/-- R363: the retained cells are freed. -/
def Queue.freeRetained (x : Queue) : Queue := { x with cells := x.cells.drop x.rdc, back := x.back + x.rdc, rdc := 0 }

/-- R365 YIELD: the last credit is taken while a cell is retained, so the mark is dropped. -/
def yieldMark (q : Nat) (s : State) : State :=
  let x := s.queue q
  if qIsD s q && rdB F.desc_CFG_MARK_POL q s && decide (qCred s q = 0) && x.mark.isSome && !(decide (x.rdc = 0) && x.mark == some x.rdw) then
    wr F.desc_CMD_STAT_MARK_LOST q 1 (s.setQueue q { x.freeRetained with mark := none, markLost := true })
  else s

/-- R351, R353, R356: a word leaves its producer, when `canPushWord` holds. -/
def pushWord (q : Nat) (v : Word) (e : Bool) (s : State) : State :=
  let x := s.queue q
  let cr := !x.cut && decide (x.fill = 0)
  let s1 := s.setQueue q { x with transit := x.transit ++ [.word v e false cr],
                                  fill := if e then 0 else if x.cut then x.fill else (x.fill + 1) % 7 }
  if cr then yieldMark q s1 else s1

/-- R352, R353, R361: a granule leaves its producer, when `canPushGran` holds; of an item that a flush cut it takes no credit. -/
def pushGran (q : Nat) (v : Granule) (pb : Bool) (s : State) : State :=
  let x := s.queue q
  let s1 := s.setQueue q { x with transit := x.transit ++ [.gran v pb (!x.cut)] }
  if x.cut then s1 else yieldMark q s1

/-- A word that arrives is dropped; the credit it held goes back. -/
def Queue.dropPush (x : Queue) (p : Push) (rest : List Push) : Queue :=
  { x with transit := rest, back := x.back + (if p.holds then 1 else 0) }

/-- A push finds no cell free: it waits with its credit (R354). -/
def poolWaits (q : Nat) (s : State) : State :=
  if (s.queue q).poolWait then s
  else bump F.qpl_POOL_STAT2_POOL_WAIT (q / 4096) (s.modQueue q (fun x => { x with poolWait := true }))

/-- A cell that a word opens. -/
def QCell.opened (v : Word) (e pb : Bool) : QCell := { ws := [v], e := e, closed := e, pb := pb, err := 0, checked := false, orig := none }

/-- R351, R352, R354, R356, R361, R367: the oldest push on its way reaches the queue, over a way that is open (R198, R377). -/
def landPush (q : Nat) (s0 : State) : State :=
  if !prodPath s0 q then s0 else
  let s := compareCopies q s0
  let x := s.queue q
  match x.transit with
  | [] => s
  | p :: rest =>
    match p with
    | .word v e pb _ =>
      if x.discard then s.setQueue q { x.dropPush p rest with discard := !e }
      else if x.skip then s.setQueue q { x.dropPush p rest with skip := !e, open_ := !e }
      else match x.cells.getLast? with
        | some c =>
          if !c.closed then
            let ws := c.ws ++ [v]
            let c' := { c with ws := ws, e := e, pb := c.pb || pb, closed := e || decide (ws.length = 7) }
            settle q (s.setQueue q { x with transit := rest, cells := x.cells.dropLast ++ [c'], open_ := !e })
          else if x.resetting then s
          else if cellFree s q then
            settle q (s.setQueue q { x with transit := rest, open_ := !e, poolWait := false, cells := x.cells ++ [QCell.opened v e pb] })
          else poolWaits q s
        | none =>
          if x.resetting then s
          else if cellFree s q then
            settle q (s.setQueue q { x with transit := rest, open_ := !e, poolWait := false, cells := [QCell.opened v e pb] })
          else poolWaits q s
    | .gran v pb _ =>
      let e := decide (8 ≤ granTag v)
      if granTag v % 8 = 0 then bump F.qpl_POOL_STAT2_BAD_TAG (q / 4096) (s.setQueue q (x.dropPush p rest))
      else if x.discard then s.setQueue q { x.dropPush p rest with discard := !e }
      else if x.skip then s.setQueue q { x.dropPush p rest with skip := !e, open_ := !e }
      else if x.resetting then s
      else if cellFree s q then
        settle q (s.setQueue q { x with transit := rest, open_ := !e, poolWait := false, cells := x.cells ++ [QCell.ofGran v pb] })
      else poolWaits q s

/-! ### Pops and takes -/

/-- The next word of the queue. -/
def Queue.front (x : Queue) : Option Word :=
  if x.resetting then none else (x.cells[x.rdc]?).bind (fun c => c.ws[x.rdw]?)

/-- R355, R363: the read position moves over one word; a cell whose last valid word is popped is freed, or retained behind a mark. -/
def Queue.advance (x : Queue) : Queue :=
  match x.cells[x.rdc]? with
  | none => x
  | some c =>
    if c.closed && decide (c.ws.length ≤ x.rdw + 1) then
      if x.mark.isSome then { x with rdc := x.rdc + 1, rdw := 0 }
      else { x with cells := x.cells.eraseIdx x.rdc, back := x.back + 1, rdw := 0 }
    else { x with rdw := x.rdw + 1 }

/-- R352, R358: a pop that finds a word: the word, popped; none when the queue is empty. -/
def popWord (q : Nat) (s0 : State) : Option Word × State :=
  let s := compareCopies q s0
  let x := s.queue q
  match x.front with
  | none => (none, s)
  | some w => (some w, settle q (s.setQueue q { x.advance with last := w }))

/-- R358: what an empty POP returns and counts. -/
def underrun (q : Nat) (s : State) : Word × State :=
  let w := if rdB F.desc_CFG_IDLE_EN q s then rdW F.desc_IDLE q s else (s.queue q).last
  (w, bump F.desc_CNT_UNDERRUNS q (s.modQueue q (fun x => { x with flagsP := x.flagsP ||| 1, flagsC := x.flagsC ||| 1 })))

/-- R352: a closed granule is at the head. -/
def Queue.hasGran (x : Queue) : Bool :=
  !x.resetting && (match x.cells[x.rdc]? with | some c => c.closed && decide (x.rdw = 0) | none => false)

/-- R352, R355, R369: a granule consumer takes the closed granule at the head, with its poison bit; the receiving side acknowledges it at once,
over a crossing that is not in reset (R377). -/
def takeGran (q : Nat) (s0 : State) : Option (Granule × Bool) × State :=
  if !consPath s0 q then (none, s0) else
  let s := compareCopies q s0
  let x := s.queue q
  if x.hasGran then
    match x.cells with
    | [] => (none, s)
    | c :: l => (some (c.gran, c.pb), settle q (s.setQueue q { x with cells := l, back := x.back + 1 }))
  else (none, s)

/-- The words of the item at the head, read in place, when it is complete (R297). -/
def itemWords : Nat → List QCell → Option (List Word)
  | _, [] => none
  | k, c :: l =>
    if c.closed then
      if c.e then some (c.ws.drop k) else (itemWords 0 l).map (c.ws.drop k ++ ·)
    else none

/-- R297: the complete item at the head of a queue. -/
def headItem (q : Nat) (s : State) : Option (List Word) :=
  let x := s.queue q
  if x.resetting then none else itemWords x.rdw (x.cells.drop x.rdc)

/-- The item ends in the queue from the read position on. -/
def Queue.endsAhead (x : Queue) : Nat := (x.cells.drop x.rdc).countP (fun c => c.closed && c.e)

/-- R297, R367: the `n` words of the item at the head are popped; what was popped, which is less when a later granule of the item is found
poisoned at the head and the rest of the item is discarded. -/
def popItem (q : Nat) : Nat → State → List Word × State
  | 0, s => ([], s)
  | n + 1, s =>
    match popWord q s with
    | (none, s1) => ([], s1)
    | (some w, s1) =>
      if n = 0 ∨ (s1.queue q).endsAhead < (s.queue q).endsAhead then ([w], s1)
      else let r := popItem q n s1; (w :: r.1, r.2)

/-! ### Flush, abort, mark -/

/-- R360, R361: a flush takes effect at the queue. -/
def flushQueue (q : Nat) (s0 : State) : State :=
  let s := compareCopies q s0
  let x := s.queue q
  bump F.desc_CNT_FLUSHES q (s.setQueue q
    { x with cells := [], rdc := 0, rdw := 0, mark := none, back := x.back + x.cells.length, skip := false,
             discard := x.discard || x.open_, open_ := false, flagsP := x.flagsP ||| 4, flagsC := x.flagsC ||| 4 })

/-- R357: a flush by the producer reaches the queue behind the producer's own pushes. -/
def flushByProducer (q : Nat) (s : State) : State :=
  flushQueue q (times (landPush q) (s.queue q).transit.length s)

/-- The pushes on their way that end with the last END: what stays of them at an abort. -/
def throughEnd : List Push → List Push
  | [] => []
  | p :: l => if (p :: l).any Push.ends then p :: throughEnd l else []

/-- The index after the last cell that ends an item. -/
def afterLastEnd : List QCell → Nat
  | [] => 0
  | c :: l => if l.any (fun c => c.closed && c.e) then afterLastEnd l + 1 else if c.closed && c.e then 1 else 0

/-- R368: the producer aborts its open item, when it has one. -/
def abortItem (q : Nat) (s : State) : State :=
  let x := s.queue q
  let kept := throughEnd x.transit
  let gone := x.transit.drop kept.length
  if kept.length = x.transit.length ∧ ¬ ((x.open_ || x.discard) && kept.isEmpty) then s
  else
    let inQueue := kept.isEmpty && x.open_
    let n := max (afterLastEnd x.cells) x.rdc
    let part := match x.cells[x.rdc]? with
      | some c => if n = x.rdc ∧ 0 < x.rdw ∧ x.mark.isSome ∧ ¬ (x.rdc = 0 ∧ x.mark = some x.rdw) then [{ c with ws := c.ws.take x.rdw, closed := true, checked := true }] else []
      | none => []
    let cells := if inQueue then x.cells.take n ++ part else x.cells
    let lost := x.cells.length - cells.length
    bump F.desc_CNT_FLUSHES q (s.setQueue q
      { x with cells := cells, transit := kept, fill := 0, open_ := x.open_ && !kept.isEmpty, discard := x.discard && !kept.isEmpty,
               skip := x.skip && !kept.isEmpty, back := x.back + lost + gone.countP Push.holds,
               rdc := if inQueue then x.rdc + part.length else x.rdc, rdw := if inQueue ∧ n = x.rdc then 0 else x.rdw,
               mark := if inQueue ∧ n = x.rdc ∧ x.rdc = 0 ∧ part.isEmpty then x.mark.map (fun _ => 0) else x.mark,
               flagsP := x.flagsP ||| 4, flagsC := x.flagsC ||| 4 })

/-- R363: QMARK sets the mark at the read position. -/
def markQueue (q : Nat) (s : State) : State :=
  s.modQueue q (fun x => { x.freeRetained with mark := some x.rdw, markLost := false })

/-- R363: the mark is released. -/
def releaseMark (q : Nat) (s : State) : State := s.modQueue q (fun x => { x.freeRetained with mark := none })

/-- R367: a retained cell as it stays stored: its correction was not written back, and the head decodes it anew. -/
def QCell.stored (c : QCell) : QCell :=
  match c.orig with
  | some (v, pb, err) => { QCell.ofGran v pb with err := err }
  | none => c

/-- R364, Table QU-4: QREW, and its status word. -/
def rewindQueue (q : Nat) (s : State) : Word × State :=
  let x := s.queue q
  match x.mark with
  | some w =>
    let n := ((x.cells.take x.rdc).map (·.ws.length)).sum + x.rdw - w
    (BitVec.ofNat 36 (min n 524287 * 2 ^ 17), settle q (s.setQueue q { x with cells := x.cells.map QCell.stored, rdc := 0, rdw := w }))
  | none => (if x.markLost then 2 else 1, s.setQueue q { x with markLost := false })

/-- R359, Table QU-3: the QSTAT word, and the events of the port cleared. -/
def qstatWord (q : Nat) (producer : Bool) (s : State) : Word × State :=
  let x := s.queue q
  let fl := if producer then x.flagsP else x.flagsC
  let w := min x.words 524287 * 2 ^ 17 + min (qCred s q) 511 * 2 ^ 8 + (if qIsD s q then 2 ^ 7 else 0)
    + (if x.mark.isSome then 2 ^ 6 else 0) + (if x.discard then 2 ^ 5 else 0) + (if x.resetting then 2 ^ 4 else 0) + fl
  (BitVec.ofNat 36 w, s.setQueue q (if producer then { x with flagsP := 0 } else { x with flagsC := 0 }))

/-! ### Endpoints (Table QU-1) -/

/-- The queue that an endpoint of the given kind and instance feeds. -/
def producerQueue (s : State) (kind inst : Nat) : Option Nat :=
  s.regs.findSome? (fun kv => match locate kv.1 with
    | some (.desc, q, 1) => if bits kv.2 17 4 = kind ∧ bits kv.2 0 17 = inst ∧ qCap s q ≠ 0 then some q else none
    | _ => none)

/-- The queue that an endpoint of the given kind, instance and die consumes; the die counts for EVO command inputs only (R347, R349). -/
def consumerQueue (s : State) (kind inst : Nat) : Option Nat :=
  s.regs.findSome? (fun kv => match locate kv.1 with
    | some (.desc, q, 2) => if bits kv.2 17 4 = kind ∧ bits kv.2 0 17 = inst ∧ qCap s q ≠ 0 then some q else none
    | _ => none)

/-- The queues whose endpoint at word `o` of the descriptor (1 producer, 2 consumer) satisfies a test on kind and instance. -/
def queuesWith (s : State) (o : Nat) (p : Nat → Nat → Bool) : List Nat :=
  s.regs.filterMap (fun kv => match locate kv.1 with
    | some (.desc, q, o') => if o' = o ∧ p (bits kv.2 17 4) (bits kv.2 0 17) ∧ qCap s q ≠ 0 then some q else none
    | _ => none)

/-- R379: a write of CMD_STAT. -/
def writeCmdStat (q : Nat) (v : Word) (s : State) : State :=
  if qCap s q = 0 then s
  else
    let s1 := if bits v 1 1 = 1 then wr F.desc_CMD_STAT_MISMATCH q 0 s else s
    let s2 := if bits v 0 1 = 1 then wr F.desc_CMD_STAT_MARK_LOST q 0 s1 else s1
    if bits v 7 1 = 1 then flushQueue q s2
    else if bits v 6 1 = 1 ∧ qIsD s q then releaseMark q s2 else s2

end Sys2Proof.Machine
end

