-- ==== Sys2Proof/Machine/Events.lean ====
section
/-! DEFINITION. What the blocks tell the outside: the event sources of the measurement front and the event outputs (R289, R317), and the
MSI-X vectors of the host port (R409). -/

set_option Elab.async false

namespace Sys2Proof.Machine

/-- R409: a vector is raised. A masked vector sets its pending bit; with the host port off, the event is lost. -/
def msix (n : Nat) (s : State) : State :=
  if !domOn 41 s then s
  else if s.host.masks.testBit n then { s with host := { s.host with pend := s.host.pend ||| 2 ^ n } }
  else { s with sent := s.sent ++ [.msix n] }

/-- Event source `e`: 0 and 1 the measurement front of die E and W, 2 and 3 the event outputs. The queue it feeds (Table QU-1). -/
def evtQueue (e : Nat) (s : State) : Option Nat := producerQueue s (if e < 2 then 3 else 5) (e % 2)

/-- R289: an event of source `e` is dropped and counted. -/
def dropEvent (e : Nat) (s : State) : State :=
  if e = 0 then bump F.mfr_EVT_STAT_DROPPED_E 0 s else if e = 1 then bump F.mfr_EVT_STAT_DROPPED_W 0 s
  else if e = 2 then bump F.evo_EVT_STAT_DROPPED_E 0 s else bump F.evo_EVT_STAT_DROPPED_W 0 s

/-- The words of an item pushed in order; the last carries END. -/
def pushItem (q : Nat) : List Word → State → State
  | [], s => s
  | [w], s => pushWord q w true s
  | w :: l, s => pushItem q l (pushWord q w false s)

/-- R289: an event is posted, merged into its group, held, or dropped. -/
def postEvent (e kind inst code : Nat) (s : State) : State :=
  if e < 2 ∧ rd F.mfr_EVT_CTL_EN 0 s = 0 then s
  else
    let key := kind * 65536 + inst * 256 + code
    let now := s.clock.tick
    let src := s.evt e
    let live := src.groups.filter (fun g => now < g.2 + 1000)
    if live.any (fun g => g.1 = key) then s
    else
      let s1 := s.setEvt e { src with groups := live ++ [(key, now)] }
      let item := [BitVec.ofNat 36 (kind * 2 ^ 32 + inst * 2 ^ 24 + code * 2 ^ 16), s.timeFW]
      match evtQueue e s with
      | none => dropEvent e s1
      | some q =>
        if src.held.isSome then dropEvent e s1
        else if canPushWord s q then pushItem q item s1
        else s1.modEvt e (fun x => { x with held := some item })

/-- R289: the held event of source `e` is pushed when its queue has a credit. -/
def releaseEvent (e : Nat) (s : State) : State :=
  match (s.evt e).held, evtQueue e s with
  | some item, some q => if canPushWord s q then pushItem q item (s.modEvt e (fun x => { x with held := none })) else s
  | _, _ => s

/-! ### Reel (R310 to R315) -/

/-- Comparator `n` is active at Reel: outside, or its domain is off (R263). -/
def acActive (n : Nat) (s : State) : Bool := (s.comp n).hi || (s.comp n).lo || !domOn (compDomain n) s

/-- Digital window `c` is active at Reel: outside, or its domain is off (R263). -/
def winActive (c : Nat) (s : State) : Bool := decide ((s.chan c).out ≠ 0) || !domOn (chanDomain c) s

/-- FLT_Nn lies below its switching level. -/
def fltActive (n : Nat) (s : State) : Bool := s.pins.fltLow.testBit n

/-- SRC0 to SRC4 of bank `b` name the source of the given kind (Table EV-6) and instance. -/
def srcEnabled (b kind inst : Nat) (s : State) : Bool :=
  match kind with
  | 1 => if inst < 36 then (rd F.bank_SRC0 b s).testBit inst else (rd F.bank_SRC1_AC_HI b s).testBit (inst - 36)
  | 2 => (rd F.bank_SRC1_FLT b s).testBit inst
  | 3 => if inst < 36 then (rd F.bank_SRC2 b s).testBit inst else if inst < 72 then (rd F.bank_SRC3 b s).testBit (inst - 36)
         else (rd F.bank_SRC4_WIN b s).testBit (inst - 72)
  | _ => false

/-- The enabled sources of bank `b` that are active, in the order of R314. -/
def activeSources (b : Nat) (s : State) : List (Nat × Nat) :=
  ((List.range 48).filter (fun n => srcEnabled b 1 n s && acActive n s)).map (fun n => (1, n))
  ++ ((List.range 8).filter (fun n => srcEnabled b 2 n s && fltActive n s)).map (fun n => (2, n))
  ++ ((List.range 96).filter (fun n => srcEnabled b 3 n s && winActive n s)).map (fun n => (3, n))

/-- R310, R314: the latch of bank `b` sets from a source; when it is set already, MORE tells of the further source (TRIP.SW among them). -/
def setLatch (b kind inst : Nat) (s : State) : State :=
  if !domOn (bankDomain b) s then s
  else if rdB F.bank_TRIP_LATCHED b s then (if kind ≤ 4 then wr F.bank_TRIP_MORE b 1 s else s)
  else
    let others := (activeSources b s).any (fun x => x ≠ (kind, inst))
    let s0 := wr F.bank_TRIP_LATCHED b 1 (s.modBank b (fun x => { x with all := false }))
    let s1 := if others then wr F.bank_TRIP_MORE b 1 s0 else s0
    let s2 := wr F.bank_TRIP_REC_INST b inst (wr F.bank_TRIP_REC_KIND b kind (bump F.bank_TRIP_REC_COUNT b s1))
    postEvent (2 + b / 2) 8 b kind (wr F.bank_TRIP_T b s.timeF s2)

/-- R310: a source becomes active; it sets the latch of every bank that names it. -/
def sourceActive (kind inst : Nat) (s : State) : State :=
  forN 4 (fun b s => if srcEnabled b kind inst s then setLatch b kind inst s else s) s

/-- R315: the device sets the latch itself (5 POWER_UP, 6 FENCE, 7 PACKAGE); it covers all 32 pins. -/
def deviceLatch (b kind : Nat) (s : State) : State :=
  if !domOn (bankDomain b) s then s
  else (setLatch b kind 0 s).modBank b (fun x => { x with all := true })

end Sys2Proof.Machine
end

