-- ==== Sys2Proof/Machine/Contexts.lean ====
section
/-! DEFINITION. Contexts and units (chapters 03, 05, 06): registers and pending results, the replay list, fetch, the six dispatch steps,
dispatch requests and overruns, and traps. Context k of unit u is context 16 u + k (R17). -/

set_option Elab.async false

namespace Sys2Proof.Machine

/-- R17: the unit of a context. -/
def unitOf (cid : Nat) : Nat := cid / 16
/-- R17: the cluster of a context. -/
def clusterOf (cid : Nat) : Nat := cid / 128
/-- R17: the region of a context. -/
def regionOf (cid : Nat) : Nat := cid / 512
/-- R17: the die of a context. -/
def dieOf (cid : Nat) : Nat := cid / 2048

/-! ### General registers and pending results -/

/-- R71: a general register; g0 reads 0. -/
def Ctx.getG (x : Ctx) (r : Nat) : Word := if r = 0 then 0 else Sparse.get 0 r x.g

/-- R71: a general register written; a write to g0 is discarded. -/
def Ctx.setG (x : Ctx) (r : Nat) (v : Word) : Ctx := if r = 0 then x else { x with g := Sparse.put 0 r v x.g }

/-- A result committed to its destination. -/
def Ctx.write (x : Ctx) (p : Pend) : Ctx :=
  match p.dst with
  | .g r => x.setG r p.val
  | .lnk => { x with lnk := p.val.setWidth 32 }
  | .trg => { x with trg := p.val }
  | .atBit => { x with atBit := decide (p.val ≠ 0) }
  | .dlBit => { x with dlBit := decide (p.val ≠ 0) }

/-- R146, R152: the results due at step `n` are committed in issue order; an earlier producer of a register that a later one has written
is suppressed. `kept` holds the producers before the list that are still pending. -/
def commitFrom (n : Nat) : List Pend → Ctx × List Pend → Ctx × List Pend
  | [], acc => acc
  | p :: l, (x, kept) =>
    if p.due ≤ n then commitFrom n l (x.write p, kept.filter (fun k => k.dst ≠ p.dst))
    else commitFrom n l (x, kept ++ [p])

/-- R146: the commit at the opening of step `n`. -/
def Ctx.commit (x : Ctx) (n : Nat) : Ctx :=
  let r := commitFrom n x.pend (x, [])
  { r.1 with pend := r.2 }

/-- A result that a register takes now: earlier producers of it are suppressed (R111, R152). -/
def writeNow (d : Nat) (v : Word) (x : Ctx) : Ctx := { x.setG d v with pend := x.pend.filter (fun p => p.dst ≠ .g d) }

/-- R153: every fixed-distance producer completes at a switch. -/
def Ctx.commitAll (x : Ctx) : Ctx := { x.pend.foldl Ctx.write x with pend := [] }

/-- R128: the target that TRG holds once every earlier ARM and ARMI has taken effect. -/
def Ctx.newestTrg (x : Ctx) : Word := x.pend.foldl (fun v p => if p.dst = .trg then p.val else v) x.trg

/-! ### Fetch (R162 to R171) -/

/-- The first word of the instruction store window of cluster `c` (R95). -/
def codeBase (c : Nat) : Nat := 0x02000000 + c * 0x80000

/-- R95: the granule of the cluster's own instruction store that holds a word; none outside the backed range. -/
def codeGran (c : Nat) (pc : Addr) : Option Nat :=
  if codeBase c ≤ pc.toNat ∧ pc.toNat < codeBase c + 0x70000 then some ((pc.toNat - codeBase c) / 7) else none

/-- R94, R168, R190: an instruction granule as it stands when its bank reads it. -/
def fetchRead (c g : Nat) (s : State) : FGran × State :=
  let r := readGran (imemG c g) s
  ({ g := g, data := r.data, bad := if granTag r.data ≠ 1 then 1 else if r.pb then 2 else 0 }, r.st)

/-- A granule asked for, unless it is asked for already or outside the store. -/
def UnitSt.ask (x : UnitSt) (g : Nat) (k : Option Nat) : UnitSt :=
  if 65536 ≤ g ∨ x.freq.any (fun e => e.1 == g && e.2.1 == k) then x else { x with freq := x.freq ++ [(g, k, x.steps)] }

/-- A granule of the stream asked for, unless the fetch buffer holds it. -/
def UnitSt.request (x : UnitSt) (g : Nat) : UnitSt := if x.fbuf.any (fun f => f.g = g) then x else x.ask g none

/-- R165: a granule of a pending target asked for, unless its buffer holds it; the present fetch buffer is discarded at the target. -/
def UnitSt.requestNext (x : UnitSt) (g : Nat) : UnitSt := if x.nbuf.any (fun f => f.g = g) then x else x.ask g none

/-- R164: issue enters granule `g`: what lies outside g to g + 2 is dropped, and the lookahead granule is asked for. -/
def UnitSt.enter (x : UnitSt) (g : Nat) : UnitSt :=
  let x1 := { x with fbuf := x.fbuf.filter (fun f => decide (g ≤ f.g ∧ f.g ≤ g + 2)) }
  let x2 := x1.request (g + 1)
  if x.lookahead then x2.request (g + 2) else x2

/-- R165: at the issue of a taken branch at `at_`, the target granule comes from the BTB or is asked for, with the two that follow. -/
def UnitSt.branch (x : UnitSt) (c : Nat) (at_ target : Addr) : UnitSt :=
  match codeGran c target with
  | none => x
  | some g =>
    match (if x.btbEn then x.btb.find? (fun e => e.at_ = at_ ∧ e.target = target) else none) with
    | some e =>
      let x1 := { x with btbHit := min (x.btbHit + 1) (2 ^ 18 - 1), btb := e :: x.btb.filter (· ≠ e), nbuf := x.nbuf ++ [e.gran] }
      (x1.requestNext (g + 1)).requestNext (g + 2)
    | none =>
      let x1 := { x with btbMiss := min (x.btbMiss + 1) (2 ^ 18 - 1),
                         btbWait := if x.btbEn then x.btbWait ++ [(at_, target)] else x.btbWait }
      ((x1.requestNext g).requestNext (g + 1)).requestNext (g + 2)

/-- R165, R166: at the target position both slots of the fetch buffer are discarded for the target's granules; `g`, the target's granule, and
the two that follow are asked for where no branch of this activation has asked for them (log entry 98). -/
def UnitSt.reachTarget (x : UnitSt) (g : Option Nat) (more : Bool) : UnitSt :=
  let x1 := { x with fbuf := x.nbuf, nbuf := if more then x.nbuf else [] }
  match g with
  | some g => ((x1.request g).request (g + 1)).request (g + 2)
  | none => x1

/-- R165: a granule that has come writes the BTB entries that wait for it; 64 entries, the least recently used replaced. -/
def UnitSt.fillBtb (x : UnitSt) (c : Nat) (f : FGran) : UnitSt :=
  let due := x.btbWait.filter (fun e => codeGran c e.2 = some f.g)
  { x with btbWait := x.btbWait.filter (fun e => codeGran c e.2 ≠ some f.g),
           btb := (due.map (fun e => ({ at_ := e.1, target := e.2, gran := f } : Btb)) ++ x.btb).take 64 }

/-- The resume granule of context `k` of a unit. -/
def UnitSt.resumeOf (x : UnitSt) (k : Nat) : Option FGran := (x.resume.find? (fun e => e.1 = k)).map (·.2)

/-- The resume granule of context `k` set or dropped. -/
def UnitSt.setResume (x : UnitSt) (k : Nat) (f : Option FGran) : UnitSt :=
  { x with resume := x.resume.filter (fun e => e.1 ≠ k) ++ (match f with | some f => [(k, f)] | none => []) }

/-- R166, R167: the resume granule of context `k` is filled for the word at `pc`: from the buffer, or by a fetch. -/
def UnitSt.keepResume (x : UnitSt) (c k : Nat) (pc : Addr) (fromBuf : Bool) : UnitSt :=
  match codeGran c pc with
  | none => x.setResume k none
  | some g =>
    match (if fromBuf then x.fbuf.find? (fun f => f.g = g) else none) with
    | some f => x.setResume k (some f)
    | none => (x.setResume k none).ask g (some k)

/-! ### Containment in force -/

/-- A scope covers context `cid` (Table CX-9). -/
def Scope.covers (c : Scope) (cid : Nat) : Bool :=
  match c.lvl with
  | 0 => c.i == cid
  | 1 => c.i == clusterOf cid
  | 2 => c.i == regionOf cid
  | 3 => c.i == dieOf cid
  | _ => true

/-- The package SAFE state (R23). -/
def inSafe (s : State) : Bool := rdB F.pwr_MODE_SAFE 0 s

/-- A containment action holds the context (R193, R198, R23), or the power-down of its cluster (R487). -/
def isHeld (s : State) (cid : Nat) : Bool :=
  inSafe s || s.contain.held.any (fun c => c.covers cid) || !domOn (clusterOf cid) s

/-! ### Leaving the issue stage -/

/-- R185: a long operation in flight as an entry of the replay list. -/
def Lop.entry (l : Lop) : Replay := { w := l.w, slot := 0, rd := l.rd, pair := l.pair, a := l.a, b := l.b, ea := 0, dueLo := l.dueLo, dueHi := l.dueHi }

/-- Table CX-5, R185: a context's work in progress ends when it stops issuing; `lops` are its long operations in flight. A trap or a halt, which
Table CX-4 does not defer, may make a fifth entry (log entry 99). -/
def Ctx.stop (x : Ctx) (lops : List Lop) : Ctx :=
  let y := x.commitAll
  let last : List Replay := match x.wait with
    | .split w d ea => [{ w := w, slot := 0, rd := d, pair := true, a := 0, b := 0, ea := ea, dueLo := true, dueHi := true }]
    | .popw w slot _ d => [{ w := w, slot := slot, rd := d, pair := false, a := 0, b := 0, ea := 0, dueLo := d != 0, dueHi := true }]
    | _ => []
  let wait := match x.wait with
    | .remoteLoad => .remoteLoad
    | .sleep rd => .sleep rd
    | _ => .none
  { y with replay := lops.map Lop.entry ++ last ++ x.replay, wait := wait }

/-- R166, R180, R189: context `cid`, which the unit runs, stops issuing and takes state `st`. -/
def stopRunning (cid : Nat) (st : CtxState) (s : State) : State :=
  let u := unitOf cid
  let x := s.unit u
  let y := { (s.ctx cid).stop x.lops with st := st }
  let x1 := { x with lops := [], run := none }
  (s.setCtx cid y).setUnit u (x1.keepResume (clusterOf cid) (cid % 16) y.pc true)

/-- Device time in 2⁻³⁶ s, 72 bits (R222). -/
def State.dev72 (s : State) : Nat := s.clock.dev / 2 ^ 29 % 2 ^ 72

/-! ### Requests (R174 to R179, R257) -/

/-- The code of a state (Table CX-1). -/
def CtxState.code : CtxState → Nat
  | .idle => 0 | .ready => 1 | .running => 2 | .preempted => 3 | .halted => 4 | .unbound => 5

/-- A plain request from a source of Table SH-5. -/
def reqOf (cid src : Nat) (s : State) : Req :=
  { cid := cid, src := src, late := false, rev := false, loss := false, held := false, lateNs := 0, time := s.dev72 }

/-- The context becomes READY with a request (Table CX-2). -/
def makeReady (r : Req) (s : State) : State :=
  let (o, s1) := s.nextOrder
  s1.modCtx r.cid (fun x => { x with st := .ready, req := some r, age := o })

/-- R192: a request for the handler of context `cid`, at the handler's own priority. -/
def requestHandler (cid : Nat) (s : State) : State :=
  if rdB F.sctx_CFG_HV cid s then
    let h := 16 * unitOf cid + rd F.sctx_CFG_HANDLER cid s
    match (s.ctx h).st with
    | .idle => makeReady (reqOf h 1 s) s
    | .halted => s.modCtx h (fun x => { x with handlerHeld := true })
    | _ => s
  else s

/-- R192: a context has returned to IDLE; a handler request that was held is made. -/
def becomeIdle (cid : Nat) (s : State) : State :=
  let s1 := s.modCtx cid (fun x => { x with st := .idle, handlerHeld := false })
  if (s.ctx cid).handlerHeld then makeReady (reqOf cid 1 s1) s1 else s1

/-! ### Traps (R189 to R196) -/

/-- What a trap records: FRC's fields, the address and the word of its record. -/
structure Trap where
  cause  : Nat
  prec   : Bool
  slot   : Nat
  reason : Nat
  detail : Nat
  addr   : Nat
  word   : Nat
deriving DecidableEq, Repr

/-- R190: the voluntary causes. -/
def Trap.voluntary (t : Trap) : Bool := t.cause == 4 || t.cause == 5

/-- R189, R190: FRC as a trap writes it; CNT counts up to 3. -/
def Trap.frc (t : Trap) (old : Word) : Word :=
  BitVec.ofNat 36 (t.cause * 2 ^ 28 + (if t.prec then 2 ^ 27 else 0) + t.slot * 2 ^ 26 + min (bits old 24 2 + 1) 3 * 2 ^ 24
    + t.reason * 2 ^ 20 + t.detail)

/-- R189, R196, R201: a context takes a trap. A deferred request is dropped (R257). -/
def trapCtx (cid : Nat) (t : Trap) (s : State) : State :=
  if isHeld s cid then s
  else
    let u := unitOf cid
    let k := cid % 16
    let s1 := if (s.unit u).run = some k then stopRunning cid .halted s
      else (s.modCtx cid (fun x => { x with st := .halted, req := none })).modUnit u
        (fun x => if (x.disp.map (·.k)) = some k then { x with disp := none } else x)
    let s2 := s1.modCtx cid (fun x => { x with frc := t.frc x.frc })
    let s3 := s2.modHeap cid (fun h => { h with deferred := false })
    let s4 := if t.voluntary then s3
      else raise { scope := { lvl := 0, i := cid }, cause := t.cause, notice := false, reason := t.reason, prec := t.prec, slot := t.slot,
                   detail := t.detail, pc := (s3.ctx cid).pc.toNat, addr := t.addr, word := t.word } s3
    requestHandler cid s4

/-- A trap of the context that names no slot, reason or address. -/
def plainTrap (cause detail word : Nat) : Trap :=
  { cause := cause, prec := false, slot := 0, reason := 0, detail := detail, addr := 0, word := word }

/-- R257: a request finds its context not IDLE. -/
def overrun (cid : Nat) (s : State) : State :=
  let x := s.ctx cid
  let s1 := bump F.sch_OVERRUNS (regionOf cid) (s.modHeap cid (fun h => { h with ovr := min (h.ovr + 1) 4095 }))
  match rd F.sctx_CFG_OVR_ACT cid s with
  | 1 => if x.st = .halted then s1
         else trapCtx cid (plainTrap 7 (x.st.code * 2 ^ 16 + (s1.heap cid).ovr) x.trg.toNat) s1
  | 2 => if x.st = .halted then s1 else s1.modHeap cid (fun h => { h with deferred := true })
  | _ => s1

/-- R179: a request arrives at the unit. -/
def arriveReq (r : Req) (s : State) : State :=
  match (s.ctx r.cid).st with
  | .idle => makeReady r s
  | .unbound => s
  | _ => overrun r.cid s

/-- The crossing of region `rg` (Table QU-6). -/
def regionXing (rg : Nat) : Nat := 10 * (rg / 4) + rg % 4

/-- R179, R239, R375, R377: the scheduler makes a request; it crosses to the unit as an event. In toggle mode a pulse in the acknowledge phase is
held and a further one merges with it; in count mode pulses merge when 256 are outstanding. -/
def offerReq (r : Req) (s : State) : State :=
  let x := regionXing (regionOf r.cid)
  let d := dieOf r.cid
  let g := s.xing x
  match (s.ctx r.cid).st with
  | .unbound => s
  | .idle =>
    if g.reset then bump (F.qpl_XING_STAT_LOST.nth (x % 10)) d s
    else if (if rd F.qpl_XING_CTL_MODE0 d s < 2 then g.held.any (fun q => q.cid = r.cid)
             else decide (256 ≤ s.reqs.countP (fun q => q.cid = r.cid))) then bump (F.qpl_XING_STAT_MERGED.nth (x % 10)) d s
    else if g.phase.contains r.cid ∧ rd F.qpl_XING_CTL_MODE0 d s < 2 then
      s.setXing x { g with held := g.held ++ [r] }
    else { s.setXing x { g with phase := g.phase ++ [r.cid] } with reqs := s.reqs ++ [r] }
  | _ => overrun r.cid s

/-! ### Selection and the six dispatch steps (R176 to R183) -/

/-- R176: context `a` goes before context `b`: higher priority, then older, then the lower number. -/
def goesBefore (s : State) (a b : Nat) : Bool :=
  let x := s.ctx a
  let y := s.ctx b
  decide (y.pri < x.pri) || (decide (x.pri = y.pri) && (decide (x.age < y.age) || (decide (x.age = y.age) && decide (a < b))))

/-- R176: the READY or PREEMPTED context that the unit selects. -/
def selectCtx (u : Nat) (s : State) : Option Nat :=
  (List.range 16).foldl (fun best k =>
    let cid := 16 * u + k
    if (s.ctx cid).st = .ready ∨ (s.ctx cid).st = .preempted then
      match best with
      | none => some cid
      | some b => if goesBefore s cid b then some cid else best
    else best) none

/-- Table CX-4: acceptance is deferred: a split LD2 or a waiting POPW with four long operations in flight. -/
def acceptDeferred (x : UnitSt) (c : Ctx) : Bool :=
  decide (x.lops.length = 4) && (match c.wait with | .split _ _ _ => true | .popw _ _ _ _ => true | _ => false)

/-- R180 step 1, R166: the incoming context's resume granule becomes the stream, filled or still being filled, and the granule after `g`, the
granule of its next word, is asked for. The two granules that follow come anew, in whatever form they then have (log entry 100). -/
def UnitSt.beginDispatch (x : UnitSt) (k : Nat) (g : Option Nat) : UnitSt :=
  let x1 := { x with disp := some { k := k, done := 0 }, fbuf := (x.resumeOf k).toList, nbuf := [] }
  match g with
  | some g => x1.request (g + 1)
  | none => x1

/-- R471: an agent that has answered GRANT holds domain `d` still. -/
def heldStill (d : Nat) (s : State) : Bool := match s.pwr.trans with | some t => t.granted.contains d | none => false

/-- Table PW-1, R471: no dispatch is accepted in STANDBY, or in a cluster that is held still. -/
def dispatchHeld (c : Nat) (s : State) : Bool := rd F.pwr_MODE 0 s == 1 || heldStill c s

/-- R177, R180, R182: a dispatch is accepted at a step boundary, when the unit's rules allow one. -/
def acceptDispatch (u : Nat) (s : State) : State :=
  let x := s.unit u
  match if dispatchHeld (u / 8) s then none else selectCtx u s with
  | none => s
  | some cid =>
    let g := codeGran (u / 8) (s.ctx cid).pc
    match x.disp with
    | some d =>
      if (s.ctx (16 * u + d.k)).pri < (s.ctx cid).pri then s.setUnit u (x.beginDispatch (cid % 16) g) else s
    | none =>
      match x.run with
      | none => s.setUnit u (x.beginDispatch (cid % 16) g)
      | some r =>
        let old := 16 * u + r
        if (s.ctx cid).pri ≤ (s.ctx old).pri ∨ acceptDeferred x (s.ctx old) then s
        else
          let (o, s1) := s.nextOrder
          let s2 := (stopRunning old .preempted s1).modCtx old (fun y => { y with age := o })
          s2.modUnit u (fun x => x.beginDispatch (cid % 16) g)

/-- R251, R258: an activation begins: its request is recorded, OVR_CNT is copied and cleared. -/
def beginActivation (cid : Nat) (s : State) : State :=
  match (s.ctx cid).req with
  | none => s
  | some r =>
    let h := s.heap cid
    let b2 (b : Bool) : Nat := if b then 1 else 0
    let s1 := wr F.sctx_ACT_F cid (r.time % 2 ^ 36) (wr F.sctx_ACT_S cid (r.time / 2 ^ 36) s)
    let s2 := wr F.sctx_ACT_INFO_HELD cid (b2 r.held) (wr F.sctx_ACT_INFO_LOSS cid (b2 r.loss) (wr F.sctx_ACT_INFO_REV cid (b2 r.rev)
      (wr F.sctx_ACT_INFO_LATE cid (b2 r.late) (wr F.sctx_ACT_INFO_SRC cid r.src s1))))
    let s3 := wr F.sctx_ACT_INFO_LATE_NS cid (min r.lateNs 4095) (wr F.sctx_ACT_INFO_OVR_CNT cid h.ovr s2)
    (s3.setHeap cid { h with ovr := 0 }).modCtx cid (fun x => { x with req := none, actSteps := 0 })

/-- R145, R172: a unit takes a step, in the window of 1,024 ns that holds tick `t`. -/
def UnitSt.tookStep (x : UnitSt) (t : Nat) : UnitSt :=
  let w := t / 1024 + 1
  { x with steps := x.steps + 1, win := w, winPrev := if x.win = w then x.winPrev else x.win }

/-- R180: one dispatch step; the sixth selects the incoming context. -/
def dispatchStep (u : Nat) (s : State) : State :=
  let x := (s.unit u).tookStep s.clock.tick
  match x.disp with
  | none => s
  | some d =>
    let cid := 16 * u + d.k
    if d.done < 5 then s.setUnit u { x with disp := some { d with done := d.done + 1 } }
    else
      let s1 := s.setUnit u { x with disp := none, run := some d.k, owner := cid }
      (beginActivation cid s1).modCtx cid (fun c => { c with st := .running })

/-- A dispatch is accepted where it can be, and `n` dispatch steps run. -/
def runDispatch (u n : Nat) (s : State) : State := times (dispatchStep u) n (acceptDispatch u s)

/-- A context's trigger and deadline are both taken away. -/
def Heap.cleared (h : Heap) : Heap :=
  { h with ang := .disarmed, dl := none, reachedAt := none, inc := none, flags := Flags.none, dlDue := false, revFlag := false }

/-! ### YIELD at the scheduler, deadlines, and returns to IDLE -/

/-- R243: an access to a heap entry whose copies differ is a HEAP_INTEGRITY fault of the region. -/
def checkHeap (cid : Nat) (s : State) : State :=
  if (s.heap cid).bad then raiseAt 2 (regionOf cid) 32 cid 0 (s.modHeap cid (fun h => { h with bad := false })) else s

/-- R128, Table PL-3: an armed bit changes with the distance of class Q for a running context, at once for any other. For the fall by DISARM
(class N), a fire or an expiry the spec names no distance; the model takes that of class Q for it too (log entry 101). -/
def setArmedBit (cid : Nat) (dst : Dest) (v : Bool) (s : State) : State :=
  let p : Pend := { dst := dst, val := if v then 1 else 0, due := (s.unit (unitOf cid)).steps + 5 }
  if (s.ctx cid).st = .running then s.modCtx cid (fun x => { x with pend := x.pend ++ [p] })
  else s.modCtx cid (fun x => x.write p)

/-- R255: the YIELD event reaches the scheduler: a deadline not yet past is met; a deferred request is made (R257). -/
def yieldEvent (cid : Nat) (s0 : State) : State :=
  let s := checkHeap cid s0
  let h := s.heap cid
  let met := match h.dl with | some t => decide (s.dev72 ≤ t) | none => false
  let s1 := if met then (s.setHeap cid { h with dl := none }).modCtx cid (fun x => { x with dlBit := false }) else s
  if h.deferred then offerReq (reqOf cid 3 s1) (s1.modHeap cid (fun h => { h with deferred := false })) else s1

/-- R193: a write of FRC with CAUSE = 0 to a HALTED context that no containment action holds returns it to IDLE; any write of FRC
changes FRC. -/
def writeFrc (cid : Nat) (v : Word) (s : State) : State :=
  let s1 := s.modCtx cid (fun x => { x with frc := v })
  if bits v 28 8 = 0 ∧ (s.ctx cid).st = .halted ∧ ¬ isHeld s cid then becomeIdle cid s1 else s1

/-- The open items of the queues that a context produces are aborted (R368). -/
def abortItems (cid : Nat) (s : State) : State :=
  (queuesWith s 1 (fun kind inst => kind = 1 ∧ inst / 32 = cid)).foldl (fun s q => abortItem q s) s

/-- R188: a write of the PC of another context: its pending target and its replay list are discarded, its resume granule is refilled
(R167), and its open items are aborted (R368). -/
def writeOtherPc (cid : Nat) (v : Word) (s : State) : State :=
  let pc : Addr := v.setWidth 32
  let s1 := s.modCtx cid (fun x => { x with pc := pc, targets := [], replay := [] })
  abortItems cid (s1.modUnit (unitOf cid) (fun x => x.keepResume (clusterOf cid) (cid % 16) pc false))

end Sys2Proof.Machine
end

