-- ==== Sys2Proof/Machine/Links.lean ====
section
/-! DEFINITION. The links and the link switch of Quadrille (chapter 15, R430 to R447, R459, R460): flits, sequence numbers and credits,
input buffers, routing, injection and ejection, violations, and what leaving UP loses. -/

set_option Elab.async false

namespace Sys2Proof.Machine

/-! ### Flits (R433, R434, Table QF-2) -/

/-- R434: one bit through the CRC-16 of x¹⁶ + x¹² + x⁵ + 1. -/
def crc16Bit (c : Nat) (b : Bool) : Nat :=
  let t := (c.testBit 15) != b
  let c1 := c * 2 % 65536
  if t then c1 ^^^ 0x1021 else c1

/-- R434: the CRC of the `n` low bits of `x`, most significant first, preset to ones. -/
def crc16 : Nat → Nat → Nat → Nat
  | 0, _, c => c
  | n + 1, x, c => crc16 n x (crc16Bit c (x.testBit n))

/-- R319: the check bits C18 to C0 of a granule with its poison bit. -/
def codeCheck (g : Granule) (pb : Bool) : Nat := codeSyndrome (g.toNat * 2 ^ 19 + if pb then 2 ^ 275 else 0)

/-- Table QF-2: a flit. -/
def flitOf (typ vc : Nat) (pb : Bool) (g : Granule) : BitVec 296 :=
  let top := typ * 2 ^ 278 + vc * 2 ^ 276 + (if pb then 2 ^ 275 else 0) + codeCheck g pb * 2 ^ 256 + g.toNat
  BitVec.ofNat 296 (top * 65536 + crc16 280 top 65535)

/-! ### Link states -/

/-- LINK_STAT.STATE (Table QF-1). -/
def linkState (l : Nat) (s : State) : Nat := rd F.link_LINK_STAT_STATE l s

/-- The link is UP. -/
def linkUp (l : Nat) (s : State) : Bool := linkState l s == 4

/-- The crossing X_QDl (Table QU-6). -/
def linkXing (l : Nat) : Nat := 10 * (l / 3) + 6 + l % 3

/-- R440: the buffer slots of a VC. -/
def vcSlots (vc : Nat) : Nat := if vc = 0 then 32 else if vc = 1 then 192 else 16

/-- The credits that a link's transmitter holds for VC `vc` (CREDIT). -/
def linkCred (vc : Nat) : FRef := ⟨.link, 5, 9 * vc, 9⟩

/-- A LINK flit leaves (R436, Table QF-3): CODE, words 1 to 4, and the acknowledge and credit state. -/
def sendLink (l code : Nat) (ws : List Nat) (s : State) : State :=
  if 3 ≤ linkState l s ∧ linkState l s ≤ 5 then
    let x := s.link l
    let w5 := (if x.nak then 4096 else 0) + (x.rxSeq + 4095) % 4096
    let w6 := (List.range 4).foldl (fun a v => a + Sparse.get 0 v x.freed * 512 ^ v) 0
    let body := (ws ++ [0, 0, 0, 0]).take 4
    let g := granOf (([code * 2 ^ 32 + l] ++ body ++ [w5, w6]).map (BitVec.ofNat 36)) 0
    { s with sent := s.sent ++ [.flit l (flitOf 3 0 false g)] }
  else s

/-- R435: a sequenced flit leaves; it stays in the replay buffer and takes a credit. -/
def sendSequenced (l typ vc : Nat) (g : Granule) (pb : Bool) (s : State) : State :=
  let x := s.link l
  let f := flitOf typ vc pb g
  let s1 := s.setLink l { x with txSeq := (x.txSeq + 1) % 4096, replay := x.replay ++ [(x.txSeq, f)] }
  let s2 := wr (linkCred vc) l (rd (linkCred vc) l s - 1) (bump F.link_FLITS_TX l s1)
  { s2 with sent := s2.sent ++ [.flit l f] }

/-! ### Time stamps at the ball (R56, R450, R451) -/

/-- R56, R450, R453: device time in 2⁻⁶⁵ s as a stamp takes it, by a capture or at a ball: one of the steps of 125 ps of this tick, or of the 250 ps on
either side, which is free. -/
def ballTime (s : State) : Nat × State :=
  let (u, s1) := s.anyBelow 12
  ((((s.clock.dev : Int) + ((u : Int) - 2) * (rd F.tbu_TIME_INC 0 s + rdZ F.tbu_TIME_SLEW 0 s) / 8) % 2 ^ 101).toNat, s1)

/-- TIME_F of a stamp. -/
def stampF (t : Nat) : Nat := t / 2 ^ 29 % 2 ^ 36

/-- TIME_S of a stamp. -/
def stampS (t : Nat) : Nat := t / 2 ^ 65 % 2 ^ 36

/-! ### Heads (R438, Table QF-4) -/

/-- A field of word `w` of a granule. -/
def gbits (g : Granule) (w lo n : Nat) : Nat := g.toNat / 2 ^ (36 * w + lo) % 2 ^ n

/-- KIND. -/
def hKind (g : Granule) : Nat := gbits g 0 32 4
/-- LEN. -/
def hLen (g : Granule) : Nat := gbits g 0 23 9
/-- HOPS. -/
def hHops (g : Granule) : Nat := gbits g 0 18 5
/-- DPORT. -/
def hPort (g : Granule) : Nat := gbits g 0 15 3
/-- DEST. -/
def hDest (g : Granule) : Nat := gbits g 1 16 16
/-- SRC. -/
def hSrc (g : Granule) : Nat := gbits g 1 0 16

/-- The device's own ID and whether it is valid. -/
def devId (s : State) : Nat := rd F.qdl_DEV_ID_ID 0 s
/-- ASSIGNED. -/
def assigned (s : State) : Bool := rdB F.qdl_DEV_ID_ASSIGNED 0 s

/-- A head granule of this device's making. -/
def headOf (kind len dest : Nat) (ws : List Nat) (s : State) : Granule :=
  granOf (([kind * 2 ^ 32 + len * 2 ^ 23, dest * 2 ^ 16 + devId s] ++ ws).map (BitVec.ofNat 36)) (if len = 0 then 15 else 7)

/-- A packet of this device's making waits on an output link. -/
def sendLocal (l vc : Nat) (gs : List Granule) (s : State) : State := s.modLink l (fun x => { x with tx := x.tx ++ [(vc, gs)] })

/-- R457: a fenced peer. -/
def fencedPeer (id : Nat) (s : State) : Bool :=
  (List.range 32).any (fun i => rdB (F.qdl_PEER_FENCE_V.nth i) 0 s && rd (F.qdl_PEER_FENCE_ID.nth i) 0 s == id)

/-- Where R445 and R446 send a packet: this device, an output link that is UP, a wait for a link, or a drop, without a route or not. -/
inductive Route where
  | here
  | out (l : Nat)
  | wait (l : Nat)
  | noRoute
  | lost
deriving DecidableEq, Repr

/-- R445, R446, R448. -/
def routeOf (dest : Nat) (s : State) : Route :=
  let own := devId s
  let via (i : Nat) : Route :=
    if !rdB F.route_ROUTE_V i s then .noRoute
    else
      let main := rd F.route_ROUTE_LINK i s
      let t := if !linkUp main s && rdB F.route_ROUTE_ALT_V i s then rd F.route_ROUTE_ALT i s else main
      if linkUp t s then .out t else if 6 ≤ linkState t s then .lost else .wait t
  if dest / 256 ≠ own / 256 then via (dest / 256)
  else if dest % 256 ≠ own % 256 then via (256 + dest % 256)
  else if assigned s then .here else .noRoute

/-! ### Violations (R459, R460) -/

/-- The next entry of VLOG written. -/
def logLinkViolation (l code vc src : Nat) (s : State) : State :=
  let i := rd F.qdl_VLOG_STAT_NEXT 0 s
  let s1 := bump F.qdl_VLOG_STAT_COUNT 0 (if s.qdl.unread.contains i then bump F.qdl_VLOG_STAT_LOST 0 s else s)
  let s2 := wr (F.qdl_VLOG_CODE.nth (2 * i)) 0 code (wr (F.qdl_VLOG_LINK.nth (2 * i)) 0 l (wr (F.qdl_VLOG_VC.nth (2 * i)) 0 vc
    (wr (F.qdl_VLOG_SRC.nth (2 * i)) 0 src (wr (F.qdl_VLOG_TIME_F.nth (2 * i)) 0 s.timeF s1))))
  wr F.qdl_VLOG_STAT_NEXT 0 ((i + 1) % 16) { s2 with qdl := { s2.qdl with unread := insertNat i s2.qdl.unread } }

/-! ### Ends of packets (R432, R443) -/

/-- The ejection queue of a port and VC (R442). -/
def ejectQueue (port vc : Nat) (s : State) : Option Nat := producerQueue s 8 (4 * port + vc)

/-- The source that ejects a packet into ejection endpoint `e`: 0 to 5 an input, 6 + p an injection queue. -/
def ejector (e : Nat) (s : State) : Option Nat := (s.qdl.eject.find? (fun x => x.1 = e)).map (·.2)

/-- Ejection endpoint `e` taken by a source, or free. -/
def setEjector (e : Nat) (src : Option Nat) (s : State) : State :=
  let l := s.qdl.eject.filter (fun x => x.1 ≠ e)
  { s with qdl := { s.qdl with eject := match src with | some k => l ++ [(e, k)] | none => l } }

/-- `n` slots of VC `vc` of link `l` are freed for packets that came since the link entered UP. -/
def freeSlots (l vc n : Nat) (old : Bool) (s : State) : State :=
  if old then s else s.modLink l (fun x => { x with freed := Sparse.put 0 vc ((Sparse.get 0 vc x.freed + n) % 512) x.freed })

/-- The packets that wait in an input buffer. -/
def rxOf (l vc : Nat) (s : State) : List RxPkt := Sparse.get [] vc (s.link l).rx

/-- The packets of an input buffer changed. -/
def setRx (l vc : Nat) (ps : List RxPkt) (s : State) : State := s.modLink l (fun x => { x with rx := Sparse.put [] vc ps x.rx })

/-- R443: what the device holds of a packet is discarded; a part that has gone on is aborted where it went. -/
def endPacket (l vc : Nat) (p : RxPkt) (s : State) : State :=
  let s1 := bump F.link_ERR_ABORTS l (freeSlots l vc (p.body.length + if p.moved then 0 else 1) p.old s)
  if !p.moved then s1
  else match p.out with
    | some o => sendLink o 5 [vc] (s1.modLink o (fun x => { x with cur := x.cur.filter (fun c => c.1 ≠ vc) }))
    | none =>
      let s2 := setEjector (4 * hPort p.head + vc) none s1
      match ejectQueue (hPort p.head) vc s with
      | some q => abortItem q s2
      | none => s2

/-- The part of a packet that is still arriving on a VC ends early. -/
def endPartial (l vc : Nat) (s : State) : State :=
  match (rxOf l vc s).find? (fun p => p.need ≠ 0) with
  | some p => endPacket l vc p (setRx l vc ((rxOf l vc s).filter (fun p => p.need = 0)) s)
  | none => s

/-- R432: a queue's item is discarded up to and including the granule that ends it; `n` bounds its granules. -/
def dropToEnd : Nat → Nat → State → State
  | 0, _, s => s
  | n + 1, q, s =>
    match takeGran q s with
    | (some (g, _), s1) => if 8 ≤ granTag g then s1 else dropToEnd n q s1
    | (none, s1) => s1

/-- The injection queue of a port and VC (R441). -/
def injectQueue (port vc : Nat) (s : State) : Option Nat := consumerQueue s 8 (4 * port + vc)

/-- R432: the transmitter gives up a packet that it has partly sent on VC `vc`. -/
def giveUpSending (l vc : Nat) (s : State) : State :=
  match (s.link l).cur.find? (fun c => c.1 = vc) with
  | none => s
  | some (_, src) =>
    let s1 := bump F.link_ERR_ABORTS l (s.modLink l (fun x => { x with cur := x.cur.filter (fun c => c.1 ≠ vc) }))
    if src < 6 then
      match rxOf src vc s1 with
      | p :: r => freeSlots src vc p.body.length p.old (setRx src vc (if p.need = 0 then r else { p with body := [], drop := true } :: r) s1)
      | [] => s1
    else if src < 12 then
      match injectQueue (src - 6) vc s1 with
      | some q => dropToEnd 512 q s1
      | none => s1
    else s1.modLink l (fun x => { x with tx := x.tx.eraseP (fun t => t.1 = vc) })

/-- R432, R443, R376: link `l` leaves UP: every packet that has not wholly crossed is lost in both directions; counts begin afresh; the link's
side of its crossing is reset. -/
def leaveUp (l : Nat) (s : State) : State :=
  let s1 := forN 4 (fun v s => giveUpSending l v s) s
  let s2 := forN 4 (fun v s => endPartial l v s) s1
  let s3 := s2.modLink l (fun x =>
    { x with replay := [], rxSeq := 0, txSeq := 0, acked := 4095, naks := 0, nak := false, freed := [], filled := [], seen := [],
             helloRx := false, helloTx := false, t1 := none,
             rx := x.rx.map (fun e => (e.1, e.2.map (fun p => { p with old := true }))) })
  assertFar (linkXing l) (s3.setReg (keyOf .link l 5) 0)

/-- A link takes a state of Table QF-1. -/
def setLinkState (l st : Nat) (s : State) : State :=
  let s1 := if linkUp l s ∧ st ≠ 4 then leaveUp l s else s
  wr F.link_LINK_STAT_STATE l st s1

/-- A link retrains (R435). -/
def retrain (l : Nat) (s : State) : State := bump F.link_ERR_RETRAIN l (setLinkState l 5 s)

/-- R435, R440: a link enters UP with the whole credit of its partner's buffers. -/
def enterUp (l : Nat) (s : State) : State :=
  forN 4 (fun v s => wr (linkCred v) l (vcSlots v) s) (setLinkState l 4 s)

/-- R459, R460: a violation on link `l` is counted, logged and answered; the 16th within 1 ms fences the link. -/
def violation (l code vc src : Nat) (s : State) : State :=
  let s1 := sendLink l 4 [vc * 256 + code] (logLinkViolation l code vc src (bump F.link_VIOL_COUNT l s))
  let now := s.clock.tick
  let ts := (((s1.link l).violAt ++ [now]).reverse.take 16).reverse
  let s2 := s1.modLink l (fun x => { x with violAt := ts })
  if ts.length = 16 ∧ now ≤ ts.headD now + 1000000 ∧ linkUp l s then
    setLinkState l 7 (bump F.link_VIOL_FENCES l (sendLink l 6 [] (s2.modLink l (fun x => { x with violAt := [] }))))
  else s2

/-! ### Reception (R435, R437, R438, R440, R459) -/

/-- A VC allowed for a KIND (Table QF-5). -/
def kindVc (kind vc : Nat) : Bool :=
  match kind with
  | 1 => decide (vc ≤ 1)
  | 2 | 3 => vc == 0
  | 4 | 5 => vc == 2
  | 6 => vc == 3
  | _ => false

/-- Table QF-9: a bit of words 2 to 6 that the table does not name for the type is not zero. -/
def mgmtReserved (g : Granule) : Bool :=
  let mt := gbits g 2 32 4
  let flooded := mt == 5 || mt == 6
  gbits g 2 16 16 != 0 || gbits g 3 24 4 != 0 || (flooded && gbits g 3 0 36 != 0) || (!(flooded || mt == 3) && gbits g 4 0 16 != 0)
  || gbits g 4 16 19 != 0 || (mt != 5 && gbits g 4 35 1 != 0) || gbits g 5 0 36 != 0 || gbits g 6 0 36 != 0

/-- A reserved head field is not zero (Tables QF-4, QF-8, QF-9), or LEN is above 256. -/
def headReserved (g : Granule) : Bool :=
  let k := hKind g
  gbits g 0 0 15 != 0 || gbits g 1 32 4 != 0 || decide (256 < hLen g) || (k != 1 && hPort g != 0)
  || (decide (k = 2 ∨ k = 3) && g.toNat / 2 ^ 72 % 2 ^ 180 != 0)
  || (k == 4 && (gbits g 4 16 14 != 0 || gbits g 5 0 36 != 0 || gbits g 6 0 36 != 0))
  || (k == 6 && mgmtReserved g)

/-- The tag that R438 gives a head. -/
def headTag (g : Granule) : Nat := if hLen g = 0 then 15 else 7

/-- A slot of VC `vc` is full: the partner holds no credit (R440). -/
def noSlot (l vc : Nat) (s : State) : Bool :=
  let x := s.link l
  decide (vcSlots vc ≤ (Sparse.get 0 vc x.filled + 512 - Sparse.get 0 vc x.freed) % 512)

/-- A sequenced flit carries the expected number. -/
def acceptFlit (l : Nat) (s : State) : State :=
  bump F.link_FLITS_RX l (s.modLink l (fun x => { x with rxSeq := (x.rxSeq + 1) % 4096, nak := false }))

/-- A granule fills a slot. -/
def fillSlot (l vc : Nat) (s : State) : State :=
  s.modLink l (fun x => { x with filled := Sparse.put 0 vc ((Sparse.get 0 vc x.filled + 1) % 512) x.filled })

/-- A sequenced flit that is dropped on arrival gives its slot back at once; a flit without a credit has taken none. -/
def passSlot (l vc : Nat) (s : State) : State := if noSlot l vc s then s else freeSlots l vc 1 false (fillSlot l vc s)

/-- R437: the decode of a granule received, counted in XECC. -/
def linkDecode (isHead : Bool) (g : Granule) (err : Nat) (s : State) : Decoded × Granule × Bool × State :=
  let (d, v, pb, n) := decodeCode g false err
  let s1 := if n = 1 then bump ⟨.qdl, 11, 27, 9⟩ 0 s else if n = 2 then bump ⟨.qdl, 11, 18, 9⟩ 0 s else s
  let s2 := match d with
    | .bad => bump ⟨.qdl, 11, 9, 9⟩ 0 s1
    | .poisoned => if isHead then bump ⟨.qdl, 11, 9, 9⟩ 0 s1 else bump ⟨.qdl, 11, 0, 9⟩ 0 s1
    | _ => s1
  (d, v, pb, s2)

/-- A HEAD flit arrives: the state, and whether its bodies are taken. -/
def receiveHead (l vc err : Nat) (g0 : Granule) (s0 : State) : State × Bool :=
  let s := acceptFlit l s0
  let (d, g, _, s1) := linkDecode true g0 err s
  if d = .bad ∨ d = .poisoned then (passSlot l vc s1, false)
  else
    let early := (rxOf l vc s1).any (fun p => p.need ≠ 0)
    let code := if early then 2 else if !kindVc (hKind g) vc then 3 else if headReserved g then 4 else if noSlot l vc s1 then 5
      else if granTag g ≠ headTag g then 7 else 0
    if code ≠ 0 then (violation l code vc (hSrc g) (passSlot l vc (if early then endPartial l vc s1 else s1)), false)
    else if 31 ≤ hHops g then (bump F.qdl_MGMT_STAT_TTL_DROP 0 (passSlot l vc s1), false)
    else
      let p : RxPkt := { head := granPut g 18 5 (hHops g + 1), body := [], need := hLen g, moved := false, out := none, drop := false,
                         old := false }
      (setRx l vc (rxOf l vc s1 ++ [p]) (fillSlot l vc s1), true)

/-- A BODY flit arrives for the packet in progress on its VC: the state, and whether the bodies after it are taken. -/
def receiveBody (l vc err : Nat) (g0 : Granule) (s0 : State) : State × Bool :=
  let s := acceptFlit l s0
  let (_, g, pb, s1) := linkDecode false g0 err s
  match (rxOf l vc s1).find? (fun p => p.need ≠ 0) with
  | none => (violation l 1 vc 0 (passSlot l vc s1), true)
  | some p =>
    let code := if noSlot l vc s1 then 5 else if granTag g % 8 = 0 then 7 else 0
    if code ≠ 0 then (violation l code vc (hSrc p.head) (passSlot l vc (endPartial l vc s1)), false)
    else
      let add (p : RxPkt) : RxPkt := if p.need = 0 then p else { p with need := p.need - 1, body := if p.drop then [] else p.body ++ [(g, pb)] }
      let s2 := fillSlot l vc (setRx l vc ((rxOf l vc s1).map add) s1)
      (if p.drop then freeSlots l vc 1 p.old s2 else s2, true)

/-! ### Moving packets on (R439, R441, R442, R445) -/

/-- The first packet of an input buffer replaced, or removed with `none`. -/
def setFirst (l vc : Nat) (p : Option RxPkt) (s : State) : State :=
  setRx l vc (match p with | some p => p :: (rxOf l vc s).drop 1 | none => (rxOf l vc s).drop 1) s

/-- A packet is dropped: what is buffered is freed; the bodies still to come are dropped as they arrive. -/
def dropFirst (l vc : Nat) (p : RxPkt) (s : State) : State :=
  let s1 := freeSlots l vc (p.body.length + if p.moved then 0 else 1) p.old s
  setFirst l vc (if p.need = 0 then none else some { p with body := [], moved := true, drop := true }) s1

/-- A COMMAND that has reached its destination (R423, R438): its granules with their poison bits, and the device that sent it. The executor needs
no D41. One whose command header is poisoned names no command that can be trusted, and is dropped (log entry 115). -/
def forwardedCmd (head : Granule) (gs : List (Granule × Bool)) (s : State) : State :=
  match gs with
  | (h, false) :: data => { s with host := { s.host with
        cmds := s.host.cmds ++ [{ ring := 8, hdr := h, data := data.map (·.1), bad := data.map (·.2), done := 0, fwd := true, src := hSrc head,
                                  begun := false, dead := false }] } }
  | _ => s

/-- A RESULT that has reached its entry device (R423); one with a poisoned granule is dropped (log entry 115). -/
def arrivedResult (gs : List (Granule × Bool)) (s : State) : State :=
  if gs.any (·.2) then s else { s with qdl := { s.qdl with results := s.qdl.results ++ [gs.map (·.1)] } }

/-- One move of the first packet of an input buffer that ends at this device, or is dropped; none when nothing can move. -/
def inputMove (l vc : Nat) (s : State) : Option State :=
  match rxOf l vc s with
  | [] => none
  | p :: _ =>
    if p.drop then (if p.need = 0 then some (setFirst l vc none s) else none)
    else if p.moved then
      match p.out, p.body with
      | some _, _ => none
      | none, [] => if p.need = 0 then some (setEjector (4 * hPort p.head + vc) none (setFirst l vc none s)) else none
      | none, (g, pb) :: r =>
        match ejectQueue (hPort p.head) vc s with
        | none => some (setEjector (4 * hPort p.head + vc) none (dropFirst l vc p s))
        | some q =>
          if canPushGran s q && !(s.xing (linkXing (hPort p.head))).reset then
            some (pushGran q g pb (freeSlots l vc 1 p.old (setFirst l vc (some { p with body := r }) s)))
          else none
    else match routeOf (hDest p.head) s with
      | .out _ => none
      | .wait _ => none
      | .noRoute => some (bump F.qdl_DROP_STAT_NO_ROUTE 0 (dropFirst l vc p s))
      | .lost => some (dropFirst l vc p s)
      | .here =>
        if hKind p.head = 1 then
          if inSafe s then some (dropFirst l vc p s)
          else match ejectQueue (hPort p.head) vc s with
            | none => some (bump F.qdl_DROP_STAT_UNBOUND 0 (dropFirst l vc p s))
            | some q =>
              if canPushGran s q && (ejector (4 * hPort p.head + vc) s).isNone && !(s.xing (linkXing (hPort p.head))).reset then
                some (setEjector (4 * hPort p.head + vc) (some l)
                  (pushGran q p.head false (freeSlots l vc 1 p.old (setFirst l vc (some { p with moved := true }) s))))
              else none
        else if p.need ≠ 0 then none
        else
          let s1 := freeSlots l vc (p.body.length + 1) p.old (setFirst l vc none s)
          some (if hKind p.head = 2 then forwardedCmd p.head p.body { s1 with qdl := { s1.qdl with imageReturn := some l } }
                else arrivedResult p.body s1)

/-- The granules of the complete item at the head of a queue. -/
def itemGrans : List QCell → Option (List QCell)
  | [] => none
  | c :: l => if c.closed then (if c.e then some [c] else (itemGrans l).map (c :: ·)) else none

/-- R441: an injected item is well formed. -/
def itemOk (vc : Nat) (cs : List QCell) : Bool :=
  match cs with
  | [] => false
  | c :: r =>
    let g := c.gran
    hKind g == 1 && decide (vc ≤ 1) && (granTag g == 7 || granTag g == 15) && hLen g == r.length && gbits g 0 0 15 == 0 && gbits g 1 32 4 == 0

/-- The head of an injected packet: SRC written, HOPS 0 (R438). -/
def injectHead (g : Granule) (s : State) : Granule := granPut (granPut g 36 16 (devId s)) 18 5 0

/-- What an injection queue offers: its queue and the head of its complete item, or none. A device without ASSIGNED injects nothing. -/
def injectOffer (port vc : Nat) (s : State) : Option (Nat × List QCell) :=
  if !assigned s || (s.xing (linkXing port)).reset || !domOn (42 + port) s then none
  else match injectQueue port vc s with
    | none => none
    | some q =>
      let x := s.queue q
      if x.resetting || x.rdc ≠ 0 || x.rdw ≠ 0 then none else (itemGrans x.cells).map (fun cs => (q, cs))

/-- One move of an injection queue that leads to no link: a drop, or a push into an ejection queue of this device. -/
def injectMove (port vc : Nat) (s : State) : Option State :=
  match (List.range 6).find? (fun d => ejector (4 * d + vc) s = some (6 + port)) with
  | some d =>
    match injectQueue port vc s, ejectQueue d vc s with
    | some q, some e =>
      if consPath s q && canPushGran s e then
        match takeGran q s with
        | (some (g, pb), s1) =>
          let s2 := pushGran e g pb s1
          some (if 8 ≤ granTag g then setEjector (4 * d + vc) none s2 else s2)
        | _ => none
      else none
    | _, _ => none
  | none =>
    if (List.range 6).any (fun o => (s.link o).cur.contains (vc, 6 + port)) then none
    else match injectOffer port vc s with
      | none => none
      | some (q, cs) =>
        let g := (cs.headD { ws := [], e := true, closed := true, pb := false, err := 0, checked := true, orig := none }).gran
        if !itemOk vc cs then some (bump F.qdl_DROP_STAT_BAD_LOCAL 0 (dropToEnd cs.length q s))
        else if fencedPeer (hDest g) s then some (bump F.qdl_DROP_STAT_FENCED_DEST 0 (dropToEnd cs.length q s))
        else match routeOf (hDest g) s with
          | .noRoute => some (bump F.qdl_DROP_STAT_NO_ROUTE 0 (dropToEnd cs.length q s))
          | .lost => some (dropToEnd cs.length q s)
          | .here =>
            if inSafe s then some (dropToEnd cs.length q s)
            else match ejectQueue (hPort g) vc s with
              | none => some (bump F.qdl_DROP_STAT_UNBOUND 0 (dropToEnd cs.length q s))
              | some e =>
                if canPushGran s e && (ejector (4 * hPort g + vc) s).isNone then
                  match takeGran q s with
                  | (some (_, pb), s1) =>
                    let s2 := pushGran e (injectHead g s) pb s1
                    some (if cs.length = 1 then s2 else setEjector (4 * hPort g + vc) (some (6 + port)) s2)
                  | _ => none
                else none
          | _ => none

/-- The sources that hold a flit for VC `vc` of output `o`: the one in the middle of a packet, else those with a head for it. TIME, MIRROR and MGMT
packets, on VC 2 and 3, go by no routing table (Table QF-5). -/
def sourcesFor (o vc : Nat) (s : State) : List Nat :=
  match (s.link o).cur.find? (fun c => c.1 = vc) with
  | some (_, src) =>
    let has := if src < 6 then (match rxOf src vc s with | p :: _ => !p.body.isEmpty | [] => false)
      else if src < 12 then (match injectQueue (src - 6) vc s with | some q => consPath s q && (s.queue q).hasGran | none => false)
      else (s.link o).tx.any (fun t => t.1 = vc)
    if has then [src] else []
  | none =>
    (List.range 6).filter (fun i => decide (vc < 2) && match rxOf i vc s with
      | p :: _ => !p.moved && !p.drop && routeOf (hDest p.head) s == .out o
      | [] => false)
    ++ ((List.range 6).filter (fun p => !(List.range 6).any (fun o => (s.link o).cur.contains (vc, 6 + p)) &&
        (List.range 6).all (fun d => ejector (4 * d + vc) s ≠ some (6 + p)) &&
        (match injectOffer p vc s with
          | some (_, c :: cs) => itemOk vc (c :: cs) && !fencedPeer (hDest c.gran) s && routeOf (hDest c.gran) s == .out o
          | _ => false))).map (6 + ·)
    ++ (if (s.link o).tx.any (fun t => t.1 = vc) then [12] else [])

/-- The source in the middle of VC `vc` of an output, set or cleared. -/
def setCur (o vc : Nat) (src : Option Nat) (s : State) : State :=
  s.modLink o (fun x =>
    let r := x.cur.filter (fun c => c.1 ≠ vc)
    { x with cur := match src with | some k => r ++ [(vc, k)] | none => r })

/-- R451: the head of a TIME packet takes TX_S and TX_F as it leaves the ball. -/
def stampHead (g : Granule) (s : State) : Granule × State :=
  if hKind g = 4 then
    let (t, s1) := ballTime s
    (granPut (granPut g 72 36 (stampS t)) 108 36 (stampF t), s1)
  else (g, s)

/-- One flit from a source leaves on VC `vc` of output `o`. -/
def sendFrom (o vc src : Nat) (s : State) : State :=
  if src < 6 then
    match rxOf src vc s with
    | [] => s
    | p :: _ =>
      let (typ, g, pb, p1) : Nat × Granule × Bool × RxPkt :=
        match p.moved, p.body with
        | true, (g, pb) :: r => (2, g, pb, { p with body := r })
        | _, _ => (1, p.head, false, { p with moved := true, out := some o })
      let done := p1.need == 0 && p1.body.isEmpty
      let s1 := freeSlots src vc 1 p.old (setFirst src vc (if done then none else some p1) s)
      sendSequenced o typ vc g pb (setCur o vc (if done then none else some src) s1)
  else if src < 12 then
    match injectQueue (src - 6) vc s with
    | none => s
    | some q =>
      let begun := (s.link o).cur.contains (vc, src)
      match takeGran q s with
      | (some (g, pb), s1) =>
        let s2 := setCur o vc (if 8 ≤ granTag g then none else some src) s1
        if begun then sendSequenced o 2 vc g pb s2 else sendSequenced o 1 vc (injectHead g s) pb s2
      | (none, s1) => s1
  else
    match (s.link o).tx.find? (fun t => t.1 = vc) with
    | some (_, g :: r) =>
      let begun := (s.link o).cur.contains (vc, src)
      let rest := (s.link o).tx.eraseP (fun t => t.1 = vc)
      let s1 := s.modLink o (fun x => { x with tx := if r.isEmpty then rest else (vc, r) :: rest })
      let (g1, s2) := if begun then (g, s1) else stampHead g s1
      sendSequenced o (if begun then 2 else 1) vc g1 false (setCur o vc (if r.isEmpty then none else some src) s2)
    | _ => s.modLink o (fun x => { x with tx := x.tx.eraseP (fun t => t.1 = vc) })

/-- The VCs of output `o` that hold a flit and a credit, with their sources. -/
def sendable (o : Nat) (s : State) : List (Nat × List Nat) :=
  if linkUp o s && decide ((s.link o).replay.length < 256) then
    [2, 3, 0, 1].filterMap (fun v =>
      if rd (linkCred v) o s = 0 then none
      else match sourcesFor o v s with | [] => none | l => some (v, l))
  else []

/-- R439: one flit leaves on output `o`: strict priority, data at least one slot in eight; the order among sources is a free choice. -/
def outputMove (o : Nat) (s : State) : Option State :=
  let c := sendable o s
  let data := c.find? (fun x => x.1 = 1)
  let pick := match data with
    | some d => if 7 ≤ (s.link o).others then some d else c.head?
    | none => c.head?
  match pick with
  | none => none
  | some (v, srcs) =>
    let (i, s1) := if srcs.length ≤ 1 then (0, s) else s.anyBelow srcs.length
    let s2 := s1.modLink o (fun x => { x with others := if v = 1 ∨ data.isNone then 0 else x.others + 1 })
    some (sendFrom o v (srcs.getD i 0) s2)

/-- One move anywhere in the link switch. -/
def switchMove (s : State) : Option State :=
  ((List.range 12).findSome? (fun i => inputMove (i / 2) (i % 2) s)).orElse (fun _ =>
    ((List.range 12).findSome? (fun i => injectMove (i / 2) (i % 2) s)).orElse (fun _ =>
      (List.range 6).findSome? (fun o => outputMove o s)))

/-- Packets move on as far as they can; `n` bounds the moves. -/
def moveAll : Nat → State → State
  | 0, s => s
  | n + 1, s => match switchMove s with
    | some s1 => moveAll n s1
    | none => s

/-- A link's buffers hold something, or a packet is on its way through the switch, or an injection queue holds a cell. -/
def linkWork (s : State) : Bool :=
  s.links.any (fun e => e.2.rx.any (fun r => !r.2.isEmpty) || !e.2.tx.isEmpty || !e.2.cur.isEmpty) || !s.qdl.eject.isEmpty
    || s.queues.any (fun e => decide (e.1 < 8192) && !e.2.cells.isEmpty && bits (rdW F.desc_CONS e.1 s) 17 4 == 8)

/-- The link switch works while its domain is on and a link or an injection queue has something to move. -/
def moveLinks (s : State) : State := if domOn 48 s && linkWork s then moveAll 8192 s else s

/-- The flits of a packet in turn; `errs` are the bit errors of its granules by number. -/
def receiveFlits (l vc : Nat) (errs : List (Nat × Nat)) : Nat → Bool → List Granule → State → State
  | _, _, [], s => s
  | n, ok, g :: r, s =>
    if n = 0 then
      let x := receiveHead l vc (Sparse.get 0 0 errs) g s
      receiveFlits l vc errs 1 x.2 r (moveLinks x.1)
    else if ok then
      let x := receiveBody l vc (Sparse.get 0 n errs) g s
      receiveFlits l vc errs (n + 1) x.2 r (moveLinks x.1)
    else receiveFlits l vc errs (n + 1) false r (passSlot l vc (acceptFlit l s))

/-- R435: a packet's flits arrive on link `l`. -/
def receivePacket (l vc : Nat) (gs : List Granule) (s : State) : State :=
  receiveFlits l vc (s.link l).errs 0 true gs (s.modLink l (fun x => { x with errs := [] }))

/-- The complete packet at the head of an input buffer of VC 2 or 3 is consumed. -/
def takePacket (l vc : Nat) (s : State) : Option (List Granule) × State :=
  match rxOf l vc s with
  | p :: _ =>
    if p.need = 0 then (some (p.head :: p.body.map (·.1)), freeSlots l vc (p.body.length + 1) p.old (setFirst l vc none s)) else (none, s)
  | [] => (none, s)

/-! ### Broadcasts (R455, R456) -/

/-- R455: a broadcast goes out on every UP link but `except`. -/
def flood (except : Nat) (g : Granule) (s : State) : State :=
  forN 6 (fun l s => if l ≠ except ∧ linkUp l s then sendLocal l 3 [g] s else s) s

/-- The pair (SRC, MSEQ) is remembered; the last 64 are kept. -/
def rememberPair (src mseq : Nat) (s : State) : State :=
  { s with qdl := { s.qdl with seen := ((src, mseq, s.clock.tick) :: s.qdl.seen).take 64 } }

/-- R455: this device floods a broadcast of the given type and subject. -/
def broadcast (mtype subject : Nat) (proxy : Bool) (s : State) : State :=
  if assigned s then
    let m := s.qdl.mseq
    let g := headOf 6 0 0 [mtype * 2 ^ 32 + m, 0, subject + (if proxy then 2 ^ 35 else 0)] s
    let s1 := rememberPair (devId s) m { s with qdl := { s.qdl with mseq := (m + 1) % 65536 } }
    flood 6 g s1
  else s

/-- A link goes DOWN (R431, R456): under PROXY the device floods SAFE for its neighbour. -/
def linkDown (l : Nat) (s : State) : State :=
  let was := linkUp l s
  let s1 := setLinkState l 6 s
  if was && rdB F.link_LINK_CTL_PROXY l s && rdB F.link_LINK_STAT_NBR_VALID l s then
    broadcast 5 (rd F.link_LINK_STAT_NBR_ID l s) true s1
  else s1

end Sys2Proof.Machine
end

