-- ==== Sys2Proof/Machine/Faults.lean ====
section
/-! DEFINITION. Fault containment (R197 to R207): the fault record queue, the containment actions, escalation, releases, and the package
SAFE state (R23). -/

set_option Elab.async false

namespace Sys2Proof.Machine

/-! ### The fault record queue (R204 to R207) -/

/-- R206: records in the queue. -/
def frqCount (s : State) : Nat := (rd F.pwr_FRQ_PTR_TAIL 0 s + 64 - rd F.pwr_FRQ_PTR_HEAD 0 s) % 64

/-- Table CX-11: SCOPE. The device ID stands for a system-level scope. -/
def scopeField (c : Scope) : Nat := if c.lvl = 4 then 0 else c.i

/-- Device time runs (Table CX-11, TIME_S). -/
def timeRuns (s : State) : Bool := s.clock.run

/-- Table CX-11: the granule of a record handled at scope `at_`. -/
def recordGran (r : Raised) (at_ : Scope) (esc : Bool) (s : State) : Granule :=
  let w0 := at_.lvl * 2 ^ 33 + r.cause * 2 ^ 25 + r.reason * 2 ^ 21 + (if r.prec then 2 ^ 20 else 0) + r.slot * 2 ^ 19
    + (if esc then 2 ^ 18 else 0) + (if r.notice then 2 ^ 17 else 0) + scopeField at_
  let ts := if timeRuns s then s.timeS else 0
  let pc := if esc then 0 else r.pc
  let w5 := rd F.pwr_FRQ_STAT_SEQ 0 s * 2 ^ 20 + r.detail % 2 ^ 20
  granOf ([w0, ts, s.timeF, pc, r.addr, w5, r.word].map (BitVec.ofNat 36)) 7

/-- R206: a record written at slot TAIL mod 32; the host port's fault event is raised. -/
def appendRecord (g : Granule) (s : State) : State :=
  let t := rd F.pwr_FRQ_PTR_TAIL 0 s
  let s1 := writeGran (keepG (16352 + t % 32)) g false s
  msix 8 (wr F.pwr_FRQ_STAT_SEQ 0 (rd F.pwr_FRQ_STAT_SEQ 0 s + 1) (wr F.pwr_FRQ_PTR_TAIL 0 (t + 1) s1))

/-! ### Containment actions (R198) -/

/-- A bound context becomes HALTED; its work ends as at a preemption (R198, R487). -/
def haltCtx (cid : Nat) (s : State) : State :=
  let x := s.ctx cid
  match x.st with
  | .unbound => s
  | .halted => s
  | .running => (stopRunning cid .halted s).modHeap cid (fun h => { h with deferred := false })
  | _ => (s.modCtx cid (fun x => { x with st := .halted, req := none })).modHeap cid (fun h => { h with deferred := false })

/-- A unit stops: no dispatch is in progress any more. -/
def haltUnit (u : Nat) (s : State) : State :=
  (forN 16 (fun k s => haltCtx (16 * u + k) s) s).modUnit u (fun x => { x with disp := none })

/-- The clusters of a scope. -/
def Scope.clusters (c : Scope) : List Nat :=
  match c.lvl with
  | 0 => []
  | 1 => [c.i]
  | 2 => (List.range 4).map (4 * c.i + ·)
  | 3 => (List.range 16).map (16 * c.i + ·)
  | _ => List.range 32

/-- The eight units of a cluster stop. -/
def haltCluster (c : Nat) (s : State) : State := forN 8 (fun i s => haltUnit (8 * c + i) s) s

/-- Every unit of a scope stops. -/
def haltScope (c : Scope) (s : State) : State := c.clusters.foldl (fun s i => haltCluster i s) s

/-- The block that holds the CONTAIN register of a level (Table CX-10). -/
def containBlk (lvl : Nat) : Blk := if lvl = 1 then .clu else if lvl = 2 then .sch else .qpl

/-- A field of the CONTAIN register of a scope written by the device. -/
def wrContain (c : Scope) (lo w v : Nat) (s : State) : State :=
  if 1 ≤ c.lvl ∧ c.lvl ≤ 3 then wr ⟨containBlk c.lvl, 480, lo, w⟩ c.i v s else s

/-- R23: the package SAFE state is entered: Reel forces every powered bank, every unit halts, a transition is abandoned (R467). -/
def enterSafe (s : State) : State :=
  let s1 := forN 4 (fun b s => deviceLatch b 7 s) (wr F.pwr_MODE_SAFE 0 1 s)
  let s2 := haltScope { lvl := 4, i := 0 } s1
  wr F.pwr_MODE_STEP 0 0 { s2 with pwr := { s2.pwr with trans := none }, contain := { s2.contain with entered := true } }

/-- R198: the action of a level is applied to a scope and is in force. -/
def applyAction (c : Scope) (cause : Nat) (esc : Bool) (s : State) : State :=
  if c.lvl = 0 then s
  else if 4 ≤ c.lvl then enterSafe s
  else
    let s1 := haltScope c { s with contain := { s.contain with held := s.contain.held.filter (· ≠ c) ++ [c] } }
    let s2 := wrContain c 8 1 1 (wrContain c 10 8 cause (wrContain c 18 1 (if esc then 1 else 0) s1))
    if c.lvl = 3 then deviceLatch (2 * c.i + 1) 6 (deviceLatch (2 * c.i) 6 s2) else s2

/-! ### Handling (R197, R199 to R201, R205) -/

/-- The scope of the next level up that contains a scope. -/
def Scope.parent (c : Scope) : Scope :=
  match c.lvl with
  | 0 => { lvl := 1, i := clusterOf c.i }
  | 1 => { lvl := 2, i := c.i / 4 }
  | 2 => { lvl := 3, i := c.i / 4 }
  | _ => { lvl := c.lvl + 1, i := 0 }

/-- A containing level holds the scope (R201, R202). -/
def heldAbove (c : Scope) (s : State) : Bool :=
  (decide (c.lvl < 4) && inSafe s) || (decide (c.lvl < 3) && s.contain.held.contains c.parent)
  || (decide (c.lvl < 2) && s.contain.held.contains c.parent.parent)
  || (decide (c.lvl < 1) && s.contain.held.contains c.parent.parent.parent)

/-- R199: the level at which a fault is handled: the first whose scope has no open window; the system has none (Table CX-9). -/
def handledAt : Nat → Scope → State → Scope
  | 0, c, _ => c
  | n + 1, c, s => if c.lvl < 5 ∧ s.contain.windows.contains c then handledAt n c.parent s else c

/-- R197: the window of a scope opens; the system level has none. -/
def openWindow (c : Scope) (s : State) : State :=
  if 5 ≤ c.lvl then s
  else wrContain c 9 1 1 { s with contain := { s.contain with windows := c :: s.contain.windows.filter (· ≠ c) } }

/-- The package (Table CX-9). -/
def packageScope : Scope := { lvl := 4, i := 0 }

/-- R22, R23, R205, R206: the record of a fault or notice; a fault that finds the queue full takes the device to SAFE, as the package-level
fault FRQ_FULL, which opens the package's window and has no record. -/
def record (r : Raised) (at_ : Scope) (esc : Bool) (s : State) : State :=
  if frqCount s = 32 then
    if r.notice then bump F.pwr_FRQ_STAT_DROPPED 0 s else openWindow packageScope (enterSafe (wr F.pwr_FRQ_STAT_OVF 0 1 s))
  else appendRecord (recordGran r at_ esc s) s

/-- R197, R199, R201, R205: a fault or notice that has arisen is handled. A system-level scope is named by the device ID. -/
def handleRaised (r : Raised) (s : State) : State :=
  if r.notice then record r r.scope false s
  else if heldAbove r.scope s then s
  else
    let c := handledAt 5 r.scope s
    let esc := decide (c ≠ r.scope)
    let c' := if c.lvl = 5 then { c with i := rd F.qdl_DEV_ID_ID 0 s } else c
    applyAction c r.cause esc (openWindow c (record r c' esc s))

/-- Faults handled in the order in which they arose; `n` bounds those that handling them raises. -/
def handleAll : Nat → State → State
  | 0, s => s
  | n + 1, s =>
    match s.raised with
    | [] => s
    | r :: l => handleAll n (handleRaised r { s with raised := l })

/-! ### Releases (R202, R203) -/

/-- Restart of a context at its entry point: its replay list, pending target, trigger and deadline are discarded. -/
def restartCtx (cid : Nat) (s : State) : State :=
  let s1 := s.modCtx cid (fun x => { x with pc := x.entry.getD x.pc, targets := [], replay := [], traps := [], atBit := false, dlBit := false })
  let s2 := s1.modHeap cid Heap.cleared
  abortItems cid (s2.modUnit (unitOf cid) (fun x => x.keepResume (clusterOf cid) (cid % 16) (s2.ctx cid).pc false))

/-- A context of a released scope: it stays when another level still holds it; otherwise it returns to IDLE, at its entry point when a
release of a level that held it asked for a restart. -/
def releaseCtx (restart : Bool) (cid : Nat) (s : State) : State :=
  let x := s.ctx cid
  if x.st ≠ .halted then s
  else if isHeld s cid then s.modCtx cid (fun x => { x with restartDue := x.restartDue || restart })
  else
    let s1 := if restart || x.restartDue then restartCtx cid s else s
    becomeIdle cid (s1.modCtx cid (fun x => { x with restartDue := false }))

/-- The contexts of a scope. -/
def Scope.contexts (c : Scope) : List Nat :=
  if c.lvl = 0 then [c.i] else c.clusters.flatMap (fun i => (List.range 128).map (128 * i + ·))

/-- A scope lies within another, or is it. -/
def Scope.within (a c : Scope) : Bool :=
  a == c || (decide (a.lvl < c.lvl) &&
    (decide (4 ≤ c.lvl) || a.parent == c || a.parent.parent == c || a.parent.parent.parent == c))

/-- R202: a release clears the windows of the scope and of every scope within it. -/
def clearWindows (c : Scope) (s : State) : State :=
  let gone := s.contain.windows.filter (fun w => w.within c)
  gone.foldl (fun s w => wrContain w 9 1 0 s) { s with contain := { s.contain with windows := s.contain.windows.filter (fun w => !w.within c) } }

/-- R376: the end of the fence of die `d` resets the backbone side of the die's crossings (log entry 104). -/
def fenceEnds (d : Nat) (s : State) : State := forN (if d = 0 then 10 else 9) (fun i s => assertNear (10 * d + i) s) s

/-- R202: a release of a level. -/
def releaseScope (c : Scope) (restart : Bool) (s : State) : State :=
  let s1 := clearWindows c s
  if s.contain.held.contains c then
    let s2 := wrContain c 8 1 0 { s1 with contain := { s1.contain with held := s1.contain.held.filter (· ≠ c) } }
    let s3 := c.contexts.foldl (fun s cid => releaseCtx restart cid s) s2
    if c.lvl = 3 then fenceEnds c.i s3 else s3
  else s1

/-- R203: HALT = 1 applies the level's action and writes an SW_CONTAIN notice. -/
def softHalt (c : Scope) (s : State) : State :=
  raise { scope := c, cause := 99, notice := true, reason := 0, prec := false, slot := 0, detail := 0, pc := 0, addr := 0, word := 0 }
    (applyAction c 99 false s)

/-- A scope of Table CX-10 that the device has. -/
def scopeExists (lvl i : Nat) : Bool :=
  (decide (lvl = 1) && decide (i < 32)) || (decide (lvl = 2) && decide (i < 8)) || (decide (lvl = 3) && decide (i < 2))

end Sys2Proof.Machine
end

