-- ==== Sys2Proof/Machine/Memory.lean ====
section
/-! DEFINITION. The device word address map (Table MM-4, R325 to R329), tag writes (R327), scrubbing (R338), and the verify of MRAM programs
(R333, R335). -/

set_option Elab.async false

namespace Sys2Proof.Machine

/-! ### Addresses -/

/-- What a word address names (Table MM-4). -/
inductive Place where
  /-- Word `slot` of granule `g`. -/
  | mem (g slot : Nat)
  /-- The unbacked part of a window. -/
  | unbacked
  /-- Control register `k`, as a word offset from 0x0800_0000. -/
  | reg (k : Nat)
  /-- No window. -/
  | nowhere
deriving DecidableEq, Repr

/-- R325: word `w` of a memory whose granule 0 is `base`. -/
def wordIn (base w : Nat) : Place := .mem (base + w / 7) (w % 7)

/-- Table MM-4; `own` is the executing unit's cluster. -/
def placeOf (own : Nat) (a : Nat) : Place :=
  if a < 0x00038000 then wordIn (dmemG own 0) a
  else if 0x01000000 ≤ a ∧ a < 0x01800000 then
    let w := (a - 0x01000000) % 0x40000
    if w < 0x38000 then wordIn (dmemG ((a - 0x01000000) / 0x40000) 0) w else .unbacked
  else if 0x02000000 ≤ a ∧ a < 0x03000000 then
    let w := (a - 0x02000000) % 0x80000
    if w < 0x70000 then wordIn (imemG ((a - 0x02000000) / 0x80000) 0) w else .unbacked
  else if 0x05000000 ≤ a ∧ a < 0x05020000 then (if a < 0x0501C000 then wordIn keepBase (a - 0x05000000) else .unbacked)
  else if 0x08000000 ≤ a ∧ a < 0x10000000 then .reg (a - 0x08000000)
  else .nowhere

/-- The word address of granule `g` in the device map. -/
def granAddr (g : Nat) : Nat :=
  if g < imemBase then 0x01000000 + g / 32768 * 0x40000 + g % 32768 * 7
  else if g < keepBase then 0x02000000 + (g - imemBase) / 65536 * 0x80000 + (g - imemBase) % 65536 * 7
  else 0x05000000 + (g - keepBase) * 7

/-- The cluster whose memory granule `g` lies in; none for the keep store. -/
def granCluster (g : Nat) : Option Nat :=
  if g < imemBase then some (g / 32768) else if g < keepBase then some ((g - imemBase) / 65536) else none

/-- R329: the domain of granule `g`'s memory is on. -/
def granOn (g : Nat) (s : State) : Bool := match granCluster g with | some c => domOn c s | none => true

/-- The memory that granule `g` lies in: clusters' data SRAMs 0 to 31, instruction stores 32 to 63, the keep store 64. -/
def granMemory (g : Nat) : Nat := if g < imemBase then g / 32768 else if g < keepBase then 32 + (g - imemBase) / 65536 else 64

/-- Table MM-7: a keep-store granule that software may write; every granule of another memory may be written. -/
def granSoft (g : Nat) : Bool := decide (g < keepBase) || (decide (keepG 12288 ≤ g) && decide (g < keepG 16352))

/-! ### Faults of an instruction store -/

/-- R335: IMEM_BANK, with the bank and the granule in word 6. -/
def imemBankFault (g : Nat) (s : State) : State :=
  let n := (g - imemBase) % 65536
  raiseAt 1 ((g - imemBase) / 65536) 17 (n % 16 * 2 ^ 16 + n) 0 s

/-- R335: granule `g` keeps its failed form: some bits differ, which ones is free; it is poisoned where it decodes uncorrectable. -/
def failGran (g : Nat) (s : State) : State :=
  let (m, s1) := s.anyBelow (2 ^ 276 - 1)
  let (d, v, _, _) := decodeCode (s1.granBits g) (s1.pb g) (m + 1)
  if d = .bad then s1.setCode g v true else s1.setErr g (m + 1)

/-- R333, R335: the oldest program of cluster `c`'s instruction store has been verified: it stands, is repeated, or has failed three times. -/
def programDone (c : Nat) (ok : Bool) (s : State) : State :=
  match s.program.find? (fun p => granMemory p.g = 32 + c) with
  | none => s
  | some p =>
    let rest := s.program.erase p
    if ok then { s with program := rest }
    else if p.n < 3 then
      bump F.clu_IMEM_WR c (bump F.clu_WR_STAT_VERIFY_RETRY c { s with program := s.program.map (fun q => if q = p then { q with n := q.n + 1 } else q) })
    else imemBankFault p.g (failGran p.g { s with program := rest })

/-- A granule written and, in an instruction store, verified (R333, R334, R392): it stands after 1 to 3 programs, how many is free, or has
failed after the third. -/
def writeVerified (g : Nat) (v : Granule) (pb ok : Bool) (s : State) : State :=
  if isImem g then
    let c := (g - imemBase) / 65536
    let (k, s1) := if ok then s.anyBelow 3 else (2, s)
    bumpBy F.clu_IMEM_WR c (k + 1) (bumpBy F.clu_WR_STAT_VERIFY_RETRY c k (s1.setCode g v pb))
  else s.setCode g v pb

/-! ### Tags and scrubbing -/

/-- R327, R344: a write of CLU.TAG_WR. -/
def writeTagWr (c : Nat) (v : Word) (s : State) : State :=
  let mem := bits v 21 1
  let g := bits v 4 16
  if !domOn c s ∨ (mem = 0 ∧ 32768 ≤ g) then s
  else mergeGran (if mem = 0 then dmemG c g else imemG c g) (fun x => granPut x 252 4 (bits v 0 4)) s

/-- The first granule of memory `m`, its granules, and its scrub period (Table MM-8). -/
def scrubOf (m : Nat) (s : State) : Nat × Nat × Nat :=
  if m < 32 then (dmemG m 0, 32768, rd F.clu_SCRUB_CTL_DMEM_PER m s)
  else if m < 64 then (imemG (m - 32) 0, 65536, rd F.clu_SCRUB_CTL_IMEM_PER (m - 32) s)
  else (keepG 0, 16384, rd ⟨.pwr, 484, 0, 10⟩ 0 s)

/-- Table MM-8: the scrubber of memory `m` runs: the keep store's always, a cluster's while its domain is on. -/
def scrubOn (m : Nat) (s : State) : Bool := if m < 64 then domOn (m % 32) s else true

/-- The key of `State.scrub` under which the uncorrectable granules of a bank in the present pass are counted. -/
def bankKey (c b : Nat) : Nat := 100 + 16 * c + b

/-- R335: the uncorrectable granules that a pass has found in a bank reach BANK_LIM. -/
def scrubBank (g : Nat) (s : State) : State :=
  let c := (g - imemBase) / 65536
  let k := bankKey c (g % 16)
  let n := Sparse.get 0 k s.scrub + 1
  let s1 := { s with scrub := Sparse.put 0 k n s.scrub }
  if n = rd F.clu_SCRUB_CTL_BANK_LIM c s then imemBankFault g s1 else s1

/-- R338: the end of a pass of memory `m`. -/
def scrubPass (m : Nat) (s : State) : State :=
  if m < 32 then bump F.clu_SCRUB_STAT_DMEM_PASSES m s
  else if m < 64 then
    bump F.clu_SCRUB_STAT_IMEM_PASSES (m - 32)
      { s with scrub := (List.range 16).foldl (fun l b => Sparse.put 0 (bankKey (m - 32) b) 0 l) s.scrub }
  else s

/-- R338: the scrubber of memory `m` reads its next granule; a poisoned granule is counted and left as it is. -/
def scrubRead (m : Nat) (s : State) : State :=
  let (base, size, per) := scrubOf m s
  let p := Sparse.get 0 m s.scrub
  if !scrubOn m s ∨ (per = 0 ∧ p = 0) then s
  else
    let r := readGran (base + p) s
    let s1 := if r.out = .poisoned then countDecode (base + p) .poisoned s
      else if r.out = .bad ∧ 32 ≤ m ∧ m < 64 then scrubBank (base + p) r.st else r.st
    let q := (p + 1) % size
    let s2 := { s1 with scrub := Sparse.put 0 m q s1.scrub }
    if q = 0 then scrubPass m s2 else s2

end Sys2Proof.Machine
end

