-- ==== Sys2Proof/Machine/HostPort.lean ====
section
/-! DEFINITION. The host port (chapter 14), but for the execution of its commands (HostExec.lean): rings, doorbells, packets, results,
violations, forwarding. Records that the device writes into host memory are messages of `State.sent`. -/

set_option Elab.async false

namespace Sys2Proof.Machine

/-! ### Violations (R425) -/

/-- R425: a violation is logged, reported in AER, and raises vector 9; ERR_COR is sent when the host has enabled it, which is free. -/
def hostViolation (code ring seq : Nat) (s : State) : State :=
  let i := rd F.hst_VLOG_STAT_NEXT 0 s
  let s1 := bump F.hst_VLOG_STAT_COUNT 0 (if s.host.unread.contains i then bump F.hst_VLOG_STAT_LOST 0 s else s)
  let s2 := wr (F.hst_VLOG_CODE.nth (2 * i)) 0 code (wr (F.hst_VLOG_RING.nth (2 * i)) 0 ring (wr (F.hst_VLOG_SEQ.nth (2 * i)) 0 seq
    (wr (F.hst_VLOG_TIME_F.nth (2 * i)) 0 s.timeF s1)))
  let s3 := wr F.hst_VLOG_STAT_NEXT 0 ((i + 1) % 16) { s2 with host := { s2.host with unread := insertNat i s2.host.unread, aer := true } }
  let (on, s4) := s3.anyBool
  msix 9 (if on then { s4 with sent := s4.sent ++ [.errCor] } else s4)

/-! ### Rings and their pointers (R410 to R413) -/

/-- Slots of the SQ of ring `r`. -/
def sqSize (r : Nat) (s : State) : Nat := 2 ^ rd F.ring_RING_CTL_SQ_LOG r s
/-- Slots of the CQ of ring `r`. -/
def cqSize (r : Nat) (s : State) : Nat := 2 ^ rd F.ring_RING_CTL_CQ_LOG r s
/-- SQ slots between head and tail. -/
def sqCount (r : Nat) (s : State) : Nat :=
  (rd F.ring_SQ_PTR_TAIL r s + 2 * sqSize r s - rd F.ring_SQ_PTR_HEAD r s) % (2 * sqSize r s)
/-- CQ slots between head and tail. -/
def cqCount (r : Nat) (s : State) : Nat :=
  (rd F.ring_CQ_PTR_TAIL r s + 2 * cqSize r s - rd F.ring_CQ_PTR_HEAD r s) % (2 * cqSize r s)

/-- SQ head moved on by `n` slots. -/
def sqAdvance (r n : Nat) (s : State) : State :=
  wr F.ring_SQ_PTR_HEAD r ((rd F.ring_SQ_PTR_HEAD r s + n) % (2 * sqSize r s)) s

/-- RING_STAT.STATE as the ring stands. -/
def ringStateNow (r : Nat) (s : State) : Nat :=
  if rdB F.ring_RING_CTL_EN r s then
    if rd F.ring_RING_STAT_STATE r s = 4 then 4
    else if s.host.stalled.any (fun x => x.1 = r) then 2
    else if s.host.waiting.any (fun x => x.1 = r) then 3
    else 1
  else if s.host.cmds.any (fun c => !c.fwd && c.ring == r) || s.host.orphans.any (fun x => x.ring == r) then rd F.ring_RING_STAT_STATE r s
  else 0

/-- RING_STAT.STATE follows; entries into STALL_RESULT and STALL_CQ are counted. -/
def ringSettle (r : Nat) (s : State) : State :=
  let old := rd F.ring_RING_STAT_STATE r s
  let new := ringStateNow r s
  let s1 := wr F.ring_RING_STAT_STATE r new s
  if (new = 2 ∨ new = 3) ∧ new ≠ old then bump F.ring_RING_STAT_STALLS r s1 else s1

/-! ### Records (Table HP-6, R413, R421) -/

/-- The fields of a record's header. -/
structure HRec where
  rep    : Bool
  status : Nat
  op     : Nat
  len    : Nat
  seq    : Nat
  nak    : Nat
  src    : Nat
  done   : Nat
  fault  : Nat
  user   : Nat
deriving DecidableEq, Repr

/-- Table HP-6: a record header granule with PHASE 0. -/
def HRec.gran (x : HRec) (s : State) : Granule :=
  granOf ([(if x.rep then 2 ^ 34 else 0) + x.status * 2 ^ 29 + x.op * 2 ^ 25 + x.len * 2 ^ 17 + x.seq, x.nak * 2 ^ 16 + x.src, x.done,
    s.timeS, s.timeF, x.fault, x.user].map (BitVec.ofNat 36)) 13

/-- R421: a record that has been written is the original of a held result: the position after it is kept. -/
def markWritten (r : Nat) (hdr : Granule) (pos : Nat) (s : State) : State :=
  let st := gbits hdr 0 29 5
  if gbits hdr 0 34 1 = 1 ∨ st = 1 ∨ st = 2 then s
  else { s with host := { s.host with res := s.host.res.map (fun x =>
    if x.ring = r ∧ x.seq = gbits hdr 0 0 16 ∧ x.wrote = none ∧ x.recd ≠ [] then { x with wrote := some pos } else x) } }

/-- R413: records of ring `r` are written while the CQ has room; `n` bounds them. -/
def drainCq (r : Nat) : Nat → State → State
  | 0, s => s
  | n + 1, s =>
    match s.host.waiting.find? (fun x => x.1 = r) with
    | none => s
    | some (_, gs) =>
      if cqSize r s < cqCount r s + gs.length then s
      else
        let t := rd F.ring_CQ_PTR_TAIL r s
        let phase := if t / cqSize r s % 2 = 0 then 2 ^ 35 else 0
        let out := match gs with
          | h :: l => BitVec.ofNat 256 (h.toNat + phase) :: l
          | [] => []
        let t' := (t + gs.length) % (2 * cqSize r s)
        let s1 := { s with host := { s.host with waiting := s.host.waiting.erase (r, gs) }, sent := s.sent ++ [.cq r (t % cqSize r s) out] }
        let s2 := markWritten r (gs.headD 0) t' (wr F.ring_CQ_PTR_TAIL r t' s1)
        drainCq r n (msix r s2)

/-- A record with its data granules goes to the CQ of ring `r`. -/
def emitRecord (r : Nat) (gs : List Granule) (s : State) : State :=
  ringSettle r (drainCq r (s.host.waiting.length + 1) { s with host := { s.host with waiting := s.host.waiting ++ [(r, gs)] } })

/-- R425: a NAK record. -/
def nakRecord (r code op seq user : Nat) (s : State) : State :=
  let h : HRec := { rep := false, status := 2, op := op, len := 0, seq := seq, nak := code, src := devId s, done := 0, fault := 0, user := user }
  bump F.ring_RING_STAT_NAKS r (emitRecord r [h.gran s] s)

/-- A result is complete: it is held, and its original record is written (R421); without an entry it is discarded (R407, R411). -/
def completeResult (r seq : Nat) (gs : List Granule) (s : State) : State :=
  if s.host.res.any (fun x => x.ring = r ∧ x.seq = seq ∧ x.recd = []) then
    emitRecord r gs { s with host := { s.host with res := s.host.res.map (fun x =>
      if x.ring = r ∧ x.seq = seq ∧ x.recd = [] then { x with recd := gs } else x) } }
  else ringSettle r s

/-- A command of this entry device ends here with a status and no data (R423, R424). -/
def endHere (x : HRes) (status : Nat) (s : State) : State :=
  let h : HRec := { rep := false, status := status, op := x.op, len := 0, seq := x.seq, nak := 0, src := devId s, done := 0, fault := 0,
                    user := x.user }
  completeResult x.ring x.seq [h.gran s] s

/-! ### Packets (Tables HP-4, HP-5) -/

/-- OP of a command header. -/
def cOp (g : Granule) : Nat := gbits g 0 32 4
/-- LEN. -/
def cLen (g : Granule) : Nat := gbits g 0 24 8
/-- SEQ. -/
def cSeq (g : Granule) : Nat := gbits g 0 0 16
/-- DEST. -/
def cDest (g : Granule) : Nat := gbits g 1 0 16
/-- ADDR. -/
def cAddr (g : Granule) : Nat := gbits g 2 0 32
/-- USER. -/
def cUser (g : Granule) : Nat := gbits g 6 0 36

/-- Data granules in the packet. -/
def cData (g : Granule) : Nat := match cOp g with | 2 => 1 | 4 => cLen g | 5 => cLen g | _ => 0
/-- The largest number of data granules in the result. -/
def cResult (g : Granule) : Nat := match cOp g with | 1 => 1 | 3 => cLen g | 6 => cLen g | _ => 0

/-- LEN lies outside Table HP-5. -/
def cLenBad (g : Granule) : Bool :=
  match cOp g with
  | 0 | 7 => cLen g != 0
  | 1 | 2 => !(decide (1 ≤ cLen g) && decide (cLen g ≤ 7))
  | _ => cLen g == 0

/-- A reserved bit of the header is set. -/
def cReserved (g : Granule) : Bool :=
  gbits g 0 16 8 != 0 || gbits g 1 16 20 != 0 || gbits g 2 32 4 != 0 || gbits g 3 0 36 != 0 || gbits g 4 0 36 != 0 || gbits g 5 0 36 != 0
  || ((cOp g == 5 || cOp g == 6) && gbits g 2 5 27 != 0) || (cOp g == 7 && gbits g 2 20 12 != 0)

/-- The results held for which no answer has come, and the commands that hold none: what executes (R414). -/
def executing (s : State) : Nat :=
  s.host.res.countP (fun x => x.recd = []) + s.host.cmds.countP (fun c => c.fwd || cOp c.hdr == 7 || c.dead) + s.host.orphans.length

/-- Granules reserved in the result store. -/
def resGranules (s : State) : Nat := (s.host.res.map (·.rsv)).sum

/-- R420: the result store has room for one more entry of `n` granules. -/
def resRoom (n : Nat) (s : State) : Bool := decide (s.host.res.length < 512) && decide (resGranules s + n ≤ 2048)

/-- R425, R426: the code of the lowest violation of a packet whose header has tag 0xC; 0 when there is none. -/
def packetViolation (r : Nat) (h : Granule) (data : List Granule) (s : State) : Nat :=
  if 8 ≤ cOp h then 2
  else if cReserved h then 3
  else if cLenBad h ∨ sqSize r s < 1 + cData h then 4
  else if cOp h ≠ 7 ∧ s.host.res.any (fun x => x.ring = r ∧ x.seq = cSeq h) then 5
  else if cOp h = 5 ∧ data.any (fun g => granTag g % 8 = 0) then 7
  else 0

/-- FWD_ID names a device (R423). -/
def forwards (id : Nat) (s : State) : Bool :=
  (List.range 64).any (fun i => rdB (F.hst_FWD_ID_V.nth i) 0 s && rd (F.hst_FWD_ID_ID.nth i) 0 s == id)

/-- A packet's slots: the header alone where its size is not to be trusted. -/
def packetSlots (r : Nat) (h : Granule) (s : State) : Nat :=
  if 8 ≤ cOp h ∨ sqSize r s < 1 + cData h then 1 else 1 + cData h

/-- R414, R420, R423: a packet without violation is taken in: it waits to execute here, is forwarded, or ends here. -/
def takeIn (r : Nat) (h : Granule) (data : List Granule) (s : State) : State :=
  let c : HCmd := { ring := r, hdr := h, data := data, bad := [], done := 0, fwd := false, src := 0, begun := false, dead := false }
  if cOp h = 7 then { s with host := { s.host with cmds := s.host.cmds ++ [c] } }
  else
    let x : HRes := { ring := r, seq := cSeq h, op := cOp h, dest := cDest h, user := cUser h, rsv := 1 + cResult h, recd := [], wrote := none }
    let s1 := { s with host := { s.host with res := s.host.res ++ [x] } }
    if cDest h = devId s ∨ (s1.start.step = 4 ∧ !assigned s1) then { s1 with host := { s1.host with cmds := s1.host.cmds ++ [c] } }
    else if !forwards (cDest h) s then endHere x 11 s1
    else if fencedPeer (cDest h) s then endHere x 13 s1
    else
      let pkt := headOf 2 (1 + data.length) (cDest h) [] s :: h :: data
      match routeOf (cDest h) s with
      | .out l => sendLocal l 0 pkt s1
      | .wait l => sendLocal l 0 pkt s1
      | .lost => s1
      | _ => endHere x 11 s1

/-- R412, R425, R426: slots read from the SQ of ring `r`, packet by packet; `n` bounds them. -/
def takeSlots (r : Nat) : Nat → List Granule → State → State
  | 0, _, s => s
  | n + 1, gs, s =>
    match gs with
    | [] => s
    | h :: l =>
      if granTag h ≠ 12 then
        let s1 := if s.host.badRun.contains r then s
          else nakRecord r 1 0 0 0 (hostViolation 1 r 0 { s with host := { s.host with badRun := insertNat r s.host.badRun } })
        takeSlots r n l (sqAdvance r 1 s1)
      else
        let k := packetSlots r h s
        if gs.length < k then s
        else
          let data := l.take (k - 1)
          let s0 := { s with host := { s.host with badRun := s.host.badRun.filter (· ≠ r) } }
          let v := packetViolation r h data s0
          if v ≠ 0 then
            takeSlots r n (gs.drop k) (sqAdvance r k (nakRecord r v (cOp h) (cSeq h) (cUser h) (hostViolation v r (cSeq h) s0)))
          else if cOp h ≠ 7 ∧ !resRoom (1 + cResult h) s0 then
            ringSettle r { s0 with host := { s0.host with stalled := (r, 1 + cResult h) :: s0.host.stalled.filter (fun x => x.1 ≠ r) } }
          else if 64 ≤ executing s0 then s0
          else takeSlots r n (gs.drop k) (takeIn r h data (sqAdvance r k s0))

/-- SQ_READ_COMPLETE: granules read from the SQ, from its head on. -/
def sqRead (r : Nat) (gs : List Granule) (s : State) : State :=
  if domOn 41 s ∧ rdB F.ring_RING_CTL_EN r s ∧ rd F.ring_RING_STAT_STATE r s ≠ 4 ∧ gs.length ≤ sqCount r s then
    ringSettle r (takeSlots r gs.length gs { s with host := { s.host with stalled := s.host.stalled.filter (fun x => x.1 ≠ r) } })
  else s

/-- SQ_READ_ERROR (R427): the ring enters ERROR, or the command at its head, whose header the event does not give, ends with HOST_POISON. -/
def sqReadError (r : Nat) (poisoned : Bool) (s : State) : State :=
  if !domOn 41 s ∨ !rdB F.ring_RING_CTL_EN r s ∨ rd F.ring_RING_STAT_STATE r s = 4 ∨ sqCount r s = 0 then s
  else if !poisoned then wr F.ring_RING_STAT_STATE r 4 s
  else if !resRoom 1 s then s
  else
    let (n, s1) := s.anyBelow (sqCount r s)
    let (h, s2) := s1.anyBelow (2 ^ 252)
    let g : Granule := BitVec.ofNat 256 h
    let x : HRes := { ring := r, seq := cSeq g, op := cOp g, dest := cDest g, user := cUser g, rsv := 1, recd := [], wrote := none }
    let s3 := sqAdvance r (n + 1) s2
    if s3.host.res.any (fun y => y.ring = r ∧ y.seq = x.seq) then s3
    else endHere x 14 { s3 with host := { s3.host with res := s3.host.res ++ [x] } }

/-! ### Doorbells (R410, R412, R421) -/

/-- A write of the SQ tail doorbell of ring `r`. -/
def sqDoorbell (r v : Nat) (aligned : Bool) (s : State) : State :=
  if !domOn 41 s then s
  else if !aligned ∨ !rdB F.ring_RING_CTL_EN r s ∨ 2 * sqSize r s ≤ v
      ∨ sqSize r s < (v + 2 * sqSize r s - rd F.ring_SQ_PTR_HEAD r s) % (2 * sqSize r s) then hostViolation 8 r 0 s
  else wr F.ring_SQ_PTR_TAIL r v s

/-- R420: rings that wait for result room go on when enough is free. -/
def unstall (s : State) : State :=
  let go := s.host.stalled.filter (fun x => resRoom x.2 s)
  go.foldl (fun s x => ringSettle x.1 s) { s with host := { s.host with stalled := s.host.stalled.filter (fun x => !resRoom x.2 s) } }

/-- A write of the CQ head doorbell of ring `r`: results whose original records lie before the new head are freed. -/
def cqDoorbell (r v : Nat) (aligned : Bool) (s : State) : State :=
  if !domOn 41 s then s
  else
    let m := 2 * cqSize r s
    let h := rd F.ring_CQ_PTR_HEAD r s
    if !aligned ∨ !rdB F.ring_RING_CTL_EN r s ∨ m ≤ v ∨ cqCount r s < (v + m - h) % m then hostViolation 8 r 0 s
    else
      let gone (x : HRes) : Bool := x.ring == r && (match x.wrote with
        | some p => decide (1 ≤ (p + m - h) % m) && decide ((p + m - h) % m ≤ (v + m - h) % m)
        | none => false)
      let s1 := wr F.ring_CQ_PTR_HEAD r v { s with host := { s.host with res := s.host.res.filter (fun x => !gone x) } }
      unstall (ringSettle r (drainCq r (s1.host.waiting.length + 1) s1))

/-! ### Forwarded results (R423, R424) -/

/-- R411: a forwarded command of a ring disabled since is over: its result is discarded. -/
def dropOrphan (x : HRes) (s : State) : State := ringSettle x.ring { s with host := { s.host with orphans := s.host.orphans.erase x } }

/-- FORWARD_RESULT: a RESULT that has reached this device: the oldest command forwarded to its sender with its SEQ and OP is complete; a result
for which none waits is late. -/
def forwardResult (gs : List Granule) (s : State) : State :=
  match gs with
  | [] => s
  | h :: _ =>
    if !s.qdl.results.contains gs then s
    else
      let s1 := { s with qdl := { s.qdl with results := s.qdl.results.erase gs } }
      match s.host.res.find? (fun x => x.recd = [] ∧ x.dest = gbits h 1 0 16 ∧ x.seq = gbits h 0 0 16 ∧ x.op = gbits h 0 25 4
          ∧ x.dest ≠ devId s) with
      | some x => completeResult x.ring x.seq gs s1
      | none =>
        match s.host.orphans.find? (fun x => x.dest = gbits h 1 0 16 ∧ x.seq = gbits h 0 0 16 ∧ x.op = gbits h 0 25 4) with
        | some x => dropOrphan x s1
        | none => if domOn 41 s then bump F.hst_LATE_RES_LATE 0 s1 else s1

/-- FORWARD_TIMEOUT (R424). -/
def forwardTimeout (r seq : Nat) (s : State) : State :=
  if s.host.cmds.any (fun c => !c.fwd && c.ring == r && cSeq c.hdr == seq && cOp c.hdr != 7) then s
  else match s.host.res.find? (fun x => x.ring = r ∧ x.seq = seq ∧ x.recd = [] ∧ x.dest ≠ devId s) with
  | some x => endHere x 12 s
  | none => match s.host.orphans.find? (fun x => x.ring = r ∧ x.seq = seq) with
    | some x => dropOrphan x s
    | none => s

/-- R424: the destination `id` is fenced: the commands that wait for it end with PEER_FENCED. -/
def endForwarded (id : Nat) (s : State) : State :=
  let s1 := (s.host.orphans.filter (fun x => x.dest = id)).foldl (fun s x => dropOrphan x s) s
  (s.host.res.filter (fun x => x.recd = [] ∧ x.dest = id ∧ x.dest ≠ devId s)).foldl (fun s x => endHere x 13 s) s1

/-! ### Ring control and reset (R407, R411) -/

/-- The commands of some rings are fetched, but nothing waits for their records any more (R407, R411). -/
def HCmd.kill (p : Nat → Bool) (c : HCmd) : HCmd := if !c.fwd && p c.ring then { c with dead := true } else c

/-- The commands of ring `r` that other devices execute, and whose results have not come. -/
def forwardedOf (r : Nat) (s : State) : List HRes :=
  s.host.res.filter (fun x => x.ring = r ∧ x.recd = [] ∧ !s.host.cmds.any (fun c => !c.fwd && c.ring == r && cSeq c.hdr == x.seq))

/-- A ring is disabled: what is fetched goes on, its records and held results are discarded. -/
def ringOff (r : Nat) (s : State) : State :=
  unstall (ringSettle r { s with host := { s.host with cmds := s.host.cmds.map (HCmd.kill (· == r)),
                                                       res := s.host.res.filter (fun x => x.ring ≠ r),
                                                       waiting := s.host.waiting.filter (fun x => x.1 ≠ r),
                                                       stalled := s.host.stalled.filter (fun x => x.1 ≠ r),
                                                       badRun := s.host.badRun.filter (· ≠ r),
                                                       orphans := s.host.orphans ++ forwardedOf r s } })

/-- A write of RING_CTL. -/
def writeRingCtl (r : Nat) (v : Word) (s : State) : State :=
  let was := rdB F.ring_RING_CTL_EN r s
  let s1 := storeReg .ring r 0 v s
  let now := rdB F.ring_RING_CTL_EN r s1
  if now && !was then
    let s2 := s1.setReg (keyOf .ring r 5) 0
    ringSettle r (wr F.ring_RING_STAT_STATE r 1 (s2.setReg (keyOf .ring r 6) 0))
  else if was && !now then ringOff r s1
  else s1

/-- Whether register `k` keeps its value at a reset of the host port (R407). -/
def keptAtPortReset (o : Nat) : Bool := o == 3 || decide (16 ≤ o ∧ o < 80) || decide (96 ≤ o ∧ o < 128)

/-- R368, R505: the queue that feeds the loader from this host reports an abort: the section begun is discarded. -/
def abortLoad (s : State) : State :=
  if s.start.step = 4 ∧ s.pins.bootSel ≠ 3 then { s with start := { s.start with buf := [] } } else s

/-- HOST_PORT_RESET (R407). The MSI-X masks return to their state after a reset (log entry 14). The reset of X_HP is seen by a
CROSSING_RESET_SEEN. -/
def hostPortReset (s : State) : State :=
  if !domOn 41 s then s
  else
    let s1 := { s with regs := s.regs.filter (fun kv => match locate kv.1 with
        | some (.hst, _, o) => keptAtPortReset o
        | some (.ring, _, _) => false
        | _ => true) }
    assertFar 9 <| abortLoad { s1 with host := { s1.host with cmds := s1.host.cmds.map (HCmd.kill (fun _ => true)), res := [], waiting := [], stalled := [], badRun := [], orphans := [], masks := 2 ^ 64 - 1, pend := 0 } }

/-- PCIE_LINK_UP (R405). -/
def pcieLinkUp (width speed : Nat) (s : State) : State :=
  if domOn 41 s ∧ [1, 2, 4, 8].contains width ∧ 1 ≤ speed ∧ speed ≤ 4 then
    wr F.hst_PORT_STAT_LINK_UP 0 1 (wr F.hst_PORT_STAT_SPEED 0 speed (wr F.hst_PORT_STAT_WIDTH 0 width s))
  else s

/-- R409: a write of HOST_EVT. -/
def raiseHostEvt (v : Word) (s : State) : State := forN 32 (fun i s => if v.toNat.testBit i then msix (18 + i) s else s) s

/-- R409: vector `n` is unmasked; its pending message is sent. -/
def msixUnmask (n : Nat) (s : State) : State :=
  if !domOn 41 s then s
  else
    let s1 := { s with host := { s.host with masks := s.host.masks &&& (2 ^ 64 - 1 - 2 ^ n) } }
    if s.host.pend.testBit n then
      { s1 with host := { s1.host with pend := s1.host.pend &&& (2 ^ 64 - 1 - 2 ^ n) }, sent := s1.sent ++ [.msix n] }
    else s1

end Sys2Proof.Machine
end

