-- ==== Sys2Proof/Machine/TbCore.lean ====
section
/-! DEFINITION. Values and velocities of timebases (R208 to R210, R218, R221): the extrapolation and the published value. -/

set_option Elab.async false

namespace Sys2Proof.Machine

/-- A quotient whose rounding the spec does not state: exact, or one of the two neighbours by a free choice (log entry 15). -/
def roundFree (num : Int) (den : Nat) (s : State) : Int × State :=
  if num % (den : Int) = 0 then (num / den, s)
  else
    let (b, s1) := s.anyBool
    (num / den + (if b then 1 else 0), s1)

/-- A quotient rounded to nearest, ties away from zero. -/
def roundAway (num : Int) (den : Nat) : Int :=
  let m : Int := (2 * num.natAbs + den) / (2 * den)
  if num < 0 then -m else m

/-- R208, R215: a velocity clipped to the range of R208. -/
def clipV (v : Int) : Int := max (-(2 ^ 35)) (min (2 ^ 35 - 1) v)

/-- R209: D of a velocity, in 2⁻²⁴ tf per tick. -/
def incOf (v : Int) : Int := roundAway (v * 2 ^ 36) 1000000000

/-- An integer modulo 2ⁿ, read as signed. -/
def signedMod (n : Nat) (x : Int) : Int := let y := x % 2 ^ n; if y < 2 ^ (n - 1) then y else y - 2 ^ n

/-- The sign of an integer: −1, 0 or 1. -/
def signOf (x : Int) : Int := if x < 0 then -1 else if x = 0 then 0 else 1

/-- SRC.KIND of timebase `n`. -/
def tbKind (n : Nat) (s : State) : Nat := rd F.tb_SRC_KIND n s

/-- R212: SCALE with the sign of CTL.DIR, in 2⁻¹². -/
def tbScale (n : Nat) (s : State) : Int := if rdB F.tb_CTL_DIR n s then -(rd F.tb_SCALE n s : Int) else rd F.tb_SCALE n s

/-- A timebase that drives no fallback: LOST or OFF (R222). -/
def tbIdle (x : Tb) : Bool := x.st == .lost || x.st == .off

/-- The present device time minus another, in 2⁻⁶⁵ s, signed. -/
def State.devSince (s : State) (dev : Nat) : Int := signedMod 101 ((s.clock.dev : Int) - dev)

/-- R209, R217, R221: the internal position of timebase `n` at this tick, in 2⁻²⁴ tf, by what its kind and state follow; `k` bounds the
chain of fallbacks. -/
def tbPosN : Nat → Nat → State → Int
  | 0, n, s => (s.tb n).pu
  | k + 1, n, s =>
    let x := s.tb n
    if x.st = .fallback then
      let f := rd F.tb_CTL_FB n s
      if tbIdle (s.tb f) then x.pu else (x.pu + tbPosN k f s - x.fbPos) % 2 ^ 60
    else if tbKind n s = 4 ∧ x.st = .track then (x.pu + tbScale n s * s.devSince x.dev / 2 ^ 29) % 2 ^ 60
    else (x.pu + x.d * (s.clock.tick - x.tu)) % 2 ^ 60

/-- The internal position of timebase `n` at this tick. -/
def tbPos (n : Nat) (s : State) : Int := tbPosN 64 n s

/-- The sign that R218 judges a backward move by; at V = 0, which has none (R219), the last sign that V had (log entry 109). -/
def Tb.sign (x : Tb) : Int := if x.v = 0 then x.lastSign else signOf x.v

/-- R209, R218: the internal position that is published: the extrapolation, or the value that NOBACK holds until it is passed. -/
def tbShown (n : Nat) (s : State) : Int :=
  let x := s.tb n
  match x.holdAt with
  | none => tbPos n s
  | some h => if 0 ≤ signedMod 60 (tbPos n s - h) * x.sign then tbPos n s else h

/-- R218: a hold that the extrapolation has passed is over. -/
def endHold (n : Nat) (s : State) : State :=
  let x := s.tb n
  match x.holdAt with
  | none => s
  | some h => if 0 ≤ signedMod 60 (tbPos n s - h) * x.sign then s.setTb n { x with holdAt := none } else s

/-- P_u, t_u as a tick and as device time: of the triple, or of this tick for a timebase that follows device time or a fallback (R217, R221). -/
def tbBase (n : Nat) (s : State) : Int × Int × Nat :=
  let x := s.tb n
  if x.st = .fallback ∨ (tbKind n s = 4 ∧ x.st = .track) then (tbPos n s, s.clock.tick, s.clock.dev) else (x.pu, x.tu, x.dev)

/-- R209: the published value. -/
def tbPub (n : Nat) (s : State) : Word := wordOf (tbShown n s / 2 ^ 24)

/-- V is 0 for prediction: while the source is OFF, in ACQUIRE, STALE, or LOST under HOLD, and wherever the triple has it so (R221, Table SH-2). -/
def tbStands (n : Nat) (s : State) : Bool :=
  let x := s.tb n
  match x.st with
  | .off | .acquire | .stale => true
  | .lost => rd F.tb_CTL_LOSS_ACT n s != 1 || x.v == 0
  | .fallback => tbIdle (s.tb (rd F.tb_CTL_FB n s)) || x.v == 0
  | .track => x.v == 0

/-- The triple replaced by its position at this tick with V = 0 (R221, R235). -/
def freezeTb (n : Nat) (s : State) : State :=
  let p := tbShown n s
  s.modTb n (fun x => { x with pu := p, tu := s.clock.tick, dev := s.clock.dev, v := 0, d := 0, holdAt := none })

/-- Table TB-5: STAT.STATE. -/
def TbState.code : TbState → Nat
  | .off => 0 | .acquire => 1 | .track => 2 | .lost => 3 | .stale => 4 | .fallback => 5

end Sys2Proof.Machine
end

