-- ==== Sys2Proof/Machine/Scheduler.lean ====
section
/-! DEFINITION. The context scheduler (chapter 08): classes, arming, prediction, fires, reversals, losses and deadlines. -/

set_option Elab.async false

namespace Sys2Proof.Machine

/-- R244: δ, the signed distance from the published value of timebase `n` to a target. -/
def distance (n : Nat) (target : Word) (s : State) : Int := (target - tbPub n s).toInt

/-- Table SH-2. -/
inductive AngClass where
  | passed | held | ahead
deriving DecidableEq, Repr

/-- R245: the class of a trigger with distance `d0` on timebase `n`. -/
def classOf (n : Nat) (d0 : Int) (s : State) : AngClass :=
  if d0 = 0 then .passed
  else if tbStands n s then .held
  else if signOf d0 = signOf (s.tb n).v then .ahead
  else .passed

/-- R244: a trigger of distance δ₀ at arming is reached at this tick. -/
def reached (h : Heap) (s : State) : Bool :=
  let d := distance h.tb h.target s
  d == 0 || signOf d != signOf h.d0

/-- R249: the first tick at which the extrapolation of the triple in force reaches the target, which lies ahead. -/
def predictTick (h : Heap) (s : State) : Nat :=
  let x := s.tb h.tb
  let p := tbPos h.tb s
  let f := p % 2 ^ 24
  let d := (h.target - wordOf (p / 2 ^ 24)).toInt
  let n : Int :=
    if 0 < x.d then -((-(d * 2 ^ 24 - f)) / x.d)
    else if x.d < 0 then (-(d * 2 ^ 24) + f - 2 ^ 24) / (-x.d) + 1
    else 0
  s.clock.tick + n.toNat

/-- R475, Table PW-1: the heaps fire nothing in STANDBY, and from the isolation of an entry on. -/
def heapsRest (s : State) : Bool :=
  rd F.pwr_MODE 0 s == 1 || (match s.pwr.trans with | some t => decide (t.goal ≤ 3) && decide (2 ≤ t.step) | none => false)

/-- R198, R260: the heap of a region fires nothing: the region, its die or the device is held, or the heaps rest. -/
def heapQuiet (rg : Nat) (s : State) : Bool :=
  heapsRest s || inSafe s || s.contain.held.contains { lvl := 2, i := rg } || s.contain.held.contains { lvl := 3, i := rg / 4 }

/-- The angle slot of a context emptied; CST.AT falls with the distance of R128. -/
def disarmAngle (cid : Nat) (s : State) : State :=
  if (s.heap cid).ang = .disarmed then s
  else setArmedBit cid .atBit false
    (s.modHeap cid (fun h => { h with ang := .disarmed, reachedAt := none, inc := none, revFlag := false }))

/-- R242: the entries that the heap of region `rg` has taken in this tick. -/
def takenNow (rg : Nat) (s : State) : Nat := let x := Sparse.get (0, 0) rg s.fired; if x.1 = s.clock.tick then x.2 else 0

/-- R242: one more is taken. -/
def State.takeTurn (rg : Nat) (s : State) : State := { s with fired := Sparse.put (0, 0) rg (s.clock.tick, takenNow rg s + 1) s.fired }

/-- An entry waits to be taken, with the flags of its fire: in a quiet heap for the release (R260), otherwise for its turn (R242). -/
def noteDue (cid at_ : Nat) (fl : Flags) (s : State) : State := s.modHeap cid (fun h => { h with reachedAt := some at_, flags := fl })

/-- R242, R251: a trigger fires with the given lateness in ticks; it is disarmed and its request is made. -/
def fireNow (cid lateNs : Nat) (fl : Flags) (s : State) : State :=
  let rg := regionOf cid
  let late := fl.late || decide (rd F.sch_CTL_LATE_THR rg s < lateNs)
  let r : Req := { cid := cid, src := 0, late := late, rev := fl.rev || (s.heap cid).revFlag, loss := fl.loss, held := fl.held,
                   lateNs := lateNs, time := s.dev72 }
  let s1 := bump F.sch_FIRES rg (disarmAngle cid (s.takeTurn rg))
  offerReq r (if late then bump F.sch_LATE rg s1 else s1)

/-- The lateness of a trigger that is reached now: since its fire tick when that has passed. -/
def latenessOf (h : Heap) (s : State) : Nat :=
  match h.reachedAt with
  | some t => s.clock.tick - t
  | none => if h.ang = .predicted then s.clock.tick - h.pred else 0

/-- R242, R260: a trigger fires unless its heap is quiet or has taken two entries in this tick: then it waits. -/
def fire (cid lateNs : Nat) (fl : Flags) (s : State) : State :=
  if heapQuiet (regionOf cid) s ∨ 2 ≤ takenNow (regionOf cid) s then noteDue cid (s.clock.tick - lateNs) fl s else fireNow cid lateNs fl s

/-- A reached trigger fires; one reached in the held set is flagged HELD, and one that a reversal left behind REV (R251, R252). -/
def fireReached (cid : Nat) (fl : Flags) (s : State) : State :=
  let h := s.heap cid
  fire cid (latenessOf h s) { fl with held := decide (h.ang = .held), rev := fl.rev || h.revFlag } s

/-- R249: an entry enters the predicted set with its fire tick. -/
def predict (cid : Nat) (s : State) : State :=
  let h := s.heap cid
  s.setHeap cid { h with ang := .predicted, pred := predictTick h s }

/-- R249 to R252: one armed entry at an update of its timebase; `rev` tells of a reversal, `jump` of a forward jump of the value. -/
def updateEntry (rev jump : Bool) (cid : Nat) (s0 : State) : State :=
  let s := checkHeap cid s0
  let h := s.heap cid
  let fl := { Flags.none with late := jump }
  let ahead := decide (signOf (distance h.tb h.target s) = signOf (s.tb h.tb).v)
  if h.reachedAt.isSome then s
  else match h.ang with
  | .disarmed => s
  | .predicted =>
    if reached h s then fireReached cid fl s
    else if tbStands h.tb s then s.setHeap cid { h with ang := .held }
    else if ahead then predict cid s
    else if rev then
      match rd F.sctx_CFG_REV_ACT cid s with
      | 1 => fire cid 0 { fl with rev := true } s
      | 2 => disarmAngle cid s
      | _ => s.setHeap cid { h with ang := .away, revFlag := true }
    else s.setHeap cid { h with ang := .away }
  | .held =>
    if reached h s then fireReached cid fl s
    else if tbStands h.tb s then s
    else if ahead then predict cid s
    else s.setHeap cid { h with ang := .away }
  | .away =>
    if reached h s then fireReached cid fl s
    else if rev && ahead && !tbStands h.tb s then predict cid s
    else s

/-- R242: of two contexts due in one tick, `a` is taken first: the higher PRI, then the lower ID. -/
def tieBefore (s : State) (a b : Nat) : Bool :=
  decide ((s.ctx b).pri < (s.ctx a).pri) || (decide ((s.ctx a).pri = (s.ctx b).pri) && decide (a < b))

/-- R242: entry `a` is taken before entry `b` of the same heap. -/
def dueBefore (s : State) (a b : Nat × Heap) : Bool :=
  decide (a.2.pred < b.2.pred) || (decide (a.2.pred = b.2.pred) && tieBefore s a.1 b.1)

/-- The armed entries of a region on timebase `n`, predicted ones in the order of their fire ticks (R242, R249). -/
def entriesOn (rg n : Nat) (s : State) : List Nat :=
  ((s.heaps.filter (fun e => regionOf e.1 = rg ∧ e.2.ang ≠ .disarmed ∧ e.2.tb = n)).mergeSort (fun a b => !dueBefore s b a)).map (·.1)

/-- R249: a re-prediction pass of one heap; MAX_PASS keeps the largest number of predicted entries. -/
def passOf (rev jump : Bool) (n rg : Nat) (s : State) : State :=
  let l := entriesOn rg n s
  let k := l.countP (fun c => (s.heap c).ang = .predicted)
  let s1 := if rd F.sch_REPRED_MAX_PASS rg s < k then wr F.sch_REPRED_MAX_PASS rg (min k 1023) s else s
  l.foldl (fun s c => updateEntry rev jump c s) s1

/-- R249: timebase `n` takes a new triple, or its value jumps: every heap re-predicts. -/
def repredict (rev jump : Bool) (n : Nat) (s : State) : State := forN 8 (passOf rev jump n) s

/-- R253: the loss of timebase `n` at one entry. -/
def lossEntry (cid : Nat) (s0 : State) : State :=
  let s := checkHeap cid s0
  let h := s.heap cid
  if !rdB F.sctx_CFG_LOSS_ACT cid s then updateEntry false false cid s
  else if h.reachedAt.isSome then s.setHeap cid { h with flags := { h.flags with loss := true } }
  else fire cid 0 { Flags.none with loss := true, held := decide (h.ang = .held), rev := h.revFlag } s

/-- R253: a loss event of timebase `n`. -/
def lossEvent (n : Nat) (s : State) : State :=
  forN 8 (fun rg s => (entriesOn rg n s).foldl (fun s c => lossEntry c s) s) s

/-! ### Arming (R245 to R248) -/

/-- R246: the increment is added to the target until the trigger is AHEAD, at most `n` times: the additions and the target. -/
def slip (tb : Nat) (inc : Word) (s : State) : Nat → Nat → Word → Option (Nat × Word)
  | 0, _, _ => none
  | n + 1, k, t =>
    let t' := t + inc
    if classOf tb (distance tb t' s) s = .ahead then some (k + 1, t') else slip tb inc s n (k + 1) t'

/-- An entry armed at a target; CST.AT rises with the distance of R128. -/
def armEntry (cid tb : Nat) (target : Word) (inc : Option Word) (s : State) : State :=
  let d0 := distance tb target s
  let s1 := s.modHeap cid (fun h => { h with ang := .held, tb := tb, target := target, d0 := d0, reachedAt := none, inc := inc, revFlag := false })
  setArmedBit cid .atBit true (if classOf tb d0 s = .ahead then predict cid s1 else s1)

/-- R248: a trigger that is due in this tick fires before the context's ARM, ARMI or DISARM is taken. -/
def takeDue (cid : Nat) (s : State) : State :=
  let h := s.heap cid
  if h.ang = .predicted ∧ h.pred ≤ s.clock.tick ∧ h.reachedAt.isNone ∧ reached h s ∧ ¬ heapQuiet (regionOf cid) s then
    fire cid (latenessOf h s) Flags.none s
  else s

/-- R246, R247: a PASSED trigger under LATE_ACT: CODE, SLIPS, the target that TRG takes, and the state. Its fire has the given lateness and
flags besides LATE (R260). -/
def passedTrigger (cid tb : Nat) (target : Word) (inc : Option Word) (lateNs : Nat) (fl : Flags) (s : State) : Nat × Nat × Word × State :=
  let fl := { fl with late := true }
  let fireNow (s : State) : State :=
    if heapQuiet (regionOf cid) s ∨ 2 ≤ takenNow (regionOf cid) s then noteDue cid (s.clock.tick - lateNs) fl (armEntry cid tb target inc s)
    else fireNow cid lateNs fl s
  match rd F.sctx_CFG_LATE_ACT cid s with
  | 1 => (3, 0, target, s)
  | 2 =>
    match inc with
    | none => (2, 0, target, fireNow s)
    | some i =>
      if i = 0 then (2, 0, target, fireNow s)
      else match slip tb i s 255 0 target with
        | some (k, t) => (4, k, t, armEntry cid tb t inc s)
        | none => (2, 255, target + BitVec.ofNat 36 (255 * i.toNat), fireNow s)
  | _ => (2, 0, target, fireNow s)

/-- R245 to R248: ARM (`inc` none) or ARMI of a context on timebase `tb`: the status of Table SH-3, the target that TRG takes, the state. -/
def armAngle (cid tb : Nat) (target : Word) (inc : Option Word) (s0 : State) : Word × Word × State :=
  let s1 := takeDue cid (checkHeap cid s0)
  let repl := (s1.heap cid).ang ≠ .disarmed
  let s2 := disarmAngle cid s1
  let r2 := if repl then 16 else 0
  match classOf tb (distance tb target s2) s2 with
  | .ahead => (BitVec.ofNat 36 r2, target, armEntry cid tb target inc s2)
  | .held => (BitVec.ofNat 36 (r2 + 1), target, armEntry cid tb target inc s2)
  | .passed =>
    let (code, slips, t, s3) := passedTrigger cid tb target inc 0 Flags.none s2
    (BitVec.ofNat 36 (slips * 256 + r2 + code), t, s3)

/-- DISARM of the angle trigger by the context (R127, R248). -/
def disarmByContext (cid : Nat) (s : State) : State := disarmAngle cid (takeDue cid (checkHeap cid s))

/-! ### Deadlines (R254 to R256) -/

/-- The deadline of a context removed; CST.DL falls with the distance of R128. -/
def disarmDeadline (cid : Nat) (s0 : State) : State :=
  let s := checkHeap cid s0
  if (s.heap cid).dl.isNone then s
  else setArmedBit cid .dlBit false (s.modHeap cid (fun h => { h with dl := none, dlDue := false }))

/-- R251: the start time of the context's activation. -/
def actTime (cid : Nat) (s : State) : Nat := rd F.sctx_ACT_S cid s * 2 ^ 36 + rd F.sctx_ACT_F cid s

/-- R254: DLINE: the status of d, and the state. -/
def armDeadline (cid : Nat) (a : Word) (s0 : State) : Word × State :=
  let s := checkHeap cid s0
  let t := (actTime cid s + a.toNat) % 2 ^ 72
  let repl := (s.heap cid).dl.isSome
  let s1 := setArmedBit cid .dlBit true (s.modHeap cid (fun h => { h with dl := some t, dlDue := false }))
  (BitVec.ofNat 36 ((if repl then 16 else 0) + if t ≤ s.dev72 then 2 else 0), s1)

/-- R256: the deadline `t` of a context expires. -/
def expireNow (cid t : Nat) (s : State) : State :=
  let s1 := bump F.sch_DL_MISS (regionOf cid) (disarmDeadline cid (s.takeTurn (regionOf cid)))
  let x := s1.ctx cid
  match x.st with
  | .ready | .running | .preempted =>
    trapCtx cid (plainTrap 6 (x.st.code * 2 ^ 16 + min x.actSteps 65535) (t % 2 ^ 36)) s1
  | _ => s1

/-- R242, R256: a deadline's tick arrives: it expires, or waits for its turn; in STANDBY none expires (R479). -/
def expireDeadline (cid : Nat) (s0 : State) : State :=
  let s := checkHeap cid s0
  match if rd F.pwr_MODE 0 s = 1 then none else (s.heap cid).dl with
  | none => s
  | some t =>
    if s.dev72 < t then s
    else if takenNow (regionOf cid) s < 2 then expireNow cid t s else s.modHeap cid (fun h => { h with dlDue := true })

/-- The contexts of some heap entries, in the order of R242 by a due tick. -/
def inTurn (due : Heap → Int) (l : List (Nat × Heap)) (s : State) : List Nat :=
  (l.mergeSort (fun a b => decide (due a.2 < due b.2) || (decide (due a.2 = due b.2) && !tieBefore s b.1 a.1))).map (·.1)

/-- The device time of a deadline, as an order. -/
def Heap.dlTime (h : Heap) : Int := ((h.dl.getD 0 : Nat) : Int)

/-- R242, R259: a forward step of device time passes deadlines: they expire, in turn. -/
def expirePassed (s : State) : State :=
  (inTurn Heap.dlTime (s.heaps.filter (fun e => match e.2.dl with | some t => decide (t ≤ s.dev72) | none => false)) s).foldl
    (fun s c => expireDeadline c s) s

/-! ### Releases of a quiesce (R260) -/

/-- One reached trigger of a released heap, handled under LATE_ACT as a PASSED trigger, with its lateness and its flags. -/
def releaseEntry (cid : Nat) (s0 : State) : State :=
  let s := checkHeap cid s0
  let h := s.heap cid
  (passedTrigger cid h.tb h.target h.inc (latenessOf h s) h.flags (disarmAngle cid s)).2.2.2

/-- The tick at which a trigger was reached, as an order. -/
def Heap.dueTick (h : Heap) : Int := ((h.reachedAt.getD 0 : Nat) : Int)

/-- The reached triggers of a region, in the order of the ticks at which they were reached. -/
def reachedOf (rg : Nat) (s : State) : List Nat :=
  inTurn Heap.dueTick (s.heaps.filter (fun e => regionOf e.1 = rg ∧ e.2.reachedAt.isSome)) s

/-- R260: the reached triggers of a region, in the order of the ticks at which they were reached. -/
def releaseHeap (rg : Nat) (s : State) : State :=
  if heapQuiet rg s then s
  else (reachedOf rg s).foldl (fun s c => releaseEntry c s) s

/-- R202, R260: a release of a level and of the heaps that it lets go. -/
def releaseLevel (c : Scope) (restart : Bool) (s : State) : State :=
  forN 8 releaseHeap (releaseScope c restart s)

/-! ### The fire tick (R242, R250) -/

/-- R242: in a new tick the heap of region `rg` takes entries that wait for their turn, deadlines before triggers (log entry 114). -/
def settleHeap (rg : Nat) (s : State) : State :=
  let dls := inTurn Heap.dlTime (s.heaps.filter (fun e => regionOf e.1 = rg ∧ e.2.dl.isSome ∧ e.2.dlDue)) s
  let s1 := (dls.take (2 - takenNow rg s)).foldl (fun s c => expireDeadline c s) s
  if heapQuiet rg s1 then s1
  else ((reachedOf rg s1).take (2 - takenNow rg s1)).foldl (fun s c => fireNow c (latenessOf (s.heap c) s) (s.heap c).flags (checkHeap c s)) s1

/-- R242 for every region. -/
def settleHeaps (s : State) : State := if s.heaps.isEmpty then s else forN 8 settleHeap s

/-- R242, R250: the fire tick of an entry: it fires when it is reached, and is re-predicted otherwise. Of several due entries of a heap the
first in the order of R242 is taken; another is left. -/
def triggerFire (cid : Nat) (s0 : State) : State :=
  let h0 := s0.heap cid
  if h0.ang = .disarmed ∨ h0.reachedAt.isSome then s0
  else
    let s := checkHeap cid s0
    let h := s.heap cid
    if h.ang = .predicted then
      if s.clock.tick < h.pred then s0
      else if s.heaps.any (fun e => decide (e.1 ≠ cid ∧ regionOf e.1 = regionOf cid ∧ e.2.ang = .predicted ∧ e.2.pred ≤ s.clock.tick
          ∧ e.2.reachedAt.isNone) && dueBefore s e (cid, h)) then s0
      else if reached h s then fireReached cid Flags.none s
      else if tbStands h.tb s then s.setHeap cid { h with ang := .held }
      else predict cid s
    else if reached h s then fireReached cid Flags.none s
    else s

end Sys2Proof.Machine
end

