-- ==== Sys2Proof/Machine/EventOut.lean ====
section
/-! DEFINITION. The event outputs (chapter 10): command items, edge lists, carrier generators, hand-over and commit, dead time, pads,
and Reel's writes. Times are in steps of 125 ps: tick t begins at step 8 t. -/

set_option Elab.async false

namespace Sys2Proof.Machine

/-- The first 125 ps step of this tick. -/
def State.now8 (s : State) : Int := 8 * (s.clock.tick : Int)

/-- A quotient rounded to nearest, ties to the later step (R299). -/
def roundLate (num den : Int) : Int := (2 * num + den) / (2 * den)

/-! ### Pins and pairs (R292) -/

/-- Pin `p` is the odd pin of a pair with PAIR set. -/
def oddOfPair (p : Nat) (s : State) : Bool := decide (p % 2 = 1) && rdB F.pin_PIN_CTL_PAIR (p - 1) s

/-- Pin `p` is the even pin of a pair with PAIR set. -/
def evenOfPair (p : Nat) (s : State) : Bool := decide (p % 2 = 0) && rdB F.pin_PIN_CTL_PAIR p s

/-- The pin whose mode, generator, compare and edge list pin `p` uses. -/
def leadPin (p : Nat) (s : State) : Nat := if oddOfPair p s then p - 1 else p

/-- The mode in which pin `p` runs (Table EV-1). -/
def pinMode (p : Nat) (s : State) : Nat := rd F.pin_PIN_CTL_MODE (leadPin p s) s

/-- The generator of pin `p`. -/
def pinGen (p : Nat) (s : State) : Nat := 16 * (p / 32) + rd F.pin_PIN_CTL_CG (leadPin p s) s

/-- The dead time of pin `p`; 0 outside a pair. -/
def pinDt (p : Nat) (s : State) : Nat :=
  if oddOfPair p s || evenOfPair p s then rd F.pin_PIN_CTL_DT (leadPin p s) s else 0

/-! ### Generators (R303, R304, R526) -/

/-- RATIO: 0 means 4,096. -/
def ratioOf (v : Nat) : Int := if v % 4096 = 0 then 4096 else (v % 4096 : Nat)

/-- PER_ACT or N of generator `g`. -/
def genPer (g : Nat) (s : State) : Int :=
  if rdB F.gen_CG_CTL_SRC g s then ratioOf (rd F.gen_PER_ACT g s) else (rd F.gen_PER_ACT g s % 2 ^ 32 : Nat)

/-- Hand-over points per period. -/
def genHalf (g : Nat) (s : State) : Int := if rdB F.gen_CG_CTL_HO g s then 2 else 1

/-- The internal position of timebase `n` at step `t`, in 2⁻²⁷ tf. -/
def tbPos8 (n : Nat) (t : Int) (s : State) : Int := 8 * tbPos n s + (s.tb n).d * (t - s.now8)

/-- (P − PHASE) of an angle generator at step `t`, in 2⁻²⁷ tf modulo 4,096 cycles. -/
def genAngle (g : Nat) (t : Int) (s : State) : Int :=
  (tbPos8 (rd F.gen_CG_CTL_TB g s) t s - (rd F.gen_PHASE g s % 2 ^ 24 : Nat) * 2 ^ 27) % 2 ^ 63

/-- x = X / 2²⁴ of generator `g` at half step `t2` (125 ps / 2), as numerator and denominator. -/
def genX (g : Nat) (t2 : Int) (s : State) : Int × Int :=
  if rdB F.gen_CG_CTL_SRC g s then
    let n := genPer g s
    let a2 := (2 * tbPos8 (rd F.gen_CG_CTL_TB g s) 0 s + (s.tb (rd F.gen_CG_CTL_TB g s)).d * t2
      - 2 * ((rd F.gen_PHASE g s % 2 ^ 24 : Nat) * 2 ^ 27)) % 2 ^ 52
    ((n * a2) % 2 ^ 52, 2 ^ 52)
  else
    let per := 2 * genPer g s
    if per = 0 then (0, 1) else ((t2 - (s.gen g).t0) % per, per)

/-- The index of the last hand-over point that the position has passed, and its modulus (0: none). -/
def genIndex (g : Nat) (t : Int) (s : State) : Int × Int :=
  if rdB F.gen_CG_CTL_SRC g s then
    let k := genHalf g s * genPer g s
    (k * genAngle g t s / 2 ^ 51, k * 4096)
  else if genPer g s = 0 then (0, 0)
  else (genHalf g s * (2 * t - (s.gen g).t0) / (2 * genPer g s), 0)

/-- The signed number of points from index `a` to index `b`. -/
def indexDiff (a b m : Int) : Int :=
  if m = 0 then b - a
  else let y := (b - a) % m; if 2 * y < m then y else y - m

/-- The direction in which the position of generator `g` moves. -/
def genDir (g : Nat) (s : State) : Int :=
  if rdB F.gen_CG_CTL_SRC g s then signOf (s.tb (rd F.gen_CG_CTL_TB g s)).d else 1

/-- R304, Table EV-4: a pin with compare `c` is active up to the position `num / den`, which is reached in direction `dir`; where the position
stands (0), it is active while w < C. -/
def shapeActive (shape c : Nat) (num den dir : Int) : Bool :=
  let cc : Int := min c (2 ^ 24)
  if dir = 0 then
    let w := match shape with
      | 0 => num
      | 1 => den - num
      | _ => |2 * num - den|
    decide (2 ^ 24 ≤ c ∨ w * 2 ^ 24 < cc * den)
  else if 0 < dir then
    let x := (if num = 0 then den else num) * 2 ^ 24
    match shape with
    | 0 => decide (x ≤ cc * den)
    | 1 => decide ((2 ^ 24 - cc) * den < x)
    | _ => decide ((2 ^ 24 - cc) * den < 2 * x ∧ 2 * x ≤ (2 ^ 24 + cc) * den)
  else
    let x := num * 2 ^ 24
    match shape with
    | 0 => decide (x < cc * den)
    | 1 => decide ((2 ^ 24 - cc) * den ≤ x ∧ 0 < cc)
    | _ => decide ((2 ^ 24 - cc) * den ≤ 2 * x ∧ 2 * x < (2 ^ 24 + cc) * den)

/-- R304: the level of lead pin `p` under its carrier during step `t`: edges fall at the nearest step, ties to the later one. -/
def carrierLevel (p : Nat) (t : Int) (s : State) : Bool :=
  let g := pinGen p s
  let (num, den) := genX g (2 * t + 1) s
  (s.gen g).run && !(s.gen g).wait &&
    shapeActive (rd F.gen_CG_CTL_SHAPE g s) (rd F.pin_CMP_ACT p s % 2 ^ 25) num den (genDir g s)

/-- The placement time of an edge in steps, as numerator and denominator: when device time reaches its target, or the time computed. -/
def edgeTime (e : Edge) (s : State) : Int × Int :=
  match e.dev with
  | none => (e.at_, e.den)
  | some t =>
    let rate : Int := rd F.tbu_TIME_INC 0 s + rdZ F.tbu_TIME_SLEW 0 s
    let gap := signedMod 101 ((t : Int) * 2 ^ 29 - s.clock.dev)
    if rate ≤ 0 then (s.now8 + gap, 1) else (s.now8 * rate + gap * 8, rate)

/-- The step at which an edge is placed: the nearest to its placement time, ties to the later (R299). -/
def edgeAt (e : Edge) (s : State) : Int := roundLate (edgeTime e s).1 (edgeTime e s).2

/-! ### Levels and dead time (R305) -/

/-- The underlying level of pin `p` falls inactive within 2 ns of time `t`, by its next edge, its locked carrier edges or its carrier. -/
def fallsSoon (p : Nat) (t : Int) (s : State) : Bool :=
  let q := leadPin p s
  let x := s.evPin q
  let inv := oddOfPair p s
  match pinMode p s with
  | 2 => match x.edges with
    | e :: _ => !e.held && decide (edgeAt e s < t + 16) && ((if e.level = 2 then !x.placed else e.level == 1) == inv)
    | [] => false
  | 3 =>
    x.locks.any (fun k => decide (t ≤ k.1) && decide (k.1 < t + 16) && k.2 == inv) ||
      (List.range 16).any (fun k => x.locks.all (fun l => decide (l.1 < t + (k : Int))) && carrierLevel q (t + (k : Int)) s == inv)
  | _ => false

/-- R305: the underlying level of pin `p` becomes `lvl` at time `t`. In a pair a change to active waits for the dead time, and a pulse that would
be left shorter than 2 ns is suppressed; a suppressed pulse that lasts after all is a new change. -/
def setUnder (p : Nat) (lvl : Bool) (t : Int) (s : State) : State :=
  let x := s.evPin p
  let pair := oddOfPair p s || evenOfPair p s
  if !lvl then
    if !x.under then s
    else
      let s1 := s.setEvPin p { x with under := false, out := false, delay := none }
      if x.delay.isSome then bump F.pin_PIN_STAT_SUPPR p s1 else s1
  else if x.under && (x.out || x.delay.isSome) then s
  else if pair && decide (pinDt p s = 0 ∨ x.under = true) && fallsSoon p t s then
    if x.under then s else bump F.pin_PIN_STAT_SUPPR p (s.setEvPin p { x with under := true })
  else if pinDt p s = 0 then s.setEvPin p { x with under := true, out := true }
  else s.setEvPin p { x with under := true, delay := some (t + pinDt p s) }

/-- The level of a lead pin at time `t`, and the inverse for the odd pin of its pair. -/
def setLead (p : Nat) (lvl : Bool) (t : Int) (s : State) : State :=
  let s1 := setUnder p lvl t s
  if evenOfPair p s then setUnder (p + 1) (!lvl) t s1 else s1

/-- Both pins of a lead pin drive their inactive levels. -/
def quietLead (p : Nat) (t : Int) (s : State) : State :=
  let s1 := setUnder p false t s
  if evenOfPair p s then setUnder (p + 1) false t s1 else s1

/-- The latest step of this tick at which the level of lead pin `p` changed to `lvl`. -/
def changeStep (p : Nat) (lvl : Bool) (s : State) : Int :=
  let t := s.now8 + 7
  match (List.range 8).find? (fun k => carrierLevel p (t - (k : Int) - 1) s ≠ lvl) with
  | some k => t - (k : Int)
  | none => s.now8

/-- The levels that lead pin `p` drives now by its mode (Table EV-1). -/
def refreshPin (p : Nat) (s : State) : State :=
  match pinMode p s with
  | 0 => quietLead p s.now8 s
  | 1 => setLead p (rdB F.pin_PIN_CTL_LEVEL p s) s.now8 s
  | 2 => setLead p (s.evPin p).placed s.now8 s
  | _ =>
    let x := s.evPin p
    if !x.follow then quietLead p s.now8 s
    else if !x.locks.isEmpty then s
    else
      let l := carrierLevel p (s.now8 + 7) s
      setLead p l (changeStep p l s) s

/-- The lead pins of generator `g`. -/
def genPins (g : Nat) (s : State) : List Nat :=
  ((List.range 32).map (32 * (g / 16) + ·)).filter (fun p => !oddOfPair p s && rd F.pin_PIN_CTL_MODE p s == 3 && pinGen p s == g)

/-! ### SAFE levels and the pad (R293, R309, R311, R313) -/

/-- A trip of its bank forces pin `p`. -/
def covered (p : Nat) (s : State) : Bool := (s.bank (p / 32)).all || (rd F.bank_COVER_MASK (p / 32) s).testBit (p % 32)

/-- Pin `p` is held at its SAFE level by Reel or mode OFF. -/
def forced (p : Nat) (s : State) : Bool :=
  pinMode p s == 0 || (rdB F.bank_TRIP_LATCHED (p / 32) s && covered p s) || (s.evPin p).safe

/-- The pad of pin `p`: low, high, or high impedance (none). A bank that is off drives nothing (R49). -/
def padLevel (p : Nat) (s : State) : Option Bool :=
  if !domOn (bankDomain (p / 32)) s then none
  else if forced p s then
    match rd F.pin_PIN_CTL_SAFE p s with
    | 0 => some false
    | 1 => some true
    | _ => none
  else some ((s.evPin p).out != rdB F.pin_PIN_CTL_ACTIVE p s)

/-- A pin held safe by a SYNC release is let go; dead time applies to its first active change (R313). -/
def letGo (p : Nat) (s : State) : State :=
  let x := s.evPin p
  if !x.safe then s
  else if x.under ∧ x.out ∧ pinDt p s ≠ 0 then s.setEvPin p { x with safe := false, out := false, delay := some (s.now8 + pinDt p s) }
  else s.setEvPin p { x with safe := false }

/-- A lead pin and the odd pin of its pair let go. -/
def letGoLead (p : Nat) (s : State) : State :=
  let s1 := letGo p s
  if evenOfPair p s then letGo (p + 1) s1 else s1

/-! ### Hand-over (R306 to R308) -/

/-- The commit latch of generator `g` is set, or set again (R306, R307). -/
def setCommit (g : Nat) (s : State) : State :=
  if domOn (bankDomain (g / 16)) s then
    wr F.gen_COMMIT_PENDING g 1 (s.modGen g (fun x => { x with setAt := s.clock.tick }))
  else s

/-- R307: CMP_SH of pin `p` is about to be written; its value before this tick is kept. -/
def noteCmp (p : Nat) (s : State) : State :=
  if (s.evPin p).shWas.map (·.1) = some s.clock.tick then s
  else s.modEvPin p (fun x => { x with shWas := some (s.clock.tick, rd F.pin_CMP_SH_VAL p s) })

/-- R307: PER_SH of generator `g` is about to be written; its value before this tick is kept. -/
def notePer (g : Nat) (s : State) : State :=
  if (s.gen g).shWas.map (·.1) = some s.clock.tick then s
  else s.modGen g (fun x => { x with shWas := some (s.clock.tick, rd F.gen_PER_SH_VAL g s) })

/-- R307: a shadow as a hand-over of this tick sees it: from before a write in the same tick. -/
def shadowBefore (was : Option (Nat × Nat)) (v : Nat) (s : State) : Nat :=
  match was with
  | some (t, old) => if t = s.clock.tick then old else v
  | none => v

/-- PER_SH of generator `g` as a hand-over of this tick sees it. -/
def perShadow (g : Nat) (s : State) : Nat := shadowBefore (s.gen g).shWas (rd F.gen_PER_SH_VAL g s) s

/-- R306, R308: the shadows of a generator become active at hand-over point `idx`, which lies at half step `t2`. A new PER keeps the position. -/
def takeShadows (g : Nat) (idx t2 : Int) (s : State) : State :=
  let old := genPer g s
  let s1 := ((List.range 32).map (32 * (g / 16) + ·)).foldl
    (fun s p => if pinGen p s = g then wr F.pin_CMP_ACT p (shadowBefore (s.evPin p).shWas (rd F.pin_CMP_SH_VAL p s) s) s else s) s
  let s2 := wr F.gen_CG_STAT_COMMITS g (min (rd F.gen_CG_STAT_COMMITS g s + 1) (2 ^ 18 - 1))
    (wr F.gen_COMMIT_PENDING g 0 (wr F.gen_PER_ACT g (perShadow g s) s1))
  let new := genPer g s2
  if new = old then s2
  else if rdB F.gen_CG_CTL_SRC g s then s2.modGen g (fun x => { x with idx := (genIndex g (t2 / 2) s2).1 })
  else if genHalf g s = 2 ∧ idx % 2 = 1 then s2.modGen g (fun x => { x with t0 := t2 - new, idx := 1 })
  else s2.modGen g (fun x => { x with t0 := t2, idx := 0 })

/-- A hand-over point of generator `g` with index `idx`, reached at half step `t2`; `n` points are counted, and `cycle` tells that the point of
R308 is reached. -/
def handOver (g : Nat) (idx t2 : Int) (cycle : Bool) (n : Nat) (s : State) : State :=
  let s1 := wr F.gen_POS_PERIODS g (rd F.gen_POS_PERIODS g s + n) s
  let s2 :=
    if !rdB F.gen_COMMIT_PENDING g s then s1
    else if s.clock.tick < (s.gen g).setAt + 4 then
      wr F.gen_CG_STAT_LATE_COMMIT g (min (rd F.gen_CG_STAT_LATE_COMMIT g s + 1) (2 ^ 18 - 1)) s1
    else if rdB F.gen_CG_CTL_SRC g s && ratioOf (perShadow g s) != genPer g s && !cycle then s1
    else takeShadows g idx t2 s1
  (genPins g s).foldl (fun s p =>
    refreshPin p (letGoLead p (s.modEvPin p (fun x => { x with follow := true })))) s2

/-- The point with index `idx` is the one of R308: X = 0 and (P − PHASE) a whole cycle. -/
def isCyclePoint (g : Nat) (idx : Int) (s : State) : Bool := idx % (genHalf g s * genPer g s) == 0

/-- A cycle point lies among the points after index `a`, `d` points on. -/
def crossesCycle (g : Nat) (a d : Int) (s : State) : Bool :=
  let k := genHalf g s * genPer g s
  if 0 ≤ d then decide (a / k ≠ (a + d) / k) else decide ((a - 1) / k ≠ (a + d - 1) / k)

/-- The half step at which a time generator has its point `idx`; this tick's last step for an angle generator. -/
def pointTime (g : Nat) (idx : Int) (s : State) : Int :=
  if rdB F.gen_CG_CTL_SRC g s then 2 * (s.now8 + 7) else (s.gen g).t0 + idx * (2 * genPer g s / genHalf g s)

/-- R526, R306: the position of a running generator has moved, to points with index `i`, past `d` points after index `a`: one hand-over for the
move, which leaves `idx` as the index of what has been taken. -/
def takeMove (g : Nat) (a d i idx : Int) (s : State) : State :=
  let point := if 0 < d then i else i + 1
  handOver g point (pointTime g point s) (crossesCycle g a d s) d.natAbs (s.modGen g (fun x => { x with idx := idx, lead := 0 }))

/-- R526, R306: the position of a running generator may have moved past hand-over points. A point that is locked is no part of the move. -/
def advanceGen (g : Nat) (s : State) : State :=
  let x := s.gen g
  if !x.run || x.wait then s
  else
    let (i, m) := genIndex g (s.now8 + 7) s
    let d := indexDiff x.idx i m
    match x.lock with
    | none =>
      if d = 0 then s.setGen g { x with lead := 0 }
      else if x.lead ≠ 0 ∧ d = -x.lead then s
      else takeMove g x.idx d i i s
    | some (_, dir) =>
      if d = 0 ∨ d = dir then s
      else if signOf d = dir then takeMove g (x.idx + dir) (d - dir) i (i - dir) s
      else takeMove g x.idx d i i s

/-- HANDOVER: a hand-over point of generator `g` is reached in this tick, by its locked time or by its position. -/
def handoverPoint (g : Nat) (s : State) : State :=
  let x := s.gen g
  match x.lock with
  | some (t, dir) =>
    if t ≤ s.now8 + 7 then
      let i := x.idx + dir
      let point := if 0 < dir then i else i + 1
      let (j, m) := genIndex g (s.now8 + 7) s
      handOver g point (2 * t) (isCyclePoint g point s) 1
        (s.setGen g { x with idx := i, lock := none, lead := if indexDiff i j m = 0 then 0 else dir })
    else s
  | none => advanceGen g s

/-! ### Crossings locked 64 ns ahead (R303, R526) -/

/-- The carrier edges of lead pin `p` that lie within 64 ns are locked as they stand. -/
def lockCarrier (p : Nat) (s : State) : State :=
  let x := s.evPin p
  let from_ := match x.locks.getLast? with | some (t, _) => max t (s.now8 + 7) | none => s.now8 + 7
  let new := (List.range 513).filterMap (fun k =>
    let t := from_ + (k : Int)
    let l := carrierLevel p t s
    if k ≠ 0 ∧ t ≤ s.now8 + 512 ∧ l ≠ carrierLevel p (t - 1) s then some (t, l) else none)
  s.modEvPin p (fun x => { x with locks := x.locks ++ new })

/-- The hand-over of generator `g` that lies within 64 ns is locked. -/
def lockHandover (g : Nat) (s : State) : State :=
  let x := s.gen g
  if x.lock.isSome then s
  else
    let (i0, m) := genIndex g (s.now8 + 7) s
    match (List.range 505).find? (fun k => indexDiff i0 (genIndex g (s.now8 + 8 + (k : Int)) s).1 m ≠ 0) with
    | some k => s.setGen g { x with lock := some (s.now8 + 8 + (k : Int), genDir g s) }
    | none => s

/-- Before the position of a running generator is changed: the point of this tick is taken, and what an angle generator would cross within
64 ns is locked. -/
def lockGen (g : Nat) (s : State) : State :=
  if !(s.gen g).run || (s.gen g).wait then s
  else
    let s1 := handoverPoint g s
    if !rdB F.gen_CG_CTL_SRC g s1 then s1
    else (genPins g s1).foldl (fun s p => if (s.evPin p).follow then lockCarrier p s else s) (lockHandover g s1)

/-- After the position of a running generator has changed: the move's hand-over, and the levels of the new position (R526). -/
def moveGen (g : Nat) (s : State) : State := (genPins g s).foldl (fun s p => refreshPin p s) (advanceGen g s)

/-! ### Starts and stops of a generator (R525) -/

/-- R303: a time generator's position counts from the given tick's step plus PHASE; the points before t₀ count as well. -/
def setT0 (g : Nat) (s : State) : State :=
  let s1 := s.modGen g (fun x => { x with wait := false, t0 := 2 * (s.now8 + (rd F.gen_PHASE g s % 2 ^ 32 : Nat)) })
  s1.modGen g (fun x => { x with idx := (genIndex g s1.now8 s1).1 })

/-- R525: a generator starts afresh; PER_ACT takes PER_SH. -/
def startGen (g : Nat) (s : State) : State :=
  let s1 := (wr F.gen_PER_ACT g (rd F.gen_PER_SH_VAL g s) s).modGen g (fun x => { x with run := true, wait := false, lock := none, lead := 0 })
  if rdB F.gen_CG_CTL_SRC g s then s1.modGen g (fun x => { x with idx := (genIndex g s.now8 s1).1 })
  else if rdB F.gen_CG_CTL_ALIGN g s then s1.modGen g (fun x => { x with wait := true })
  else setT0 g s1

/-- R525: a generator stops; its pins drive their inactive levels until it starts and reaches a hand-over point. -/
def stopGen (g : Nat) (s : State) : State :=
  (genPins g s).foldl (fun s p => refreshPin p (s.modEvPin p (fun x => { x with follow := false, locks := [] })))
    (s.modGen g (fun x => { x with run := false, wait := false, lock := none, lead := 0 }))

/-- R525: a new HO applies to a running generator at its present position; what lies within 64 ns is locked under it. -/
def newHo (g ho : Nat) (s : State) : State :=
  if rd F.gen_CG_CTL_HO g s = ho then s
  else
    let s1 := wr F.gen_CG_CTL_HO g ho s
    let s2 := s1.modGen g (fun x => { x with idx := (genIndex g (s.now8 + 7) s1).1, lock := none, lead := 0 })
    if rdB F.gen_CG_CTL_SRC g s then lockHandover g s2 else s2

/-- R525: a new SHAPE applies from this tick: no carrier edge stands locked under the old one. -/
def newShape (g shape : Nat) (s : State) : State :=
  if rd F.gen_CG_CTL_SHAPE g s = shape ∨ shape = 3 then s
  else (genPins g s).foldl (fun s p => s.modEvPin p (fun x => { x with locks := [] })) s

/-- R525: a write of CG_CTL. -/
def writeCgCtl (g : Nat) (v : Word) (s : State) : State :=
  let en := bits v 0 1
  let src := bits v 1 1
  let oldEn := rd F.gen_CG_CTL_EN g s
  let oldSrc := rd F.gen_CG_CTL_SRC g s
  let starts := en = 1 ∧ (oldEn = 0 ∨ src ≠ oldSrc)
  let bad := starts ∧ src = 0 ∧ rd F.gen_PER_SH_VAL g s < 512
  let s0 := if oldEn = 1 then newHo g (bits v 4 1) (newShape g (bits v 2 2) (lockGen g s)) else s
  let s1 := storeReg .gen g 0 v s0
  if bad then
    let s2 := wr F.gen_CG_CTL_EN g oldEn (wr F.gen_CG_CTL_SRC g oldSrc s1)
    if oldEn = 1 then moveGen g s2 else s2
  else if starts then startGen g s1
  else if en = 0 ∧ oldEn = 1 then stopGen g s1
  else if en = 1 then moveGen g s1
  else s1

/-- R525: a write of PHASE. A time generator moves t₀ by the new PHASE minus the old one. -/
def writePhase (g : Nat) (v : Word) (s : State) : State :=
  let old : Nat := rd F.gen_PHASE g s % 2 ^ 32
  if !(s.gen g).run then storeReg .gen g 3 v s
  else
    let s1 := storeReg .gen g 3 v (lockGen g s)
    let new : Nat := rd F.gen_PHASE g s1 % 2 ^ 32
    moveGen g (if rdB F.gen_CG_CTL_SRC g s then s1 else s1.modGen g (fun x => { x with t0 := x.t0 + 2 * ((new : Int) - old) }))

/-- R303: TIME_F passes zero: generators that wait for it take t₀. -/
def alignGens (s : State) : State := (s.gens.filter (fun e => e.2.wait)).foldl (fun s e => setT0 e.1 s) s

/-! ### Edges (R299 to R302) -/

/-- An edge event of pin `p` (Table EV-7). -/
def edgeEvent (p code : Nat) (s : State) : State := postEvent (2 + p / 64) 9 p code s

/-- R300: a late edge of pin `p`, to be placed no earlier than `floor`; none when it is dropped. -/
def lateEdge (p : Nat) (level : Nat) (floor : Int × Int) (s : State) : Option Edge × State :=
  let s1 := bump F.pin_PIN_STAT_LATE p s
  if rdB F.pin_PIN_CTL_EDGE_LATE p s then (none, edgeEvent p 2 (bump F.pin_PIN_STAT_DROPPED p s1))
  else (some { at_ := floor.1, den := floor.2, dev := none, ang := none, level := level, lock := true, held := false }, edgeEvent p 1 s1)

/-- A time 2 ns after another. -/
def after2ns (t : Int × Int) : Int × Int := (t.1 + 16 * t.2, t.2)

/-- A time is no earlier than another. -/
def noEarlier (t q : Int × Int) : Bool := decide (q.1 * t.2 ≤ t.1 * q.2)

/-- R300: 2 ns after the edge before. -/
def spaced (prev : Option (Int × Int)) (t : Int × Int) : Bool := match prev with | some q => noEarlier t (after2ns q) | none => true

/-- The time no earlier than 16 ns after this tick and 2 ns after the edge before. -/
def lateTime (prev : Option (Int × Int)) (s : State) : Int × Int :=
  match prev with
  | some q => if noEarlier (after2ns q) (s.now8 + 128, 1) then after2ns q else (s.now8 + 128, 1)
  | none => (s.now8 + 128, 1)

/-- R300: an edge as it stands, or late when it lies less than 2 ns after the edge before, which lies at `prev`. -/
def spaceEdge (p : Nat) (prev : Option (Int × Int)) (e : Edge) (s : State) : Option Edge × State :=
  if e.held || spaced prev (edgeTime e s) then (some e, s) else lateEdge p e.level (after2ns (prev.getD (0, 1))) s

/-- R300: an edge at a device time has a lead below 16 ns. -/
def leadShort (e : Edge) (s : State) : Bool := !noEarlier (edgeTime e s) (s.now8 + 128, 1)

/-- R300, R301: the class of an edge whose pin's edge before lies at `prev`: the edge as it waits, or none when it is dropped. -/
def classifyEdge (p : Nat) (prev : Option (Int × Int)) (e : Edge) (s : State) : Option Edge × State :=
  match e.ang with
  | none => if leadShort e s then lateEdge p e.level (lateTime prev s) s else spaceEdge p prev e s
  | some (n, target, d0) =>
    let x := s.tb n
    let d := distance n target s
    if d = 0 ∨ signOf d ≠ signOf d0 ∨ (x.v ≠ 0 ∧ signOf x.v ≠ signOf d0) then lateEdge p e.level (lateTime prev s) s
    else if x.v = 0 ∨ x.d = 0 then (some { e with held := true }, s)
    else
      let gap := signedMod 60 ((target.toNat : Int) * 2 ^ 24 - tbPos n s)
      let gap' := if x.d < 0 ∧ 0 < gap then gap - 2 ^ 60 else if 0 < x.d ∧ gap < 0 then gap + 2 ^ 60 else gap
      spaceEdge p prev { e with at_ := s.now8 * |x.d| + |gap'| * 8, den := |x.d|, held := false } s

/-- The edges of a list in order; `keep` says which are not classed again, but keep to the 2 ns of R300. -/
def reclassEdges (p : Nat) (keep : Edge → State → Bool) : Option (Int × Int) → List Edge → State → List Edge × State
  | _, [], s => ([], s)
  | prev, e :: l, s =>
    let (r, s1) := if keep e s then spaceEdge p prev e s else classifyEdge p prev e s
    match r with
    | some e' =>
      let (l', s2) := reclassEdges p keep (if e'.held then none else some (edgeTime e' s1)) l s1
      (e' :: l', s2)
    | none => reclassEdges p keep prev l s1

/-- R301: an edge is locked: its time stands from 64 ns before. -/
def edgeLocked (e : Edge) (s : State) : Bool := e.lock || (!e.held && decide (edgeAt e s ≤ s.now8 + 512))

/-- The edge list of a pin gone through again. -/
def reclassPin (keep : Edge → State → Bool) (p : Nat) (s : State) : State :=
  let x := s.evPin p
  let (l, s1) := reclassEdges p keep x.prev x.edges s
  s1.modEvPin p (fun x => { x with edges := l })

/-- The time of the edge that a new edge of pin `p` follows; unknown while that edge is held. -/
def lastEdge (p : Nat) (s : State) : Option (Int × Int) :=
  match (s.evPin p).edges.getLast? with
  | some e => if e.held then none else some (edgeTime e s)
  | none => (s.evPin p).prev

/-- R300, R301: an edge joins the list of pin `p`. -/
def addEdge (p : Nat) (e : Edge) (s : State) : State :=
  match classifyEdge p (lastEdge p s) e s with
  | (some e', s1) => s1.modEvPin p (fun x => { x with edges := x.edges ++ [e'] })
  | (none, s1) => s1

/-- R299, R301: the first edge of pin `p` is placed, when its time or its angle has come; the edges behind it keep to the 2 ns of R300. -/
def placeEdge (p : Nat) (s : State) : State :=
  let x := s.evPin p
  match x.edges with
  | [] => s
  | e :: l =>
    let time := if !e.held then edgeTime e s else if spaced x.prev (s.now8, 1) then (s.now8, 1) else after2ns (x.prev.getD (0, 1))
    let due : Bool := if e.held then (match e.ang with
        | some (n, target, d0) => distance n target s == 0 || signOf (distance n target s) != signOf d0
        | none => true)
      else decide (roundLate time.1 time.2 ≤ s.now8 + 7)
    if !due then s
    else
      let lvl := if e.level = 2 then !x.placed else e.level == 1
      let s1 := s.setEvPin p { x with edges := l, placed := lvl, prev := some time }
      let s2 := if e.held then edgeEvent p 1 (bump F.pin_PIN_STAT_LATE p s1) else s1
      let s3 := reclassPin (fun _ _ => true) p s2
      letGoLead p (if pinMode p s = 2 then setLead p lvl (roundLate time.1 time.2) s3 else s3)

/-- EDGE_LOCK: an edge of pin `p` that lies within 64 ns is locked. -/
def lockEdges (p : Nat) (s : State) : State :=
  s.modEvPin p (fun x => { x with edges := x.edges.map (fun e => { e with lock := e.lock || (e.ang.isSome && edgeLocked e s) }) })

/-- R302: a step of device time: edges at device times that it passes become late. -/
def edgesAfterStep (s : State) : State :=
  (s.evPins.map (·.1)).foldl (fun s p => reclassPin (fun e s => e.dev.isNone || noEarlier (edgeTime e s) (s.now8, 1)) p s) s

/-- Pending edges discarded and counted (R295, R305). -/
def discardEdges (p : Nat) (event : Bool) (s : State) : State :=
  let n := (s.evPin p).edges.length
  if n = 0 then s
  else
    let s1 := bumpBy F.pin_PIN_STAT_DROPPED p n (s.modEvPin p (fun x => { x with edges := [] }))
    if event then edgeEvent p 3 s1 else s1

/-! ### A timebase takes a new triple (R301, R303, R526) -/

/-- The running angle generators on timebase `n`. -/
def gensOn (n : Nat) (s : State) : List Nat :=
  (s.gens.filter (fun e => e.2.run ∧ rdB F.gen_CG_CTL_SRC e.1 s ∧ rd F.gen_CG_CTL_TB e.1 s = n)).map (·.1)

/-- Before timebase `n` changes: what lies within 64 ns is locked, and points passed already are taken. -/
def evoBefore (n : Nat) (s : State) : State := (gensOn n s).foldl (fun s g => lockGen g s) s

/-- After timebase `n` has changed: predicted edges are computed again, and generators take the move. -/
def evoAfter (n : Nat) (s : State) : State :=
  let onTb (e : Edge) : Bool := match e.ang with | some (m, _, _) => m == n | none => false
  let s1 := ((s.evPins.filter (fun e => e.2.edges.any onTb)).map (·.1)).foldl
    (fun s p => reclassPin (fun e s => !onTb e || edgeLocked e s || e.held) p s) s
  (gensOn n s1).foldl (fun s g => moveGen g s) s1

/-- CARRIER_EDGE: lead pin `p` takes its locked edge, or the level of its carrier. -/
def carrierEdge (p : Nat) (s : State) : State :=
  let x := s.evPin p
  if pinMode p s ≠ 3 ∨ ¬ x.follow ∨ oddOfPair p s then s
  else match x.locks with
    | (t, l) :: r => if t ≤ s.now8 + 7 then setLead p l t (s.setEvPin p { x with locks := r }) else s
    | [] => refreshPin p s

/-- DEAD_TIME_EXPIRE: the delayed change of pin `p` falls due; a pulse left shorter than 2 ns is suppressed. -/
def deadTimeEnd (p : Nat) (s : State) : State :=
  let x := s.evPin p
  match x.delay with
  | none => s
  | some t =>
    if s.now8 + 7 < t then s
    else if fallsSoon p t s then bump F.pin_PIN_STAT_SUPPR p (s.setEvPin p { x with delay := none })
    else s.setEvPin p { x with delay := none, out := true }

/-- R295, R305, R313: a write of PIN_CTL; a pin held safe that is now OFF or STATIC is released at once. -/
def writePinCtl (p : Nat) (v : Word) (s : State) : State :=
  let oldMode := pinMode p s
  let oddMode := pinMode (p + 1) s
  let wasPair := evenOfPair p s
  let s1 := storeReg .pin p 0 v s
  let isEven := p % 2 = 0
  let s2 := if oldMode = 2 ∧ (pinMode p s1 ≠ 2) then discardEdges p true s1 else s1
  let s3 := if isEven ∧ ¬ wasPair ∧ evenOfPair p s1 then discardEdges (p + 1) false s2
    else if isEven ∧ oddMode = 2 ∧ pinMode (p + 1) s1 ≠ 2 then discardEdges (p + 1) true s2 else s2
  let parts := isEven ∧ wasPair ∧ ¬ evenOfPair p s1
  let enter (p : Nat) (s : State) : State := s.modEvPin p (fun x => { x with follow := false, locks := [] })
  let s4 := if oldMode ≠ 3 ∧ pinMode p s1 = 3 then enter p s3 else s3
  let s5 := if parts then enter (p + 1) s4 else s4
  let free (p : Nat) (s : State) : State := if pinMode p s < 2 then letGo p s else s
  let s6 := if isEven then free (p + 1) (free p s5) else free p s5
  let s7 := if oddOfPair p s6 then s6 else refreshPin p s6
  if parts then refreshPin (p + 1) s7 else s7

/-! ### Command items (R296 to R298) -/

/-- Queue `q` feeds the event output unit of its die (Table QU-1). -/
def isCommandQueue (q : Nat) (s : State) : Bool := qCap s q != 0 && bits (rdW F.desc_CONS q s) 17 4 == 4

/-- R297: a bad item is discarded whole and counted. -/
def badItem (q n : Nat) (s : State) : State :=
  let s1 := (popItem q n s).2
  let s2 := if q < 4096 then bump F.evo_CMD_STAT_BAD_E 0 s1 else bump F.evo_CMD_STAT_BAD_W 0 s1
  postEvent (2 + q / 4096) 10 (q % 256) 1 s2

/-- R298: an EDGE item with header `h` and `n` words is well formed. -/
def edgeItemOk (q : Nat) (h : Word) (n : Nat) (s : State) : Bool :=
  let p := bits h 25 7
  let angle := bits h 32 4 == 2
  n == (if angle then 2 else 3) && bits h 24 1 == 0 && bits h 22 2 != 3 && (angle || bits h 16 6 == 0) && bits h 0 16 == 0
  && p / 64 == q / 4096 && rd F.pin_PIN_CTL_MODE p s == 2 && !oddOfPair p s

/-- R298: a CMP item is well formed. -/
def cmpItemOk (q : Nat) (ws : List Word) (s : State) : Bool :=
  match ws with
  | [h, c] =>
    let p := bits h 25 7
    bits h 0 24 == 0 && bits c 25 11 == 0 && p / 64 == q / 4096 && rd F.pin_PIN_CTL_MODE p s == 3 && !oddOfPair p s
  | _ => false

/-- R298: a CGSET item is well formed. -/
def cgsetItemOk (q : Nat) (ws : List Word) (s : State) : Bool :=
  match ws with
  | [h, v] =>
    let g := bits h 25 6
    bits h 0 24 == 0 && bits h 31 1 == 0 && g / 32 == q / 4096
    && (if rdB F.gen_CG_CTL_SRC g s then bits v 12 24 == 0 else bits v 32 4 == 0 && decide (512 ≤ v.toNat))
  | _ => false

/-- R296 to R301, R306, R366: the complete item at the head of command queue `q` is applied, when its TYPE is `typ` or undefined. -/
def applyItem (q typ : Nat) (s0 : State) : State :=
  let s := if isCommandQueue q s0 && consPath s0 q then compareCopies q s0 else s0
  if !isCommandQueue q s0 || !consPath s0 q then s0
  else match headItem q s with
    | none => s
    | some [] => s
    | some (h :: ws) =>
      let ty := bits h 32 4
      let n := ws.length + 1
      let p := bits h 25 7
      if ty = 0 ∨ 4 < ty then badItem q n s
      else if ty ≠ typ then s
      else if ty ≤ 2 then
        if !edgeItemOk q h n s then badItem q n s
        else if 8 ≤ (s.evPin p).edges.length then s
        else
          let e : Edge :=
            if ty = 1 then { at_ := 0, den := 1, dev := some ((ws.headD 0).toNat * 2 ^ 36 + (ws.getD 1 0).toNat), ang := none, level := bits h 22 2,
                             lock := false, held := false }
            else
              let target := ws.headD 0
              { at_ := 0, den := 1, dev := none, ang := some (bits h 16 6, target, distance (bits h 16 6) target s), level := bits h 22 2,
                lock := false, held := false }
          addEdge p e (popItem q n s).2
      else if ty = 3 then
        if !cmpItemOk q (h :: ws) s then badItem q n s
        else
          let s1 := wr F.pin_CMP_SH_VAL p (bits (ws.headD 0) 0 25) (noteCmp p (popItem q n s).2)
          if bits h 24 1 = 1 then setCommit (pinGen p s) s1 else s1
      else if !cgsetItemOk q (h :: ws) s then badItem q n s
      else
        let g := bits h 25 6
        let s0 := (popItem q n s).2
        let s1 := if domOn (bankDomain (g / 16)) s then wr F.gen_PER_SH_VAL g (bits (ws.headD 0) 0 32) (notePer g s0) else s0
        if bits h 24 1 = 1 then setCommit g s1 else s1

/-! ### Reel's registers (R310, R312, R313) -/

/-- R312: what keeps a clear of bank `b` from taking effect: an enabled source that is active, TRIP.SW in its tick among them, a fence of its
die, or the SAFE state. -/
def clearBlocked (b : Nat) (s : State) : Bool :=
  !(activeSources b s).isEmpty || (s.bank b).swAt == some s.clock.tick || s.contain.held.contains { lvl := 3, i := b / 2 } || inSafe s

/-- R313: the covered pins of a bank after a clear: EDGE and CARRIER pins stay safe under SYNC. -/
def releasePins (b : Nat) (was : List Nat) (s : State) : State :=
  if rdB F.bank_BANK_CTL_RELEASE b s then
    was.foldl (fun s p => if 2 ≤ pinMode p s then s.modEvPin p (fun x => { x with safe := true }) else s) s
  else was.foldl (fun s p => s.modEvPin p (fun x => { x with safe := false })) s

/-- R312: a clear of the latch of bank `b`. -/
def clearTrip (b : Nat) (s : State) : State :=
  if clearBlocked b s then wr F.bank_TRIP_CLR_FAIL b 1 s
  else if !rdB F.bank_TRIP_LATCHED b s then s
  else
    let was := ((List.range 32).map (32 * b + ·)).filter (fun p => covered p s)
    releasePins b was (wr F.bank_TRIP_LATCHED b 0 (s.modBank b (fun x => { x with all := false })))

/-- R310, R312: a write of TRIP: W1C bits, then SW, then CLR. -/
def writeTrip (b : Nat) (v : Word) (s : State) : State :=
  let s1 := storeReg .bank b 7 v s
  let s2 := if bits v 0 1 = 1 then (setLatch b 4 b s1).modBank b (fun x => { x with swAt := some s.clock.tick }) else s1
  if bits v 1 1 = 1 then clearTrip b s2 else s2

/-- R310: a write of SRC0 to SRC4: a source enabled while it is active sets the latch. -/
def writeSource (b o : Nat) (v : Word) (s : State) : State :=
  let old := activeSources b s
  let s1 := storeReg .bank b o v s
  ((activeSources b s1).filter (fun x => !old.contains x)).foldl (fun s x => setLatch b x.1 x.2 s) s1

/-- The state q of Jasper rule `i`. -/
def ruleQ (i : Nat) (s : State) : Bool :=
  if i < 36 then (rd F.jsp_Q_LO 0 s).testBit i else (rd F.jsp_Q_HI_Q 0 s).testBit (i - 36)

/-- The latch of Jasper rule `i`. -/
def ruleLatch (i : Nat) (s : State) : Bool :=
  if i < 36 then (rd F.jsp_LATCH_LO 0 s).testBit i else (rd F.jsp_LATCH_HI_LATCH 0 s).testBit (i - 36)

/-- R495: a Jasper rule asserts SAFE_Nb low. -/
def jspHolds (b : Nat) (s : State) : Bool :=
  (List.range 64).any (fun i => (rd (F.jsp_RULE_B_SAFE.nth (2 * i)) 0 s).testBit b && (ruleQ i s || ruleLatch i s))

/-- R66: SAFE_Nb is driven high: the bank is on and usable, and neither SAFE, SAFE boot nor a Jasper rule holds it low. -/
def safePin (b : Nat) (s : State) : Bool :=
  domOn (bankDomain b) s && !inSafe s && !rdB F.pwr_MODE_SAFE_BOOT 0 s && !jspHolds b s && !s.pins.safeN.testBit b

end Sys2Proof.Machine
end

