-- ==== Sys2Proof/Machine/Timebase.lean ====
section
/-! DEFINITION. The timebase unit (chapter 07): updates, the estimator, loss and fallback, writes of its registers, device time, PPS,
steps, and publishing. -/

set_option Elab.async false

namespace Sys2Proof.Machine

/-! ### Publishing (R232, R233, R454) -/

/-- R454: the links of the time tree, under the TIME_CFG in force. -/
def treeLinks (s : State) : List Nat :=
  let c := s.qdl.timeCfg
  (List.range 6).filter (fun l => bits c (4 + l) 1 = 1 ∨ (bits c 3 1 = 1 ∧ bits c 0 3 = l))

/-- PUB_LO, PUB_HI: timebase `n` is published. -/
def published (n : Nat) (s : State) : Bool :=
  if n < 32 then (rd F.tbu_PUB_LO_MASK 0 s).testBit n else (rd F.tbu_PUB_HI_MASK 0 s).testBit (n - 32)

/-- Table QF-8: the MIRROR packet of timebase `n`. -/
def mirrorPacketOf (n : Nat) (s : State) : Granule :=
  let (pu, _, dev) := tbBase n s
  let p := (pu % 2 ^ 60).toNat
  let hops := if tbKind n s = 7 then rd F.tb_STAT_HOPS n s else 0
  let w3 := n * 2 ^ 30 + rd F.tbu_TIME_STAT_STATE 0 s * 2 ^ 27 + hops % 8 * 2 ^ 24 + p % 2 ^ 24
  headOf 5 0 0 [p / 2 ^ 24, w3, lowBits 36 (s.tb n).v, dev / 2 ^ 65 % 2 ^ 36, dev / 2 ^ 29 % 2 ^ 36] s

/-- R232: the present triple is sent on every link of the time tree that is UP. -/
def sendMirror (n : Nat) (s : State) : State :=
  let s1 := s.modTb n (fun x => { x with held := false, sentAt := some s.clock.tick })
  if assigned s then
    (treeLinks s).foldl (fun s l => if linkUp l s then sendLocal l 2 [mirrorPacketOf n s] s else s) s1
  else s1

/-- R232: an update of a published timebase is sent, or held until MIN_GAP has passed. -/
def publish (n : Nat) (s : State) : State :=
  if !published n s then s
  else
    let gap := 100 * rd F.tbu_PUB_CTL_MIN_GAP 0 s
    match (s.tb n).sentAt with
    | some t => if s.clock.tick < t + gap then s.modTb n (fun x => { x with held := true }) else sendMirror n s
    | none => sendMirror n s

/-! ### A change of a triple (R218, R219, R249) -/

/-- R218, R219: after the triple of timebase `n` has changed: NOBACK against the value shown before, and the sign of V. The state, and whether
V has reversed. -/
def judgeMove (n : Nat) (shown : Int) (jump : Bool) (s : State) : Bool × State :=
  let x := s.tb n
  let sg := signOf x.v
  let rev := decide (sg ≠ 0 ∧ x.lastSign ≠ 0 ∧ sg ≠ x.lastSign)
  let x1 := { x with holdAt := none, lastSign := if sg = 0 then x.lastSign else sg }
  let s1 := s.setTb n x1
  let back := -(signedMod 60 (tbPos n s1 - shown)) * x1.sign
  let s2 :=
    if rdB F.tb_CTL_NOBACK n s && !jump && !rev && decide (0 < back) && decide (back < rd F.tb_CTL_BACK_MAX n s * 2 ^ 32) then
      let s2 := s1.setTb n { x1 with holdAt := some shown }
      if x.holdAt.isSome then s2 else bump F.tb_STAT_HOLDS n s2
    else s1
  (rev, if rev then wr F.tb_STAT_REV n 1 s2 else s2)

/-- R251: timebase `n` has moved forward from what it showed: with its velocity, or upward where it never had one. -/
def movedOn (n : Nat) (shown : Int) (s : State) : Bool :=
  let g := (s.tb n).sign
  decide (0 < signedMod 60 (tbPos n s - shown) * (if g = 0 then 1 else g))

/-- The enabled timebases that follow timebase `n`: DERIVED ones with their scale, and those in FALLBACK on it. -/
def followers (n : Nat) (s : State) : List Nat :=
  (s.tbs.filter (fun e => (rd F.tb_SRC_KIND e.1 s = 6 ∧ rd F.tb_SRC_INST e.1 s = n ∧ (e.2.st = .track ∨ e.2.st = .acquire ∨ e.2.st = .lost
      ∨ e.2.st = .stale) ∧ n < e.1)
    ∨ (e.2.st = .fallback ∧ rd F.tb_CTL_FB e.1 s = n))).map (·.1)

/-- R212, R221, R222: one follower of timebase `n` after a change of it; `was` tells that `n` was LOST or OFF before, `isUpd` that the
change is an update, and `shown` is what the follower showed before. -/
def followParent (n : Nat) (was isUpd : Bool) (m : Nat) (shown : Int) (s : State) : State :=
  let p := s.tb n
  let (pu, tu, dev) := tbBase n s
  let x := s.tb m
  if x.st = .fallback then
    if tbIdle p then
      (if was then s else s.setTb m { x with pu := shown, tu := s.clock.tick, dev := s.clock.dev, v := 0, d := 0 })
    else s.setTb m { x with v := p.v, d := p.d, fbPos := if was then tbPos n s else x.fbPos }
  else if !isUpd then s
  else
    let sc := tbScale m s
    let (dp, s1) := roundFree (signedMod 60 (pu - x.mAcc) * sc) 4096 s
    let (v, s2) := roundFree (p.v * sc) 4096 s1
    let v' := clipV v
    s2.setTb m { x with pu := (x.pu + dp) % 2 ^ 60, tu := tu, dev := dev, v := v', d := incOf v', mAcc := pu, st := .track,
                        first := false, vset := true }

/-- A change `f` of the triple of timebase `n`, which showed `shown` before, seen by all its consumers (`tell`) and its followers; an update is
published (R232). `k` bounds the chain of followers. -/
def touchTb : Nat → Nat → Int → Bool → Bool → (Bool → State → State) → (State → State) → State → State
  | 0, _, _, _, _, _, f, s => f s
  | k + 1, n, shown, isUpd, jump, tell, f, s =>
    let was := tbIdle (s.tb n)
    let pre := (followers n s).map (fun m => (m, tbShown m s))
    let s1 := f (evoBefore n s)
    let (rev, s2) := judgeMove n shown jump s1
    let s3 := evoAfter n (tell rev s2)
    let s3 := if isUpd then publish n s3 else s3
    pre.foldl (fun s e =>
      touchTb k e.1 e.2 isUpd jump (fun rev s => repredict rev (jump && movedOn e.1 e.2 s) e.1 s) (followParent n was isUpd e.1 e.2) s) s3

/-- A change of timebase `n`'s triple; `isUpd` when it is an update, `jump` when the value may jump. -/
def changeTb (n : Nat) (isUpd jump : Bool) (f : State → State) (s : State) : State :=
  let shown := tbShown n s
  touchTb 64 n shown isUpd jump (fun rev s => repredict rev (jump && movedOn n shown s) n s) f s

/-! ### The estimator (R215 to R217) -/

/-- e / Δ in units of V, as a fraction: e in 2⁻²⁴ tf, Δ in ticks; `k` is 2^BETA_SH. -/
def rateOf (e dt : Int) (k : Nat) (s : State) : Int × State :=
  roundFree ((if dt < 0 then -e else e) * 1000000000) (2 ^ 36 * dt.natAbs * k) s

/-- R215: one update through the estimator. -/
def estimate (n : Nat) (u : Upd) (s : State) : State :=
  let x := s.tb n
  if x.first then
    s.setTb n { x with pu := u.m % 2 ^ 60, tu := u.t, dev := u.dev, v := 0, d := 0, first := false, vset := false, st := .track, upd := none }
  else
    let dt := u.t - x.tu
    let pp := x.pu + u.jump + x.d * dt
    let e := signedMod 60 (u.m - pp)
    let (dp, s1) := roundFree e (2 ^ rd F.tb_CTL_ALPHA_SH n s) s
    let (v, s2) : Int × State :=
      if dt = 0 then (x.v, s1)
      else if x.vset then
        let r := rateOf e dt (2 ^ rd F.tb_CTL_BETA_SH n s) s1
        (clipV (x.v + r.1), r.2)
      else
        let r := rateOf e dt 1 s1
        (clipV r.1, r.2)
    s2.setTb n { x with pu := (pp + dp) % 2 ^ 60, tu := u.t, dev := u.dev, v := v, d := incOf v, vset := x.vset || decide (dt ≠ 0), st := .track,
                        upd := none }

/-- R216: the estimator serves timebases in the order in which their updates arrived. -/
def updateDue (n : Nat) (u : Upd) (s : State) : Bool :=
  s.tbs.all (fun e => match e.2.upd with | some w => e.1 == n || decide (u.ord < w.ord) | none => true)

/-- TRIPLE_APPLY: the update that waits at timebase `n` is applied, when no earlier one waits. -/
def applyTriple (n : Nat) (s : State) : State :=
  match (s.tb n).upd with
  | none => s
  | some u =>
    if !updateDue n u s then s
    else
      let jump := decide (u.jump ≠ 0)
      let s1 := if 2 ^ 25 < u.jump.natAbs then wr F.tb_STAT_JUMP n 1 s else s
      changeTb n true jump (estimate n u) s1

/-- R216: an update arrives at the estimator; a newer one replaces the one that waits, in its place of the order of arrival (log entry 111). -/
def deliver (n : Nat) (m t : Int) (dev : Nat) (jump : Int) (s : State) : State :=
  let x := s.tb n
  match x.upd with
  | some u =>
    bump F.tbu_UPD_STAT_COALESCED 0 (bump F.tb_STAT_COALESCE n
      (s.setTb n { x with upd := some { m := m, t := t, dev := dev, jump := u.jump + jump, ord := u.ord } }))
  | none =>
    let (o, s1) := s.nextOrder
    s1.setTb n { x with upd := some { m := m, t := t, dev := dev, jump := jump, ord := o } }

/-- A timebase takes updates of its own source: enabled, of the kind and instance, and not in FALLBACK (R222). -/
def takesFrom (n kind inst : Nat) (s : State) : Bool :=
  tbKind n s == kind && rd F.tb_SRC_INST n s == inst && (s.tb n).st != .off && (s.tb n).st != .fallback

/-! ### Encoders (R212 to R214, R220) -/

/-- The count of encoder interface `i`. -/
def encCount (i : Nat) (s : State) : Int := (rdW F.enc_COUNT i s).toInt

/-- A count edge of encoder interface `i`, with its edge time, seen by the timebases that follow it. -/
def edgeToTbs (i : Nat) (t : Int) (dev : Nat) (s : State) : State :=
  forN 32 (fun n s =>
    if takesFrom n 1 i s then
      s.modTb n (fun x => { x with edgeCount := encCount i s, edgeTick := t, edgeDev := dev, edges := x.edges + 1 })
    else s) s

/-- An index edge of encoder interface `i` (R220). -/
def indexToTbs (i : Nat) (s : State) : State :=
  forN 32 (fun n s =>
    let c := rd F.tb_CTL_INDEX n s
    if takesFrom n 1 i s && (c == 1 || (c == 2 && !(s.tb n).idxSeen)) then
      s.modTb n (fun x => { x with idx := some (encCount i s), idxSeen := true })
    else s) s

/-- A write of COUNT of encoder interface `i` moves no timebase: the counts up to it are taken, and counting goes on from the new value. -/
def countToTbs (i : Nat) (old : Int) (s : State) : State :=
  forN 32 (fun n s =>
    if takesFrom n 1 i s then
      let by_ := encCount i s - old
      s.modTb n (fun x => { x with lastCount := x.lastCount + by_, edgeCount := x.edgeCount + by_, idx := x.idx.map (· + by_) })
    else s) s

/-- R220: the jump that sets the fraction of a position to OFFSET bits 23:0: between −2²³ and 2²³ − 1 tf. -/
def realignJump (offset : Nat) (p : Int) : Int := signedMod 48 (((offset % 2 ^ 24 : Nat) : Int) * 2 ^ 24 - p)

/-- ENCODER_UPDATE: a multiple of UPD_PER after at least one count edge. -/
def encoderUpdate (n : Nat) (s : State) : State :=
  let x := s.tb n
  if !takesFrom n 1 (rd F.tb_SRC_INST n s) s || x.edges = 0 then s
  else
    let sc := tbScale n s * 2 ^ 12
    let (m, jump) : Int × Int := match x.idx with
      | none => (x.mAcc + signedMod 36 (x.edgeCount - x.lastCount) * sc, 0)
      | some c =>
        let m1 := x.mAcc + signedMod 36 (c - x.lastCount) * sc
        let j := realignJump (rd F.tb_OFFSET n s) m1
        (m1 + j + signedMod 36 (x.edgeCount - c) * sc, j)
    deliver n (m % 2 ^ 60) x.edgeTick x.edgeDev jump
      (s.setTb n { x with mAcc := m % 2 ^ 60, lastCount := x.edgeCount, edges := 0, idx := none })

/-- BOUND_UPDATE: no count edge for 1.5 count times: |V| is bounded by the time since the last edge (R214). -/
def boundUpdate (n : Nat) (s : State) : State :=
  let x := s.tb n
  let dt := (s.clock.tick : Int) - x.edgeTick
  if !takesFrom n 1 (rd F.tb_SRC_INST n s) s || x.v = 0 || dt ≤ 0 || x.st != .track then s
  else
    let sc := rd F.tb_SCALE n s
    -- elapsed > 1.5 |S| / (2²⁴ |V|): both sides times 2 · 2²⁴ · |V| · 10⁹
    if 2 * 2 ^ 24 * x.v.natAbs * dt.toNat ≤ 3 * sc * 1000000000 then s
    else
      let (b, s1) := roundFree ((sc : Int) * 1000000000) (2 ^ 24 * dt.toNat) s
      let v : Int := if b < x.v.natAbs then (if x.v < 0 then -b else b) else x.v
      changeTb n true false (fun s => s.modTb n (fun x => { x with v := v, d := incOf v })) s1

/-! ### Trackers (R212, R213, R217) -/

/-- An angle of a tracker (kind 2 RESOLVER or 3 GRID), as its 36-bit value, sampled at tick `t`; `fresh` when it is the first after a fault
(R286). -/
def deliverAngle (kind inst : Nat) (angle : Nat) (t : Int) (dev : Nat) (fresh : Bool) (s : State) : State :=
  forN 32 (fun n s =>
    if takesFrom n kind inst s then
      let x := s.tb n
      let sc := tbScale n s * 2 ^ 12
      let first := x.first || fresh
      let m := if first then (angle : Int) * sc + (rd F.tb_OFFSET n s : Int) * 2 ^ 24
        else x.mAcc + signedMod 36 ((angle : Int) - x.lastCount) * sc
      deliver n (m % 2 ^ 60) t dev 0 (s.setTb n { x with mAcc := m % 2 ^ 60, lastCount := angle, first := first })
    else s) s

/-! ### Loss (R221, R222) -/

/-- TIMEBASE_LOSS: no update for LOSS_TO. -/
def timebaseLoss (n : Nat) (s : State) : State :=
  let x := s.tb n
  let k := tbKind n s
  if k = 0 ∨ k = 4 ∨ ¬ (x.st = .track ∨ x.st = .acquire ∨ x.st = .stale) then s
  else
    let act := rd F.tb_CTL_LOSS_ACT n s
    let p := tbShown n s
    let lose (s : State) : State :=
      if act = 2 then
        let f := rd F.tb_CTL_FB n s
        let y := s.tb f
        let v := if tbIdle y then 0 else y.v
        s.modTb n (fun x => { x with pu := p, tu := s.clock.tick, dev := s.clock.dev, st := .fallback, fbPos := tbPos f s, v := v, d := incOf v,
                                     first := true, holdAt := none, upd := none })
      else
        (if act = 0 then freezeTb n s else s).modTb n (fun x => { x with st := .lost, first := true })
    touchTb 64 n p false false (fun _ s => lossEvent n s) lose s

/-! ### Writes of timebase registers (R211 to R213, R237) -/

/-- The count or angle that timebase `n`'s source shows now. -/
def sourceCount (n : Nat) (s : State) : Int :=
  match tbKind n s with
  | 1 => encCount (rd F.tb_SRC_INST n s) s
  | 2 => rd F.rt_ANGLE (rd F.tb_SRC_INST n s) s
  | 3 => rd ⟨.gt, 3, 0, 36⟩ (rd F.tb_SRC_INST n s) s
  | _ => 0

/-- R237: the source of timebase `n` is applied: its value stands, V reads 0, and its next update is the first. -/
def restartTb (n : Nat) (s : State) : State :=
  let p := tbShown n s
  let k := tbKind n s
  let on := rdB F.tb_CTL_EN n s && k != 0
  let v := if on && k == 4 then clipV (tbScale n s) else 0
  let s1 := (s.tbs.map (·.1)).foldl (fun s m =>
    if rd F.tb_SRC_KIND m s = 6 ∧ rd F.tb_SRC_INST m s = n then s.modTb m (fun x => { x with mAcc := p }) else s) s
  s1.setTb n { Tb.init with
    pu := if on && k == 4 then (rd F.tb_OFFSET n s : Int) * 2 ^ 24 else p, tu := s.clock.tick, dev := s.clock.dev, v := v, d := incOf v,
    st := if !on then .off else if k = 4 then .track else .acquire, first := true,
    mAcc := if k = 6 then tbPos (rd F.tb_SRC_INST n s) s else p, lastCount := sourceCount n s, edgeCount := sourceCount n s,
    sentAt := (s.tb n).sentAt }

/-- R212, R237: a change of SCALE or DIR under way: the motion up to now is taken at the old scale, and a measurement not yet applied is
discarded. -/
def settleScale (n : Nat) (old : State) (s : State) : State :=
  let x := old.tb n
  match tbKind n s with
  | 1 =>
    let c := sourceCount n old
    let m := (x.mAcc + signedMod 36 (c - x.lastCount) * (tbScale n old * 2 ^ 12)) % 2 ^ 60
    s.modTb n (fun y => { y with mAcc := m, lastCount := c, upd := none, edges := 0, idx := none })
  | 2 | 3 => s.modTb n (fun y => { y with upd := none })
  | 4 =>
    let v := clipV (tbScale n s)
    if x.st = .track then
      s.modTb n (fun y => { y with pu := tbPos n old, tu := s.clock.tick, dev := s.clock.dev, v := v, d := incOf v })
    else s
  | 6 =>
    let parent := rd F.tb_SRC_INST n s
    let at_ := tbPos parent s
    if x.st = .track then
      let (v, s1) := roundFree ((s.tb parent).v * tbScale n s) 4096 s
      let v' := clipV v
      s1.modTb n (fun y => { y with pu := tbPos n old, tu := s.clock.tick, dev := s.clock.dev, v := v', d := incOf v', mAcc := at_ })
    else s.modTb n (fun y => { y with mAcc := at_ })
  | _ => s

/-- R237: until the next tick STATE, POS and VEL read as they did in `old`, before the write. -/
def keepShown (n : Nat) (old s : State) : State :=
  s.modTb n (fun x => { x with was := match (old.tb n).was with
    | some w => if w.1 = s.clock.tick then some w else some (s.clock.tick, (old.tb n).st.code, tbPub n old, wordOf (old.tb n).v)
    | none => some (s.clock.tick, (old.tb n).st.code, tbPub n old, wordOf (old.tb n).v) })

/-- R217: a write that changes a TIME timebase is an update of it. -/
def timeUpdates (n : Nat) (s : State) : Bool := tbKind n s == 4 && (s.tb n).st == .track

/-- Timebase `n` standing at position `p`, its source not applied. -/
def standTb (n : Nat) (p : Int) (s : State) : State :=
  s.modTb n (fun x => { x with pu := p, tu := s.clock.tick, d := 0, st := .off, holdAt := none })

/-- A write of TBn.SRC. A kind or an instance that Table TB-1 does not define leaves its field alone (R12, R211, log entry 107). -/
def writeTbSrc (n : Nat) (v : Word) (s : State) : State :=
  keepShown n s (changeTb n false false (fun t => restartTb n (standTb n (tbShown n s) (storeReg .tb n 0 v t))) s)

/-- A write of TBn.CTL. One that leaves EN at 1 takes a timebase out of FALLBACK (R222): it restarts in ACQUIRE (log entry 112). -/
def writeTbCtl (n : Nat) (v : Word) (s : State) : State :=
  let en := rdB F.tb_CTL_EN n s
  let dir := rd F.tb_CTL_DIR n s
  let s0 := storeReg .tb n 1 v s
  let en' := rdB F.tb_CTL_EN n s0
  if en ≠ en' ∨ (s.tb n).st = .fallback then
    keepShown n s (changeTb n false false (fun t => restartTb n (standTb n (tbShown n s) (storeReg .tb n 1 v t))) s)
  else if rd F.tb_CTL_DIR n s0 ≠ dir ∧ en then
    keepShown n s (changeTb n (timeUpdates n s) false (fun t => settleScale n s (storeReg .tb n 1 v t)) s)
  else s0

/-- A write of TBn.SCALE. -/
def writeTbScale (n : Nat) (v : Word) (s : State) : State :=
  if rdB F.tb_CTL_EN n s then keepShown n s (changeTb n (timeUpdates n s) false (fun t => settleScale n s (storeReg .tb n 3 v t)) s)
  else storeReg .tb n 3 v s

/-- R212: a write of OFFSET moves the value by the difference of the old and the new one. -/
def writeTbOffset (n : Nat) (v : Word) (s : State) : State :=
  let by_ : Int := ((v.toNat : Int) - rd F.tb_OFFSET n s) * 2 ^ 24
  changeTb n (timeUpdates n s) true (fun t => (storeReg .tb n 4 v t).modTb n (fun x =>
    { x with pu := (x.pu + by_) % 2 ^ 60, mAcc := if tbKind n s = 6 then x.mAcc else (x.mAcc + by_) % 2 ^ 60,
             upd := x.upd.map (fun u => { u with m := (u.m + by_) % 2 ^ 60 }) })) s

/-- R213: the device time, at or before now, whose TIME_F is the value written to UPD_T: how long ago, in 2⁻³⁶ s. -/
def stampAge (f : Word) (s : State) : Nat := (s.timeF + 2 ^ 36 - f.toNat) % 2 ^ 36

/-- A write of TBn.POS: a SOFTWARE update (R213). -/
def writeTbPos (n : Nat) (v : Word) (s : State) : State :=
  if !takesFrom n 5 (rd F.tb_SRC_INST n s) s then s
  else
    let x := s.tb n
    match x.updT with
    | none => deliver n ((v.toNat : Int) * 2 ^ 24) s.clock.tick s.clock.dev 0 s
    | some f =>
      let age := stampAge f s
      let (k, s1) := roundFree ((age : Int) * 1000000000) (2 ^ 36) s
      deliver n ((v.toNat : Int) * 2 ^ 24) ((s.clock.tick : Int) - k) ((s.clock.dev + 2 ^ 101 - age * 2 ^ 29) % 2 ^ 101) 0
        (s1.modTb n (fun x => { x with updT := none }))

/-- A write of TBn.UPD_T. -/
def writeUpdT (n : Nat) (v : Word) (s : State) : State := s.modTb n (fun x => { x with updT := some v })

/-! ### Mirrors (R217, R233, R454) -/

/-- A sample for mirror `n`: P_u, V and t_u, with its hop count. -/
def applyMirror (n : Nat) (p v : Int) (dev hops : Nat) (s : State) : State :=
  let (k, s1) := roundFree (s.devSince dev * 1000000000) (2 ^ 65) s
  let v' := clipV v
  changeTb n true false (fun t => t.modTb n (fun x =>
    { x with pu := p, tu := (s.clock.tick : Int) - k, dev := dev, v := v', d := incOf v', st := .track, first := false, vset := true, upd := none }))
    (wr F.tb_STAT_HOPS n hops s1)

/-- The mirrors that follow timebase `rtb` of device `src`. -/
def mirrorsOf (src rtb : Nat) (s : State) : List Nat :=
  ((List.range 32).map (32 + ·)).filter (fun n =>
    tbKind n s == 7 && (s.tb n).st != .off && (s.tb n).st != .fallback && rd F.tb_SRC_RDEV n s == src && rd F.tb_SRC_RTB n s == rtb)

/-! ### Device time (R223 to R231, R259, R302) -/

/-- PPS_OUT rises at second `sec` of device time, and will fall OUT_HIGH_MS later by device time (R231). -/
def ppsRiseAt (sec : Nat) (s : State) : State :=
  if rdB F.tbu_PPS_CTL_OUT_EN 0 s then
    let fall := (sec * 2 ^ 65 + rd F.tbu_PPS_CTL_OUT_HIGH_MS 0 s * 2 ^ 65 / 1000) % 2 ^ 101
    { s with pps := { s.pps with outHigh := true, outFall := fall } }
  else s

/-- R231: PPS_OUT rises in the tick in which TIME_F has passed zero. -/
def ppsRise (s : State) : State :=
  if ((s.clock.dev % 2 ^ 65 : Nat) : Int) < rd F.tbu_TIME_INC 0 s + rdZ F.tbu_TIME_SLEW 0 s then ppsRiseAt (s.clock.dev / 2 ^ 65) s else s

/-- PPS_OUT falls. -/
def ppsFall (s : State) : State := { s with pps := { s.pps with outHigh := false } }

/-- R231: PPS_OUT falls when device time has come to its fall. -/
def ppsFallDue (s : State) : State := if s.pps.outHigh && decide (0 ≤ s.devSince s.pps.outFall) then ppsFall s else s

/-- A second boundary of device time: a TIME_CFG written before takes effect (R463), and waiting generators take t₀ (R303). -/
def secondBoundary (s : State) : State :=
  alignGens { s with qdl := { s.qdl with timeCfg := s.reg (keyOf .qdl 0 6), sampleDue := true } }

/-- R223: one tick of the PLL. -/
def advanceTime (s : State) : State :=
  let dev := (((s.clock.dev : Int) + rd F.tbu_TIME_INC 0 s + rdZ F.tbu_TIME_SLEW 0 s) % 2 ^ 101).toNat
  let s1 := { s with clock := { s.clock with dev := dev } }
  if dev / 2 ^ 65 ≠ s.clock.dev / 2 ^ 65 then secondBoundary s1 else s1

/-- R231: a step has made TIME_F pass zero, forward or back: PPS_OUT rises; while it is high its fall stays. -/
def stepCrossed (back : Bool) (s : State) : State :=
  let s1 := if back then s else secondBoundary s
  if s1.pps.outHigh then s1 else ppsRiseAt (s1.clock.dev / 2 ^ 65 + if back then 1 else 0) s1

/-- R217, R229: the followers of timebase `n`, which showed what `pre` gives before, take its update. -/
def tellFollowers (n : Nat) (pre : List (Nat × Int)) (s : State) : State :=
  pre.foldl (fun s e => touchTb 64 e.1 e.2 true true (fun rev s => repredict rev (movedOn e.1 e.2 s) e.1 s) (followParent n false true e.1 e.2) s) s

/-- R229: a step of device time by `by_` (2⁻⁶⁵ s); `cross` when it makes TIME_F pass zero. -/
def stepTime (by_ : Int) (cross : Bool) (s : State) : State :=
  let move (d : Nat) : Nat := (((d : Int) + by_) % 2 ^ 101).toNat
  let times := s.tbs.map (·.1)
  let timeKind (n : Nat) : Bool := timeUpdates n s
  let before := (times.filter timeKind).map (fun n => (n, tbShown n s))
  let s1 := before.foldl (fun s e => evoBefore e.1 s) s
  let s2 : State :=
    { s1 with
      clock := { s1.clock with dev := move s.clock.dev }
      pps := { s1.pps with lastEdge := s1.pps.lastEdge.map move, prevErr := none } }
  let s3 := (times.filter (fun n => !timeKind n)).foldl (fun s n => s.modTb n (fun x =>
    { x with dev := move x.dev, edgeDev := move x.edgeDev, upd := x.upd.map (fun u => { u with dev := move u.dev }) })) s2
  let s4 := before.foldl (fun s e =>
    let pre := (followers e.1 s).map (fun m => (m, tbShown m s))
    tellFollowers e.1 pre (publish e.1 (evoAfter e.1 (repredict false (movedOn e.1 e.2 s) e.1 s)))) s3
  let s5 := edgesAfterStep (expirePassed s4)
  let s6 := bump F.tbu_TIME_STAT_STEPS 0 s5
  if cross then stepCrossed (decide (by_ < 0)) s6 else s6

/-- SET_NOW (R229): TIME_S becomes TIME_S_NEXT. -/
def setNow (s : State) : State :=
  let by_ := signedMod 36 ((rd F.tbu_TIME_S_NEXT 0 s : Int) - s.timeS)
  stepTime (by_ * 2 ^ 65) false s

/-- Table TB-4: the alignment state after TIME_CTL.SRC is written: FREE, or ACQUIRE (R227). -/
def restartAlign (s : State) : State :=
  wr F.tbu_TIME_STAT_STATE 0 (if rd F.tbu_TIME_CTL_SRC 0 s = 0 then 0 else 1)
    { s with pps := { s.pps with lastEdge := none, goodRun := 0, prevErr := none, freq := 0 } }

/-- A write of TIME_CTL. -/
def writeTimeCtl (v : Word) (s : State) : State :=
  let old := rd F.tbu_TIME_CTL_SRC 0 s
  let s1 := storeReg .tbu 0 3 v s
  let s2 := if rd F.tbu_TIME_CTL_SRC 0 s1 = old then s1 else restartAlign s1
  if bits v 3 1 = 1 then setNow s2 else s2

/-- A write of PPS_CTL: IN_EN from 0 to 1 enables the capture; OUT_EN = 0 drives PPS_OUT low (R231). -/
def writePpsCtl (v : Word) (s : State) : State :=
  let was := rdB F.tbu_PPS_CTL_IN_EN 0 s
  let s1 := storeReg .tbu 0 7 v s
  let s2 := if !was && rdB F.tbu_PPS_CTL_IN_EN 0 s1 && rd F.tbu_TIME_CTL_SRC 0 s1 == 1 && rd F.tbu_TIME_STAT_STATE 0 s1 != 4 then restartAlign s1 else s1
  if rdB F.tbu_PPS_CTL_OUT_EN 0 s2 then s2 else ppsFall s2

/-- R228: the servo's new slew from an error in 2⁻³⁶ s; freq and s in units of TIME_SLEW. -/
def servo (e : Int) (s : State) : State :=
  let prev := rdZ F.tbu_TIME_SLEW 0 s
  let (f, s1) : Int × State := match s.pps.prevErr with
    | some e0 =>
      let r := roundFree ((e - e0) * 2 ^ 29 - prev * 1000000000) (1000000000 * 2 ^ rd F.tbu_TIME_CTL_FI_SH 0 s) s
      (s.pps.freq - r.1, r.2)
    | none => (s.pps.freq, s)
  let (ph, s2) := roundFree (e * 2 ^ 29) (1000000000 * max 1 (rd F.tbu_TIME_CTL_SLEW_S 0 s)) s1
  let want := f - ph
  let sl := max (-1844674) (min 1844674 want)
  wr F.tbu_TIME_STAT_SLEW_LIM 0 (if sl = want then 0 else 1)
    (wr F.tbu_TIME_SLEW 0 (lowBits 36 sl) { s2 with pps := { s2.pps with freq := f } })

/-- R229: a step that brings the fraction to zero at the edge; whole seconds from TIME_S_NEXT, from `secs`, or the nearest. -/
def alignStep (e : Int) (secs : Option Nat) (s : State) : State :=
  let near := s.clock.dev - e * 2 ^ 29
  let s0 : Int := (near + 2 ^ 64) / 2 ^ 65
  let whole : Int := match secs with | some n => signedMod 36 ((n : Int) - s0) | none => 0
  let by_ := -(e * 2 ^ 29) + whole * 2 ^ 65
  let s1 := stepTime by_ false s
  let frac : Int := (s.clock.dev % 2 ^ 65 : Nat) - e * 2 ^ 29
  if frac / 2 ^ 65 ≠ 0 then stepCrossed (decide (frac < 0)) s1 else s1

/-- Table TB-3: a good edge or sample with error `e`; `next` is the whole seconds that a TIME_S_NEXT or a sample asks for. -/
def goodEdge (e : Int) (next : Option Nat) (s : State) : State :=
  let st := rd F.tbu_TIME_STAT_STATE 0 s
  let run := s.pps.goodRun + 1
  let s1 := bump F.tbu_PPS_STAT_GOOD 0 (wr F.tbu_PPS_ERR 0 (lowBits 36 e) { s with pps := { s.pps with goodRun := run, goodAt := some s.clock.tick } })
  let locks := decide (st ≠ 2) && decide (rd F.tbu_PPS_CTL_QUAL_N 0 s ≤ run)
  let thr := rd F.tbu_TIME_CTL_STEP_THR 0 s
  let big := decide (thr * 2 ^ 36 < e.natAbs * 1000000)
  let keep (s : State) : State := { s with pps := { s.pps with prevErr := some e } }
  let done (s : State) : State := if next.isSome then { s with clock := { s.clock with nextWritten := false } } else s
  let onlySeconds (s : State) : State := match next with
    | some n => stepTime (signedMod 36 ((n : Int) - ((s.clock.dev : Int) - e * 2 ^ 29 + 2 ^ 64) / 2 ^ 65) * 2 ^ 65) false s
    | none => s
  if locks then
    let s2 := wr F.tbu_TIME_STAT_STATE 0 2 s1
    if st = 4 ∨ (rdB F.tbu_TIME_CTL_STEP_EN 0 s && big) then done (alignStep e next s2)
    else done (onlySeconds (keep (servo e s2)))
  else if st = 2 then done (onlySeconds (keep (servo e s1)))
  else done (onlySeconds (keep s1))

/-- A bad edge or sample (R226, R452). -/
def badEdge (s : State) : State :=
  bump F.tbu_PPS_STAT_BAD 0 { s with pps := { s.pps with goodRun := 0, prevErr := none } }

/-- R56, R226: the capture of a PPS_IN rising edge. -/
def ppsEdge (s : State) : State :=
  if !rdB F.tbu_PPS_CTL_IN_EN 0 s then s
  else
    let (cap, s1) := ballTime s
    let s2 := wr F.tbu_PPS_CAP_F 0 (cap / 2 ^ 29) (wr F.tbu_PPS_CAP_S 0 (cap / 2 ^ 65) s1)
    let s3 := { s2 with pps := { s2.pps with lastEdge := some cap } }
    let good : Bool := match s.pps.lastEdge with
      | none => false
      | some p =>
        let gap := signedMod 101 ((cap : Int) - p) - 2 ^ 65
        decide (gap.natAbs * 1000000 ≤ rd F.tbu_PPS_CTL_QUAL_TOL 0 s * 2 ^ 65)
    if rd F.tbu_TIME_CTL_SRC 0 s ≠ 1 then
      (if good then bump F.tbu_PPS_STAT_GOOD 0 (wr F.tbu_PPS_ERR 0 (lowBits 36 (signedMod 36 (cap / 2 ^ 29 : Nat))) s3)
       else bump F.tbu_PPS_STAT_BAD 0 s3)
    else if good then
      goodEdge (signedMod 36 (cap / 2 ^ 29 : Nat)) (if s.clock.nextWritten then some (rd F.tbu_TIME_S_NEXT 0 s) else none) s3
    else badEdge s3

/-- PPS_HOLDOVER: no good edge for 1 s + QUAL_TOL (R227, R228): a missed second, which HOLDOVER counts itself; LOCKED enters HOLDOVER. -/
def ppsHoldover (s : State) : State :=
  let st := rd F.tbu_TIME_STAT_STATE 0 s
  let s1 := bump F.tbu_PPS_STAT_MISSED 0 { s with pps := { s.pps with goodRun := 0, prevErr := none } }
  let sl := max (-1844674) (min 1844674 s.pps.freq)
  if st = 2 then
    wr F.tbu_TIME_STAT_STATE 0 3 (wr F.tbu_TIME_STAT_SLEW_LIM 0 (if sl = s.pps.freq then 0 else 1) (wr F.tbu_TIME_SLEW 0 (lowBits 36 sl)
      { s1 with pps := { s1.pps with holdFrom := s.clock.tick } }))
  else if st = 1 ∨ st = 4 then s1
  else s

/-- R236: a good edge has come in the latest second. -/
def goodSecond (s : State) : Bool := match s.pps.goodAt with | some t => decide (s.clock.tick < t + 1000000000) | none => false

/-- A whole second in HOLDOVER ends at this tick (R227): HOLD_S counts on from the seconds of earlier ones (log entry 113), and MISSED counts it
when no good edge came in it (R236). -/
def holdoverSecond (s : State) : State :=
  if rd F.tbu_TIME_STAT_STATE 0 s = 3 ∧ s.pps.holdFrom < s.clock.tick ∧ (s.clock.tick - s.pps.holdFrom) % 1000000000 = 0 then
    (if goodSecond s then id else bump F.tbu_PPS_STAT_MISSED 0) (wr F.tbu_TIME_STAT_HOLD_S 0 (min (rd F.tbu_TIME_STAT_HOLD_S 0 s + 1) (2 ^ 22 - 1)) s)
  else s

/-- R224: the latch of TIME_S that a read of TIME_F fills: a context's, or the BAR0 requester's (`req` 4,096). -/
def latchTime (req : Nat) (s : State) : State :=
  let w := BitVec.ofNat 36 s.timeS
  if req < 4096 then s.modCtx req (fun x => { x with timeLatch := w }) else { s with clock := { s.clock with hostLatch := w } }

/-- What a read of TIME_S returns to a requester. -/
def latchedS (req : Nat) (s : State) : Word := if req < 4096 then (s.ctx req).timeLatch else s.clock.hostLatch

/-! ### Time over the fabric (R451, R452) -/

/-- R451: MHOPS of this device. -/
def timeHops (s : State) : Nat := if rd F.tbu_TIME_CTL_SRC 0 s = 2 then min 7 (s.qdl.srcHops + 1) else 0

/-- R451: a TIME packet on every served link that is UP, while the state is FREE, LOCKED or HOLDOVER, once after TIME_F passes zero and within 1 µs
of that. TX_S and TX_F are written as the head leaves. -/
def sendTimeSamples (s : State) : State :=
  let st := rd F.tbu_TIME_STAT_STATE 0 s
  if (st = 0 ∨ st = 2 ∨ st = 3) ∧ assigned s ∧ s.qdl.sampleDue ∧ s.timeF * 1000000 ≤ 2 ^ 36 then
    let master := if rd F.tbu_TIME_CTL_SRC 0 s = 2 then s.qdl.master else devId s
    let g := headOf 4 0 0 [0, 0, st * 2 ^ 33 + timeHops s * 2 ^ 30 + master, 0, 0] s
    forN 6 (fun l s => if bits s.qdl.timeCfg (4 + l) 1 = 1 ∧ linkUp l s then sendLocal l 2 [g] s else s)
      { s with qdl := { s.qdl with sampleDue := false } }
  else s

/-- R452: a sample from link `l`. -/
def takeSample (l : Nat) (g : Granule) (s : State) : State :=
  let c := s.qdl.timeCfg
  if rd F.tbu_TIME_CTL_SRC 0 s ≠ 2 ∨ bits c 0 3 ≠ l then s
  else
    let st := gbits g 4 33 3
    let hops := gbits g 4 30 3
    let s1 := { s with qdl := { s.qdl with srcHops := hops, master := gbits g 4 0 16 } }
    if st = 1 ∨ st = 4 ∨ 7 ≤ hops then badEdge s1
    else
      let (t, s2) := ballTime s1
      -- e = RX − (TX + d), d in ps as 2⁻³⁶ s
      let tx : Int := (gbits g 2 0 36 : Int) * 2 ^ 36 + gbits g 3 0 36
      let (d, s3) := roundFree ((rd F.link_DELAY_PS l s : Int) * 2 ^ 36) 1000000000000 s2
      let rx : Int := ((t / 2 ^ 29 : Nat) : Int)
      let e := signedMod 36 (rx - (tx + d))
      let secs := ((tx + d) / 2 ^ 36 % 2 ^ 36).toNat
      let want : Option Nat :=
        if s.clock.nextWritten then some (rd F.tbu_TIME_S_NEXT 0 s) else if s.qdl.samplePend then some secs else none
      let differs := decide ((rx / 2 ^ 36 % 2 ^ 36).toNat ≠ secs)
      goodEdge e want { s3 with qdl := { s3.qdl with samplePend := differs && want.isNone } }

end Sys2Proof.Machine
end

