-- ==== Sys2Proof/Machine/Fabric.lean ====
section
/-! DEFINITION. What the fabric of chapter 15 does above its links: link states and LINK flits (R431, R436, R450), time and mirror packets
(R452, R454), management packets, discovery and peer fences (R448, R449, R455 to R457). -/

set_option Elab.async false

namespace Sys2Proof.Machine

/-! ### Link states (Table QF-1) -/

/-- LINK `l`'s domain is on. -/
def linkOn (l : Nat) (s : State) : Bool := domOn (42 + l) s && domOn 48 s

/-- R431: a write of LINK_CTL. -/
def writeLinkCtl (l : Nat) (v : Word) (s : State) : State :=
  let s1 := storeReg .link l 0 v s
  let st := linkState l s
  if bits v 0 1 = 0 then (if st = 0 then s1 else setLinkState l 0 s1)
  else if st = 0 then setLinkState l 1 s1
  else if st = 7 ∧ bits v 5 1 = 1 then setLinkState l 2 s1
  else s1

/-- A link moves from one of the given states to another. -/
def linkStep (l : Nat) (from_ : List Nat) (st : Nat) (s : State) : State :=
  if linkOn l s ∧ from_.contains (linkState l s) then setLinkState l st s else s

/-- The serial number (Table QF-12). -/
def serialNat : Nat := Config.serial.toNat

/-- A HELLO leaves (Table QF-3). -/
def sendHello (l : Nat) (s : State) : State :=
  (sendLink l 1 [devId s + (if assigned s then 65536 else 0), serialNat % 2 ^ 36, serialNat / 2 ^ 36] s).modLink l
    (fun x => { x with helloTx := true })

/-- LINK_TRAINED: training settles in TRAIN or RETRAIN; the width is one that MAX_WIDTH allows. -/
def linkTrained (l width rate : Nat) (rev : Bool) (s : State) : State :=
  let st := linkState l s
  let most := 4 / 2 ^ rd F.link_LINK_CTL_MAX_WIDTH l s
  if linkOn l s ∧ (st = 2 ∨ st = 5) ∧ (width = 1 ∨ width = 2 ∨ width = 4) ∧ width ≤ most ∧ rate = rd F.link_LINK_CTL_RATE l s then
    let s1 := wr F.link_LINK_STAT_REVERSED l (if rev then 1 else 0) (wr F.link_LINK_STAT_RATE l rate (wr F.link_LINK_STAT_WIDTH l width s))
    let s2 := s1.modLink l (fun x => { x with helloRx := false, helloTx := false, probes := 0, t1 := none })
    sendHello l (if st = 2 then setLinkState l 3 s2 else s2)
  else s

/-- R431: HELLO flits both ways and 16 probes bring the link to UP. -/
def helloCheck (l : Nat) (s : State) : State :=
  let x := s.link l
  if (linkState l s = 3 ∨ linkState l s = 5) ∧ x.helloRx ∧ x.helloTx ∧ 16 ≤ x.probes then enterUp l s else s

/-- LINK_TRAIN_TIMEOUT. -/
def linkTrainTimeout (l : Nat) (s : State) : State :=
  if !linkOn l s then s
  else match linkState l s with
    | 2 | 3 => setLinkState l 1 s
    | 5 => linkDown l s
    | _ => s

/-- LINK_SIGNAL_LOSS. -/
def linkSignalLoss (l : Nat) (s : State) : State := if linkOn l s ∧ linkUp l s then linkDown l s else s

/-! ### LINK flits (R435, R436) -/

/-- A reserved field of a LINK flit is not zero, or its CODE is undefined. -/
def linkBad (m : Granule) : Bool :=
  let code := gbits m 0 32 4
  let z (w lo : Nat) : Bool := gbits m w lo (36 - lo) == 0
  !(decide (code ≤ 6) && gbits m 0 3 29 == 0 && granTag m == 0 && z 5 13 &&
    (match code with
      | 1 => z 1 17 && z 4 0
      | 2 => z 2 0 && z 3 0 && z 4 0
      | 3 => z 4 0
      | 4 => z 1 10 && z 2 0 && z 3 0 && z 4 0
      | 5 => z 1 2 && z 2 0 && z 3 0 && z 4 0
      | _ => z 1 0 && z 2 0 && z 3 0 && z 4 0))

/-- The acknowledge and credit state of a LINK flit is taken; a NAK resends from ACK_SEQ + 1, and the eighth without an advance retrains. -/
def takeAck (l : Nat) (m : Granule) (s : State) : State :=
  if !linkUp l s then s
  else
    let x := s.link l
    let ack := gbits m 5 0 12
    let adv := (ack + 4096 - x.acked) % 4096
    let ok := decide (adv ≤ x.replay.length)
    let rest := if ok then x.replay.drop adv else x.replay
    let moved := ok && decide (adv ≠ 0)
    let nak := gbits m 5 12 1 == 1
    let naks := if moved then (if nak then 1 else 0) else if nak then x.naks + 1 else x.naks
    let s1 := s.setLink l { x with acked := if ok then ack else x.acked, replay := rest, naks := naks }
    let s2 := forN 4 (fun v s =>
      let c := gbits m 6 (9 * v) 9
      let n := (c + 512 - Sparse.get 0 v (s.link l).seen) % 512
      wr (linkCred v) l (min (rd (linkCred v) l s + n) 511) (s.modLink l (fun x => { x with seen := Sparse.put 0 v c x.seen }))) s1
    let s3 := if nak && !rest.isEmpty then
        bump F.link_ERR_REPLAY l { s2 with sent := s2.sent ++ rest.map (fun e => Msg.flit l e.2) }
      else s2
    if 8 ≤ naks then retrain l (s3.modLink l (fun x => { x with naks := 0 })) else s3

/-- A LINK flit with one of the given codes arrives: what every LINK flit does, then `f`; anything else is no event of the row. -/
def onLinkFlit (codes : Nat → Bool) (f : State → State) (l : Nat) (m : Granule) (s : State) : State :=
  let st := linkState l s
  if !linkOn l s ∨ !(st == 3 || st == 4 || st == 5) ∨ !codes (gbits m 0 32 4) then s
  else if linkBad m then violation l 6 0 0 s
  else f (takeAck l m s)

/-- HELLO from the partner: its ID, link and serial. -/
def takeHello (l : Nat) (m : Granule) (s : State) : State :=
  let s1 := wr F.link_LINK_STAT_NBR_LINK l (gbits m 0 0 3) (wr F.link_LINK_STAT_NBR_VALID l (gbits m 1 16 1)
    (wr F.link_LINK_STAT_NBR_ID l (gbits m 1 0 16) s))
  helloCheck l (s1.modLink l (fun x => { x with helloRx := true, nbrSerial := BitVec.ofNat 72 (gbits m 3 0 36 * 2 ^ 36 + gbits m 2 0 36) }))

/-- PROBE_SEND (R450). -/
def sendProbe (l : Nat) (s : State) : State :=
  let st := linkState l s
  if linkOn l s ∧ (st = 3 ∨ st = 4 ∨ st = 5) then
    let (t, s1) := ballTime s
    (sendLink l 2 [stampF t] s1).modLink l (fun x => { x with t1 := some (stampF t) })
  else s

/-- PROBE (R450): the reply carries the T1 that came and the stamps of its arrival and of its own leaving. -/
def answerProbe (l : Nat) (m : Granule) (s : State) : State :=
  let (t2, s1) := ballTime s
  let (t3, s2) := ballTime s1
  sendLink l 3 [gbits m 1 0 36, stampF t2, stampF t3] s2

/-- PROBE_REPLY: the one-way delay d, kept as 2d in 2⁻³⁶ s, and the mean of the last 16 in ps. -/
def takeReply (l : Nat) (m : Granule) (s : State) : State :=
  if (s.link l).t1 ≠ some (gbits m 1 0 36) then s
  else
    let (t4, s0) := ballTime s
    let d2 := signedMod 36 ((stampF t4 : Int) - (gbits m 1 0 36 : Int)) - signedMod 36 ((gbits m 3 0 36 : Int) - (gbits m 2 0 36 : Int))
    let x := s.link l
    let ds := (lowBits 36 d2 :: x.delays).take 16
    let sum := (ds.map (fun d => signedMod 36 (d : Int))).sum
    let (ps, s1) := roundFree (sum * 1000000000000) (2 * ds.length * 2 ^ 36) s0
    let s2 := wr F.link_DELAY_PS l (lowBits 20 ps) s1
    helloCheck l (s2.modLink l (fun x => { x with delays := ds, t1 := none, probes := min (x.probes + 1) 16 }))

/-- FLIT_CRC_FAILURE (R434, R435): the flit is discarded, a NAK is sent, and the 64th failure within 1 ms retrains the link. -/
def crcFailure (l : Nat) (s : State) : State :=
  let st := linkState l s
  if !linkOn l s ∨ !(st == 3 || st == 4 || st == 5) then s
  else
    let s1 := bump F.link_ERR_CRC l s
    if st ≠ 4 then s1
    else
      let now := s.clock.tick
      let ts := (((s1.link l).crcAt ++ [now]).reverse.take 64).reverse
      let s2 := sendLink l 0 [] (s1.modLink l (fun x => { x with nak := true, crcAt := ts }))
      if ts.length = 64 ∧ now ≤ ts.headD now + 1000000 then retrain l (s2.modLink l (fun x => { x with crcAt := [] })) else s2

/-! ### Time and mirrors (R452, R454) -/

/-- R233, R454: a MIRROR packet from link `l`: it is applied to the mirrors that follow it, and sent on along the time tree.
One of more than 7 hops is discarded; the spec names no counter for the loss update that it counts as: it is no update (log entry 110). -/
def takeMirror (l : Nat) (g : Granule) (s : State) : State :=
  let hops := gbits g 3 24 3 + hHops g
  let p : Int := ((gbits g 2 0 36 * 2 ^ 24 + gbits g 3 0 24 : Nat) : Int)
  let v := signedMod 36 ((gbits g 4 0 36 : Nat) : Int)
  let dev := (gbits g 5 0 36 * 2 ^ 36 + gbits g 6 0 36) * 2 ^ 29 % 2 ^ 101
  let s1 := if hops ≤ 7 then (mirrorsOf (hSrc g) (gbits g 3 30 6) s).foldl (fun s n => applyMirror n p v dev hops s) s else s
  if 7 ≤ hops then s1
  else (treeLinks s1).foldl (fun s t => if t ≠ l ∧ linkUp t s then sendLocal t 2 [g] s else s) s1

/-! ### Management (R455 to R457) -/

/-- A fence of peer `id` (R457). -/
def fencePeer (id : Nat) (proxy : Bool) (s : State) : State :=
  if fencedPeer id s then s
  else match (List.range 32).find? (fun i => !rdB (F.qdl_PEER_FENCE_V.nth i) 0 s) with
    | none => bump F.qdl_MGMT_STAT_FENCE_FULL 0 s
    | some i =>
      endForwarded id (wr (F.qdl_PEER_FENCE_V.nth i) 0 1 (wr (F.qdl_PEER_FENCE_PROXY.nth i) 0 (if proxy then 1 else 0)
        (wr (F.qdl_PEER_FENCE_ID.nth i) 0 id s)))

/-- The fence of peer `id` ends. -/
def unfencePeer (id : Nat) (s : State) : State :=
  forN 32 (fun i s => if rdB (F.qdl_PEER_FENCE_V.nth i) 0 s ∧ rd (F.qdl_PEER_FENCE_ID.nth i) 0 s = id then wr (F.qdl_PEER_FENCE_V.nth i) 0 0 s
    else s) s

/-- R456: a SAFE for `id` from another device: the notice, then PEER_ACT. -/
def peerSafe (id : Nat) (proxy : Bool) (s : State) : State :=
  if id = devId s ∧ assigned s then s
  else
    let s1 := raise { scope := { lvl := 5, i := id }, cause := 100, notice := true, reason := 0, prec := false, slot := 0,
                      detail := if proxy then 1 else 0, pc := 0, addr := 0, word := id } s
    let act := rd F.qdl_MGMT_CTL_PEER_ACT 0 s
    let s2 := if act = 1 ∨ act = 2 then fencePeer id proxy s1 else s1
    if act = 2 then
      forN 4 (fun b s => if (rd F.qdl_MGMT_CTL_TRIP_MASK 0 s).testBit b ∧ domOn (bankDomain b) s then writeTrip b 1 s else s) s2
    else s2

/-- The digit `i` of a route. -/
def digit (route i : Nat) : Nat := route / 8 ^ i % 8

/-- A route with digit `i` replaced. -/
def setDigit (route i d : Nat) : Nat := route - digit route i * 8 ^ i + d % 8 * 8 ^ i

/-- Word 3 of a source-routed MGMT packet. -/
def routeWord (len hop route : Nat) : Nat := len * 2 ^ 32 + hop * 2 ^ 28 + route % 2 ^ 24

/-- A source-routed MGMT packet of this device's making starts on its way: it leaves on digit 0 (R455). -/
def sendRouted (mtype len route id : Nat) (body : List Granule) (s : State) : State :=
  let m := s.qdl.mseq
  let g := headOf 6 body.length 0 [mtype * 2 ^ 32 + m, routeWord len 1 (setDigit route 0 0), id, 0, 0] s
  sendLocal (digit route 0) 3 (g :: body) { s with qdl := { s.qdl with mseq := (m + 1) % 65536 } }

/-- The route back along the arrival links: from link `l`, then the digits in reverse. -/
def backRoute (l len route : Nat) : Nat :=
  (List.range len).foldl (fun a i => a + (if i = 0 then l else digit route (len - i)) * 8 ^ i) 0

/-- The body of a DISC_RESP (R455): a link's UP state stands in bit 3, and the body tags are 7 (log entry 23). -/
def respBody (s : State) : List Granule :=
  let own := [serialNat % 2 ^ 36, serialNat / 2 ^ 36, devId s + (if assigned s then 65536 else 0)]
  let ls := (List.range 6).flatMap (fun l =>
    let up := linkUp l s
    let sn := if up then (s.link l).nbrSerial.toNat else 0
    [(if up then 8 + rd F.link_LINK_STAT_NBR_LINK l s else 0), sn % 2 ^ 36, sn / 2 ^ 36])
  (own :: (List.range 3).map (fun i => (ls.drop (7 * i)).take 7)).map (fun ws => granOf (ws.map (BitVec.ofNat 36)) 7)

/-! ### Discovery (R448, R449) -/

/-- R449: one bit through the CRC-32 of IEEE 802.3, reflected. -/
def crc32Bit (c : Nat) (b : Bool) : Nat :=
  let x := (c.testBit 0) != b
  let c1 := c / 2
  if x then c1 ^^^ 0xEDB88320 else c1

/-- The CRC-32 of `n` bits of `x`, least significant first. -/
def crc32Bits : Nat → Nat → Nat → Nat
  | 0, _, c => c
  | n + 1, x, c => crc32Bits n (x / 2) (crc32Bit c (x.testBit 0))

/-- The CRC-32 of the bytes whose little-endian number is `x`. -/
def crc32 (bytes x : Nat) : Nat := crc32Bits (8 * bytes) x 0xFFFFFFFF ^^^ 0xFFFFFFFF

/-- R449: TOPO_DIGEST as the links stand; the bytes of a record are the state, the neighbour's link, its serial, and a zero (log entry 24). -/
def topoDigest (s : State) : Nat :=
  crc32 72 ((List.range 6).foldl (fun a l =>
    let r := if linkUp l s then 1 + rd F.link_LINK_STAT_NBR_LINK l s * 2 ^ 8 + (s.link l).nbrSerial.toNat * 2 ^ 16 else 0
    a + r * 2 ^ (96 * l)) 0)

/-- The root's request goes out, and waits for its answer. -/
def askDevice (mtype len route id : Nat) (s : State) : State :=
  sendRouted mtype len route id [] { s with qdl := { s.qdl with asked := some (mtype, len, route, id), tries := s.qdl.tries + 1 } }

/-- Discovery is complete: the digest is kept (R449). -/
def discoveryDone (s : State) : State :=
  wr F.qdl_TOPO_STAT_DONE 0 1 (wr F.qdl_TOPO_DIGEST_VAL 0 (topoDigest s) { s with qdl := { s.qdl with asked := none, tries := 0 } })

/-- The next device of the breadth-first walk is asked; `n` bounds those already found. -/
def discoveryNext : Nat → State → State
  | 0, s => discoveryDone s
  | n + 1, s =>
    match s.qdl.walk with
    | [] => discoveryDone s
    | (len, route, serial) :: rest =>
      let s1 := { s with qdl := { s.qdl with walk := rest, tries := 0 } }
      if s.qdl.found.any (fun f => f.2.2.toNat = serial) then discoveryNext n s1 else askDevice 1 len route 0 s1

/-- The walk goes on. -/
def discoveryStep (s : State) : State := discoveryNext (s.qdl.walk.length + 1) s

/-- Neighbours of a device at a path join the walk, links rising; known serials and paths beyond 8 links do not. -/
def addNeighbours (len route : Nat) (links : List (Bool × Nat)) (s : State) : State :=
  if 8 ≤ len then s
  else
    let new := (links.zipIdx.filter (fun x => x.1.1)).map (fun x => (len + 1, route + x.2 * 8 ^ len, x.1.2))
    new.foldl (fun s w =>
      if s.qdl.found.any (fun f => f.2.2.toNat = w.2.2) ∨ s.qdl.walk.any (fun v => v.2.2 = w.2.2) then s
      else { s with qdl := { s.qdl with walk := s.qdl.walk ++ [w] } }) s

/-- R448, R463: the root begins discovery with its own neighbours, under the MODE that now stands. -/
def beginDiscovery (s : State) : State :=
  let mode := rd F.qdl_ID_CFG_MODE 0 s
  let own := (devId s, 0, Config.serial)
  let s1 := { s with qdl := { s.qdl with walk := [], asked := none, tries := 0, found := [own], nextId := 1, idMode := mode } }
  let links := (List.range 6).map (fun l => (linkUp l s, (s.link l).nbrSerial.toNat))
  discoveryStep (addNeighbours 0 0 links (wr F.qdl_TOPO_STAT_DONE 0 0 s1))

/-- R448: the ID that the root gives to a device just found; none under STATIC, or where the table lacks its serial (log entry 25). -/
def idFor (serial : BitVec 72) (s : State) : Option Nat :=
  match s.qdl.idMode with
  | 1 => (Config.serialId (s.reg (keyOf .pwr 0 66)) serial).map BitVec.toNat
  | 2 => some (devId s / 256 * 256 + (devId s + s.qdl.nextId) % 256)
  | _ => none

/-- DISC_RESP at the root. -/
def takeResp (body : List Granule) (s : State) : State :=
  match s.qdl.asked, body with
  | some (1, len, route, _), b0 :: bs =>
    let serial : BitVec 72 := BitVec.ofNat 72 (gbits b0 1 0 36 * 2 ^ 36 + gbits b0 0 0 36)
    let id := gbits b0 2 0 16 + if gbits b0 2 16 1 = 1 then 0 else 65536
    let ws := bs.flatMap (fun g => (granWords g 7).map BitVec.toNat)
    let links := (List.range 6).map (fun l => (decide (ws.getD (3 * l) 0 / 8 % 2 = 1), ws.getD (3 * l + 2) 0 * 2 ^ 36 + ws.getD (3 * l + 1) 0))
    let s0 := { s with qdl := { s.qdl with asked := none, tries := 0 } }
    let dup := s.qdl.idMode == 0 && decide (id < 65536) && s.qdl.found.any (fun f => f.1 = id)
    let s1 := if dup then bump F.qdl_TOPO_STAT_DUP 0 s0 else s0
    let known := s.qdl.found.any (fun f => f.2.2 = serial)
    let s2 := if known then s1 else
      addNeighbours len route links { s1 with qdl := { s1.qdl with found := s1.qdl.found ++ [(id, route, serial)] } }
    if known ∨ s.qdl.idMode = 0 then discoveryStep s2
    else match idFor serial s2 with
      | some i => askDevice 3 len route i { s2 with qdl := { s2.qdl with nextId := s2.qdl.nextId + 1 } }
      | none => discoveryStep (bump F.qdl_TOPO_STAT_MISSED 0 s2)
  | _, _ => s

/-- ASSIGN_ACK at the root. -/
def takeAssignAck (s : State) : State :=
  match s.qdl.asked with
  | some (3, _, _, _) => discoveryStep { s with qdl := { s.qdl with asked := none, tries := 0 } }
  | _ => s

/-- DISCOVERY_TIMEOUT (R448): the request is repeated twice, then its device is skipped. -/
def discoveryTimeout (s : State) : State :=
  match s.qdl.asked with
  | none => s
  | some (mt, len, route, id) =>
    if s.qdl.tries < 3 then askDevice mt len route id s
    else discoveryStep (bump F.qdl_TOPO_STAT_MISSED 0 { s with qdl := { s.qdl with asked := none, tries := 0 } })

/-- R455: a MGMT packet from link `l` is consumed or sent on. -/
def takeMgmt (l : Nat) (g : Granule) (body : List Granule) (s : State) : State :=
  let mt := gbits g 2 32 4
  if mt = 5 ∨ mt = 6 then
    let pair := (hSrc g, gbits g 2 0 16)
    let s0 := if mt = 5 then bump F.qdl_MGMT_STAT_SAFE_RX 0 s else s
    if s.qdl.seen.any (fun x => x.1 = pair.1 ∧ x.2.1 = pair.2 ∧ s.clock.tick ≤ x.2.2 + 10000000) then bump F.qdl_MGMT_STAT_DUP 0 s0
    else
      let s1 := flood l g (rememberPair pair.1 pair.2 s0)
      if mt = 5 then peerSafe (gbits g 4 0 16) (gbits g 4 35 1 == 1) s1 else unfencePeer (gbits g 4 0 16) s1
  else if 1 ≤ mt ∧ mt ≤ 4 then
    let len := gbits g 3 32 4
    let hop := gbits g 3 28 4
    let route := gbits g 3 0 24
    if hop < len then
      let o := digit route hop
      if o < 6 then sendLocal o 3 (granPut g 108 36 (routeWord len (hop + 1) (setDigit route hop l)) :: body) s else s
    else
      let back := backRoute l len route
      match mt with
      | 1 => sendRouted 2 len back 0 (respBody s) s
      | 2 => takeResp body s
      | 3 =>
        sendRouted 4 len back 0 [] (wr F.qdl_DEV_ID_ASSIGNED 0 1 (wr F.qdl_DEV_ID_ID 0 (gbits g 4 0 16) s))
      | _ => takeAssignAck s
  else s

/-- The packets of VC 2 and 3 that have wholly arrived on link `l` are consumed; `n` bounds them. -/
def consumePackets (l vc : Nat) : Nat → State → State
  | 0, s => s
  | n + 1, s =>
    match takePacket l vc s with
    | (some (g :: body), s1) =>
      let s2 := match hKind g with
        | 4 => takeSample l g s1
        | 5 => takeMirror l g s1
        | _ => takeMgmt l g body s1
      consumePackets l vc n s2
    | (_, s1) => s1

/-- A packet of the kind that `test` asks for arrives on VC `vc` of link `l`. -/
def packetArrives (test : Granule → Bool) (l vc : Nat) (gs : List Granule) (s : State) : State :=
  match gs with
  | [] => s
  | g :: _ =>
    if linkOn l s ∧ linkUp l s ∧ vc < 4 ∧ test g then
      consumePackets l 3 16 (consumePackets l 2 16 (receivePacket l vc gs s))
    else s

end Sys2Proof.Machine
end

