-- ==== Sys2Proof/Machine/Crypto.lean ====
section
/-! DEFINITION. The digests of the lattice image: the section CRC (R513), SHA-256 and the ECDSA P-256 verification (R520). The standards that R520
names fix these functions (log entry 26). -/

set_option Elab.async false

namespace Sys2Proof.Machine

/-- R513: the CRC-32 of granules in host-byte form. -/
def crcGrans (gs : List Granule) : Nat := gs.foldl (fun c g => crc32Bits 256 g.toNat c) 0xFFFFFFFF ^^^ 0xFFFFFFFF

/-! ### SHA-256

The constants are fractions of roots of primes, as the standard defines them, and a message passes through a window of 16 words that gives one
word to each round and takes in one. -/

/-- The largest `r` below 2^k more than `lo` whose power `e` does not exceed `n`, by bits. -/
def rootBelow (e n : Nat) : Nat → Nat → Nat
  | 0, lo => lo
  | k + 1, lo => rootBelow e n k (if (lo + 2 ^ k) ^ e ≤ n then lo + 2 ^ k else lo)

/-- The first 32 bits of the fraction of the root of order `e` of a prime. -/
def rootBits (e p : Nat) : BitVec 32 := BitVec.ofNat 32 (rootBelow e (p * 2 ^ (32 * e)) 40 0)

/-- The primes below 312, which are 64. -/
def smallPrimes : List Nat := (List.range 312).filter (fun p => decide (2 ≤ p) && (List.range p).all (fun d => decide (d < 2) || p % d != 0))

/-- A word turned right by each of the amounts, the results added without carry. -/
def turnSum (by_ : List Nat) (x : BitVec 32) : BitVec 32 := by_.foldl (fun acc r => acc ^^^ x.rotateRight r) 0

/-- The word that a window of 16, oldest first, takes in. -/
def windowWord (win : List (BitVec 32)) : BitVec 32 :=
  let at_ (i : Nat) : BitVec 32 := win.getD i 0
  at_ 0 + at_ 9 + (turnSum [7, 18] (at_ 1) ^^^ (at_ 1 >>> 3)) + (turnSum [17, 19] (at_ 14) ^^^ (at_ 14 >>> 10))

/-- One round per constant: the chaining value, a word of the window and the constant make a new value of eight words. -/
def rounds : List (BitVec 32) → List (BitVec 32) → List (BitVec 32) → List (BitVec 32)
  | [], _, h => h
  | k :: ks, win, h =>
    let v (i : Nat) : BitVec 32 := h.getD i 0
    let pick := v 6 ^^^ (v 4 &&& (v 5 ^^^ v 6))
    let most := (v 0 &&& (v 1 ||| v 2)) ||| (v 1 &&& v 2)
    let mix := v 7 + k + win.headD 0 + pick + turnSum [6, 11, 25] (v 4)
    rounds ks (win.drop 1 ++ [windowWord win]) ([mix + most + turnSum [2, 13, 22] (v 0)] ++ h.take 3 ++ [v 3 + mix] ++ (h.drop 4).take 3)

/-- The chaining value after a message of `n` blocks of 64 bytes. -/
def digestBlocks : Nat → List (BitVec 8) → List (BitVec 32) → List (BitVec 32)
  | 0, _, h => h
  | n + 1, m, h =>
    let win := (List.range 16).map (fun i => BitVec.ofNat 32 (((m.drop (4 * i)).take 4).foldl (fun acc b => acc * 256 + b.toNat) 0))
    digestBlocks n (m.drop 64) (List.zipWith (· + ·) h (rounds (smallPrimes.map (rootBits 3)) win h))

/-- SHA-256 of a byte string, as a number: a one bit, zeros and the length in bits complete the last block. -/
def sha256 (m : List (BitVec 8)) : Nat :=
  let n := (m.length + 9 + 63) / 64
  let full := m ++ 0x80 :: List.replicate (64 * n - m.length - 9) 0 ++ (List.range 8).reverse.map (fun i => BitVec.ofNat 8 (8 * m.length / 256 ^ i))
  (digestBlocks n full ((smallPrimes.take 8).map (rootBits 2))).foldl (fun acc w => acc * 2 ^ 32 + w.toNat) 0

/-- The host-byte form of a granule (R5). -/
def granBytes (g : Granule) : List (BitVec 8) := (List.range 32).map (fun b => BitVec.ofNat 8 (g.toNat / 256 ^ b))

/-- The 32 bytes of a big-endian 256-bit integer. -/
def beBytes (x : Nat) : List (BitVec 8) := (List.range 32).map (fun i => BitVec.ofNat 8 (x / 256 ^ (31 - i)))

/-! ### ECDSA P-256 -/

/-- The field prime. -/
def p256P : Nat := 2 ^ 256 - 2 ^ 224 + 2 ^ 192 + 2 ^ 96 - 1
/-- The order of the base point. -/
def p256N : Nat := 0xffffffff00000000ffffffffffffffffbce6faada7179e84f3b9cac2fc632551
/-- The curve's b. -/
def p256B : Nat := 0x5ac635d8aa3a93e7b3ebbd55769886bc651d06b0cc53b0f63bce3c3e27d2604b
/-- The base point. -/
def p256G : Nat × Nat :=
  (0x6b17d1f2e12c4247f8bce6e563a440f277037d812deb33a0f4a13945d898c296, 0x4fe342e2fe1a7f9b8ee7eb4a7c0f9e162bce33576b315ececbb6406837bf51f5)

/-- b ^ e modulo m, for the low `k` bits of e. -/
def powMod (m : Nat) : Nat → Nat → Nat → Nat → Nat
  | 0, _, _, acc => acc
  | k + 1, b, e, acc => powMod m k (b * b % m) (e / 2) (if e % 2 = 1 then acc * b % m else acc)

/-- The inverse modulo a prime. -/
def invMod (m x : Nat) : Nat := powMod m 256 (x % m) (m - 2) 1

/-- The sum of two points; none is the point at infinity. -/
def addPoint (a b : Option (Nat × Nat)) : Option (Nat × Nat) :=
  match a, b with
  | none, b => b
  | a, none => a
  | some (x1, y1), some (x2, y2) =>
    if x1 = x2 ∧ (y1 + y2) % p256P = 0 then none
    else
      let l := if x1 = x2 then (3 * x1 * x1 + p256P - 3) * invMod p256P (2 * y1) % p256P
        else (y2 + p256P - y1) * invMod p256P (x2 + p256P - x1) % p256P
      let x := (l * l + 2 * p256P - x1 - x2) % p256P
      some (x, (l * (x1 + p256P - x) + p256P - y1) % p256P)

/-- A multiple of a point, for the low `k` bits of the factor. -/
def mulPoint : Nat → Nat → Option (Nat × Nat) → Option (Nat × Nat) → Option (Nat × Nat)
  | 0, _, _, acc => acc
  | k + 1, e, b, acc => mulPoint k (e / 2) (addPoint b b) (if e % 2 = 1 then addPoint acc b else acc)

/-- The verification of signature (r, s) of digest `e` under the public key (qx, qy). -/
def ecdsaOk (qx qy r s e : Nat) : Bool :=
  decide (0 < r ∧ r < p256N ∧ 0 < s ∧ s < p256N ∧ qx < p256P ∧ qy < p256P)
  && (qy * qy % p256P == (qx * qx * qx + (p256P - 3) * qx + p256B) % p256P)
  && (let w := invMod p256N s
      match addPoint (mulPoint 256 (e * w % p256N) (some p256G) none) (mulPoint 256 (r * w % p256N) (some (qx, qy)) none) with
      | none => false
      | some (x, _) => x % p256N == r)

end Sys2Proof.Machine
end

