-- ==== Sys2Proof/Machine/Dma.lean ====
section
/-! DEFINITION. The DMA engine (chapter 13): descriptors and their checks, reads, reshuffles, writes, completion records and rings,
disabling and forced ends. -/

set_option Elab.async false

namespace Sys2Proof.Machine

/-! ### Descriptors (Table DM-2) -/

/-- A field of word `w` of a descriptor. -/
def dfield (g : Granule) (w lo n : Nat) : Nat := g.toNat / 2 ^ (36 * w + lo) % 2 ^ n

/-- OP. -/
def dOp (g : Granule) : Nat := dfield g 0 32 4
/-- S = NS + 1. -/
def dS (g : Granule) : Nat := dfield g 0 28 4 + 1
/-- SRCQ. -/
def dSrcQ (g : Granule) : Bool := dfield g 0 27 1 == 1
/-- DSTQ. -/
def dDstQ (g : Granule) : Bool := dfield g 0 26 1 == 1
/-- CHAIN. -/
def dChain (g : Granule) : Bool := dfield g 0 24 1 == 1
/-- CQ. -/
def dCq (g : Granule) : Nat := dfield g 0 21 3
/-- LEN. -/
def dLen (g : Granule) : Nat := dfield g 3 0 24
/-- NEXT. -/
def dNext (g : Granule) : Nat := dfield g 5 0 32
/-- The stream size in granules, ⌈W / 7⌉ for W = 7 × LEN / S. -/
def dStream (g : Granule) : Nat := (7 * dLen g / dS g + 6) / 7

/-- The queue that channel `c` produces. -/
def dmaOutQueue (c : Nat) (s : State) : Option Nat := producerQueue s 6 c
/-- The queue that channel `c` consumes. -/
def dmaInQueue (c : Nat) (s : State) : Option Nat := consumerQueue s 6 c

/-- The granule at a granule-aligned word address of one of the data memories; none elsewhere. -/
def granAt (a : Nat) : Option Nat :=
  if a < 0x01000000 then none
  else match placeOf 0 a with
    | .mem g 0 => some g
    | _ => none

/-- The granule that holds a word address, aligned or not. -/
def granOver (a : Nat) : Option Nat :=
  if a < 0x01000000 then none
  else match placeOf 0 a with
    | .mem g _ => some g
    | _ => none

/-- The source ranges of a descriptor as (address, granules), in the order of R385, R390. -/
def srcRanges (g : Granule) : List (Nat × Nat) :=
  if dSrcQ g then []
  else if dOp g = 3 then (List.range (dS g)).map (fun k => (dfield g 1 0 32 + 7 * k * dfield g 4 0 18, dStream g))
  else [(dfield g 1 0 32, dLen g)]

/-- The destination ranges of a descriptor. -/
def dstRanges (g : Granule) : List (Nat × Nat) :=
  if dDstQ g then []
  else if dOp g = 4 then (List.range (dS g)).map (fun k => (dfield g 2 0 32 + 7 * k * dfield g 4 0 18, dStream g))
  else [(dfield g 2 0 32, dLen g)]

/-- Table DM-3, FORMAT. -/
def formatBad (g : Granule) : Bool :=
  let op := dOp g
  let stream := op == 3 || op == 4
  let reorder := decide (2 ≤ op)
  dfield g 0 20 1 != 0 || dfield g 1 32 4 != 0 || dfield g 2 32 4 != 0 || dfield g 3 24 12 != 0 || dfield g 4 18 18 != 0
  || dfield g 5 32 4 != 0 || decide (4 < op) || (stream != decide (dfield g 0 28 4 ≠ 0)) || decide (2 ≤ dfield g 0 12 2)
  || (decide (op ≠ 1) && dfield g 0 0 8 != 0) || (reorder && dfield g 0 12 2 == 0) || (dfield g 0 25 1 == 1 && dSrcQ g)
  || (reorder && dSrcQ g)

/-- Table DM-3, ADDRESS for one range: it does not lie wholly in the backed part of one window of a memory, or a write leaves the software
area of the keep store. -/
def rangeBad (write : Bool) (r : Nat × Nat) : Bool :=
  match granOver r.1, granOver (r.1 + (7 * r.2 - 1)) with
  | some a, some b => granMemory a != granMemory b || decide (b < a) || (write && !(granSoft a && granSoft b))
  | _, _ => true

/-- Table DM-3, LENGTH. -/
def lengthBad (g : Granule) : Bool :=
  dLen g == 0 || (dOp g == 2 && dLen g % 36 != 0) || 7 * dLen g % dS g != 0
  || ((dOp g == 3 || dOp g == 4) && decide (dfield g 4 0 18 < dStream g))

/-- The granules of a range. -/
def rangeGrans (r : Nat × Nat) : Nat × Nat := match granOver r.1 with | some g => (g, g + r.2 - 1) | none => (1, 0)

/-- The span of some ranges: from the lowest granule to the highest. -/
def spanOf (rs : List (Nat × Nat)) : Nat × Nat :=
  match rs.map rangeGrans with
  | [] => (1, 0)
  | x :: l => l.foldl (fun a r => (min a.1 r.1, max a.2 r.2)) x

/-- R391: ranges that share a granule. -/
def sharesGran (a b : Nat × Nat) : Bool := decide (a.1 ≤ b.2 ∧ b.1 ≤ a.2 ∧ a.1 ≤ a.2 ∧ b.1 ≤ b.2)

/-- R391: the source and destination overlap, by span per pair of ranges for COPY. -/
def overlaps (g : Granule) : Bool :=
  !(srcRanges g).isEmpty && !(dstRanges g).isEmpty && sharesGran (spanOf (srcRanges g)) (spanOf (dstRanges g))

/-- R391: COPY runs in descending order. -/
def descends (g : Granule) : Bool := dOp g == 0 && overlaps g && decide (dfield g 1 0 32 < dfield g 2 0 32)

/-- The cluster of a range's memory is powered. -/
def rangeOn (s : State) (r : Nat × Nat) : Bool := match granOver r.1 with | some g => granOn g s | none => true

/-- The ring of completion queue `q` lies in a powered memory. -/
def ringOn (q : Nat) (s : State) : Bool := match granOver (rd F.cq_CQ_BASE_ADDR q s) with | some g => granOn g s | none => true

/-- R384, Table DM-3 after DESC_POISON: the status of the first check that fails; 0 when all pass. -/
def checkDesc (c : Nat) (g : Granule) (s : State) : Nat :=
  let rs := srcRanges g
  let ws := dstRanges g
  if formatBad g then 7
  else if rs.any (rangeBad false) || ws.any (rangeBad true) then 4
  else if (!dSrcQ g && (granAt (dfield g 1 0 32)).isNone) || (!dDstQ g && (granAt (dfield g 2 0 32)).isNone) then 5
  else if lengthBad g then 6
  else if (dSrcQ g && (dmaInQueue c s).isNone) || (dDstQ g && (dmaOutQueue c s).isNone) then 8
  else if !(rs.all (rangeOn s)) || !(ws.all (rangeOn s)) || !ringOn (dCq g) s then 9
  else if dOp g ≠ 0 ∧ overlaps g then 3
  else 0

/-! ### Geometry of a transfer -/

/-- Source granules of a descriptor. -/
def dReads (g : Granule) : Nat := if dOp g = 3 then dS g * dStream g else dLen g
/-- Source granules of a whole group. -/
def dGroup (g : Granule) : Nat := match dOp g with | 2 => 36 | 3 => dS g | 4 => dS g | _ => 1
/-- The address of source granule `i` in transfer order. -/
def dSrcAddr (g : Granule) (i : Nat) : Nat :=
  let a := dfield g 1 0 32
  if dOp g = 3 then a + 7 * (i % dS g) * dfield g 4 0 18 + 7 * (i / dS g)
  else if descends g then a + 7 * (dLen g - 1 - i) else a + 7 * i
/-- The address of output granule `o` in transfer order. -/
def dDstAddr (g : Granule) (o : Nat) : Nat :=
  let a := dfield g 2 0 32
  if dOp g = 4 then a + 7 * (o % dS g) * dfield g 4 0 18 + 7 * (o / dS g)
  else if descends g then a + 7 * (dLen g - 1 - o) else a + 7 * o
/-- Output granules of a descriptor. -/
def dWrites (g : Granule) : Nat := if dOp g = 4 then dS g * dStream g else dLen g

/-! ### Reshuffles (R389, R390) -/

/-- R389: one word swizzled. -/
def swizzleWord (swz : Nat) (w : Word) : Word :=
  BitVec.ofNat 36 ((List.range 4).foldl (fun a i => a + bits w (9 * (swz / 4 ^ i % 4)) 9 * 2 ^ (9 * i)) 0)

/-- The words of a list of granules, in address order. -/
def wordStream (gs : List Granule) : List Word := gs.flatMap (fun g => granWords g 7)

/-- R390: a block of 36 words transposed: word i has bit j equal to bit i of word j. -/
def transposeBlock (ws : List Word) : List Word :=
  (List.range 36).map (fun i => BitVec.ofNat 36 ((ws.zipIdx).foldl (fun a x => if x.1.getLsbD i then a + 2 ^ x.2 else a) 0))

/-- Granules of tag 0 cut from a stream of words; the last is filled with zero words. `n` bounds them. -/
def cutGrans : Nat → List Word → List Granule
  | 0, _ => []
  | n + 1, ws => if ws.isEmpty then [] else granOf (ws.take 7) 0 :: cutGrans n (ws.drop 7)

/-- R389, R390: the output granules of a group of source granules, before their tags; `first` is the number of the group's first output. -/
def reshuffle (g : Granule) (first : Nat) (ins : List Granule) : List Granule :=
  match dOp g with
  | 1 => ins.map (fun x => granOf ((granWords x 7).map (swizzleWord (dfield g 0 0 8))) (granTag x))
  | 2 =>
    let ws := wordStream ins
    cutGrans 36 ((List.range 7).flatMap (fun b => transposeBlock ((ws.drop (36 * b)).take 36)))
  | 3 =>
    let cols := ins.map (fun x => granWords x 7)
    let ws := (List.range 7).flatMap (fun r => cols.map (fun c => c.getD r 0))
    (cutGrans (dS g) ws).take (dLen g - first)
  | 4 =>
    let ws := wordStream ins
    (List.range (dS g)).map (fun k =>
      granOf ((List.range 7).map (fun r => if dS g * r + k < ws.length then ws.getD (dS g * r + k) 0 else 0)) 0)
  | _ => ins

/-- R388: the tag with which an output granule is written or pushed; `last` for the last of the descriptor. -/
def outTag (g : Granule) (last : Bool) (x : Granule) : Granule :=
  if dDstQ g then
    if dSrcQ g then x else granPut x 252 4 (if last && dfield g 0 25 1 == 1 then 15 else 7)
  else if dfield g 0 12 2 = 1 then granPut x 252 4 (dfield g 0 8 4) else x

/-! ### Channels -/

/-- CH_STAT.STATE. -/
def chState (c : Nat) (s : State) : Nat := rd F.ch_CH_STAT_STATE c s
/-- CH_STAT.STATE written. -/
def setChState (c st : Nat) (s : State) : State := wr F.ch_CH_STAT_STATE c st s

/-- A channel enters WAIT_Q or WAIT_CQ; the entry is counted. -/
def chWait (c st : Nat) (s : State) : State :=
  if chState c s = st then s else bump F.ch_CH_CNT_WAITS c (setChState c st s)

/-- Buffer slots in use (DMA_STAT.BUF_USED). -/
def Dma.held (x : Dma) : Nat := x.buf.length + x.out.length + x.issued.length
/-- R380: the slots that a channel has taken: those of the groups begun whole, and those of outputs not yet answered. -/
def Dma.slots (x : Dma) : Nat :=
  let n := dGroup x.desc
  (if x.buf.isEmpty && x.asked == 0 then 0 else (x.reads + x.asked + n - 1) / n * n - (x.reads - x.buf.length)) + x.out.length + x.issued.length
/-- BUF_USED. -/
def bufUsed (s : State) : Nat := (s.dma.map (fun x => x.2.held)).sum
/-- Channels not IDLE (DMA_STAT.ACTIVE). -/
def dmaActive (s : State) : Nat := (List.range 64).countP (fun c => chState c s ≠ 0)

/-- Records in ring `q`. -/
def ringCount (q : Nat) (s : State) : Nat :=
  (rd F.cq_CQ_TAIL_TAIL q s + 2 ^ 14 - rd F.cq_CQ_HEAD_HEAD q s) % 2 ^ (rd F.cq_CQ_CFG_SIZE_LOG q s + 1)

/-- The ring of a channel's descriptor. -/
def chRing (c : Nat) (s : State) : Nat := dCq (s.chDma c).desc

/-- A granule whose CQ field is free: the ring of a descriptor that was not read (log entry 22). -/
def unreadDesc (s : State) : Granule × State :=
  let (q, s1) := s.anyBelow 8
  (BitVec.ofNat 256 (q * 2 ^ 21), s1)

/-- The records on their way to ring `q`. -/
def ringComing (q : Nat) (s : State) : Nat := (List.range 64).countP (fun c => chState c s = 5 ∧ chRing c s = q)

/-- R396: ring `q` has room for one more record. -/
def ringRoom (q : Nat) (s : State) : Bool := decide (ringCount q s + ringComing q s < 2 ^ rd F.cq_CQ_CFG_SIZE_LOG q s)

/-- R386, R399: a descriptor is fetched from `a`. -/
def startFetch (c a : Nat) (s : State) : State :=
  setChState c 1 (wr F.ch_CH_DONE_DONE c 0 (wr F.ch_CH_CUR_ADDR c a (s.setChDma c Dma.init)))

/-- A channel's descriptor is over: the chain goes on at NEXT, or ends (R386, R399). -/
def afterRecord (c : Nat) (s : State) : State :=
  let x := s.chDma c
  let s1 := bump F.ch_CH_CNT_DESCS c (wr F.ch_CH_STAT_LAST_STATUS c x.status s)
  if x.known ∧ dChain x.desc ∧ x.status = 0 ∧ !x.cut then startFetch c (dNext x.desc) s1
  else
    let s2 := setChState c 0 (s1.setChDma c Dma.init)
    if x.known then wr F.ch_CH_HEAD_ADDR c (dNext x.desc) s2 else s2

/-- R402: the ring of a channel's record lies in a memory that is off: the record is lost. -/
def loseRecord (c : Nat) (s : State) : State := afterRecord c (wr F.ch_CH_STAT_REC_LOST c 1 s)

/-- A channel whose descriptor has ended and drained comes to its record (R397), unless its ring is off. -/
def toRecord (c : Nat) (s : State) : State :=
  if !ringOn (chRing c s) s then loseRecord c s else if ringRoom (chRing c s) s then setChState c 5 s else chWait c 6 s

/-- R394: DONE of a reshuffle that ends early is a multiple of the group's output size. -/
def wholeGroups (c : Nat) (s : State) : State :=
  let x := s.chDma c
  let n := rd F.ch_CH_DONE_DONE c s
  if x.status = 0 ∨ dOp x.desc < 2 ∨ n = dLen x.desc then s else wr F.ch_CH_DONE_DONE c (n / dGroup x.desc * dGroup x.desc) s

/-- R400: a memory-to-queue transfer that a disable has cut aborts the producer's open item. -/
def abortCut (c : Nat) (s : State) : State :=
  let x := s.chDma c
  if x.status = 1 ∧ dDstQ x.desc ∧ !dSrcQ x.desc then (match dmaOutQueue c s with | some q => abortItem q s | none => s) else s

/-- The last write of a channel in DRAIN has been answered. -/
def drainCheck (c : Nat) (s : State) : State :=
  let x := s.chDma c
  if chState c s = 4 ∧ x.asked = 0 ∧ x.buf.isEmpty ∧ x.out.isEmpty ∧ x.issued.isEmpty then toRecord c (wholeGroups c (abortCut c s)) else s

/-- A descriptor ends during its transfer with a status (R394): reads stop, and what is on its way drains. -/
def endTransfer (c st addr : Nat) (s : State) : State :=
  setChState c 4 (s.modChDma c (fun x =>
    { x with status := st, faultAddr := addr, stop := true, buf := [], asked := 0, endDev := s.clock.dev }))

/-- A range lies in cluster domain `d`. -/
def rangeIn (d : Nat) (r : Nat × Nat) : Bool := match granOver r.1 with | some g => granCluster g == some d | none => false

/-- R401: the source, the destination or the ring of a descriptor lies in cluster domain `d`. -/
def descIn (d : Nat) (g : Granule) (s : State) : Bool :=
  (srcRanges g).any (rangeIn d) || (dstRanges g).any (rangeIn d) || rangeIn d (rd F.cq_CQ_BASE_ADDR (dCq g) s, 1)

/-- R471: the chain at address `a` concerns a domain that is held still: D40, or one of the first descriptor's memory, ranges or ring. -/
def chainHeld (a : Nat) (s : State) : Bool :=
  heldStill 40 s || (List.range 32).any (fun d => heldStill d s && (match granOver a with
    | some m => granCluster m == some d || descIn d (readGran m s).data s
    | none => false))

/-- R399, R400, R471: a write of CH_CTL with GO. -/
def channelGo (c : Nat) (s : State) : State :=
  let still := chainHeld (rd F.ch_CH_HEAD_ADDR c s) s
  if chState c s = 0 ∧ rdB F.ch_CH_CTL_EN c s ∧ !still then startFetch c (rd F.ch_CH_HEAD_ADDR c s) s else wr F.ch_CH_STAT_GO_LOST c 1 s

/-- R400: EN = 0. Granules taken from a queue are still written; those read from memory and not yet issued are dropped. -/
def channelOff (c : Nat) (s : State) : State :=
  let x := s.chDma c
  let st := chState c s
  if st = 0 then s
  else if st = 1 ∨ st = 2 ∨ st = 3 then
    let (g, s0) := if st = 1 then unreadDesc s else (x.desc, s)
    drainCheck c (endTransfer c 1 x.faultAddr (s0.setChDma c { x with desc := g, out := if dSrcQ g then x.out else [], cut := true }))
  else s.modChDma c (fun x => { x with cut := true })

/-- A write of CH_CTL. -/
def writeChCtl (c : Nat) (v : Word) (s : State) : State :=
  let s1 := storeReg .ch c 0 v s
  if bits v 0 1 = 0 then
    let s2 := channelOff c s1
    if bits v 1 1 = 1 then wr F.ch_CH_STAT_GO_LOST c 1 s2 else s2
  else if bits v 1 1 = 1 then channelGo c s1 else s1

/-- R198: the engine, on die E, reaches the memory of granule `g`: the bridge is open, or not on the way. -/
def dmaReaches (g : Nat) (s : State) : Bool := match granCluster g with | some d => diePath 0 (domDie d) s | none => true

/-- The read engine has served channel `k`. -/
def State.withTurn (k : Nat) (s : State) : State := { s with dmaTurn := k }

/-- R324 in the DMA engine: the outcome of a source granule's read, counted (R393). -/
def countDma (a : Nat) (d : Decoded) (s : State) : State :=
  let note (t : Nat) (s : State) : State :=
    if rd F.dma_DMA_ERR_ADDR_TYPE 0 s ≤ t then wr F.dma_DMA_ERR_ADDR_ADDR 0 a (wr F.dma_DMA_ERR_ADDR_TYPE 0 t s) else s
  match d with
  | .clean => s
  | .one => bump F.dma_DMA_ECC_CE1 0 s
  | .two => note 2 (bump F.dma_DMA_ECC_CE2 0 s)
  | .bad => note 4 (bump F.dma_DMA_ECC_UE 0 s)
  | .poisoned => note 3 (bump F.dma_DMA_ECC_PRD 0 s)

/-- A fetched descriptor ends at once with a status; `g` is none when it could not be read. -/
def failDesc (c st : Nat) (g : Option Granule) (s : State) : State :=
  let (v, s1) := match g with | some v => (v, s) | none => unreadDesc s
  toRecord c (s1.setChDma c { Dma.init with desc := v, known := g.isSome, status := st, stop := true, endDev := s.clock.dev })

/-- DESC_ARRIVE (R383, R384). -/
def descArrive (c : Nat) (s : State) : State :=
  if !domOn 40 s ∨ chState c s ≠ 1 then s
  else
    let a := rd F.ch_CH_CUR_ADDR c s
    match granOver a with
    | none => failDesc c 4 none s
    | some g =>
      if isImem g then failDesc c 4 none s
      else if (granAt a).isNone then failDesc c 5 none s
      else if !granOn g s then failDesc c 10 none s
      else if !dmaReaches g s then s
      else
        let r := readGran g s
        let s1 := countDma a r.out r.st
        if r.pb then failDesc c 10 none s1
        else
          let st := checkDesc c r.data s1
          if st ≠ 0 then failDesc c st (some r.data) s1
          else setChState c 2 (s1.setChDma c { Dma.init with desc := r.data, known := true })

/-- The push of output granules that wait for credit, as far as credit lasts (R388, R353); `n` bounds them. -/
def pushOut (c q : Nat) : Nat → State → State
  | 0, s => s
  | n + 1, s =>
    match (s.chDma c).out with
    | [] => s
    | o :: l =>
      if canPushGran s q then
        pushOut c q n ((pushGran q o.2.1 o.2.2 s).modChDma c (fun x => { x with out := l, issued := x.issued ++ [o] }))
      else s

/-- R380, R388: outputs are issued: memory writes at once, pushes as credit allows; then the state of Table DM-6. -/
def issueOut (c : Nat) (s : State) : State :=
  let x := s.chDma c
  let s1 := if dDstQ x.desc then
      match dmaOutQueue c s with
      | some q => pushOut c q x.out.length s
      | none => s
    else s.setChDma c { x with out := [], issued := x.issued ++ x.out }
  let y := s1.chDma c
  if y.stop then s1
  else if y.reads + y.asked = dReads y.desc then setChState c 4 s1
  else if y.out.isEmpty then setChState c 2 s1 else chWait c 3 s1

/-- A whole group has been read: its outputs are formed (R388 to R390, R393). -/
def groupDone (c : Nat) (s : State) : State :=
  let x := s.chDma c
  let g := x.desc
  let first := (x.reads - 1) / dGroup g * dGroup g
  let outs := reshuffle g first (x.buf.map (·.1))
  let bad := x.buf.any (·.2)
  let items := outs.zipIdx.map (fun y => (first + y.2, outTag g (first + y.2 + 1 == dWrites g) y.1, bad))
  let s1 := s.setChDma c { x with buf := [], out := x.out ++ items, poisoned := x.poisoned || bad }
  issueOut c (if bad then wr F.ch_CH_STAT_POISONED c 1 s1 else s1)

/-- A source granule has landed in the buffer: its key and its poison, then its group (R387, R393). -/
def landRead (c : Nat) (v : Granule) (pb : Bool) (addr : Nat) (s : State) : State :=
  let x := s.chDma c
  let g := x.desc
  let fa := if pb && x.faultAddr == 0 then addr else x.faultAddr
  if pb ∧ dfield g 0 19 1 = 1 then endTransfer c 12 fa s
  else if !dSrcQ g ∧ dfield g 0 18 1 = 1 ∧ granTag v ≠ dfield g 0 14 4 then endTransfer c 11 addr s
  else
    let s1 := s.setChDma c { x with buf := x.buf ++ [(v, pb)], reads := x.reads + 1, faultAddr := fa }
    let n := x.reads + 1
    if n % dGroup g = 0 ∨ n = dReads g then groupDone c s1 else s1

/-- R380: the slots of the buffer that are taken. -/
def slotsTaken (s : State) : Nat := (s.dma.map (fun x => x.2.slots)).sum

/-- R380, R381: channel `c` has a read or a take ready: its source is within reach, and a group in progress is always admitted, a new one
whole within MAX_OUT, or alone, and within the buffer. -/
def mayRead (c : Nat) (s : State) : Bool :=
  let x := s.chDma c
  let g := x.desc
  let r := x.reads + x.asked
  (chState c s == 2 || chState c s == 3) && !x.stop && decide (r < dReads g)
  && (r % dGroup g != 0
      || ((x.asked + x.held == 0 || decide (x.asked + x.held + min (dGroup g) (dReads g - r) ≤ rd F.ch_CH_CTL_MAX_OUT c s))
          && decide (slotsTaken s + dGroup g ≤ 512)))
  && (if dSrcQ g then
        (match dmaInQueue c s with | some q => x.asked == 0 && consPath s q && (s.queue q).hasGran | none => false)
      else (match granAt (dSrcAddr g r) with | some a => granOn a s && dmaReaches a s | none => false))

/-- R381: the channel that the read engine serves next: the highest PRI, then the first after the one served last. -/
def readTurn (s : State) : Option Nat :=
  (List.range 64).foldl (fun best i =>
    let c := (s.dmaTurn + 1 + i) % 64
    if !mayRead c s then best
    else match best with
      | some b => if rd F.ch_CH_CTL_PRI b s < rd F.ch_CH_CTL_PRI c s then some c else best
      | none => some c) none

/-- R381: reads are issued in turn until one of channel `c` is on its way; `n` bounds them. -/
def serveReads (c : Nat) : Nat → State → State
  | 0, s => s
  | n + 1, s =>
    if (s.chDma c).asked ≠ 0 then s
    else match readTurn s with
      | none => s
      | some k =>
        let s1 := (s.modChDma k (fun x => { x with asked := x.asked + 1 })).withTurn k
        let x := s1.chDma k
        serveReads c n (if x.reads + x.asked = dReads x.desc then setChState k 4 s1 else s1)

/-- R321, R393: the buffer's decode of a granule that has taken bit errors on its way, counted unless it was poisoned before. -/
def bufferDecode (c a : Nat) (v : Granule) (pb : Bool) (s : State) : Granule × Bool × State :=
  if (s.chDma c).errs = 0 then (v, pb, s)
  else
    let (d, v', pb', _) := decodeCode v pb (s.chDma c).errs
    let s1 := s.modChDma c (fun x => { x with errs := 0 })
    (v', pb', if pb then s1 else countDma a d s1)

/-- A take of channel `c` from its queue `q` lands; a queue without a granule makes the channel wait. -/
def landTake (c q : Nat) (s : State) : State :=
  match takeGran q s with
  | (some (v, pb), s1) =>
    let s2 := if chState c s1 = 3 ∧ (s1.chDma c).out.isEmpty then setChState c 2 s1 else s1
    let y := bufferDecode c 0 v pb (if pb then countDma 0 .poisoned s2 else s2)
    drainCheck c (landRead c y.1 y.2.1 0 y.2.2)
  | (none, s1) => chWait c 3 s1

/-- DMA_READ_COMPLETE (R380, R381, R387): the next source granule lands, of a read that the read engine has come to issue by now; a queue without
one makes the channel wait. -/
def readComplete (c : Nat) (s : State) : State :=
  let x := s.chDma c
  if !domOn 40 s ∨ x.stop ∨ !(chState c s == 2 || chState c s == 3 || (chState c s == 4 && x.asked != 0)) then s
  else if dSrcQ x.desc && x.asked == 0 && (match dmaInQueue c s with | some q => !(s.queue q).hasGran | none => false) then chWait c 3 s
  else
    let s1 := serveReads c 512 s
    let y := s1.chDma c
    if y.asked = 0 then s
    else
      let s2 := s1.setChDma c { y with asked := y.asked - 1 }
      if dSrcQ x.desc then (match dmaInQueue c s with | some q => landTake c q s2 | none => s)
      else
        let a := dSrcAddr x.desc x.reads
        match granAt a with
        | none => s
        | some g =>
          if !granOn g s ∨ !dmaReaches g s then s
          else
            let r := readGran g s2
            let z := bufferDecode c a r.data r.pb (countDma a r.out r.st)
            drainCheck c (landRead c z.1 z.2.1 a z.2.2)

/-- R380: the outputs `is` of a channel are not written: DONE, which counts the first ones in transfer order, ends before them. -/
def Dma.stopAt (is : List Nat) (x : Dma) : Dma :=
  { x with limit := is.foldl (fun m i => some (match m with | some n => min n i | none => i)) x.limit }

/-- Output `i` of a channel has been answered (R392): DONE counts it. -/
def countDone (c i : Nat) (s : State) : State :=
  let x := s.chDma c
  if x.limit.all (fun n => decide (i < n)) then wr F.ch_CH_DONE_DONE c (min (rd F.ch_CH_DONE_DONE c s + 1) (dLen x.desc)) s else s

/-- R394: output `i` of a channel, at address `a`, has failed its third program. A descriptor that has ended before keeps its status. -/
def failWrite (c i a : Nat) (s : State) : State :=
  let s1 := s.modChDma c (Dma.stopAt [i])
  if (s.chDma c).status = 0 then endTransfer c 13 a s1 else s1

/-- DMA_WRITE_RESPONSE (R392, R394). A push is answered when it is visible at the consumer. -/
def writeResponse (c : Nat) (ok : Bool) (s : State) : State :=
  let x := s.chDma c
  match x.issued with
  | [] => s
  | o :: l =>
    let s1 := s.setChDma c { x with issued := l, endDev := s.clock.dev }
    if !domOn 40 s then s
    else if dDstQ x.desc then
      match dmaOutQueue c s with
      | none => s
      | some q => if !ok ∨ x.issued.length ≤ (s.queue q).transit.length then s else drainCheck c (countDone c o.1 s1)
    else
      let a := dDstAddr x.desc o.1
      match granAt a with
      | none => s
      | some g =>
        if !dmaReaches g s then s
        else if ok then drainCheck c (countDone c o.1 (if granOn g s then writeVerified g o.2.1 o.2.2 true s1 else s1))
        else if isImem g ∧ granOn g s then
          let s2 := imemBankFault g (failGran g (writeVerified g o.2.1 o.2.2 false s1))
          drainCheck c (failWrite c o.1 a s2)
        else s

/-- Table DM-4: the completion record of channel `c`. -/
def dmaRecord (c : Nat) (chainEnd : Bool) (s : State) : Granule :=
  let x := s.chDma c
  let q := chRing c s
  let b (p : Bool) (n : Nat) : Nat := if p then 2 ^ n else 0
  let phase := rd F.cq_CQ_TAIL_TAIL q s / 2 ^ rd F.cq_CQ_CFG_SIZE_LOG q s % 2
  let w0 := phase * 2 ^ 35 + c * 2 ^ 29 + x.status * 2 ^ 24 + (if x.known then dOp x.desc else 0) * 2 ^ 20 + b x.poisoned 19 + b chainEnd 18
    + rd F.ch_CH_STAT_SEQ c s
  granOf ([w0, rd F.ch_CH_CUR_ADDR c s, rd F.ch_CH_DONE_DONE c s, x.endDev / 2 ^ 65, x.endDev / 2 ^ 29, x.faultAddr,
    if x.known then dfield x.desc 6 0 36 else 0].map (BitVec.ofNat 36)) 0

/-- R396: the notification of ring `q`. -/
def notifyRing (q : Nat) (s : State) : State :=
  match rd F.cq_CQ_CFG_NOTIFY q s with
  | 1 => let cid := rd F.cq_CQ_CFG_CTX q s; offerReq (reqOf cid 2 s) s
  | 2 => msix (10 + q) s
  | _ => s

/-- DMA_RECORD_ANSWERED (R396): the record stands in its ring, TAIL advances, the notification is sent. -/
def recordAnswered (c : Nat) (s : State) : State :=
  if !domOn 40 s ∨ chState c s ≠ 5 then s
  else
    let x := s.chDma c
    let q := chRing c s
    let t := rd F.cq_CQ_TAIL_TAIL q s
    let n := 2 ^ rd F.cq_CQ_CFG_SIZE_LOG q s
    let chainEnd := !(x.known && dChain x.desc && x.status == 0 && !x.cut)
    let at_ := granAt (rd F.cq_CQ_BASE_ADDR q s + 7 * (t % n))
    if !ringOn q s then loseRecord c s
    else if (match at_ with | some g => !dmaReaches g s | none => false) then s else
    let s1 := match at_ with
      | some g => if granOn g s then writeGran g (dmaRecord c chainEnd s) false s else s
      | none => s
    let s2 := wr F.cq_CQ_TAIL_TAIL q ((t + 1) % (2 * n)) s1
    afterRecord c (wr F.ch_CH_STAT_SEQ c (rd F.ch_CH_STAT_SEQ c s + 1) (notifyRing q s2))

/-- The channels that wait for room in ring `q`; which of them goes next is free. `n` bounds them. -/
def wakeRing (q : Nat) : Nat → State → State
  | 0, s => s
  | n + 1, s =>
    let ws := (List.range 64).filter (fun c => chState c s = 6 ∧ chRing c s = q)
    if ws.isEmpty ∨ !ringRoom q s then s
    else
      let (i, s1) := s.anyBelow ws.length
      wakeRing q n (setChState (ws.getD i 0) 5 s1)

/-- A write of CQ_HEAD (R397, R398). -/
def writeCqHead (q : Nat) (v : Word) (s : State) : State :=
  let h := bits v 0 13
  let m := 2 ^ (rd F.cq_CQ_CFG_SIZE_LOG q s + 1)
  if (rd F.cq_CQ_TAIL_TAIL q s + 2 ^ 14 - h) % m ≤ 2 ^ rd F.cq_CQ_CFG_SIZE_LOG q s then wakeRing q 64 (wr F.cq_CQ_HEAD_HEAD q h s) else s

/-- R398: no record stands in ring `q` or waits for it. -/
def ringIdle (q : Nat) (s : State) : Bool :=
  ringCount q s == 0 && (List.range 64).all (fun c => !((chState c s == 5 || chState c s == 6) && chRing c s == q))

/-- R398: a ring of 2^log granules from `a` lies, aligned, in data SRAM or the software area of the keep store. -/
def ringPlaced (a log : Nat) : Bool :=
  (granAt a).isSome && !rangeBad true (a, 2 ^ log) && (match granAt a with | some g => !isImem g | none => false)

/-- A write of CQ_BASE or CQ_CFG (R398). -/
def writeCqCfg (q o : Nat) (v : Word) (s : State) : State :=
  let a := if o = 0 then bits v 0 32 else rd F.cq_CQ_BASE_ADDR q s
  let log := if o = 1 ∧ bits v 0 4 ≤ 12 then bits v 0 4 else rd F.cq_CQ_CFG_SIZE_LOG q s
  if ringIdle q s ∧ ringPlaced a log then storeReg .cq q o v s else s

/-- A granule or a credit has come to a queue: a channel that waits for it goes on (Table DM-6). -/
def dmaWake (q : Nat) (s : State) : State :=
  if !domOn 40 s then s
  else forN 64 (fun c s =>
    let st := chState c s
    if st = 3 ∨ st = 4 then
      let x := s.chDma c
      if dDstQ x.desc ∧ !x.out.isEmpty ∧ dmaOutQueue c s = some q then drainCheck c (issueOut c s)
      else if st = 3 ∧ dSrcQ x.desc ∧ x.out.isEmpty ∧ dmaInQueue c s = some q ∧ (s.queue q).hasGran then setChState c 2 s
      else s
    else s) s

/-! ### Power (R401 to R403) -/

/-- Channel `c` holds a descriptor whose source, destination or ring lies in cluster domain `d`. -/
def dmaUses (c d : Nat) (s : State) : Bool :=
  let x := s.chDma c
  decide (2 ≤ chState c s) && x.known && descIn d x.desc s

/-- R402: a forced power-down of cluster domain `d` ends the descriptors that it concerns; a record whose ring lies there is lost once the other
writes have drained. -/
def dmaForce (d : Nat) (s : State) : State :=
  forN 64 (fun c s =>
    if dmaUses c d s then
      let x := s.chDma c
      let st := chState c s
      let keep (o : Nat × Granule × Bool) : Bool := dDstQ x.desc || !rangeIn d (dDstAddr x.desc o.1, 1)
      let dropped := ((x.issued ++ x.out).filter (fun o => !keep o)).map (·.1)
      let s1 := if st = 2 ∨ st = 3 ∨ st = 4 then
          endTransfer c (if st = 4 ∧ x.status ≠ 0 then x.status else 2) x.faultAddr
            (s.setChDma c (Dma.stopAt dropped { x with out := x.out.filter keep, issued := x.issued.filter keep, cut := true }))
        else s.modChDma c (fun x => { x with cut := true })
      let y := s1.chDma c
      if rangeIn d (rd F.cq_CQ_BASE_ADDR (dCq x.desc) s, 1) ∧ (5 ≤ st ∨ (y.out.isEmpty ∧ y.issued.isEmpty)) then loseRecord c s1
      else drainCheck c s1
    else s) s

/-- R402: a forced power-down of D40 ends every channel; their records are written before it is isolated. -/
def dmaForceAll (s : State) : State :=
  forN 64 (fun c s =>
    let st := chState c s
    if st = 0 then s
    else
      let s1 := if st = 1 ∨ st = 2 ∨ st = 3 then
          let (g, s0) := if st = 1 then unreadDesc s else ((s.chDma c).desc, s)
          endTransfer c 2 (s.chDma c).faultAddr (s0.modChDma c (fun x => { x with desc := g, cut := true, out := [] }))
        else s.modChDma c (fun x => { x with cut := true })
      let n := ((s1.chDma c).issued).length
      let s2 := (times (fun s => writeResponse c true s) n s1).modChDma c (fun x => { x with out := [], issued := [] })
      let s3 := if chState c s2 = 6 then wr F.ch_CH_STAT_REC_LOST c 1 s2 else recordAnswered c (drainCheck c s2)
      setChState c 0 (s3.setChDma c Dma.init)) s

end Sys2Proof.Machine
end

