-- ==== Sys2Proof/Machine/Flags.lean ====
section
/-! DEFINITION. What the arithmetic of FJ36 computes (chapter 04): results, saturation, overflow, division and the elementary functions. -/

set_option Elab.async false

namespace Sys2Proof.Machine

/-- R97: an integer lies outside the signed 36-bit range. -/
def outOf36 (x : Int) : Bool := decide (x < -2 ^ 35 ∨ 2 ^ 35 - 1 < x)

/-- R97: sat36. -/
def sat36 (x : Int) : Word := if x < -2 ^ 35 then wordOf (-2 ^ 35) else if 2 ^ 35 - 1 < x then wordOf (2 ^ 35 - 1) else wordOf x

/-- A result with the SAT it sets. -/
def satResult (x : Int) : Word × Bool := (sat36 x, outOf36 x)

/-- 1 or 0 (R100). -/
def truth (b : Bool) : Word := if b then 1 else 0

/-- R101: the shifts; a count of 36 or more shifts everything out. -/
def shiftLeft (a : Word) (c : Nat) : Word := if c ≤ 35 then a <<< c else 0
/-- R101: SRL. -/
def shiftRight (a : Word) (c : Nat) : Word := if c ≤ 35 then a >>> c else 0
/-- R101: SRA. -/
def shiftArith (a : Word) (c : Nat) : Word := a.sshiftRight (min c 36)
/-- R101: ROL. -/
def rotLeft (a : Word) (c : Nat) : Word := a.rotateLeft (c % 36)

/-- R101: CLZ. -/
def leadingZeros (a : Word) : Nat := if a = 0 then 36 else 35 - Nat.log2 a.toNat

/-- R101: POPC. -/
def popCount (a : Word) : Nat := (List.range 36).countP (fun i => a.getLsbD i)

/-- R101, R102: BFX. -/
def bitField (a : Word) (p w : Nat) : Word := if 36 ≤ p then 0 else BitVec.ofNat 36 (a.toNat / 2 ^ p % 2 ^ w)

/-- R101: NEX. -/
def nonetOf (a : Word) (n : Nat) : Nat := a.toNat / 2 ^ (9 * n) % 512

/-- R101: NIN. -/
def nonetPut (old : Word) (n v : Nat) : Word := setBits old (9 * n) 9 v

/-- R103: MULQ before clipping: the product rounded to nearest, ties toward +∞. -/
def mulqExact (a b : Word) : Int := (a.toInt * b.toInt + 2 ^ 34) / 2 ^ 35

/-- R99 to R103: the result of a class A or class M operation of two operands, with SAT. `old` is g[rd] (NIN). -/
def aluResult (o : Op) (a b old : Word) : Word × Bool :=
  match o.mn with
  | .add | .addi | .addq => (a + b, false)
  | .sub => (a - b, false)
  | .adds | .addsi => satResult (a.toInt + b.toInt)
  | .subs => satResult (a.toInt - b.toInt)
  | .andW | .andi | .andq => (a &&& b, false)
  | .orW | .ori | .orq => (a ||| b, false)
  | .xorW | .xori | .xorq => (a ^^^ b, false)
  | .andn => (a &&& ~~~b, false)
  | .neg => (-a, false)
  | .negs => satResult (-a.toInt)
  | .abs => (wordOf a.toInt.natAbs, false)
  | .abss => satResult a.toInt.natAbs
  | .minS | .mini => (if a.toInt ≤ b.toInt then a else b, false)
  | .maxS | .maxi => (if a.toInt ≤ b.toInt then b else a, false)
  | .minu => (if a.toNat ≤ b.toNat then a else b, false)
  | .maxu => (if a.toNat ≤ b.toNat then b else a, false)
  | .mov => (a, false)
  | .movq => (b, false)
  | .lui => (b <<< 22, false)
  | .orhi => (a ||| (b <<< 14), false)
  | .ceq | .ceqi => (truth (a == b), false)
  | .cne | .cnei => (truth (a != b), false)
  | .clt | .clti => (truth (decide (a.toInt < b.toInt)), false)
  | .cle | .clei => (truth (decide (a.toInt ≤ b.toInt)), false)
  | .cgti => (truth (decide (b.toInt < a.toInt)), false)
  | .cgei => (truth (decide (b.toInt ≤ a.toInt)), false)
  | .cltu | .cltui => (truth (decide (a.toNat < b.toNat)), false)
  | .cleu => (truth (decide (a.toNat ≤ b.toNat)), false)
  | .cgeui => (truth (decide (b.toNat ≤ a.toNat)), false)
  | .sll | .slli | .sllq => (shiftLeft a (b.toNat % 128), false)
  | .srl | .srli | .srlq => (shiftRight a (b.toNat % 128), false)
  | .sra | .srai | .sraq => (shiftArith a (b.toNat % 128), false)
  | .rol | .roli => (rotLeft a (b.toNat % 128), false)
  | .clz => (BitVec.ofNat 36 (leadingZeros a), false)
  | .popc => (BitVec.ofNat 36 (popCount a), false)
  | .nex => (BitVec.ofNat 36 (nonetOf a (o.func % 4)), false)
  | .nin => (nonetPut old (o.func % 4) (a.toNat % 512), false)
  | .bfx => (bitField a (b.toNat % 128) (o.func % 64), false)
  | .mul => (a * b, false)
  | .mulh => (wordOf (a.toInt * b.toInt / 2 ^ 36), false)
  | .mulhu => (BitVec.ofNat 36 (a.toNat * b.toNat / 2 ^ 36), false)
  | .mulq => satResult (mulqExact a b)
  | _ => (0, false)

/-! ### Accumulators (R103 to R106) -/

/-- An integer wrapped to 80 bits. -/
def acc80 (x : Int) : Acc := BitVec.ofNat 80 (lowBits 80 x)

/-- R103, R104: a MAC-group word on an accumulator: the exact sum, before the wrap. -/
def macExact (m : Acc) (func : Nat) (a b : Word) : Int :=
  let p : Int := if 8 ≤ func % 16 then (a.toNat * b.toNat : Nat) else a.toInt * b.toInt
  (if func / 4 % 2 = 1 then 0 else m.toInt) + (if func / 2 % 2 = 1 then -p else p)

/-- R104: the exact sum lies outside 80 bits. -/
def outOf80 (x : Int) : Bool := decide (x < -2 ^ 79 ∨ 2 ^ 79 - 1 < x)

/-- R105: MFA. -/
def mfaResult (m : Acc) (func : Nat) : Word × Bool :=
  let sh := func / 2 % 128
  if 256 ≤ func then
    if sh = 0 then satResult m.toInt else satResult ((m.toInt + 2 ^ (sh - 1)) / 2 ^ sh)
  else (wordOf (m.toInt / 2 ^ sh), false)

/-- R103: MTA. -/
def mtaResult (a : Word) (func : Nat) : Acc := acc80 (a.toInt * 2 ^ (func / 2 % 128))

/-! ### Long operations (R107 to R109, R528) -/

/-- What a long operation writes to gN and gN+1 (or d), and the status bits it sets (1 OV, 2 DZ). -/
structure LongResult where
  lo   : Word
  hi   : Word
  sets : Nat
deriving DecidableEq, Repr

/-- The largest signed word. -/
def maxWord : Word := 0x7FFFFFFFF
/-- The word of all ones. -/
def onesWord : Word := 0xFFFFFFFFF

/-- R107, R109: DIV. -/
def divResult (a b : Word) : LongResult :=
  if b = 0 then { lo := if 0 ≤ a.toInt then maxWord else wordOf (-2 ^ 35), hi := a, sets := 2 }
  else if a.toInt = -2 ^ 35 ∧ b.toInt = -1 then { lo := maxWord, hi := 0, sets := 1 }
  else { lo := wordOf (a.toInt.tdiv b.toInt), hi := wordOf (a.toInt.tmod b.toInt), sets := 0 }

/-- R107, R109: DIVU. -/
def divuResult (a b : Word) : LongResult :=
  if b = 0 then { lo := onesWord, hi := a, sets := 2 }
  else { lo := BitVec.ofNat 36 (a.toNat / b.toNat), hi := BitVec.ofNat 36 (a.toNat % b.toNat), sets := 0 }

/-- ⌊√n⌋ by bits: `r` is the root found so far, `k` the bits still to try. -/
def sqrtFrom (n : Nat) : Nat → Nat → Nat
  | 0, r => r
  | k + 1, r => sqrtFrom n k (if (r + 2 ^ k) * (r + 2 ^ k) ≤ n then r + 2 ^ k else r)

/-- √(n / d) rounded to nearest, ties up. -/
def roundSqrt (n d : Nat) : Nat := (sqrtFrom (4 * n / d) 40 0 + 1) / 2

/-- R107, R109: SQRT. -/
def sqrtResult (a : Word) : LongResult :=
  if a.toInt < 0 then { lo := 0, hi := 0, sets := 1 } else { lo := BitVec.ofNat 36 (roundSqrt (a.toNat * 2 ^ 35) 1), hi := 0, sets := 0 }

/-- R107, R109: RSQRT. 2¹⁸ √(2³⁵ / a) = √(2⁷¹ / a). -/
def rsqrtResult (a : Word) : LongResult :=
  if a = 0 then { lo := onesWord, hi := 0, sets := 2 }
  else if a.toInt < 0 then { lo := onesWord, hi := 0, sets := 1 }
  else { lo := BitVec.ofNat 36 (roundSqrt (2 ^ 71) a.toNat), hi := 0, sets := 0 }

/-- π × 2¹²⁰, rounded down. -/
def piScaled : Nat := 4175892906503776358826876457663557747

/-- The series x − x³/3! + … (or 1 − x²/2! + …): `t` is the present term and `n` the last factor used, in units of 2⁻¹²⁰. -/
def trigSeries (x2 : Nat) : Nat → Int → Nat → Int
  | 0, _, _ => 0
  | k + 1, t, n => t + trigSeries x2 k (-(t * x2 / 2 ^ 120 / (((n + 1) * (n + 2) : Nat) : Int))) (n + 2)

/-- sin and cos of x × 2⁻¹²⁰ for x up to π/4, in units of 2⁻¹²⁰. -/
def sinSmall (x : Nat) : Int := trigSeries (x * x / 2 ^ 120) 20 x 1
/-- cos of x × 2⁻¹²⁰. -/
def cosSmall (x : Nat) : Int := trigSeries (x * x / 2 ^ 120) 20 (2 ^ 120) 0

/-- sin 2πf/2²⁴ in units of 2⁻¹²⁰, by octants. -/
def sinTurn (f : Nat) : Int :=
  let q := f / 2 ^ 22 % 4
  let r := f % 2 ^ 22
  let ang (t : Nat) : Nat := 2 * piScaled * t / 2 ^ 24
  let first (t : Nat) : Int := if t ≤ 2 ^ 21 then sinSmall (ang t) else cosSmall (ang (2 ^ 22 - t))
  match q with
  | 0 => first r
  | 1 => first (2 ^ 22 - r)
  | 2 => -first r
  | _ => -first (2 ^ 22 - r)

/-- R528: S(x) for x in units of 2⁻¹²⁰: rounded to nearest, ties away from zero, 2³⁵ clipped. -/
def trigRound (x : Int) : Word :=
  let m : Nat := (2 * x.natAbs + 2 ^ 85) / 2 ^ 86
  if x < 0 then wordOf (-(m : Int)) else if m = 2 ^ 35 then maxWord else BitVec.ofNat 36 m

/-- R107, R528: SINCOS. -/
def sincosResult (a : Word) : LongResult :=
  let f := a.toNat % 2 ^ 24
  { lo := trigRound (sinTurn f), hi := trigRound (sinTurn (f + 2 ^ 22)), sets := 0 }

/-- The result of a long operation. -/
def longResult (m : Mn) (a b : Word) : LongResult :=
  match m with
  | .div => divResult a b
  | .divu => divuResult a b
  | .sqrt => sqrtResult a
  | .rsqrt => rsqrtResult a
  | _ => sincosResult a

/-- Table OP-6: the long operations. -/
def Mn.isLong (m : Mn) : Bool :=
  match m with
  | .div | .divu | .sqrt | .rsqrt | .sincos => true
  | _ => false

/-- The long operations whose destination is a pair. -/
def Mn.isPairLong (m : Mn) : Bool :=
  match m with
  | .div | .divu | .sincos => true
  | _ => false

/-- R98: the class of an operation that writes d at a fixed distance from two operands: 2 for class A, 3 for class M. -/
def Mn.aluClass (m : Mn) : Option Nat :=
  match m with
  | .add | .sub | .adds | .subs | .andW | .orW | .xorW | .andn | .neg | .negs | .abs | .abss | .minS | .maxS | .minu | .maxu | .mov
  | .addi | .addsi | .andi | .ori | .xori | .lui | .orhi | .mini | .maxi | .addq | .movq | .andq | .orq | .xorq
  | .ceq | .cne | .clt | .cle | .cltu | .cleu | .ceqi | .cnei | .clti | .clei | .cgti | .cgei | .cltui | .cgeui
  | .sll | .srl | .sra | .rol | .slli | .srli | .srai | .roli | .sllq | .srlq | .sraq | .clz | .popc | .nex | .nin | .bfx => some 2
  | .mul | .mulh | .mulhu | .mulq => some 3
  | _ => none

end Sys2Proof.Machine
end

