-- ==== Sys2Proof/Machine/Measure.lean ====
section
/-! DEFINITION. The measurement front (chapter 09): sigma-delta groups and their filters, strobes, streams, digital windows, analog
comparators, encoder interfaces, resolver and grid trackers. -/

set_option Elab.async false

namespace Sys2Proof.Machine

/-! ### Groups and filters (R264, R267, R268, R275) -/

/-- The domain of group `g` is on and the group runs. -/
def grpRuns (g : Nat) (s : State) : Bool := domOn (grpDomain g) s && rdB F.grp_CTL_EN g s

/-- N × M for the largest N of the group (R290). -/
def grpWarm (g : Nat) (s : State) : Nat :=
  ((List.range 8).map (fun i => rd F.chan_CFG_ORDER (8 * g + i) s)).foldl max 0 * rd F.grp_CTL_DEC g s

/-- The sums of `m` neighbours, newest first: the filter (1 − z^−m) / (1 − z^−1). -/
def boxSums (m : Nat) : List Int → List Int
  | [] => []
  | x :: l => ((x :: l).take m).sum :: boxSums m l

/-- R267: the raw value of a sinc^n filter of ratio `m` over the samples, newest first. -/
def sincRaw (n m : Nat) (xs : List Int) : Int := ((times (boxSums m) n (xs.take (n * m))).head?).getD 0

/-- R266: the samples of channel `c`, newest first, as ±1. -/
def chanBits (c : Nat) (s : State) : List Int := (s.grp (c / 8)).hist.map (fun e => if e.bits.getLsbD (c % 8) then 1 else -1)

/-- R268: ⌊raw × 2^SH⌋. -/
def shiftRaw (raw sh : Int) : Int := if 0 ≤ sh then raw * 2 ^ sh.toNat else raw / 2 ^ (-sh).toNat

/-- R268, R272: y of channel `c`, then z, and whether either clips; a channel whose ORDER is 0 has 0. -/
def chanZ (c : Nat) (s : State) : Int × Bool :=
  let n := rd F.chan_CFG_ORDER c s
  if n = 0 then (0, false)
  else
    let x := shiftRaw (sincRaw n (rd F.grp_CTL_DEC (c / 8) s) (chanBits c s)) (rdZ F.chan_CFG_SH c s)
    let y := (sat36 x).toInt
    let z := ((y - (rdW F.chan_OFFSET c s).toInt) * (rd F.chan_GAIN c s : Int) + 2 ^ 15) / 2 ^ 16
    ((sat36 z).toInt, outOf36 x || outOf36 z)

/-- R268: an output of channel `c` is formed; clipping is counted. -/
def countSat (c : Nat) (s : State) : State := if (chanZ c s).2 then bump F.chan_STAT_SAT c s else s

/-- Device time `ns` ago, in 2⁻⁶⁵ s. -/
def devAgo (ns : Nat) (s : State) : Nat := (s.clock.dev + 2 ^ 101 - ns * 2 ^ 65 / 1000000000 % 2 ^ 101) % 2 ^ 101

/-- TIME_F of a device time. -/
def timeFOf (dev : Nat) : Word := BitVec.ofNat 36 (dev / 2 ^ 29)

/-- R264: an edge of group `g` as it is timed: CLKDIV after the one before, or as captured in clock-in mode. -/
def timedEdge (g : Nat) (s : State) (e : ModEdge) : ModEdge :=
  { e with gap := if rdB F.grp_CTL_CLKMODE g s then e.gap else rd F.grp_CTL_CLKDIV g s }

/-! ### Streams (R273, R274) -/

/-- STREAMi fields of a group. -/
def streamF (f : FRef) (i : Nat) : FRef := { f with o := f.o + i }

/-- The queue that stream `i` of group `g` feeds. -/
def streamQueue (g i : Nat) (s : State) : Option Nat := producerQueue s 2 (4 * g + i)

/-- R353: a queue's producer has credit for a whole item of `n` words. -/
def canPushItem (q n : Nat) (s : State) : Bool := !(s.queue q).resetting && decide ((n + 6) / 7 ≤ qCred s q)

/-- A saturating count of a sparse list. -/
def addSat (k n m : Nat) (l : List (Nat × Nat)) : List (Nat × Nat) := Sparse.put 0 k (min (Sparse.get 0 k l + n) m) l

/-- The words of an item as pushed: the status word of Table MF-3 takes its counts at the push. -/
def streamWords (i : Nat) (x : Grp) (ws : List Word) (st : Option Nat) : List Word :=
  match st with
  | none => ws
  | some b => ws ++ [BitVec.ofNat 36 (b + Sparse.get 0 i x.skip * 2 ^ 18 + Sparse.get 0 i x.repl * 2 ^ 9)]

/-- R274: the held item of a stream is pushed when its queue has credit for the whole of it, and nothing holds the group back (R265, R290). -/
def releaseStream (g i : Nat) (s : State) : State :=
  let x := s.grp g
  match Sparse.get ([], none) i x.held, streamQueue g i s with
  | (ws, st), some q =>
    let item := streamWords i x ws st
    if item.isEmpty ∨ !grpRuns g s ∨ x.lost ∨ x.edges < grpWarm g s ∨ !canPushItem q item.length s then s
    else pushItem q item (s.setGrp g { x with held := Sparse.put ([], none) i ([], none) x.held,
                                              skip := Sparse.put 0 i 0 x.skip, repl := Sparse.put 0 i 0 x.repl })
  | _, none => s

/-- An item of stream `i` is formed: it is discarded without a queue, replaces a held item, or is pushed. -/
def offerItem (g i : Nat) (ws : List Word) (st : Option Nat) (s : State) : State :=
  let x := s.grp g
  match streamQueue g i s with
  | none => bump F.grp_STAT_REPLACED g s
  | some _ =>
    let old := Sparse.get ([], none) i x.held != ([], none)
    let s1 := s.setGrp g { x with held := Sparse.put ([], none) i (ws, st) x.held, repl := if old then addSat i 1 511 x.repl else x.repl }
    releaseStream g i (if old then bump F.grp_STAT_REPLACED g s1 else s1)

/-- R273: stream `i` forms an item at an edge with the given TIME_F; a FREE item carries u where the channel smooths. -/
def formItem (g i : Nat) (free late : Bool) (stamp : Word) (s : State) : State :=
  let mask := rd (streamF F.grp_STREAM_CHMASK i) g s
  let stampOn := rdB (streamF F.grp_STREAM_STAMP i) g s
  let statusOn := rdB (streamF F.grp_STREAM_STATUS i) g s
  if mask = 0 ∧ !stampOn ∧ !statusOn then s
  else
    let chs := ((List.range 8).filter (fun k => mask.testBit k)).map (fun k => 8 * g + k)
    let vals := chs.map (fun c =>
      if free ∧ rd F.chan_CFG_IIR_SH c s ≠ 0 ∧ rd F.chan_CFG_ORDER c s ≠ 0 then wordOf (s.chan c).u else wordOf (chanZ c s).1)
    let sat := chs.foldl (fun a c => if (chanZ c s).2 then a + 2 ^ (c % 8) else a) 0
    offerItem g i (vals ++ if stampOn then [stamp] else [])
      (if statusOn then some (sat * 2 ^ 28 + if late then 2 ^ 27 else 0) else none) s

/-! ### Trackers (R284 to R288) -/

/-- A field of resolver tracker r (r below 8) or grid tracker r − 8. -/
def trkF (r : Nat) (o lo w : Nat) : FRef := if r < 8 then ⟨.rt, o, lo, w⟩ else ⟨.gt, o, lo, w⟩

/-- The largest fraction below a quarter turn whose tangent does not exceed y / x, by bits. -/
def angleBits (y x : Int) : Nat → Nat → Nat
  | 0, f => f
  | k + 1, f =>
    let t := f + 2 ^ k
    angleBits y x k (if t < 2 ^ 22 ∧ x * sinTurn t ≤ y * sinTurn (t + 2 ^ 22) then t else f)

/-- R284: atan2(y, x) in units of 2⁻²⁴ turn; the rounding is free (log entry 15), and so is the angle of (0, 0) (log entry 20). -/
def angleOf (y x : Int) (s : State) : Nat × State :=
  if y = 0 ∧ x = 0 then s.anyBelow (2 ^ 24)
  else
    let (base, b, a) :=
      if 0 < x ∧ 0 ≤ y then (0, y, x) else if x ≤ 0 ∧ 0 < y then (2 ^ 22, -x, y)
      else if x < 0 ∧ y ≤ 0 then (2 ^ 23, -y, -x) else (3 * 2 ^ 22, x, -y)
    let f := base + angleBits b a 22 0
    if b = 0 ∨ b = a then (f, s)
    else
      let (up, s1) := s.anyBool
      ((f + if up then 1 else 0) % 2 ^ 24, s1)

/-- √n / d, whose rounding is free (log entry 15). -/
def rootOf (n d : Nat) (s : State) : Nat × State :=
  let r := sqrtFrom n 40 0
  if r * r = n ∧ r % d = 0 then (r / d, s)
  else
    let (up, s1) := s.anyBool
    (r / d + if up then 1 else 0, s1)

/-- R285, R286: tracker `r` has an angle and an amplitude, `ns` ago: the 36-bit value, the window, and the update it delivers. -/
def trackAngle (r f amp ns : Nat) (s : State) : State :=
  let e := if r % 8 < 4 then 0 else 1
  let kind := if r < 8 then 5 else 6
  let old := (rdW (trkF r 3 0 36) (r % 8) s).toNat
  let step := if (s.trk r).seen then signedMod 24 ((f : Int) - old) else (f : Int) - (old % 2 ^ 24 : Nat)
  let angle := lowBits 36 ((old : Int) + step)
  let s1 := (wr (trkF r 4 0 18) (r % 8) amp (wr (trkF r 3 0 36) (r % 8) angle s)).modTrk r (fun x => { x with seen := true })
  let fault := rdB (trkF r 5 9 1) (r % 8) s
  let bad (code : Nat) : State := postEvent e kind (r % 8) code (bump (trkF r 5 0 9) (r % 8) (wr (trkF r 5 9 1) (r % 8) 1 s1))
  if amp < rd (trkF r 2 0 18) (r % 8) s then bad 1
  else if rd (trkF r 2 18 18) (r % 8) s < amp then bad 2
  else
    let s2 := if fault then postEvent e kind (r % 8) 3 (wr (trkF r 5 9 1) (r % 8) 0 s1) else s1
    deliverAngle (if r < 8 then 2 else 3) (r % 8) angle (s.clock.tick - ns) (devAgo ns s) fault s2

/-- R267, R284, R287: the group delay of channel `c` in ns, N (M − 1) / 2 modulator periods back through the edges as they were timed. -/
def groupDelay (c : Nat) (s : State) : Nat × State :=
  let k := rd F.chan_CFG_ORDER c s * (rd F.grp_CTL_DEC (c / 8) s - 1)
  let gaps := (s.grp (c / 8)).hist.map (·.gap)
  let (d, s1) := roundFree ((2 * (gaps.take (k / 2)).sum + k % 2 * gaps.getD (k / 2) 0 : Nat) : Int) 2 s
  (d.toNat, s1)

/-- Tracker `r` is on and reads group `g` of its die. -/
def trkReads (r g : Nat) (s : State) : Bool :=
  domOn (trkDomain (r % 8)) s && rdB (trkF r 0 0 1) (r % 8) s && rd (trkF r 0 1 4) (r % 8) s == g && g / 6 == r % 8 / 4

/-- R284: resolver tracker `r` samples at an edge `back` ns ago; `neg` at the second point of a period. -/
def resolverTake (r back : Nat) (neg : Bool) (s : State) : State :=
  let g := rd (trkF r 0 1 4) r s
  let cs := 8 * g + rd (trkF r 0 5 3) r s
  let cc := 8 * g + rd (trkF r 0 8 3) r s
  let sgn : Int := if neg then -1 else 1
  let y := sgn * (chanZ cs s).1
  let x := sgn * (chanZ cc s).1
  let s0 := countSat cc (countSat cs s)
  let (f, s1) := angleOf y x s0
  let (amp, s2) := rootOf (y * y + x * x).toNat (2 ^ 18) s1
  let (d, s3) := groupDelay cs s2
  trackAngle r f amp (back + d) s3

/-- √3 in units of 2⁻¹⁰⁰. -/
def sqrt3Scaled : Nat := 2195635245840476761639769790215

/-- R287: grid tracker `r` (from 8) samples at a decimation point `back` ns ago. -/
def gridTake (r back : Nat) (s : State) : State :=
  let g := rd (trkF r 0 1 4) (r % 8) s
  let ch (lo : Nat) : Nat := 8 * g + rd (trkF r 0 lo 3) (r % 8) s
  let a := (chanZ (ch 5) s).1
  let b := (chanZ (ch 8) s).1
  let c := (chanZ (ch 11) s).1
  let al := 2 * a - b - c
  let be := b - c
  let s0 := countSat (ch 11) (countSat (ch 8) (countSat (ch 5) s))
  let (f, s1) := angleOf (be * sqrt3Scaled) (al * 2 ^ 100) s0
  let (amp, s2) := rootOf (al * al + 3 * be * be).toNat (3 * 2 ^ 18) s1
  let (d, s3) := groupDelay (ch 5) s2
  trackAngle r f amp (back + d) s3

/-! ### What happens at one edge -/

/-- R266: the STUCK check of channel `c`. -/
def stuckCheck (c : Nat) (bit : Bool) (s : State) : State :=
  let x := s.chan c
  let run := if x.run ≠ 0 ∧ x.bit = bit then x.run + 1 else 1
  let told := decide (run ≠ 1) && x.told
  let lim := rd F.chan_CFG_STUCK c s * 16
  if lim ≠ 0 ∧ lim < run ∧ !told then
    postEvent (c / 48) 4 c 3 (wr ⟨.grp, 7, 1 + c % 8, 1⟩ (c / 8) 1 (s.setChan c { x with run := run, bit := bit, told := true }))
  else s.setChan c { x with run := run, bit := bit, told := told }

/-- QUAL: 0 means 16. -/
def qualOf (c : Nat) (s : State) : Nat := if rd F.chan_CFG_QUAL c s = 0 then 16 else rd F.chan_CFG_QUAL c s

/-- R275, R276, R290: the digital window of channel `c` at an edge. -/
def windowCheck (c : Nat) (s : State) : State :=
  let n := rd F.chan_CFG_FORDER c s
  let x := s.chan c
  if n = 0 then wr F.chan_STAT_WIN c 0 (wr F.chan_FAST_RAW c 0 (s.setChan c { x with out := 0, qual := 0 }))
  else
    let r := sincRaw n (rd F.chan_CFG_FDEC c s) (chanBits c s)
    let s1 := wr F.chan_FAST_RAW c (lowBits 18 r) s
    let side := if rdZ F.chan_WIN_HI c s < r then 1 else if r < rdZ F.chan_WIN_LO c s then 2 else 0
    if side = 0 then wr F.chan_STAT_WIN c 0 (s1.setChan c { x with out := 0, qual := 0 })
    else
      let q := min (x.qual + 1) 16
      let s2 := s1.setChan c { x with qual := q }
      if x.out ≠ 0 ∨ q < qualOf c s ∨ (s.grp (c / 8)).edges < grpWarm (c / 8) s then s2
      else
        let s3 := wr F.chan_STAT_WIN c 1 (s2.setChan c { x with out := side, qual := q })
        let s4 := wr (if side = 1 then F.chan_STAT_WIN_HI else F.chan_STAT_WIN_LO) c 1 s3
        postEvent (c / 48) 2 c side (sourceActive 3 c s4)

/-- R269, R272: channel `c` at a decimation point. -/
def decimate (c : Nat) (s : State) : State :=
  if rd F.chan_CFG_ORDER c s = 0 then s
  else
    let z := (chanZ c s).1
    let s1 := wr F.chan_LAST c (lowBits 36 z) (countSat c s)
    s1.modChan c (fun x => { x with u := x.u + (z - x.u) / 2 ^ rd F.chan_CFG_IIR_SH c s })

/-- NTH: 0 means 256. -/
def nthOf (n : Nat) : Nat := if n = 0 then 256 else n

/-- R269, R273, R287: a decimation point of group `g`, at an edge `back` ns ago. -/
def decimationPoint (g back : Nat) (s : State) : State :=
  let s1 := forN 8 (fun i s => decimate (8 * g + i) s) (s.modGrp g (fun x => { x with points := x.points + 1 }))
  let x := s1.grp g
  if x.edges < grpWarm g s1 then s1
  else
    let s2 := forN 4 (fun i s =>
      if rd (streamF F.grp_STREAM_MODE i) g s = 1 ∧ x.points % nthOf (rd (streamF F.grp_STREAM_NTH i) g s) = 0 then
        formItem g i true false (timeFOf (devAgo back s)) s
      else s) s1
    forN 8 (fun r s =>
      if trkReads (8 + r) g s ∧ x.points % nthOf (rd (trkF 8 0 20 8) r s) = 0 then gridTake (8 + r) back s else s) s2

/-- The channels of group `g` that a strobed item carries (R268). -/
def strobedChans (g : Nat) (s : State) : List Nat :=
  ((List.range 8).filter (fun k => (List.range 4).any (fun i =>
    rd (streamF F.grp_STREAM_MODE i) g s == 2 && (rd (streamF F.grp_STREAM_CHMASK i) g s).testBit k))).map (fun k => 8 * g + k)

/-- R271, R290: the strobe that waits takes this edge when it lies at or after the strobe's tick, or is delayed by the restart. -/
def strobeEdge (g back : Nat) (s : State) : State :=
  let x := s.grp g
  match x.strobe with
  | none => s
  | some t =>
    if s.clock.tick < t + back then s
    else if grpWarm g s < x.edges ∨ (grpWarm g s = x.edges ∧ !x.lateStrobe ∧ t + back = s.clock.tick) then
      let streams := (List.range 4).filter (fun i => rd (streamF F.grp_STREAM_MODE i) g s = 2)
      let s1 := s.setGrp g { x with strobe := none, lateStrobe := false }
      let s2 := (strobedChans g s).foldl (fun s c => countSat c s) s1
      streams.foldl (fun s i => formItem g i false x.lateStrobe (timeFOf (devAgo back s)) s) s2
    else s.setGrp g { x with lateStrobe := true }

/-- R284, R290: a sampling position of resolver tracker `r` that waits takes this edge of its group; none samples during a restart. -/
def resolverEdge (g back r : Nat) (s : State) : State :=
  match (s.trk r).due with
  | none => s
  | some (t, neg) =>
    if !trkReads r g s ∨ s.clock.tick < t + back then s
    else
      let s1 := s.modTrk r (fun x => { x with due := none })
      if (s.grp g).edges < grpWarm g s then s1 else resolverTake r back neg s1

/-- One modulator edge of group `g`, `back` ns ago. -/
def oneEdge (g back : Nat) (e : ModEdge) (s : State) : State :=
  let s1 := s.modGrp g (fun x => { x with hist := (e :: x.hist).take 4096, edges := x.edges + 1 })
  let s2 := forN 8 (fun i s => windowCheck (8 * g + i) (stuckCheck (8 * g + i) (e.bits.getLsbD i) s)) s1
  let s3 := forN 8 (resolverEdge g back) (strobeEdge g back s2)
  let m := rd F.grp_CTL_DEC g s
  let s4 := if m ≠ 0 ∧ (s3.grp g).edges % m = 0 then decimationPoint g back s3 else s3
  forN 4 (fun i s => releaseStream g i s) s4

/-- The edges of a list in turn; the last of them fell `base` ns ago. -/
def edgesIn (g base : Nat) : List ModEdge → State → State
  | [], s => s
  | e :: l, s => edgesIn g base l (oneEdge g (base + (l.map (·.gap)).sum) e s)

/-- R265: no edge of a list comes later after the one before it than CLK_TO allows. -/
def edgesInTime (g : Nat) (es : List ModEdge) (s : State) : Bool :=
  !rdB F.grp_CTL_CLKMODE g s || (es.drop 1).all (fun e => decide (e.gap < 10 * rd F.grp_CTL_CLK_TO g s))

/-- Edges arrive at group `g`, of which the last brings about what `test` compares; nothing happens otherwise (log entry 9). -/
def feedEdges (g : Nat) (es : List ModEdge) (test : State → State → Bool) (s : State) : State :=
  match (es.map (timedEdge g s)).getLast? with
  | none => s
  | some e =>
    if grpRuns g s ∧ !(s.grp g).lost ∧ edgesInTime g es s then
      let s1 := edgesIn g e.gap (es.map (timedEdge g s)).dropLast s
      let s2 := oneEdge g 0 e s1
      if test s1 s2 then s2 else s
    else s

/-! ### Strobes, clock loss, restart (R265, R270, R290) -/

/-- R270, R271: a strobe of group `g`; `n` points were crossed. -/
def strobeGroup (g n : Nat) (s : State) : State :=
  let x := s.grp g
  let s1 := bumpBy F.grp_STAT_SKIPPED g (n - 1) s
  let skip := (List.range 4).foldl (fun l i => addSat i (n - 1) 511 l) x.skip
  if x.strobe.isSome then bump F.grp_STAT_MERGED g (s1.setGrp g { x with skip := skip })
  else s1.setGrp g { x with strobe := some s.clock.tick, lateStrobe := false, skip := skip }

/-- R290: STRB_CTL and STRB_PH of group `g` in force in this tick: a write takes effect at the next tick, which makes no strobe (none). -/
def strobeSettings (g : Nat) (s : State) : Option (Word × Word) :=
  match (s.grp g).quiet with
  | some (t, old) =>
    if t = s.clock.tick then old
    else if t + 1 = s.clock.tick then none
    else some (s.reg (keyOf .grp g 1), s.reg (keyOf .grp g 2))
  | none => some (s.reg (keyOf .grp g 1), s.reg (keyOf .grp g 2))

/-- R270: the strobe points at or below a value, counted from a fixed one: those with (x − PHASE) mod 2²⁴ a multiple of PER below 2²⁴. -/
def pointsUpTo (per phase : Nat) (x : Int) : Int :=
  let y := x - phase
  y / 2 ^ 24 * ((2 ^ 24 - 1) / per + 1 : Nat) + y % 2 ^ 24 / per + 1

/-- R270: the points that a value reaches or crosses as it goes from `a` to `b`, in either direction. -/
def pointsCrossed (per phase : Nat) (a b : Word) : Nat :=
  let d := (b - a).toInt
  let x : Int := a.toNat
  (if 0 < d then pointsUpTo per phase (x + d) - pointsUpTo per phase x
   else if d < 0 then pointsUpTo per phase (x - 1) - pointsUpTo per phase (x + d - 1)
   else 0).toNat

/-- R270: the published value of the strobe timebase of group `g` has reached or crossed `n` strobe points since the tick before. -/
def strobePoint (g n : Nat) (s : State) : State :=
  match strobeSettings g s, (s.grp g).at_ with
  | some (c, p), some a =>
    let b := tbPub (bits p 30 6) s
    if grpRuns g s ∧ bits c 5 1 = 1 ∧ bits c 6 24 ≠ 0 ∧ n ≠ 0 ∧ n = pointsCrossed (bits c 6 24) (bits p 0 24) a b then strobeGroup g n (s.modGrp g (fun x => { x with at_ := some b })) else s
  | _, _ => s

/-- R270: the value that the strobes of group `g` compare with in the next tick. -/
def noteStrobeTb (g : Nat) (s : State) : State :=
  if grpRuns g s ∧ rdB F.grp_STRB_CTL_EN g s then s.modGrp g (fun x => { x with at_ := some (tbPub (rd F.grp_STRB_PH_TB g s) s) })
  else s

/-- R270: a write of SW_STROBE. -/
def writeSwStrobe (v : Word) (s : State) : State :=
  forN 12 (fun g s => if v.toNat.testBit g ∧ domOn (grpDomain g) s then strobeGroup g 1 s else s) s

/-- R290: group `g` restarts. -/
def restartGroup (g : Nat) (s : State) : State :=
  forN 8 (fun i s => s.modChan (8 * g + i) (fun x => { x with u := 0, qual := 0 }))
    (s.modGrp g (fun x => { x with hist := [], edges := 0, points := 0 }))

/-- R265: no edge for CLK_TO × 10 ns in clock-in mode. -/
def clockLost (g : Nat) (s : State) : State :=
  if grpRuns g s ∧ rdB F.grp_CTL_CLKMODE g s ∧ !(s.grp g).lost then
    postEvent (g / 6) 4 g 1 (wr F.grp_STAT_CLK_LOST g 1 (s.modGrp g (fun x => { x with lost := true })))
  else s

/-- R265: the first edge after a loss; the group restarts with it. -/
def clockBack (g : Nat) (es : List ModEdge) (s : State) : State :=
  if grpRuns g s ∧ (s.grp g).lost ∧ es ≠ [] then
    let s1 := s.modGrp g (fun x => { x with lost := false, lateStrobe := x.strobe.isSome })
    feedEdges g es (fun _ _ => true) (postEvent (g / 6) 4 g 2 (wr F.grp_STAT_CLK_LOST g 0 (restartGroup g s1)))
  else s

/-- The settings of group `g` whose change restarts it (R290). -/
def restartKey (g : Nat) (s : State) : List Nat :=
  [rd F.grp_CTL_CLKMODE g s, rd F.grp_CTL_CLKDIV g s, rd F.grp_CTL_DEC g s] ++
    (List.range 8).map (fun i => rd F.chan_CFG_ORDER (8 * g + i) s)

/-- Group `g` restarts when its settings have changed from `s`, or EN has risen; with EN = 0 or in clock-out mode no loss stands. -/
def afterGroupWrite (g : Nat) (s s1 : State) : State :=
  let s2 := if rdB F.grp_CTL_EN g s1 && rdB F.grp_CTL_CLKMODE g s1 then s1
    else wr F.grp_STAT_CLK_LOST g 0 (s1.modGrp g (fun x => { x with lost := false }))
  if restartKey g s ≠ restartKey g s1 ∨ (rdB F.grp_CTL_EN g s1 ∧ !rdB F.grp_CTL_EN g s) then restartGroup g s2 else s2

/-- A write of word `o` of group `g` (R290). -/
def writeGrp (g o : Nat) (v : Word) (s : State) : State :=
  let s1 := storeReg .grp g o v s
  if o = 0 then afterGroupWrite g s s1
  else if o = 1 ∨ o = 2 then
    s1.modGrp g (fun x => if x.quiet.map (·.1) = some s.clock.tick then x else { x with quiet := some (s.clock.tick, strobeSettings g s) })
  else s1

/-- A write of word `o` of channel `c`. -/
def writeChan (c o : Nat) (v : Word) (s : State) : State :=
  let s1 := storeReg .chan c o v s
  if o = 0 then afterGroupWrite (c / 8) s s1 else s1

/-- A position `p` lies among those that a carrier passes as it goes from `a` to `b`, in either direction, in 2⁻²⁴ of a period. -/
def passesPos (p a b : Int) : Bool :=
  let d := signedMod 24 (b - a)
  if 0 < d then decide ((p - a - 1) % 2 ^ 24 < d) else decide ((p - b) % 2 ^ 24 < -d)

/-- R284: a carrier generator has come to a sampling position of resolver tracker `r`; the next edge of the group samples. -/
def watchCarrier (r : Nat) (s : State) : State :=
  let cg := rd (trkF r 0 14 6) r s
  if !domOn (trkDomain r) s ∨ !rdB (trkF r 0 0 1) r s then s
  else if !(s.gen cg).run ∨ (s.gen cg).wait then s.modTrk r (fun x => { x with pos := none })
  else
    let (num, den) := genX cg (2 * s.now8) s
    let b := if den = 0 then 0 else num * 2 ^ 24 / den
    let ph : Int := rd (trkF r 1 0 24) r s
    let due := match (s.trk r).pos with
      | none => (s.trk r).due
      | some a =>
        if passesPos ph a b then some (s.clock.tick, false)
        else if passesPos (ph + 2 ^ 23) a b then some (s.clock.tick, true)
        else (s.trk r).due
    s.modTrk r (fun x => { x with pos := some b.toNat, due := due })

/-! ### Analog comparators (R277, R278) -/

/-- The bounds of the threshold of code `k` in nV, VAA_MF from 1.71 V to 1.89 V, ±1 LSB, ±5 mV. -/
def thresholdNv (k : Nat) : Int × Int :=
  (((k : Int) - 1) * 1710000000 / 1024 - 5000000, ((k : Int) + 1) * 1890000000 / 1024 + 5000000)

/-- A voltage in nV lies above a threshold known within bounds; free between them (log entry 21). -/
def aboveFree (v lo hi : Int) (s : State) : Bool × State := if hi < v then (true, s) else if v ≤ lo then (false, s) else s.anyBool

/-- HYST in nV. -/
def hystNv (k : Nat) : Int := if k = 0 then 0 else 10000000 * 2 ^ (k - 1)

/-- The comparison of comparator `n`'s pin with its thresholds. -/
def compareAc (n : Nat) (s : State) : State :=
  if !domOn (compDomain n) s then s
  else
    let x := s.comp n
    let v : Int := 1000 * x.uv
    let hy := hystNv (rd F.comp_CTL_HYST n s)
    let (hl, hh) := thresholdNv (rd F.comp_CTL_HI n s)
    let (ll, lh) := thresholdNv (rd F.comp_CTL_LO n s)
    let dh := if x.hi then hy else 0
    let dl := if x.lo then hy else 0
    let (a, s1) := if rdB F.comp_CTL_EN_HI n s then aboveFree v (hl - dh) (hh - dh) s else (false, s)
    let (b, s2) := if rdB F.comp_CTL_EN_LO n s then aboveFree v (ll + dl) (lh + dl) s1 else (true, s1)
    let hi := a
    let lo := !b
    let s3 := wr F.comp_STAT_OUT n (if hi || lo then 1 else 0) (s2.setComp n { x with hi := hi, lo := lo })
    let s4 := if (hi || lo) && !(x.hi || x.lo) then sourceActive 1 n (bump F.comp_STAT_COUNT n s3) else s3
    let s5 := if hi && !x.hi then postEvent (n / 24) 1 n 1 (wr F.comp_STAT_TRIP_HI n 1 s4) else s4
    if lo && !x.lo then postEvent (n / 24) 1 n 2 (wr F.comp_STAT_TRIP_LO n 1 s5) else s5

/-- A pin of a comparator takes a voltage, in µV. -/
def crossAc (n uv : Nat) (s : State) : State := compareAc n (s.modComp n (fun x => { x with uv := uv }))

/-- A write of a comparator's CTL: the output follows the comparison with the settled thresholds (R278). -/
def writeComp (n o : Nat) (v : Word) (s : State) : State :=
  let s1 := storeReg .comp n o v s
  if o = 0 then compareAc n s1 else s1

/-! ### Encoder interfaces (R280 to R283) -/

/-- The state of a quadrature pair as a position in its cycle: 00, 10, 11, 01. -/
def quadPos (a b : Bool) : Int := if a then (if b then 2 else 1) else (if b then 3 else 0)

/-- One count of encoder interface `i`. -/
def countEnc (i : Nat) (by_ : Int) (s : State) : State :=
  let ns := rd F.enc_CTL_FILT i s
  let dev := devAgo ns s
  let s1 := wr F.enc_COUNT i (lowBits 36 (encCount i s + by_)) s
  let s2 := wr F.enc_STAT_DIR i (if by_ < 0 then 1 else 0) (wr F.enc_EDGE_T i (timeFOf dev).toNat s1)
  edgeToTbs i ((s.clock.tick : Int) - ns) dev s2

/-- R280, R282: the qualified levels of encoder interface `i` become `a`, `b`. -/
def encoderEdge (i : Nat) (a b : Bool) (s : State) : State :=
  let x := s.enc i
  if !domOn (encDomain i) s ∨ (x.a = a ∧ x.b = b) then s
  else
    let s1 := s.setEnc i { a := a, b := b }
    let sw := rdB F.enc_CTL_SWAP i s
    let (oa, ob) := if sw then (x.b, x.a) else (x.a, x.b)
    let (na, nb) := if sw then (b, a) else (a, b)
    match rd F.enc_CTL_MODE i s with
    | 1 =>
      let d := (quadPos na nb - quadPos oa ob) % 4
      if d = 2 then postEvent (i / 8) 3 i 1 (bump F.enc_STAT_QERR i s1)
      else countEnc i (if d = 1 then 1 else -1) s1
    | 2 => if na && !oa then countEnc i (if nb then 1 else -1) s1 else s1
    | 3 =>
      let s2 := if na && !oa then countEnc i 1 s1 else s1
      if nb && !ob then countEnc i (-1) s2 else s2
    | _ => s1

/-- R283: a rising edge of the qualified index input. -/
def encoderIndex (i : Nat) (s : State) : State :=
  let x := s.enc i
  if !domOn (encDomain i) s ∨ rd F.enc_CTL_MODE i s = 0 ∨ (rdB F.enc_CTL_IDXQ i s ∧ !(x.a && x.b)) then s
  else
    let t := timeFOf (devAgo (rd F.enc_CTL_FILT i s) s)
    let s1 := wr F.enc_IDX_T i t.toNat (wr F.enc_IDX_CNT i (rd F.enc_COUNT i s) s)
    indexToTbs i (postEvent (i / 8) 3 i 2 (wr F.enc_STAT_IDX_SEEN i 1 s1))

/-- R281: a pulse shorter than FILT + 1 samples. -/
def encoderGlitch (i : Nat) (s : State) : State :=
  if domOn (encDomain i) s ∧ rd F.enc_CTL_MODE i s ≠ 0 ∧ rd F.enc_CTL_FILT i s ≠ 0 then bump F.enc_STAT_GLITCH i s else s

/-- A write of word `o` of encoder interface `i`; a write of COUNT moves no timebase (R283). -/
def writeEnc (i o : Nat) (v : Word) (s : State) : State :=
  let s1 := storeReg .enc i o v s
  if o = 1 then countToTbs i (encCount i s) s1 else s1

/-- A write of word `o` of a tracker (0 to 7 RT, 8 to 15 GT); a tracker that is enabled has no previous sample. -/
def writeTrk (r o : Nat) (v : Word) (s : State) : State :=
  let s1 := storeReg (if r < 8 then .rt else .gt) (r % 8) o v s
  if o = 0 ∧ rdB (trkF r 0 0 1) (r % 8) s1 ∧ !rdB (trkF r 0 0 1) (r % 8) s then s1.setTrk r Trk.init else s1

/-! ### Power (R263) -/

/-- A domain's comparators and windows that were not active before (`s0`) turn active as the domain goes off, at every bank that names them
(R263). -/
def frontSources (d : Nat) (s0 s : State) : State :=
  let s1 := forN 12 (fun i s => let n := 12 * (d - 32) + i; if (s0.comp n).hi || (s0.comp n).lo then s else sourceActive 1 n s) s
  forN 24 (fun i s => let c := 24 * (d - 32) + i; if (s0.chan c).out ≠ 0 then s else sourceActive 3 c s) s1

/-- R263, R291: a measurement-front domain goes off: what it holds unpushed is discarded. -/
def frontDown (d : Nat) (s : State) : State :=
  let s1 := forN 3 (fun i s => s.setGrp (3 * (d - 32) + i) Grp.init) s
  let s2 := forN 24 (fun i s => s.setChan (24 * (d - 32) + i) Chan.init) s1
  let s3 := forN 16 (fun r s => if trkDomain (r % 8) = d then s.setTrk r Trk.init else s) s2
  let s4 := forN 4 (fun i s => s.setEnc (4 * (d - 32) + i) Enc.init) s3
  let s5 := forN 12 (fun i s => s.modComp (12 * (d - 32) + i) (fun x => { x with hi := false, lo := false })) s4
  frontSources d s (s5.modEvt ((d - 32) / 2) (fun x => { x with held := none }))

/-- R263: after a measurement-front domain has powered up, each comparator follows its pin. -/
def frontUp (d : Nat) (s : State) : State := forN 12 (fun i s => compareAc (12 * (d - 32) + i) s) s

end Sys2Proof.Machine
end

