-- ==== Sys2Proof/Machine/Image.lean ====
section
/-! DEFINITION. The lattice image (R512 to R520, R527): sections, their checks, and what applying them writes. -/

set_option Elab.async false

namespace Sys2Proof.Machine

/-! ### Sections -/

/-- TYPE of a section (Table ST-6). -/
def Section.typ (x : Section) : Nat := gbits x.hdr 0 28 8
/-- INST. -/
def Section.inst (x : Section) : Nat := gbits x.hdr 0 20 8
/-- LEN. -/
def Section.len (x : Section) : Nat := gbits x.hdr 1 0 8

/-- R512: the section that a run of granules makes. -/
def sectionOf (gs : List Granule) : Option Section :=
  match gs with
  | [] => none
  | h :: b => some { hdr := h, body := b }

/-- R512: every granule carries tag 0x7, and the last 0xF. -/
def sectionTags : List Granule → Bool
  | [] => false
  | [g] => granTag g == 15
  | g :: l => granTag g == 7 && sectionTags l

/-- R513: the CRC that a section's granules give. -/
def Section.crc (x : Section) : Nat := crcGrans (granPut x.hdr 216 36 0 :: x.body)

/-- R513: the CRC of a section is right. -/
def Section.crcOk (x : Section) : Bool := x.crc == gbits x.hdr 6 0 32

/-- The register-list granules of a section (Table ST-6, R515). -/
def Section.lists (x : Section) : List Granule :=
  if x.typ = 2 then x.body.drop 1 else if [4, 5, 6, 7, 8, 9, 11, 12].contains x.typ then x.body else []

/-- R514: the pairs of address and value of a register-list granule. -/
def pairsOf (g : Granule) : List (Nat × Word) := (List.range (gbits g 6 0 2)).map (fun k => (gbits g (2 * k) 0 32, granWord g (2 * k + 1)))

/-- The register writes of a section, in image order. -/
def Section.writes (x : Section) : List (Nat × Word) := x.lists.flatMap pairsOf

/-- A context record (Table ST-8): its context and words A, B, C. -/
structure CtxRec where
  cid : Nat
  a   : Word
  b   : Word
  c   : Word
deriving DecidableEq, Repr

/-- R516: the records of a CONTEXT body granule. -/
def recordsOf (g : Granule) : List CtxRec :=
  (List.range (gbits g 6 12 2)).map (fun i =>
    { cid := gbits g 6 0 12 + i, a := granWord g (3 * i), b := granWord g (3 * i + 1), c := granWord g (3 * i + 2) })

/-- The context records of a section. -/
def Section.records (x : Section) : List CtxRec := if x.typ = 3 then x.body.flatMap recordsOf else []

/-- HANDLER and the actions of a context record as CFG of Table SH-5 holds them. -/
def CtxRec.cfg (r : CtxRec) : Word :=
  BitVec.ofNat 36 (bits r.b 25 1 * 2 ^ 13 + bits r.b 21 4 * 2 ^ 9 + bits r.b 19 2 * 2 ^ 7 + bits r.b 18 1 * 2 ^ 6 + bits r.b 16 2 * 2 ^ 4
    + bits r.b 14 2 * 2 ^ 2)

/-- The first register of the control register space. -/
def ctlBase : Nat := 0x08000000

/-- Table ST-6: the registers that a section of a type may name. -/
def mayName (t : Nat) (b : Blk) (o : Nat) : Bool :=
  match t, b with
  | 2, .pwr => [4, 5, 14, 15].contains o
  | 4, .qpl | 4, .desc => true
  | 5, .dma | 5, .cq | 5, .ch => true
  | 6, .tbu | 6, .tb => true
  | 7, .mfr | 7, .grp | 7, .chan | 7, .comp | 7, .enc | 7, .rt | 7, .gt => true
  | 8, .evo | 8, .bank | 8, .gen | 8, .pin => true
  | 9, .qdl | 9, .link | 9, .route | 9, .hst | 9, .ring => true
  | 11, .jsp => true
  | 12, .clu | 12, .sch => true
  | _, _ => false

/-- R514: the loader may set the field; DEV_ID too, which a STATIC device takes from its image (R448, log entry 27). -/
def loadable (b : Blk) (o : Nat) (f : Fld) : Bool := f.acc = .rw || f.img || (b = .qdl && o == 0)

/-- A register as an image write leaves it. -/
def storeImage (k : Nat) (v : Word) (s : State) : State :=
  match locate k with
  | none => s
  | some (b, _, o) =>
    s.setReg k ((fieldsAt b o).foldl (fun w f => if loadable b o f then setBits w f.lo f.w (bits v f.lo f.w) else w) (s.reg k))

/-- The register writes and context records of a section, stored with no effect besides. -/
def storeSection (x : Section) (s : State) : State :=
  let s1 := x.writes.foldl (fun s w => storeImage (w.1 - ctlBase) w.2 s) s
  x.records.foldl (fun s r => storeImage (keyOf .sctx r.cid 0) r.cfg s) s1

/-- The registers that a start leaves alone: PWR, JSP and the always-on fields of QDL (R449, R497, R498). -/
def keptAtStart (b : Blk) (o : Nat) : Bool := b = .pwr || b = .jsp || (b = .qdl && (o == 0 || o == 4)) || (b = .clu && o == 7)

/-- The registers that a test selects at their Reset values. -/
def resetBlocks (p : Blk → Nat → Nat → Bool) (s : State) : State :=
  { s with regs := s.regs.filter (fun kv => match locate kv.1 with | some (b, i, o) => !p b i o | none => true) }

/-- R497: the image has a JASPER section, which replaces the rules that stand. -/
def newRules (ss : List Section) : Bool := ss.any (fun x => x.typ == 11)

/-- A word of Jasper's rules (Table PW-12). -/
def ruleWord (b : Blk) (o : Nat) : Bool := b = .jsp && decide (64 ≤ o ∧ o < 192)

/-- R497: the rules at their Reset values, q false, no condition held and the holds begun again, where the image replaces them; the latches stay (log entry 117). -/
def dropRules (ss : List Section) (s : State) : State :=
  if newRules ss then
    let s1 := (resetBlocks (fun b _ o => ruleWord b o) s).setReg (keyOf .jsp 0 52) 0
    { s1.setReg (keyOf .jsp 0 53) 0 with jsp := { s1.jsp with hold := [], cond := [] } }
  else s

/-- R527: what every register would hold once the sections have been applied. -/
def wouldHold (ss : List Section) (s : State) : State :=
  ss.foldl (fun s x => storeSection x s) (dropRules ss (resetBlocks (fun b _ o => !keptAtStart b o) s))

/-! ### Checks of one section (Table ST-9)

Each gives the codes of the failures found; the lowest is the reason reported (log entry 28). -/

/-- A failure code where a condition holds. -/
def fails (code : Nat) (b : Bool) : List Nat := if b then [code] else []

/-- A number is not zero. -/
def nz (x : Nat) : Bool := x != 0

/-- Table ST-7. -/
def headerCheck (x : Section) (s : State) : List Nat :=
  let h := x.hdr
  fails 1 (gbits h 2 18 18 != 0o652134 || gbits h 2 9 9 != 1 || gbits h 5 9 27 != (s.reg 0).toNat / 2 ^ 9 || nz x.len)
  ++ fails 3 (nz x.inst || nz (gbits h 2 0 9) || nz (gbits h 4 26 10) || nz (gbits h 5 0 9))
  ++ fails 6 (gbits h 3 0 36 == 0 || gbits h 4 23 2 == 3)

/-- Table ST-9 for one write of a register list, in the registers as they would stand before it; a descriptor's CLASS, which MARK_POL depends
on, is that of the same write. -/
def writeCheck (t : Nat) (w : Nat × Word) (s : State) : List Nat :=
  if w.1 < ctlBase then [5]
  else match locate (w.1 - ctlBase) with
    | none => [5]
    | some (b, i, o) =>
      let fs := fieldsAt b o
      let after := if b = .desc then storeImage (w.1 - ctlBase) w.2 s else s
      if fs.isEmpty || !mayName t b o then [5]
      else
        let named := fs.foldl (fun a f => a + 2 ^ f.lo * (2 ^ f.w - 1)) 0
        let consist (f : Fld) : Bool := b = .jsp && decide (64 ≤ o) && (f.lo == 14 || (o % 2 == 1 && (f.lo == 7 || f.lo == 11)))
        fails 3 (nz (w.2.toNat &&& (2 ^ 36 - 1 - named)))
        ++ fails 6 (fs.any (fun f =>
            if loadable b o f then !fieldOk b i o f.lo (bits w.2 f.lo f.w) w.2 after && !consist f else bits w.2 f.lo f.w != f.rst))

/-- The writes of a section in turn. -/
def writesCheck (t : Nat) : List (Nat × Word) → State → List Nat
  | [], _ => []
  | w :: l, s => writeCheck t w s ++ writesCheck t l (storeImage (w.1 - ctlBase) w.2 s)

/-- R514: the layout of a register-list granule. -/
def listCheck (g : Granule) : List Nat :=
  let n := gbits g 6 0 2
  fails 1 (n == 0)
  ++ fails 3 (nz (gbits g 6 2 34) || (List.range 3).any (fun k =>
      nz (gbits g (2 * k) 32 4) || (decide (n ≤ k) && (nz (gbits g (2 * k) 0 36) || nz (gbits g (2 * k + 1) 0 36)))))

/-- R515: the map granule of a DOMAIN section. -/
def mapCheck (g : Granule) : List Nat :=
  fails 3 (nz (gbits g 1 14 22) || (List.range 5).any (fun i => nz (gbits g (2 + i) 0 36))) ++ fails 7 (gbits g 1 12 2 != 3)

/-- Table ST-8: one context record. -/
def recordCheck (r : CtxRec) : List Nat :=
  let start := bits r.b 12 2
  fails 3 (nz (bits r.a 32 4) || nz (bits r.b 0 12))
  ++ fails 5 (decide (4096 ≤ r.cid) || (codeGran (clusterOf r.cid) (r.a.setWidth 32)).isNone)
  ++ fails 6 (bits r.b 19 2 == 3 || bits r.b 16 2 == 3 || bits r.b 14 2 == 3 || start == 3 || (start != 2 && nz r.c.toNat))
  ++ fails 7 (bits r.b 25 1 == 1 && bits r.b 21 4 == r.cid % 16)

/-- R516: a CONTEXT body granule. -/
def contextCheck (g : Granule) : List Nat :=
  let n := gbits g 6 12 2
  fails 1 (n == 0 || n == 3)
  ++ fails 3 (nz (gbits g 6 14 22) || (n == 1 && (List.range 3).any (fun i => nz (gbits g (3 + i) 0 36))))
  ++ (recordsOf g).flatMap recordCheck

/-- R517: START, KIND and the granules that an IMEM section covers, as START and count. -/
def Section.imem (x : Section) : Nat × Nat × Nat := (gbits x.hdr 2 0 16, gbits x.hdr 2 16 1, x.body.length)

/-- R517: an IMEM section against those before it. -/
def imemCheck (x : Section) (before : List Section) : List Nat :=
  let (a, _, n) := x.imem
  fails 3 (nz (gbits x.hdr 2 17 19) || (List.range 3).any (fun i => nz (gbits x.hdr (3 + i) 0 36)))
  ++ fails 5 (decide (32 ≤ x.inst) || decide (65536 < a + n))
  ++ fails 7 (before.any (fun y => y.typ == 10 && y.inst == x.inst && decide (a < y.imem.1 + y.imem.2.2) && decide (y.imem.1 < a + n)))

/-- The END section: its length, the whole image's TOTAL and size, the DOMAIN section (R512, R517). -/
def endCheck (x : Section) (before : List Section) : List Nat :=
  let h := before.headD x
  let auth := gbits h.hdr 4 22 1 == 1
  let all := before ++ [x]
  fails 1 (x.len != (if auth then 5 else 0) || (all.map (fun y => y.body.length + 1)).sum != gbits h.hdr 4 0 22)
  ++ fails 4 (!before.any (fun y => y.typ == 2))
  ++ fails 8 (decide (8704 < all.countP (fun y => y.typ == 10)) ||
      decide (4096 < ((all.filter (fun y => y.typ != 10)).map (fun y => y.body.length + 1)).sum))

/-- Table ST-9 for a section that follows the sections `before`, up to what the image as a whole must satisfy. -/
def sectionCheck (gs : List Granule) (x : Section) (before : List Section) (s : State) : List Nat :=
  let t := x.typ
  let virt := wouldHold before s
  fails 1 (!sectionTags gs || x.len != x.body.length || (before.isEmpty && t != 1))
  ++ fails 2 (!x.crcOk)
  ++ fails 3 (nz (gbits x.hdr 0 0 20) || nz (gbits x.hdr 1 8 28) || nz (gbits x.hdr 6 32 4) || (t != 10 && nz x.inst)
      || (t != 1 && t != 10 && (List.range 4).any (fun i => nz (gbits x.hdr (2 + i) 0 36))))
  ++ fails 4 (t == 0 || t == 13 || t == 14 || decide (16 ≤ t) || (t == 2 && before.any (fun y => y.typ == 2)))
  ++ (match t with
      | 1 => headerCheck x s
      | 2 => fails 1 x.body.isEmpty ++ (x.body.take 1).flatMap mapCheck
      | 3 => x.body.flatMap contextCheck
        ++ fails 7 (x.records.zipIdx.any (fun r => (x.records.drop (r.2 + 1)).any (fun q => q.cid == r.1.cid)
            || before.any (fun y => y.records.any (fun q => q.cid == r.1.cid))))
      | 10 => imemCheck x before
      | 15 => endCheck x before
      | _ => [])
  ++ x.lists.flatMap listCheck ++ writesCheck t x.writes virt

/-- The least of some codes. -/
def leastCode : List Nat → Option Nat
  | [] => none
  | c :: l => some (l.foldl min c)

/-! ### Checks of the whole image -/

/-- R347, R349: the die of an endpoint; none for an EVO command input. -/
def endpointDie (kind inst : Nat) : Option Nat :=
  match kind with
  | 1 => some (dieOf (inst / 32))
  | 2 => some (inst / 24)
  | 3 | 5 => some inst
  | 6 | 7 => some 0
  | 8 => some (inst / 12)
  | _ => none

/-- The queues that the image gives. -/
def imageQueues (ss : List Section) : List Nat :=
  ((ss.flatMap Section.writes).filterMap (fun w => match locate (w.1 - ctlBase) with | some (.desc, q, _) => some q | _ => none)).eraseDups

/-- R349: one queue of the image, against the others. -/
def queueBad (qs : List Nat) (q : Nat) (s : State) : Bool :=
  let pk := rd F.desc_PROD_KIND q s
  let pi := rd F.desc_PROD_INST q s
  let ck := bits (rdW F.desc_CONS q s) 17 4
  let ci := bits (rdW F.desc_CONS q s) 0 17
  let cap := qCap s q
  !([1, 2, 3, 5, 6, 7, 8].contains pk) || !([1, 4, 6, 7, 8].contains ck)
  || qs.any (fun r => r != q && rd F.desc_PROD_KIND r s == pk && rd F.desc_PROD_INST r s == pi)
  || qs.any (fun r => r != q && bits (rdW F.desc_CONS r s) 17 4 == ck && bits (rdW F.desc_CONS r s) 0 17 == ci && (ck != 4 || r / 4096 == q / 4096))
  || (match endpointDie ck ci with | some d => d != q / 4096 | none => false)
  || cap == 0 || decide (cap < rd F.desc_CAP_RESERVE q s)
  || (!qIsD s q && (pk == 2 || pk == 3 || pk == 5)) || (qIsD s q && ck == 4) || (pk == 2 && decide (cap < 2))

/-- R236, R222: timebase `n`. -/
def timebaseBad (n : Nat) (s : State) : Bool :=
  let kind := tbKind n s
  (rdB F.tb_CTL_EN n s && ((kind == 1 && decide (rd F.tb_TIMING_UPD_PER n s < 100))
    || (kind != 0 && kind != 4 && rd F.tb_TIMING_LOSS_TO n s == 0)))
  || (rd F.tb_CTL_LOSS_ACT n s == 2 && rd F.tb_CTL_FB n s == n)

/-- R291: group `g` and its channels. -/
def groupBad (g : Nat) (s : State) : Bool :=
  let dec := rd F.grp_CTL_DEC g s
  let div := rd F.grp_CTL_CLKDIV g s
  (rdB F.grp_CTL_EN g s && (decide (dec < 4 ∨ 1024 < dec)
    || (if rdB F.grp_CTL_CLKMODE g s then decide (rd F.grp_CTL_CLK_TO g s < 30) else decide (div < 40 ∨ 200 < div))))
  || (List.range 8).any (fun i =>
      let f := rd F.chan_CFG_FDEC (8 * g + i) s
      rd F.chan_CFG_FORDER (8 * g + i) s != 0 && decide (f < 4 ∨ 32 < f))

/-- R284: an enabled tracker reads a group of its own die. -/
def trackerBad (r : Nat) (s : State) : Bool := rd (trkF r 0 0 1) (r % 8) s == 1 && rd (trkF r 0 1 4) (r % 8) s / 6 != r % 8 / 4

/-- R318: a time generator that is enabled. -/
def generatorBad (g : Nat) (s : State) : Bool :=
  rdB F.gen_CG_CTL_EN g s && !rdB F.gen_CG_CTL_SRC g s && decide (rd F.gen_PER_SH_VAL g s < 512)

/-- R494, R495: Jasper rule `i`. -/
def ruleBad (i : Nat) (s : State) : Bool :=
  (i == 0 && rdB F.jsp_RULE_A_CHAIN 0 s) ||
    nz (rd (F.jsp_RULE_B_OUT_SET.nth (2 * i)) 0 s &&& rd (F.jsp_RULE_B_OUT_CLR.nth (2 * i)) 0 s)

/-- R519, R527: the consistency of the whole image. -/
def consistencyBad (ss : List Section) (s : State) : Bool :=
  let v := wouldHold ss s
  let qs := imageQueues ss
  qs.any (fun q => queueBad qs q v) || decide (131072 < reserveSum v 0) || decide (131072 < reserveSum v 1)
  || (List.range 64).any (fun n => timebaseBad n v) || (List.range 12).any (fun g => groupBad g v)
  || (List.range 16).any (fun r => trackerBad r v) || (List.range 64).any (fun g => generatorBad g v)
  || (List.range 64).any (fun i => ruleBad i v)

/-- R520: the bit string of an END body, and whether the bits after it are zero. -/
def authString (body : List Granule) : Nat × Bool :=
  let n := (body.flatMap (fun g => granWords g 7)).foldl (fun a w => a * 2 ^ 36 + w.toNat) 0
  (n / 2 ^ 236, n % 2 ^ 236 == 0)

/-- R520: the signature of an image, and its key, against the OTP. -/
def authCheck (ss : List Section) (s : State) : List Nat :=
  match ss.head?, ss.getLast? with
  | some h, some e =>
    if gbits h.hdr 4 22 1 = 0 then fails 9 s.start.authReq
    else
      let (n, zero) := authString e.body
      let qx := n / 2 ^ 768
      let qy := n / 2 ^ 512 % 2 ^ 256
      let msg := (ss.dropLast.flatMap (fun x => x.hdr :: x.body) ++ [e.hdr]).flatMap granBytes
      fails 3 (!zero)
      ++ fails 9 ((s.start.keySet && sha256 (beBytes qx ++ beBytes qy) != s.start.key.toNat)
          || !ecdsaOk qx qy (n / 2 ^ 256 % 2 ^ 256) (n % 2 ^ 256) (sha256 msg))
  | _, _ => []

/-- R398: the completion rings whose place the image gives, as it leaves them. -/
def ringsBad (ss : List Section) (s : State) : Bool :=
  let v := wouldHold ss s
  (ss.flatMap Section.writes).any (fun w => match locate (w.1 - ctlBase) with
    | some (.cq, q, o) => decide (o < 2) && !ringPlaced (rd F.cq_CQ_BASE_ADDR q v) (rd F.cq_CQ_CFG_SIZE_LOG q v)
    | _ => false)

/-- Table ST-9 for the image that a section ends. -/
def imageCheck (ss : List Section) (s : State) : List Nat :=
  fails 6 (ringsBad ss s) ++ fails 7 (consistencyBad ss s) ++ authCheck ss s

/-! ### What applying an image writes -/

/-- R517: the granule that body granule `i` of an IMEM section gives the store. -/
def imemGranule (x : Section) (g : Granule) : Granule := granPut g 252 4 (1 + x.imem.2.1)

/-- R517, R323, R324: an instruction-store granule is read, and written where its words or tag differ from what is held. -/
def writeIfDifferent (g : Nat) (v : Granule) (s : State) : State :=
  let r := readGran g s
  if r.data = v ∧ r.pb = false then r.st
  else (writeGran g v false r.st).claimPrograms r.st.program.length 65

/-- R517: an IMEM section written as it arrives. -/
def writeImem (x : Section) (s : State) : State :=
  x.body.zipIdx.foldl (fun s e => writeIfDifferent (imemG x.inst (x.imem.1 + e.2)) (imemGranule x e.1) s) s

/-- R517: a section covers granule `g` of the instruction stores. -/
def Section.coversImem (x : Section) (g : Nat) : Bool :=
  x.typ == 10 && decide (imemG x.inst x.imem.1 ≤ g) && decide (g < imemG x.inst x.imem.1 + x.body.length)

/-- The instruction-store granules that may hold something other than a blank. -/
def usedImem (s : State) : List Nat :=
  (((s.mem.map (fun (c : Host.Cell) => c.1 / 32)) ++ s.poison ++ s.errs.map (fun (e : Nat × Nat) => e.1)).filter isImem).eraseDups

/-- R517: every granule that no section covers becomes blank. -/
def blankImem (ss : List Section) (s : State) : State :=
  ((usedImem s).filter (fun g => !ss.any (fun x => x.coversImem g))).foldl (fun s g => writeIfDifferent g 0 s) s

/-- `n` granules of an instruction store from granule `g` on, read (R323, R324). -/
def readImem : Nat → Nat → State → List Granule × State
  | 0, _, s => ([], s)
  | n + 1, g, s =>
    let r := readGran g s
    let t := readImem n (g + 1) r.st
    (r.data :: t.1, t.2)

/-- R509: the CRC of an IMEM section over what the instruction store holds now; the store is read. -/
def imemCrcOk (x : Section) (s : State) : Bool × State :=
  if x.typ ≠ 10 then (true, s)
  else
    let n := x.body.length
    let (l, s1) := readImem n (imemG x.inst x.imem.1) s
    let now := l.zipIdx.map (fun e => granPut e.1 252 4 (if e.2 + 1 = n then 15 else 7))
    (crcGrans (granPut x.hdr 216 36 0 :: now) == gbits x.hdr 6 0 32, s1)

/-- R516, R518: the contexts as the image gives them; one that no record names is UNBOUND. -/
def applyContexts (ss : List Section) (s : State) : State :=
  let recs := ss.flatMap Section.records
  { s with ctxs := (List.range 4096).map (fun cid => (cid, match recs.find? (fun r => r.cid = cid) with
      | none => { Ctx.init with st := .unbound }
      | some r =>
        { Ctx.init with
          pc := r.a.setWidth 32, entry := some (r.a.setWidth 32), pri := bits r.b 32 4, tbr := bits r.b 26 6, start := bits r.b 12 2,
          target := r.c })) }

/-- A domain map (R515) has domain `d` on. -/
def mapOn (ss : List Section) (d : Nat) : Bool :=
  match ss.find? (fun x => x.typ = 2) with
  | some x => (match x.body with | g :: _ => gbits g (d / 36) (d % 36) 1 == 1 | [] => false)
  | none => false

/-- The registers of the domain `d`, but for the always-on fields of QDL. -/
def inDomain (d : Nat) (b : Blk) (i o : Nat) : Bool := blkDomain b i == some d && !keptAtStart b o

/-- The image's writes of the registers that a test selects, in image order; the EN of a link or of a ring takes its effect. -/
def applyWrites (ss : List Section) (p : Blk → Nat → Nat → Bool) (s : State) : State :=
  ss.foldl (fun s x =>
    let s1 := x.writes.foldl (fun s w =>
      match locate (w.1 - ctlBase) with
      | some (b, i, o) =>
        if !p b i o then s
        else if b = .link ∧ o = 0 then writeLinkCtl i w.2 s
        else if b = .ring ∧ o = 0 then writeRingCtl i w.2 s
        else storeImage (w.1 - ctlBase) w.2 s
      | none => s) s
    x.records.foldl (fun s r => if p .sctx r.cid 0 then storeImage (keyOf .sctx r.cid 0) r.cfg s else s) s1) s

/-- What the registers of domain `d` set going once the image has written them. A timebase stands at the OFFSET that the image gives (R211). -/
def activate (d : Nat) (s : State) : State :=
  if d < 32 then s
  else if d < 36 then frontUp d s
  else if d < 40 then
    let b := d - 36
    let s1 := forN 16 (fun i s => if rdB F.gen_CG_CTL_EN (16 * b + i) s then startGen (16 * b + i) s else s) s
    forN 32 (fun i s => refreshPin (32 * b + i) s) s1
  else if d = 48 then
    restartAlign (forN 64 (fun n s =>
      let p := rd F.tb_OFFSET n s
      let s1 := if p = 0 then s else s.modTb n (fun x => { x with pu := (p : Int) * 2 ^ 24 })
      if rdB F.tb_CTL_EN n s && tbKind n s != 0 then restartTb n s1 else s1) s)
  else s

/-- R240: the start action of a context. -/
def startAction (cid : Nat) (s : State) : State :=
  let x := s.ctx cid
  if x.st = .unbound then s
  else match x.start with
    | 1 => offerReq (reqOf cid 2 s) s
    | 2 =>
      let (_, t, s1) := armAngle cid x.tbr x.target none s
      s1.modCtx cid (fun x => { x with trg := t })
    | _ => s

end Sys2Proof.Machine
end

