-- ==== Sys2Proof/Machine/Power.lean ====
section
/-! DEFINITION. The power manager (chapter 16, R37 to R46, R60 to R66): domains, the request and grant handshake, entries, wakes, the core
rails and the temperature sensors. -/

set_option Elab.async false

namespace Sys2Proof.Machine

/-- PWR.MODE. -/
def modeOf (s : State) : Nat := rd F.pwr_MODE 0 s

/-- Main rails are in use: STANDBY, RUN or BOOST (R40, R52). -/
def railsUsed (s : State) : Bool := modeOf s == 1 || modeOf s == 4 || modeOf s == 5

/-- A start is in progress, or a failed one waits for its retry. -/
def starting (s : State) : Bool := s.start.step != 0 || s.start.failed

/-- Table PW-3. -/
def statusWord (code ap domain reason wake : Nat) : Word :=
  BitVec.ofNat 36 (wake * 2 ^ 20 + reason * 2 ^ 12 + domain * 2 ^ 6 + ap * 2 ^ 4 + code)

/-- A record whose DETAIL the spec does not give: it is free (log entry 29). Word 6 is `w`. -/
def raiseWord (lvl i cause : Nat) (notice : Bool) (w : Nat) (s : State) : State :=
  let (d, s1) := s.anyBelow (2 ^ 20)
  raise { scope := { lvl := lvl, i := i }, cause := cause, notice := notice, reason := 0, prec := false, slot := 0, detail := d, pc := 0,
          addr := 0, word := w } s1

/-- A record whose word 6 the spec does not give either: it is free (log entry 29). -/
def raiseOpen (lvl i cause : Nat) (notice : Bool) (s : State) : State :=
  let (w, s1) := s.anyBelow (2 ^ 36)
  raiseWord lvl i cause notice w s1

/-! ### Domains -/

/-- The contexts of cluster `c`. -/
def clusterCtxs (c : Nat) : List Nat := (List.range 128).map (128 * c + ·)

/-- The bytes of cluster `c`'s data SRAM, its poison and its errors gone: it reads zero with a valid code (R487). -/
def clearDmem (c : Nat) (s : State) : State :=
  let keep (g : Nat) : Bool := g / 32768 != c || decide (imemBase ≤ g)
  { s with mem := s.mem.filter (fun (x : Host.Cell) => keep (x.1 / 32)), poison := s.poison.filter keep,
           errs := s.errs.filter (fun (e : Nat × Nat) => keep e.1) }

/-- R487: the contexts of a cluster whose domain goes off: disarmed, HALTED, their open items aborted (R368). -/
def ctxOff (cid : Nat) (s : State) : State :=
  if (s.ctx cid).st = .unbound then s
  else
    let s1 := s.modHeap cid (fun h => { h.cleared with deferred := false })
    abortItems cid (s1.modCtx cid (fun x =>
      { x with st := .halted, pend := [], traps := [], replay := [], rload := none, wait := .none, req := none, atBit := false, dlBit := false }))

/-- A cluster domain goes off (R487); `keep` when its data SRAM is retained in place (RETAIN). -/
def clusterOff (c : Nat) (keep : Bool) (s : State) : State :=
  let s1 := forN 8 (fun i s => s.setUnit (8 * c + i) UnitSt.init) ((clusterCtxs c).foldl (fun s cid => ctxOff cid s) s)
  let gone (w : Scope) : Bool := w.lvl = 1 && w.i == c
  let s2 : State :=
    { s1 with
      posted := s1.posted.filter (fun p => clusterOf p.cid != c)
      program := s1.program.filter (fun p => granMemory p.g != 32 + c)
      contain := { s1.contain with held := s1.contain.held.filter (fun w => !gone w), windows := s1.contain.windows.filter (fun w => !gone w) } }
  if keep then s2 else clearDmem c s2

/-- A backbone domain (D48 + d) initialised: queue pool, heaps, crossings and, for d = 0, the timebase unit and the fabric's state. -/
def backboneOff (d : Nat) (s : State) : State :=
  let s1 : State :=
    { s with
      queues := s.queues.filter (fun e => e.1 / 4096 != d)
      heaps := s.heaps.filter (fun e => dieOf e.1 != d)
      xings := s.xings.filter (fun e => e.1 / 10 != d)
      reqs := s.reqs.filter (fun r => dieOf r.cid != d)
      evts := s.evts.filter (fun e => e.1 % 2 != d)
      contain := { s.contain with
        held := s.contain.held.filter (fun w => !(w.lvl = 2 && w.i / 4 == d) && !(w.lvl = 3 && w.i == d))
        windows := s.contain.windows.filter (fun w => !(w.lvl = 2 && w.i / 4 == d) && !(w.lvl = 3 && w.i == d)) } }
  let s2 := forN 4 (fun i s => wr (F.pwr_TS_VALID.nth (4 * d + i)) 0 0 s) (wr (F.pwr_TS_VALID.nth (8 + d)) 0 0 s1)
  if d = 0 then
    { s2 with
      tbs := []
      pps := { s2.pps with lastEdge := none, goodRun := 0, prevErr := none, freq := 0, goodAt := none, outHigh := false }
      qdl := { State.reset.qdl with mseq := s2.qdl.mseq, unread := [] } }
  else s2

/-- What a domain holds is gone (R66, R487, R263, R407, R432); `keep` for a data SRAM that is retained. -/
def loseDomain (d : Nat) (keep : Bool) (s : State) : State :=
  if d < 32 then clusterOff d keep s
  else if d < 36 then frontDown d s
  else if d < 40 then
    let b := d - 36
    let s1 := forN 32 (fun i s => s.setEvPin (32 * b + i) Pin.init) (forN 16 (fun i s => s.setGen (16 * b + i) Gen.init) s)
    let s2 := s1.setBank b Bank.init
    { s2 with pins := { s2.pins with safeN := s2.pins.safeN ||| 2 ^ b } }
  else if d = 40 then { s with dma := [] }
  else if d = 41 then { s with host := { State.reset.host with cmds := s.host.cmds.filter (·.fwd) } }
  else if d < 48 then s.setLink (d - 42) Link.init
  else backboneOff (d - 48) s

/-- R376: domain `d` has powered off or on while the other side of its crossing stays on: D41 at X_HP, D42 to D47 at X_QD0 to X_QD5, and the
backbones at X_AO, whose other side is always on. -/
def crossingReset (d : Nat) (s : State) : State :=
  if d = 41 ∧ domOn 48 s then assertFar 9 s
  else if 42 ≤ d ∧ d < 48 ∧ domOn (48 + (d - 42) / 3) s then assertFar (linkXing (d - 42)) s
  else if 48 ≤ d ∧ domOn d s then assertNear (10 * (d - 48) + 5) s
  else s

/-- A domain is isolated and switched off: its registers return to their Reset values. -/
def domainOff (d : Nat) (keep : Bool) (s : State) : State :=
  if !domOn d s then s
  else
    let s0 := if 42 ≤ d ∧ d < 48 ∧ linkState (d - 42) s ≠ 0 then setLinkState (d - 42) 0 s else s
    crossingReset d (resetBlocks (inDomain d) (loseDomain d keep (setDom d false s0)))

/-- R507: the instruction store of cluster `c` is read and decoded; the uncorrectable granules of the fullest bank. -/
def checkImem (c : Nat) (s : State) : Nat × State :=
  let gs := ((s.errs.map (fun (e : Nat × Nat) => e.1)) ++ s.poison).eraseDups.filter (fun g => isImem g && (g - imemBase) / 65536 == c)
  let r := gs.foldl (fun (acc : List Nat × State) g =>
    let m := readGran g acc.2
    (if m.out = .bad then acc.1 ++ [g % 16] else acc.1, m.st)) ([], s)
  (((List.range 16).map (fun b => r.1.count b)).foldl max 0, r.2)

/-- R487, R66, R315: a domain has powered up: its image writes and, outside a start, its start actions; `image` when the image is applied. -/
def domainUp (d : Nat) (image : Bool) (s : State) : State :=
  let s1 := crossingReset d (setDom d true s)
  let s2 := if image then applyWrites s1.start.stage (inDomain d) s1 else s1
  let s3 := if 36 ≤ d ∧ d < 40 then
      let t := postEvent (2 + (d - 36) / 2) 8 (d - 36) 5 (deviceLatch (d - 36) 5 s2)
      { t with pins := { t.pins with safeN := t.pins.safeN &&& (15 - 2 ^ (d - 36)) } }
    else if 42 ≤ d ∧ d < 48 ∧ !image then writeLinkCtl (d - 42) 1 s2
    else s2
  let s4 := activate d s3
  if d < 32 ∧ image then
    let t := (clusterCtxs d).foldl (fun s cid => releaseCtx true cid s) s4
    if s.start.step = 0 then (clusterCtxs d).foldl (fun s cid => startAction cid s) t else t
  else s4

/-! ### Core rails (R43 to R46, R489) -/

/-- The fields READ, RAMP and AVS_FAIL of a rail. -/
def railRead (r : Nat) : FRef := if r = 0 then F.pwr_VCORE_STAT_READ_E else F.pwr_VCORE_STAT_READ_W
/-- RAMP of a rail. -/
def railRamp (r : Nat) : FRef := if r = 0 then F.pwr_VCORE_STAT_RAMP_E else F.pwr_VCORE_STAT_RAMP_W
/-- AVS_FAIL of a rail. -/
def railFail (r : Nat) : FRef := if r = 0 then F.pwr_VCORE_STAT_AVS_FAIL_E else F.pwr_VCORE_STAT_AVS_FAIL_W

/-- The target of a rail. -/
def railTarget (r : Nat) (s : State) : Nat := if r = 0 then s.pwr.targetE else s.pwr.targetW
/-- The voltage last requested on a rail. -/
def railAsked (r : Nat) (s : State) : Nat := if r = 0 then s.pwr.askedE else s.pwr.askedW

/-- The target of a rail set. -/
def setTarget (r v : Nat) (s : State) : State :=
  { s with pwr := if r = 0 then { s.pwr with targetE := v } else { s.pwr with targetW := v } }

/-- A voltage is requested on a rail; forward bias goes before one below 0.90 V is (R44). -/
def askRail (r v : Nat) (s : State) : State :=
  let s1 := if v < 180 ∧ rd F.pwr_VCORE_STAT_BIAS 0 s = 1 then wr F.pwr_VCORE_STAT_BIAS 0 0 s else s
  wr (railRamp r) 0 1 { s1 with pwr := if r = 0 then { s1.pwr with askedE := v } else { s1.pwr with askedW := v } }

/-- R43: the voltage on the way from `v` to `t` that one request may ask for: at most 50 mV away. -/
def railStep (v t : Nat) : Nat := if v < t then min t (v + 10) else max t (v - 10)

/-- R43, R46: the next request on a rail at rest, toward its target, at most 50 mV from the voltage read. -/
def stepRail (r : Nat) (s : State) : State :=
  let t := railTarget r s
  let v := rd (railRead r) 0 s
  if rdB (railFail r) 0 s ∨ rdB (railRamp r) 0 s ∨ railAsked r s = t then s
  else askRail r (railStep v t) s

/-- Both rails are given targets. -/
def retarget (e w : Nat) (s : State) : State := stepRail 1 (stepRail 0 (setTarget 1 w (setTarget 0 e s)))

/-- A RUN target that VCORE_CTL gives; where it gives none (R489) the present target stands. -/
def runTarget (r : Nat) (s : State) : Nat :=
  let t := rd (if r = 0 then F.pwr_VCORE_CTL_RUN_E else F.pwr_VCORE_CTL_RUN_W) 0 s
  if 110 ≤ t ∧ t ≤ 180 then t else railTarget r s

/-- The BOOST target; 1.00 V where VCORE_CTL gives none (log entry 30). -/
def boostTarget (s : State) : Nat := let t := rd F.pwr_VCORE_CTL_BOOST 0 s; if 180 ≤ t ∧ t ≤ 200 then t else 200

/-- Both rails return to their RUN targets. -/
def toRunTargets (s : State) : State := retarget (runTarget 0 s) (runTarget 1 s) s

/-- A rail has come to rest at its target, or has timed out. -/
def railDone (r : Nat) (s : State) : Bool := rdB (railFail r) 0 s || (!rdB (railRamp r) 0 s && railAsked r s == railTarget r s)

/-- A write of VCORE_CTL: a change of target is requested (R489). -/
def writeVcoreCtl (v : Word) (s : State) : State :=
  let s1 := storeReg .pwr 0 15 v s
  let boosting := modeOf s == 5 || (match s.pwr.trans with | some t => t.goal == 5 | none => false)
  if boosting then retarget (boostTarget s1) (boostTarget s1) s1
  else if modeOf s = 4 then toRunTargets s1
  else s1

/-! ### Status, holds and isolation -/

/-- R469: the status of a mode request reaches its requester: d of the SLEEP of a context, or MODE_STAT. -/
def answerMode (asker : Option Nat) (st : Word) (s : State) : State :=
  match asker with
  | none => s.setReg (keyOf .pwr 0 3) st
  | some cid => s.modCtx cid (fun x => match x.wait with
    | .sleep rd => { writeNow rd st x with wait := .none }
    | _ => x)

/-- MODE.STEP. -/
def setStep (n : Nat) (s : State) : State := wr F.pwr_MODE_STEP 0 n s

/-- The transition in progress changed. -/
def setTrans (t : Option Trans) (s : State) : State := { s with pwr := { s.pwr with trans := t } }

/-- SAFE_N0 to SAFE_N3 held low by the power manager, or released (R66, Tables PW-6a, PW-7). -/
def holdSafe (mask : Nat) (s : State) : State := { s with pins := { s.pins with safeN := mask } }

/-- R482: the wake record. -/
def wakeRecord (cause rule from_ outcome asleep : Nat) (s : State) : State :=
  let seq := rd F.pwr_WAKE_REC0_SEQ 0 s + 1
  let s1 := wr F.pwr_WAKE_REC0_CAUSE 0 cause (wr F.pwr_WAKE_REC0_RULE 0 rule (wr F.pwr_WAKE_REC0_FROM 0 from_ s))
  let s2 := wr F.pwr_WAKE_REC0_OUTCOME 0 outcome (wr F.pwr_WAKE_REC0_NEW 0 1 (wr F.pwr_WAKE_REC0_SEQ 0 seq s1))
  wr F.pwr_WAKE_REC1_AO_T 0 (s.clock.ao / 1000) (wr F.pwr_WAKE_REC2_ASLEEP 0 asleep s2)

/-- The heaps go on as at the release of a quiesce (R260), and deadlines whose time has passed expire (R479). -/
def resumeHeaps (s : State) : State := expirePassed (forN 8 releaseHeap s)

/-! ### The saved set (R483, Table PW-8) -/

/-- R161, R188, Table PW-8: what is saved of a context: all but its general registers, accumulators, LNK and replay list. -/
def saveCtx (asker : Option Nat) (cid : Nat) (x : Ctx) : Ctx :=
  let y := x.commitAll
  { y with g := [], m0 := 0, m1 := 0, lnk := 0, replay := [], pend := [], traps := [], rload := none, trapEnNext := none, tbrNext := none,
           wait := if asker = some cid then x.wait else .none, req := none }

/-- Table PW-8: a register of the saved set. -/
def savedReg (b : Blk) (o : Nat) : Bool :=
  match b with
  | .sctx => true
  | .sch => o != 480
  | .tb => decide (o < 5)
  | .desc => [0, 1, 2, 3, 5].contains o
  | .ch => decide (o < 2)
  | .cq => true
  | _ => false

/-- The registers that a test on block and word selects. -/
def regsWhere (p : Blk → Nat → Bool) (s : State) : List (Nat × Word) :=
  s.regs.filter (fun kv => match locate kv.1 with | some (b, _, o) => p b o | none => false)

/-- R326, R336: granule `i` of the saved set number `n`, with its tag. -/
def savedGranule (n i : Nat) : Granule := granPut (Config.savedGran n i) 252 4 5

/-- R336: the saved set number `mark` of `n` granules written to the save area. -/
def writeSaved (mark n : Nat) (s : State) : State := forN n (fun i s => writeGran (keepG i) (savedGranule mark i) false s) s

/-- R483: the saved set read back from the save area: whether every granule is as it was written, so that the seal holds. -/
def readSaved (mark : Nat) : Nat → Nat → State → Bool × State
  | 0, _, s => (true, s)
  | n + 1, i, s =>
    let r := readGran (keepG i) s
    let t := readSaved mark n (i + 1) r.st
    (r.data == savedGranule mark i && !r.pb && t.1, t.2)

/-- R483: the saved set is written and sealed. How many granules it takes is free (log entry 103). -/
def saveState (asker : Option Nat) (s : State) : State :=
  let tbs := s.tbs.map (fun e => (e.1, { e.2 with pu := tbPos e.1 s, tu := s.clock.tick, dev := s.clock.dev, upd := none }))
  let (n, s1) := s.anyBelow 12288
  wr F.pwr_RET_STAT_VALID 0 1
    (writeSaved s1.free (n + 1)
      { s1 with saved := some { ctxs := s.ctxs.map (fun e => (e.1, saveCtx asker e.1 e.2)), heaps := s.heaps, tbs := tbs,
                                regs := regsWhere savedReg s, dev := s.clock.dev, ao := s.clock.ao, mark := s1.free, grans := n + 1 } })

/-- The saved set is discarded. -/
def dropSaved (s : State) : State := wr F.pwr_RET_STAT_VALID 0 0 (wr F.pwr_RET_STAT_INPLACE 0 0 { s with saved := none })

/-! ### Entries (R474, R475) -/

/-- R475: an entry is abandoned at abort point `ap` by the wake that waits. Under WARM_N a warm start follows (log entry 31). -/
def abortEntry (t : Trans) (ap : Nat) (s : State) : State :=
  let (cause, rule) := t.wake.getD (0, 0)
  let s1 := wakeRecord cause rule t.from_ (ap + 1) 0 (setStep 0 (setTrans none s))
  let s2 := if ap = 2 then resumeHeaps (dropSaved (holdSafe 0 s1)) else s1
  let s3 := answerMode t.asker (statusWord 1 ap 0 0 cause) s2
  if cause = 3 then { s3 with start := { s3.start with due := 2 } } else s3

/-- AP1 and steps 4 to 6 of Table PW-6a: every agent has granted. -/
def passGrants (t : Trans) (s : State) : State :=
  if t.wake.isSome then abortEntry t 1 s
  else
    let s1 := setStep 2 (holdSafe 15 (setTrans (some { t with step := 2 }) s))
    if t.goal = 1 then s1 else saveState t.asker s1

/-- AP0 and step 2: the power-down requests go out to every domain that is on. -/
def askAgents (t : Trans) (s : State) : State :=
  if t.wake.isSome then abortEntry t 0 s
  else setStep 1 (setTrans (some { t with step := 1, waiting := (List.range 50).filter (fun d => domOn d s) }) s)

/-- A wake from STANDBY (Table PW-7). -/
def wakeStandby (cause rule : Nat) (s : State) : State :=
  let s1 := wakeRecord cause rule s.pwr.fromMode 0 ((s.clock.ao - s.pwr.asleepAt) / 1000) s
  if cause = 3 then { s1 with start := { s1.start with due := 2 } }
  else
    let s2 := toRunTargets (wr F.pwr_MODE 0 4 (wr F.pwr_VCORE_STAT_BIAS 0 0 (holdSafe 0 s1)))
    answerMode s.pwr.asker (statusWord 0 0 0 0 cause) (resumeHeaps s2)

/-- A wake from RETAIN or SENTINEL (R480): the warm start that follows restores the saved set. -/
def wakeDeep (cause rule : Nat) (s : State) : State :=
  let s1 := wakeRecord cause rule s.pwr.fromMode 0 ((s.clock.ao - s.pwr.asleepAt) / 1000) s
  setStep 4 { s1 with start := { s1.start with due := 2 } }

/-- R475, R477: a wake source acts. A wake that waits is not replaced by a later one. -/
def wake (cause rule : Nat) (s : State) : State :=
  if starting s || s.start.due != 0 || inSafe s || rdB F.pwr_MODE_SAFE_BOOT 0 s || !s.pins.resetN then s
  else match s.pwr.trans with
    | some t =>
      if t.goal < 1 ∨ 3 < t.goal ∨ t.wake.isSome then s
      else
        let t' := { t with wake := some (cause, rule) }
        if t.step = 2 then abortEntry t' 2 s else setTrans (some t') s
    | none =>
      match modeOf s with
      | 1 => wakeStandby cause rule s
      | 2 | 3 => wakeDeep cause rule s
      | _ => s

/-- Step 8 of Table PW-6a: PWR.MODE reads the new mode; a wake that was held acts at once (R475). -/
def completeEntry (t : Trans) (s : State) : State :=
  let s1 := setStep 0 (setTrans none (wr F.pwr_MODE 0 t.goal s))
  let s2 := { s1 with pwr := { s1.pwr with asleepAt := s1.clock.ao, asker := t.asker, fromMode := t.from_ } }
  let s3 := wr F.pwr_VCORE_STAT_BIAS 0 (if t.goal = 3 then 0 else 2) s2
  let s4 : State := if t.goal = 1 then s3
    else
      { s3 with
        pins := { s3.pins with mainEn := false, mainPg := false, refclk := false }
        clock := { s3.clock with run := false } }
  let s5 := if t.goal = 2 then wr F.pwr_RET_STAT_INPLACE 0 1 s4 else s4
  match t.wake with
  | some (c, r) => wake c r s5
  | none => s5

/-- AP2 is passed on the tick after the grants (log entry 32): STANDBY completes, RETAIN and SENTINEL switch their domains off. -/
def passAp2 (s : State) : State :=
  match s.pwr.trans with
  | some t =>
    if t.goal < 1 ∨ 3 < t.goal ∨ t.step ≠ 2 then s
    else if t.goal = 1 then completeEntry t s
    else setStep 3 (setTrans (some { t with step := 3, waiting := (List.range 50).filter (fun d => domOn d s), granted := List.range 50 }) s)
  | none => s

/-! ### Agents (R470 to R473, Table PW-4) -/

/-- R279, R316, R408, R461: the agent of domain `d` refuses; the reason. -/
def refuseReason (d : Nat) (s : State) : Option Nat :=
  if 32 ≤ d ∧ d < 36 then
    if (List.range 12).any (fun i => (List.range 4).any (fun b => domOn (bankDomain b) s && srcEnabled b 1 (12 * (d - 32) + i) s)) then some 3
    else none
  else if 36 ≤ d ∧ d < 40 then
    if (List.range 32).any (fun i =>
      let p := 32 * (d - 36) + i
      (pinMode p s == 2 || pinMode p s == 3) && !(rdB F.bank_TRIP_LATCHED (d - 36) s && covered p s)) then some 4
    else none
  else if d = 41 then (if (List.range 8).any (fun r => rdB F.ring_RING_CTL_EN r s) then some 5 else none)
  else if 42 ≤ d ∧ d < 48 then
    let l := d - 42
    let named (i : Nat) : Bool := (rdB F.route_ROUTE_V i s && rd F.route_ROUTE_LINK i s == l) || (rdB F.route_ROUTE_ALT_V i s && rd F.route_ROUTE_ALT i s == l)
    if linkUp l s && ((List.range 512).any (fun i => rdB F.route_ROUTE_V i s && named i) || (treeLinks s).contains l) then some 7 else none
  else none

/-- Packets are in flight on link `l`. -/
def linkBusy (l : Nat) (s : State) : Bool :=
  let x := s.link l
  !x.replay.isEmpty || !x.cur.isEmpty || x.rx.any (fun e => !e.2.isEmpty) || x.tx.any (fun e => !e.2.isEmpty)

/-- Table PW-4: the agent of domain `d` defers; the reason at the end of its bound (0: GRANT). -/
def deferReason (d : Nat) (asker : Option Nat) (s : State) : Option Nat :=
  if d < 32 then
    if (List.range 64).any (fun c => dmaUses c d s) then some 2
    else if (clusterCtxs d).any (fun cid => asker != some cid &&
      (match (s.ctx cid).st with | .ready | .running | .preempted => true | _ => false)) then some 1
    else none
  else if d = 40 then (if dmaActive s ≠ 0 then some 2 else none)
  else if d = 41 then (if s.host.cmds.any (fun c => !c.fwd) then some 6 else none)
  else if 42 ≤ d ∧ d < 48 then (if linkBusy (d - 42) s then some 0 else none)
  else none

/-- R473: what an agent does under FORCE before it answers GRANT. -/
def forceAgent (d : Nat) (asker : Option Nat) (s : State) : State :=
  if d < 32 then
    let s1 := forN 8 (fun i s =>
      let u := 8 * d + i
      match (s.unit u).run with
      | some k =>
        if asker = some (16 * u + k) then s
        else
          let (o, s1) := s.nextOrder
          (stopRunning (16 * u + k) .preempted s1).modCtx (16 * u + k) (fun y => { y with age := o })
      | none => s.modUnit u (fun x => { x with disp := none })) s
    dmaForce d s1
  else if 36 ≤ d ∧ d < 40 then writeTrip (d - 36) 1 s
  else if d = 40 then dmaForceAll s
  else if d = 41 then hostPortReset s
  else s

/-- R472: a refusal abandons the request. -/
def refuseRequest (t : Trans) (d reason : Nat) (s : State) : State :=
  let s1 := setStep 0 (setTrans none s)
  let st := statusWord 2 0 d reason 0
  if t.goal ≤ 3 then answerMode t.asker st s1 else s1.setReg (keyOf .pwr 0 12) st

/-- R471: the agent of domain `d` has answered GRANT; when it was the last, the entry goes on. A bank's SAFE_N goes low before it is isolated. -/
def granted (t : Trans) (d : Nat) (s : State) : State :=
  let t1 := { t with waiting := t.waiting.filter (· ≠ d), deferred := t.deferred.filter (· ≠ d), granted := t.granted ++ [d] }
  let s1 := setTrans (some t1) s
  if t.goal ≤ 3 then (if t1.waiting.isEmpty ∧ t1.deferred.isEmpty then passGrants t1 s1 else s1)
  else if 36 ≤ d ∧ d < 40 then { s1 with pins := { s1.pins with safeN := s1.pins.safeN ||| 2 ^ (d - 36) } }
  else s1

/-- The agent of domain `d` has a request to answer. -/
def asked (d : Nat) (s : State) : Option Trans :=
  match s.pwr.trans with
  | some t => if (t.goal ≤ 3 → t.step = 1) ∧ (t.waiting.contains d ∨ t.deferred.contains d) then some t else none
  | none => none

/-- AGENT_GRANT: agent `d` grants, under FORCE after its action. -/
def agentGrant (d : Nat) (s : State) : State :=
  match asked d s with
  | none => s
  | some t =>
    if t.force then granted t d (forceAgent d t.asker s)
    else if (refuseReason d s).isSome ∨ (deferReason d t.asker s).isSome then s
    else granted t d s

/-- AGENT_DEFER: agent `d` defers. -/
def agentDefer (d : Nat) (s : State) : State :=
  match asked d s with
  | none => s
  | some t =>
    if t.force ∨ t.deferred.contains d ∨ (refuseReason d s).isSome ∨ (deferReason d t.asker s).isNone then s
    else setTrans (some { t with waiting := t.waiting.filter (· ≠ d), deferred := t.deferred ++ [d] }) s

/-- AGENT_REFUSE: agent `d` refuses. -/
def agentRefuse (d : Nat) (s : State) : State :=
  match asked d s, refuseReason d s with
  | some t, some r => if t.force then s else refuseRequest t d r s
  | _, _ => s

/-- DEFER_TIMEOUT: the bound of agent `d`'s DEFER expires: it refuses, or grants where its condition is over or only delays (links). -/
def deferTimeout (d : Nat) (s : State) : State :=
  match asked d s with
  | none => s
  | some t =>
    if !t.deferred.contains d then s
    else match deferReason d t.asker s with
      | some 0 => granted t d s
      | some r => refuseRequest t d r s
      | none => granted t d s

/-! ### Mode requests (R465 to R468, R490) -/

/-- The request is refused by the power manager: its reason. `goal` 1 to 5; `param` tells that bits 34:32 of SLEEP's parameter are 0. -/
def modeRefusal (goal : Nat) (param : Bool) (timer : Nat) (s : State) : Option Nat :=
  let m := modeOf s
  if inSafe s || rdB F.pwr_MODE_SAFE_BOOT 0 s then some 33
  else if !param then some 39
  else if starting s then some 32
  else match goal with
    | 1 => if m = 4 ∨ m = 5 then none else some 32
    | 2 | 3 =>
      if m = 4 ∨ m = 5 ∨ m = 1 then
        (if timer = 0 ∧ (s.reg (keyOf .pwr 0 4)).toNat = 0 then some 36 else none)
      else some 32
    | 4 => if m = 5 then none else some 32
    | 5 =>
      if m ≠ 4 then some 32
      else if s.pwr.thermLock then some 34
      else if rdB (railFail 0) 0 s || rdB (railFail 1) 0 s then some 35
      else none
    | _ => some 32

/-- BOOST is left for RUN: forward bias goes first (R44), then the rails ramp. -/
def leaveBoost (e w : Nat) (s : State) : State :=
  retarget e w (wr F.pwr_VCORE_STAT_BIAS 0 0 (wr F.pwr_MODE 0 4 { s with pwr := { s.pwr with hot := [], unbiased := [] } }))

/-- R44: a rail at rest for BOOST that reads less than 0.90 V is asked for its target again. -/
def askAgain (r : Nat) (s : State) : State :=
  let v := rd (railRead r) 0 s
  if v < 180 then askRail r (railStep v (railTarget r s)) s else s

/-- Both rails read at least 0.90 V. -/
def railsHigh (s : State) : Bool := decide (180 ≤ rd (railRead 0) 0 s) && decide (180 ≤ rd (railRead 1) 0 s)

/-- R44, R62: forward bias goes on in every region. -/
def biasOn (s : State) : State := wr F.pwr_VCORE_STAT_BIAS 0 1 { s with pwr := { s.pwr with unbiased := [] } }

/-- Both rails have come to rest: what waits for it goes on (R44, R490, Table PW-2). -/
def ramped (s : State) : State :=
  if !(railDone 0 s && railDone 1 s) then s
  else match s.pwr.trans with
  | none => if modeOf s = 5 ∧ rd F.pwr_VCORE_STAT_BIAS 0 s = 0 ∧ railsHigh s then biasOn s else s
  | some t =>
    if t.goal = 5 then
      (if railsHigh s then answerMode t.asker (statusWord 0 0 0 0 0) (biasOn (wr F.pwr_MODE 0 5 (setTrans none s)))
       else askAgain 1 (askAgain 0 s))
    else if t.goal = 4 then answerMode t.asker (statusWord 0 0 0 0 0) (setTrans none s)
    else if t.goal ≤ 3 ∧ t.step = 0 then askAgents t s
    else s

/-- A mode request is accepted. -/
def beginMode (goal : Nat) (force : Bool) (asker : Option Nat) (s : State) : State :=
  let t : Trans := { goal := goal, force := force, asker := asker, waiting := [], deferred := [], granted := [], step := 0, from_ := modeOf s,
                     wake := none }
  let s1 := setTrans (some t) s
  if goal = 5 then ramped (retarget (boostTarget s) (boostTarget s) s1)
  else if modeOf s = 5 then ramped (leaveBoost (runTarget 0 s) (runTarget 1 s) s1)
  else askAgents t s1

/-- SLEEP, or a write of MODE_REQ. A write of MODE_REQ = 4 wakes a device in STANDBY or in an entry (R466, R477). -/
def requestMode (goal : Nat) (force : Bool) (asker : Option Nat) (param : Bool) (timer : Nat) (s : State) : State :=
  let entering : Bool := match s.pwr.trans with | some t => decide (t.goal ≤ 3) | none => false
  if asker.isNone && goal == 4 && (entering || (s.pwr.trans.isNone && modeOf s == 1)) then wake 5 0 s
  else if s.pwr.trans.isSome then answerMode asker (statusWord 3 0 0 0 0) s
  else match modeRefusal goal param timer s with
    | some r => answerMode asker (statusWord 4 0 0 r 0) s
    | none => beginMode goal force asker (if asker.isSome ∧ goal ≤ 3 then wr F.pwr_WAKE_TIMER_MS 0 timer s else s)

/-- A host request (MODE_REQ). -/
def hostMode (goal : Nat) (force : Bool) (s : State) : State := requestMode goal force none true (rd F.pwr_WAKE_TIMER_MS 0 s) s

/-- R468: SLEEP of context `cid` with parameter a and mode `goal`; the context waits in SLEEP. -/
def sleepRequest (cid goal : Nat) (a : Word) (s : State) : State :=
  requestMode goal (bits a 35 1 == 1) (some cid) (bits a 32 3 == 0) (bits a 0 32) s

/-! ### Domain requests (R485 to R487) -/

/-- A domain request is refused: its reason. -/
def domRefusal (d : Nat) (on : Bool) (s : State) : Option Nat :=
  if inSafe s || rdB F.pwr_MODE_SAFE_BOOT 0 s then some 33
  else if starting s || !(modeOf s == 4 || modeOf s == 5) then some 32
  else if 48 ≤ d then some 38
  else if on && decide (36 ≤ d) && s.pwr.bankBad.contains (d - 36) then some 37
  else none

/-- A write of DOM_CTL. -/
def requestDomain (d : Nat) (on force : Bool) (s : State) : State :=
  let stat (w : Word) (s : State) : State := s.setReg (keyOf .pwr 0 12) w
  if s.pwr.trans.isSome then stat (statusWord 3 0 0 0 0) s
  else match domRefusal d on s with
    | some r => stat (statusWord 4 0 0 r 0) s
    | none =>
      if domOn d s = on then stat (statusWord 0 0 0 0 0) s
      else setTrans (some { goal := (if on then 80 else 10) + d, force := force, asker := none, waiting := if on then [] else [d],
                            deferred := [], granted := [], step := 1, from_ := modeOf s, wake := none }) s

/-- DOMAIN_POWER_DOWN_DONE: domain `d` of a request that was granted, or of an entry past AP2, is off. -/
def domainDownDone (d : Nat) (s : State) : State :=
  match s.pwr.trans with
  | none => s
  | some t =>
    if t.goal = 10 + d ∧ t.granted.contains d then
      (setTrans none (domainOff d false s)).setReg (keyOf .pwr 0 12) (statusWord 0 0 0 0 0)
    else if t.goal ≤ 3 ∧ t.step = 3 ∧ t.waiting.contains d then
      let t1 := { t with waiting := t.waiting.filter (· ≠ d) }
      let s1 := setTrans (some t1) (domainOff d (t.goal = 2) s)
      if t1.waiting.isEmpty then completeEntry t1 s1 else s1
    else s

/-- A domain request's power-up ends (R485, R488). What DOM_STAT reads after a failed self-check is free (log entry 33). -/
def domainUpDone (d : Nat) (ok : Bool) (s : State) : State :=
  match s.pwr.trans with
  | none => s
  | some t =>
    if t.goal ≠ 80 + d then s
    else if ok then (domainUp d true (setTrans none s)).setReg (keyOf .pwr 0 12) (statusWord 0 0 0 0 0)
    else
      let (w, s1) := (setTrans none s).anyBelow (2 ^ 36)
      let s2 := s1.setReg (keyOf .pwr 0 12) (BitVec.ofNat 36 w)
      if d < 32 then raiseAt 1 d 16 2 0 s2 else s2

/-- R42: the supply of bank `b` is out of range: its domain is kept off. -/
def bankSupply (b : Nat) (s : State) : State :=
  let s1 := domainOff (36 + b) false { s with pwr := { s.pwr with bankBad := if s.pwr.bankBad.contains b then s.pwr.bankBad else s.pwr.bankBad ++ [b] } }
  let s2 : State :=
    { s1 with
      pins := { s1.pins with safeN := s1.pins.safeN ||| 2 ^ b }
      start := { s1.start with domains := s1.start.domains.filter (· ≠ 36 + b) } }
  let s3 := match s2.pwr.trans with
    | some t => if t.goal = 80 + (36 + b) then (setTrans none s2).setReg (keyOf .pwr 0 12) (statusWord 4 0 0 37 0) else s2
    | none => s2
  raiseWord 4 0 98 true b s3

/-! ### Rails and temperatures -/

/-- AVS_STEP_COMPLETE: the regulator reports VDone at `v` × 5 mV, and the next step is requested. -/
def avsStep (r v : Nat) (s : State) : State :=
  if !rdB (railRamp r) 0 s then s
  else ramped (stepRail r (wr (railRamp r) 0 0 (wr (railRead r) 0 v s)))

/-- AVS_TIMEOUT: a 50 mV step is not complete in time (R45); `v` is the voltage read back. -/
def avsTimeout (r v : Nat) (s : State) : State :=
  if !rdB (railRamp r) 0 s then s
  else
    let s1 := raiseWord 4 0 97 true r (wr (railFail r) 0 1 (wr (railRamp r) 0 0 (wr (railRead r) 0 v s)))
    match s1.pwr.trans with
    | some t => if t.goal = 5 then toRunTargets (answerMode t.asker (statusWord 4 0 0 35 0) (setTrans none s1)) else ramped s1
    | none => s1

/-- The domain that powers temperature sensor `i` (R61): the backbone of its die (log entry 34); none for TS10. -/
def sensorOn (i : Nat) (s : State) : Bool := i == 10 || domOn (if i < 4 ∨ i = 8 then 48 else 49) s

/-- R60: the critical level, in 1/16 °C. -/
def criticalLevel : Int := if Config.gradeE then 2080 else 1840

/-- Every sensor that is powered and updated reads at most `lim`. -/
def allBelow (lim : Int) (s : State) : Bool :=
  (List.range 11).all (fun i => !(rdB (F.pwr_TS_VALID.nth i) 0 s && sensorOn i s) || decide (rdZ (F.pwr_TS_TEMP.nth i) 0 s ≤ lim))

/-- R63: the device is in RETAIN or SENTINEL: no start is in progress and no SAFE boot stands. -/
def asleep (s : State) : Bool := (modeOf s == 2 || modeOf s == 3) && s.start.step == 0 && !rdB F.pwr_MODE_SAFE_BOOT 0 s

/-- TEMP_SENSOR_UPDATE: sensor `i` reads `t` (R61 to R63). Grade E's critical level, 130 °C or code 2,080, lies above the largest code of
TEMP, 127.94 °C: compared as it is, no code reaches it (log entry 106). A region whose forward bias was removed has it back at the next
entry into BOOST (log entry 105). -/
def sensorUpdate (i t : Nat) (s : State) : State :=
  if !sensorOn i s ∨ modeOf s = 0 then s
  else
    let lim : Int := 16 * (rd F.pwr_THERM_CTL_BOOST_LIM 0 s : Int)
    let x := signedOf 12 t
    let b (p : Bool) : Nat := if p then 1 else 0
    let s1 := wr (F.pwr_TS_TEMP.nth i) 0 t (wr (F.pwr_TS_VALID.nth i) 0 1 s)
    let s2 := wr (F.pwr_TS_OVER_BOOST.nth i) 0 (b (decide (lim < x))) (wr (F.pwr_TS_CRIT.nth i) 0 (b (decide (criticalLevel ≤ x))) s1)
    let s3 := if i < 8 ∧ modeOf s = 5 then
        { s2 with pwr := { s2.pwr with
            hot := if lim < x then insertNat i s2.pwr.hot else s2.pwr.hot.filter (· ≠ i)
            unbiased := if lim < x then insertNat i s2.pwr.unbiased else s2.pwr.unbiased } }
      else s2
    let s4 := if s3.pwr.thermLock && allBelow (lim - 80) s3 then { s3 with pwr := { s3.pwr with thermLock := false } } else s3
    if criticalLevel ≤ x then
      let s5 := { s4 with pins := { s4.pins with thermN := false } }
      if asleep s then s5 else raiseWord 4 0 66 false i s5
    else if allBelow (criticalLevel - 160) s4 then { s4 with pins := { s4.pins with thermN := true } }
    else s4

/-- THERMAL_BOOST_EXIT: region `rg` has stayed above the BOOST limit for 1 ms (R62). -/
def thermalExit (rg : Nat) (s : State) : State :=
  if modeOf s = 5 ∧ s.pwr.hot.contains rg then
    raiseWord 4 0 96 true rg (leaveBoost 180 180 { s with pwr := { s.pwr with thermLock := true } })
  else s

/-- R40: a main rail fails: the record takes the device to SAFE, and the next start is cold. -/
def mainFault (s : State) : State :=
  if railsUsed s then raiseOpen 4 0 64 false (holdSafe 15 { s with pwr := { s.pwr with startCold := true } }) else s

/-- MAIN_PG_FALL: the PLL loses its rail, and device time stops. -/
def pgFall (s : State) : State :=
  mainFault { s with pins := { s.pins with mainPg := false, refclk := false }, clock := { s.clock with run := false } }

/-- REFCLK_LOSS (R52): device time stops with its PLL. -/
def refclkLoss (s : State) : State :=
  let s1 : State :=
    { s with
      pins := { s.pins with refclk := false }
      clock := { s.clock with run := false } }
  if railsUsed s then raiseOpen 4 0 65 false s1 else s1

/-- CLUSTER_POWER (R488): `why` 1 a rail fault while the domain is on, 2 a failed self-check at its power-up by request. -/
def clusterPower (c why : Nat) (s : State) : State :=
  if why = 1 then (if domOn c s then raiseAt 1 c 16 1 0 s else s)
  else if why = 2 then domainUpDone c false s
  else s

/-- The MFR, EVO and DMA blocks have their clocks (Table PW-1). -/
def clocksOn (s : State) : Bool := modeOf s != 1

end Sys2Proof.Machine
end

