-- ==== Sys2Proof/Machine/Jasper.lean ====
section
/-! DEFINITION. The Jasper sentinel (R491 to R497): the converter, the digital inputs, and the rules. -/

set_option Elab.async false

namespace Sys2Proof.Machine

/-- Jasper runs in every mode except OFF. -/
def jasperRuns (s : State) : Bool := modeOf s != 0

/-! ### Inputs -/

/-- R491: the channel that the converter takes next: the first enabled one after the last, else the first enabled. -/
def nextChannel (s : State) : Option Nat :=
  let en := (List.range 8).filter (fun n => (rd F.jsp_ADC_CTL_EN 0 s).testBit n)
  match en.find? (fun n => decide (s.jsp.seq ≤ n)) with
  | some n => some n
  | none => en.head?

/-- The median of the first `n` (odd) of some codes. -/
def medianOf (n : Nat) (codes : List Nat) : Nat :=
  let l := codes.take n
  (l.find? (fun x => decide (l.countP (fun y => decide (y < x)) ≤ n / 2 ∧ n / 2 < l.countP (fun y => decide (y ≤ x))))).getD 0

/-- R491: the codes through the median of MED; with fewer codes than it needs its result is free (log entry 35). -/
def medianStep (med : Nat) (codes : List Nat) (s : State) : Nat × State :=
  let n := if med = 1 then 3 else if med = 2 then 5 else 1
  if codes.length < n then s.anyBelow 4096 else (medianOf n codes, s)

/-- JASPER_CONVERSION: the next enabled channel is converted and filtered; y ← y + (x − y) / 2^IIR_SH is kept exactly (log entry 36). -/
def convert (code : Nat) (s : State) : State :=
  match nextChannel s with
  | none => s
  | some n =>
    if !jasperRuns s ∨ 4096 ≤ code then s
    else
      let codes := (code :: Sparse.get [] n s.jsp.codes).take 5
      let (x, s1) := medianStep (rd (F.jsp_AIN_FILT_MED.nth n) 0 s) codes s
      let sh := rd (F.jsp_AIN_FILT_IIR_SH.nth n) 0 s
      let (y, k) := Sparse.get (0, 0) n s.jsp.y
      let y' := if sh = 0 then (x, 0) else (y * (2 ^ sh - 1) + x * 2 ^ k, k + sh)
      let s2 := { s1 with jsp := { s1.jsp with codes := Sparse.put [] n codes s1.jsp.codes, y := Sparse.put (0, 0) n y' s1.jsp.y, seq := n + 1 } }
      wr (F.jsp_AIN_VAL_RAW.nth n) 0 code (wr (F.jsp_AIN_VAL_FILT.nth n) 0 (y'.1 / 2 ^ y'.2) s2)

/-- JS_IN_QUALIFY (R492): input `n` has qualified at a new level; a rising edge counts. -/
def qualifyInput (n : Nat) (lvl : Bool) (s : State) : State :=
  if !jasperRuns s ∨ rdB (F.jsp_DIN_CNT_LEVEL.nth n) 0 s = lvl then s
  else
    let s1 := wr (F.jsp_DIN_CNT_LEVEL.nth n) 0 (if lvl then 1 else 0) s
    if lvl then bump (F.jsp_DIN_CNT_COUNT.nth n) 0 s1 else s1

/-- JS_COUNT_WINDOW (R492). -/
def countWindow (n : Nat) (s : State) : State :=
  if jasperRuns s ∧ rd (F.jsp_DIN_WIN.nth n) 0 s ≠ 0 then wr (F.jsp_DIN_CNT_COUNT.nth n) 0 0 s else s

/-! ### Rules -/

/-- A field of rule `i`. -/
def ruleF (f : FRef) (i : Nat) (s : State) : Nat := rd (f.nth (2 * i)) 0 s

/-- R493: the operand that SRC names. -/
def operand (src : Nat) (s : State) : Nat :=
  if src < 8 then rd (F.jsp_AIN_VAL_FILT.nth src) 0 s
  else if src < 24 then rd (F.jsp_DIN_CNT_LEVEL.nth (src - 8)) 0 s
  else if src < 40 then min (rd (F.jsp_DIN_CNT_COUNT.nth (src - 24)) 0 s) 4095
  else if src = 40 then modeOf s
  else if inSafe s || rdB F.pwr_MODE_SAFE_BOOT 0 s then 1 else 0

/-- R493: the condition of rule `i`, with the hysteresis of what it was. -/
def ruleCond (i : Nat) (s : State) : Bool :=
  let m := modeOf s
  let x := operand (ruleF F.jsp_RULE_A_SRC i s) s
  let thr := ruleF F.jsp_RULE_A_THR i s
  let hyst := ruleF F.jsp_RULE_B_HYST i s
  let was := Sparse.get false i s.jsp.cond
  if m = 0 ∨ !(ruleF F.jsp_RULE_B_MODES i s).testBit (m - 1) then false
  else match ruleF F.jsp_RULE_A_OP i s with
    | 1 => decide (thr < x) || (was && decide (thr ≤ x + hyst))
    | 2 => decide (x < thr) || (was && decide (x ≤ thr + hyst))
    | 3 => x == thr
    | 4 => x != thr
    | _ => false

/-- R494: HOLD × HSCALE in passes of 10 µs. -/
def holdPasses (i : Nat) (s : State) : Nat :=
  ruleF F.jsp_RULE_A_HOLD i s * (match ruleF F.jsp_RULE_A_HSCALE i s with | 0 => 1 | 1 => 100 | _ => 10000)

/-- The state q of rule `i` set. -/
def setQ (i : Nat) (v : Bool) (s : State) : State :=
  let n := if v then 1 else 0
  if i < 36 then wr ⟨.jsp, 52, i, 1⟩ 0 n s else wr ⟨.jsp, 53, i - 36, 1⟩ 0 n s

/-- The latch of rule `i` set. -/
def setLatchJ (i : Nat) (s : State) : State := if i < 36 then wr ⟨.jsp, 54, i, 1⟩ 0 1 s else wr ⟨.jsp, 55, i - 36, 1⟩ 0 1 s

/-- R494: rule `i` in a pass whose conditions were taken from `at_`; rules before it have been evaluated. -/
def evalRule (at_ : State) (i : Nat) (s : State) : State :=
  let c := ruleCond i at_
  let raw := c && (ruleF F.jsp_RULE_A_CHAIN i s == 0 || (decide (0 < i) && ruleQ (i - 1) s))
  let n := if raw then Sparse.get 0 i s.jsp.hold + 1 else 0
  let s1 := { s with jsp := { s.jsp with hold := Sparse.put 0 i n s.jsp.hold, cond := Sparse.put false i c s.jsp.cond } }
  setQ i (raw && (ruleQ i s || decide (holdPasses i s < n))) s1

/-- Table PW-12: a log entry written for rule `i` with its operand. -/
def logRule (i value : Nat) (s : State) : State :=
  let k := rd F.jsp_LOG_STAT_NEXT 0 s
  let s1 := if s.jsp.unread.contains k then bump F.jsp_LOG_STAT_LOST 0 s else s
  let s2 := wr (F.jsp_LOG0_RULE.nth (2 * k)) 0 i (wr (F.jsp_LOG0_VALUE.nth (2 * k)) 0 value (wr (F.jsp_LOG0_MODE.nth (2 * k)) 0 (modeOf s) s1))
  let s3 := wr (F.jsp_LOG1_AO_T.nth (2 * k)) 0 (s.clock.ao / 1000) s2
  bump F.jsp_LOG_STAT_COUNT 0 (wr F.jsp_LOG_STAT_NEXT 0 (k + 1) { s3 with jsp := { s3.jsp with unread := insertNat k s3.jsp.unread } })

/-- R495: what rule `i` does as it fires, but for its wake; its operand was taken from `at_`. -/
def fireRule (at_ : State) (i : Nat) (s : State) : State :=
  let out := (rd F.jsp_OUT_JS_OUT 0 s ||| ruleF F.jsp_RULE_B_OUT_SET i s) &&& (15 - ruleF F.jsp_RULE_B_OUT_CLR i s)
  let s1 := wr F.jsp_OUT_JS_OUT 0 out s
  if ruleF F.jsp_RULE_B_LOG i s = 1 then logRule i (operand (ruleF F.jsp_RULE_A_SRC i s) at_) s1 else s1

/-- JASPER_PASS (R493 to R496): the rules in order, then what fires; a latch sets while its rule's q is true. -/
def jasperPass (s : State) : State :=
  if !jasperRuns s then s
  else
    let s1 := forN 64 (evalRule s) s
    let fired := (List.range 64).filter (fun i => ruleQ i s1 && !ruleQ i s)
    let s2 := fired.foldl (fun t i => fireRule s i t) s1
    let s3 := forN 64 (fun i t => if ruleF F.jsp_RULE_B_LATCH i t = 1 ∧ ruleQ i t then setLatchJ i t else t) s2
    match fired.find? (fun i => ruleF F.jsp_RULE_B_WAKE i s == 1) with
    | some i => if rdB F.pwr_WAKE_EN_JASPER 0 s3 then wake 2 i s3 else s3
    | none => s3

/-- A write of word `b` (0 RULE_A, 1 RULE_B) of rule `i` (R494). -/
def writeRule (i b : Nat) (v : Word) (s : State) : State :=
  let s1 := setQ i false (storeReg .jsp 0 (64 + 2 * i + b) v s)
  { s1 with jsp := { s1.jsp with hold := Sparse.put 0 i 0 s1.jsp.hold, cond := Sparse.put false i false s1.jsp.cond } }

/-- R496: a write of LATCH_LO or LATCH_HI. -/
def clearLatches (hi : Bool) (v : Word) (s : State) : State := storeReg .jsp 0 (if hi then 55 else 54) v s

end Sys2Proof.Machine
end

