-- ==== Sys2Proof/Machine/Start.lean ====
section
/-! DEFINITION. Starting the device (chapter 17, R38 to R41, R48, R58): the kinds of start, their steps, failures, the SAFE boot, reset and the
always-on supply. -/

set_option Elab.async false

namespace Sys2Proof.Machine

/-! ### Beginning a start -/

/-- The start that is in progress takes step `n`; START_STAT.STEP shows it, and keeps the last one afterwards. -/
def setStartStep (n : Nat) (s : State) : State :=
  let s1 : State := { s with start := { s.start with step := n } }
  if n = 0 then s1 else wr F.pwr_START_STAT_STEP 0 n s1

/-- R500: the kind of a start, 1 cold, 2 warm, 3 SAFE boot. After R40 the next start is cold. -/
def startKind (warm : Bool) (s : State) : Nat × State :=
  let w := warm && !s.pwr.startCold
  let spent := w && rd F.pwr_START_FAILS_WARM 0 s == 3
  let s1 := if spent then wr F.pwr_START_FAILS_WARM 0 0 s else s
  if w && !spent then (2, s1) else if rd F.pwr_START_FAILS_COLD 0 s == 3 then (3, s1) else (1, s1)

/-- Every domain below `n` is isolated and switched off. -/
def domainsOff (n : Nat) (s : State) : State := (List.range n).foldl (fun s d => domainOff d false s) s

/-- R508: a backbone that stays on at a warm start is initialised. -/
def initBackbone (d : Nat) (s : State) : State :=
  if domOn (48 + d) s then backboneOff d (resetBlocks (inDomain (48 + d)) s) else s

/-- The domains that step 2 switches on, or a SAFE boot's step 1. -/
def backboneDomains (kind : Nat) (s : State) : List Nat :=
  (if kind = 3 then [48, 41] else [48, 49, 41, 42, 43, 44, 45, 46, 47]).filter (fun d => !domOn d s)

/-- R510: a start fails with a cause of Table ST-4. A failure of Table PK-4 counts as a failed cold start (R39). REASON and SECTION are those of the
rejected image, and 0 where the cause is no rejection (log entry 66). -/
def startFail (cause : Nat) (s : State) : State :=
  if s.start.step = 0 then s
  else
    let warm := s.start.kind == 2 && cause != 1
    let s0 := if cause = 4 then s else wr F.pwr_START_STAT_REASON 0 0 (wr F.pwr_START_STAT_SECTION 0 0 s)
    let s1 := wr F.pwr_START_STAT_CAUSE 0 cause (setTrans none (holdSafe 15 s0))
    let s2 := bump (if warm then F.pwr_START_FAILS_WARM else F.pwr_START_FAILS_COLD) 0 s1
    let s3 := domainsOff 50 (setStartStep 0 s2)
    { s3 with
      pins := { s3.pins with mainEn := false, mainPg := false, refclk := false }
      clock := { s3.clock with run := false }
      start := { s3.start with failed := true, retryWarm := warm, loading := [], buf := [], domains := [] } }

/-! ### Step 4: the image is loaded (R502 to R505, R509) -/

/-- Table ST-1: the sources in the order in which they are tried: 0 slot A, 1 slot B, 2 the host port, 3 Quadrille. -/
def bootSources (sel : Nat) : List Nat :=
  match sel with
  | 0 => [0, 1]
  | 1 => [1, 0]
  | 2 => [2]
  | 3 => [3]
  | 4 => [0, 2]
  | _ => []

/-- The source that the loader reads. -/
def bootSource (s : State) : Option Nat := (bootSources s.pins.bootSel)[s.start.tried]?

/-- The loader starts on the source number `n` of Table ST-1. -/
def openSource (n : Nat) (s : State) : State :=
  let s1 := { s with start := { s.start with tried := n, loading := [], buf := [], skipTry := false } }
  match bootSource s1 with
  | some 0 => wr F.pwr_START_STAT_SLOT 0 0 s1
  | some 1 => wr F.pwr_START_STAT_SLOT 0 1 s1
  | _ => s1

/-- R503: the next source is tried; after the last the start fails. -/
def nextSource (cause : Nat) (s : State) : State :=
  if s.start.tried + 1 < (bootSources s.pins.bootSel).length then openSource (s.start.tried + 1) s else startFail cause s

/-- R519: the image is rejected with a reason, at a section. -/
def rejectImage (reason section_ : Nat) (s : State) : State :=
  let s1 := wr F.pwr_START_STAT_REASON 0 reason (wr F.pwr_START_STAT_SECTION 0 section_ (s.setReg (keyOf .pwr 0 66) 0))
  nextSource 4 { s1 with start := { s1.start with stage := [], loading := [], buf := [] } }

/-- R509: the staged sections' CRCs, those of IMEM sections over the instruction stores as they now are, which are read. -/
def stageOk : List Section → State → Bool × State
  | [], s => (true, s)
  | x :: l, s =>
    let (ok, s1) := imemCrcOk x s
    let (oks, s2) := stageOk l s1
    (x.crcOk && ok && oks, s2)

/-- R509: what the loader can tell of a skipped load without its source. -/
def keptImageOk (s : State) : Bool × State :=
  if s.start.kind == 2 && rd F.pwr_START_CTL_RELOAD 0 s == 0 && s.reg (keyOf .pwr 0 66) != 0 then stageOk s.start.stage s else (false, s)

/-! ### Step 5: the image is applied (R518), and the saved set restored over it (R483, R234, R235, Table PW-7b) -/

/-- The wake restores the saved set: a warm start with RET_STAT.VALID. -/
def restores (s : State) : Bool := s.start.kind == 2 && rdB F.pwr_RET_STAT_VALID 0 s && s.saved.isSome

/-- Table PW-7b: a context after the wake; the requester becomes READY in step 7, and the time latch is cleared (R224). -/
def restoreCtx (cid : Nat) (x : Ctx) (s : State) : State :=
  if !domOn (clusterOf cid) s then s
  else s.modCtx cid (fun y => { x with
    st := match x.st with | .halted => .halted | .unbound => .unbound | _ => .idle
    entry := y.entry, start := y.start, target := y.target, timeLatch := 0 })

/-- R235: a timebase after the wake; one of kind TIME goes on from its saved triple by the restored device time. -/
def restoreTimebase (n : Nat) (x : Tb) (s : State) : State :=
  let s1 := s.setTb n { x with tu := s.clock.tick, dev := s.clock.dev }
  if x.st = .off then s1
  else if tbKind n s1 = 4 then s.setTb n { x with tu := s.clock.tick, st := .track }
  else
    let s2 := restartTb n (standTb n x.pu s1)
    s2.modTb n (fun y => { y with st := .stale, v := 0, d := 0, first := true })

/-- R483, R481: the saved set is restored over the image. One whose seal does not hold is not restored (log entry 103). -/
def restoreSaved (t : State) : State :=
  match t.saved with
  | none => t
  | some v =>
    let (ok, s) := readSaved v.mark v.grans 0 t
    if !ok then dropSaved s else
    let s0 := { s with regs := s.regs.filter (fun kv => match locate kv.1 with | some (b, _, o) => !savedReg b o | none => true) }
    let s1 := v.regs.foldl (fun s e => s.setReg e.1 e.2) s0
    let s2 := v.ctxs.foldl (fun s e => restoreCtx e.1 e.2 s) s1
    let s3 := v.tbs.foldl (fun s e => restoreTimebase e.1 e.2 s) { s2 with heaps := v.heaps, tbs := [] }
    let coarse := rd F.tbu_TIME_CTL_SRC 0 s3
    let s4 := wr F.tbu_TIME_STAT_STATE 0 (if coarse = 0 then 0 else 4) s3
    let held (h : Heap) : Heap := if (h.ang = .predicted ∨ h.ang = .away) ∧ (s4.tb h.tb).st = .stale then { h with ang := .held } else h
    let s5 := (v.tbs.map (·.1)).foldl (fun s n => if tbKind n s = 4 then repredict false true n s else s)
      { s4 with heaps := s4.heaps.map (fun e => (e.1, held e.2)) }
    let s6 := dropSaved s5
    { s6 with start := { s6.start with restored := true } }

/-- Step 6 of a start that does not skip discovery: the root walks the fabric (R448). -/
def startDiscovery (s : State) : State := if rdB F.qdl_ID_CFG_ROOT 0 s then beginDiscovery s else s

/-- Step 6 begins; a warm start first compares the digest (R508). -/
def enterDiscovery (s : State) : State :=
  let s1 := setStartStep 6 s
  if s.start.kind = 2 then { s1 with start := { s1.start with skipTry := true } } else startDiscovery s1

/-- R167: the resume granule of every context that has its domain is filled. -/
def fillResumes (s : State) : State :=
  s.ctxs.foldl (fun s e =>
    if e.2.st = .unbound ∨ !domOn (clusterOf e.1) s then s
    else match codeGran (clusterOf e.1) e.2.pc with
      | none => s
      | some g =>
        let (f, s1) := fetchRead (clusterOf e.1) g s
        s1.modUnit (unitOf e.1) (fun x => x.setResume (e.1 % 16) (some f))) s

/-- The image's domains are on: every other register list is applied, the saved set restored, and the resume granules filled. -/
def finishApply (s : State) : State :=
  let p (b : Blk) (i o : Nat) : Bool := keptAtStart b o || (match blkDomain b i with
    | none => true
    | some d => domOn d s && (decide (d < 32) || decide (41 ≤ d)))
  let s1 := activate 48 (applyWrites s.start.stage p (dropRules s.start.stage s))
  enterDiscovery (fillResumes (if restores s1 then restoreSaved s1 else s1))

/-- R518: the staged image is applied. -/
def applyImage (s : State) : State :=
  let id := match s.start.stage with | x :: _ => granWord x.hdr 3 | [] => 0
  let s1 := setStartStep 5 (s.setReg (keyOf .pwr 0 66) id)
  let s2 := applyContexts s1.start.stage s1
  let s3 := ((List.range 48).filter (fun d => !mapOn s2.start.stage d)).foldl (fun s d => domainOff d false s) s2
  let on := (List.range 48).filter (fun d =>
    mapOn s3.start.stage d && !domOn d s3 && !(decide (36 ≤ d) && decide (d < 40) && s3.pwr.bankBad.contains (d - 36)))
  let s4 := { s3 with start := { s3.start with domains := on } }
  if on.isEmpty then finishApply s4 else s4

/-- R509: the load is skipped. -/
def skipLoad (s : State) : State := applyImage (wr F.pwr_START_STAT_SKIP_IMAGE 0 1 { s with start := { s.start with skipTry := false } })

/-- Step 4 begins. -/
def loadBegin (s : State) : State :=
  let slot := rd F.pwr_START_STAT_SLOT 0 s
  let s1 := setStartStep 4 s
  match bootSources s.pins.bootSel with
  | [] => startFail 8 s1
  | src :: _ =>
    let (kept, s2) := keptImageOk s1
    if !kept then openSource 0 s2
    else if 2 ≤ src then skipLoad s2
    else
      let s2 := openSource 0 s2
      wr F.pwr_START_STAT_SLOT 0 slot { s2 with start := { s2.start with skipTry := true } }

/-- R514: VCORE_CTL, the one PWR register whose Reset is the image's, holds 0 where a new image does not set it. -/
def dropVcore (s : State) : State := s.setReg (keyOf .pwr 0 15) 0

/-- R512, R519: the loader takes a section, checks it and stages it, or writes it into its instruction store; the END applies the image. -/
def takeSection (gs : List Granule) (x : Section) (s : State) : State :=
  let before := if x.typ = 1 then [] else s.start.loading
  let s0 := if x.typ = 1 then { s with start := { s.start with stage := [], loading := [] } } else s
  let codes := sectionCheck gs x before s0
  let all := before ++ [x]
  match leastCode codes with
  | some c => rejectImage c before.length s0
  | none =>
    if x.typ = 15 then
      match leastCode (imageCheck all s0) with
      | some c => rejectImage c before.length s0
      | none => applyImage (blankImem all (dropVcore { s0 with start := { s0.start with stage := all, loading := [] } }))
    else
      let s1 := { s0 with start := { s0.start with loading := all } }
      if x.typ = 10 then writeImem x s1 else s1

/-- IMAGE_SECTION: a section reaches the loader. While a warm start may still skip its load, the section is the header of the slot that SLOT
names (R509). -/
def imageSection (gs : List Granule) (s : State) : State :=
  match sectionOf gs with
  | none => s
  | some x =>
    if s.start.step ≠ 4 then s
    else if s.start.skipTry then
      if x.typ = 1 ∧ x.crcOk ∧ granWord x.hdr 3 = s.reg (keyOf .pwr 0 66) then skipLoad s
      else
        let same := bootSource s == some (rd F.pwr_START_STAT_SLOT 0 s)
        let s1 := openSource 0 s
        if same then takeSection gs x s1 else s1
    else takeSection gs x s

/-- R504: granules that reach HQ31 while the loader consumes it; a granule with bit 3 of its tag set ends a section. -/
def loadGranules : List Granule → State → State
  | [], s => s
  | g :: l, s =>
    let buf := s.start.buf ++ [g]
    if 8 ≤ granTag g then loadGranules l (imageSection buf { s with start := { s.start with buf := [] } })
    else loadGranules l { s with start := { s.start with buf := buf } }

/-- R504: the loader takes what is pushed to HQ31. -/
def loaderOpen (s : State) : Bool :=
  s.start.step == 4 && !s.start.skipTry && (bootSource s == some 2 || bootSource s == some 3)

/-- NO_IMAGE: no slot readable, or 10 s without a granule. -/
def noImage (s : State) : State :=
  if s.start.step ≠ 4 then s
  else if s.start.skipTry then openSource 0 s
  else match bootSource s with
    | some 0 | some 1 => nextSource 3 s
    | _ => startFail 3 s

/-! ### Steps 1 to 3 -/

/-- R507: the next cluster of step 3 is checked; after the last one the image is loaded. -/
def clusterChecked (c : Nat) (s : State) : State :=
  let s1 := if rdB F.pwr_START_STAT_SKIP_SCRUB 0 s then s else clearDmem c s
  let (bad, s2) := checkImem c s1
  if 4 ≤ bad then startFail 2 s2 else if s2.start.domains.isEmpty then loadBegin s2 else s2

/-- Step 3 begins. RET_STAT.INPLACE falls when the data SRAM is initialised. -/
def beginClusters (s : State) : State :=
  let keep := s.start.kind == 2 && rdB F.pwr_RET_STAT_VALID 0 s && rdB F.pwr_RET_STAT_INPLACE 0 s
  let s1 := if keep then wr F.pwr_START_STAT_SKIP_SCRUB 0 1 s else wr F.pwr_RET_STAT_INPLACE 0 0 s
  setStartStep 3 { s1 with start := { s1.start with domains := List.range 32 } }

/-- Step 1 is over: the rails are good and the PLL is locked. A SAFE boot runs at 0.80 V (R511). -/
def powered (s : State) : State :=
  let s1 := if s.start.kind = 3 then retarget 160 160 s else setStartStep 2 s
  { s1 with start := { s1.start with domains := backboneDomains s.start.kind s } }

/-- R500, R501, R508: a start begins, and what was under way is abandoned; a cold start counts IMEM_WR from 0 (R344), and no time latch is
kept (R224). -/
def beginStart (warm : Bool) (s : State) : State :=
  let (k, s1) := startKind warm s
  let s2 := domainsOff (if k = 2 then 48 else 50) (setTrans none (holdSafe 15 s1))
  let s2 := if k = 1 then forN 32 (fun c s => wr F.clu_IMEM_WR c 0 s) s2 else s2
  let s3 := initBackbone 1 (initBackbone 0 s2)
  let s4 := wr F.pwr_MODE_SAFE 0 0 (wr F.pwr_MODE_SAFE_BOOT 0 0 (wr F.pwr_MODE_STEP 0 0 s3))
  let s5 := wr F.pwr_VCORE_STAT_BIAS 0 0 (wr (railFail 0) 0 0 (wr (railFail 1) 0 0 (wr (railRamp 0) 0 0 (wr (railRamp 1) 0 0 s4))))
  let s6 := wr F.pwr_START_STAT_KIND 0 k (wr F.pwr_START_STAT_SKIP_SCRUB 0 0 (wr F.pwr_START_STAT_SKIP_IMAGE 0 0 (wr F.pwr_START_STAT_SKIP_DISC 0 0 s5)))
  let s7 : State :=
    { s6 with
      ctxs := [], units := [], posted := [], reqs := []
      contain := State.reset.contain
      pwr := { s6.pwr with hot := [], unbiased := [], bankBad := [], startCold := false }
      pins := { s6.pins with mainEn := true }
      clock := if k = 2 then { s6.clock with hostLatch := 0 }
        else { s6.clock with dev := 0, run := s6.pins.mainPg && s6.pins.refclk, hostLatch := 0 }
      start := { s6.start with
        kind := k, began := s6.clock.ao, loading := [], buf := [], domains := [], tried := 0, skipTry := false, failed := false,
        digestDue := false, restored := false, due := 0 } }
  let s8 := setStartStep 1 s7
  if s8.pins.mainPg && s8.pins.refclk then powered s8 else s8

/-- R39: the regulators stand at their boot voltage of 0.80 V when MAIN_PG rises. -/
def pgRise (s : State) : State :=
  if !s.pins.mainEn then s
  else
    let s1 := wr (railRead 0) 0 160 (wr (railRead 1) 0 160 s)
    { s1 with
      pins := { s1.pins with mainPg := true }
      pwr := { s1.pwr with targetE := 160, targetW := 160, askedE := 160, askedW := 160 } }

/-- R224, R234: device time as the PLL locks: 0 at a cold start; at a wake the saved time plus the elapsed count of the always-on clock, within
500 ppm of the time asleep. -/
def startTime (s : State) : State :=
  if s.start.kind ≠ 2 then
    { s with clock := { s.clock with dev := 0, run := true } }
  else match s.saved with
    | some v =>
      let asleep := (s.clock.ao - v.ao) * 2 ^ 65 / 10 ^ 9
      let (e, s1) := s.anyBelow (asleep / 1000 + 1)
      { s1 with clock := { s1.clock with dev := (v.dev + asleep - asleep / 2000 + e) % 2 ^ 101, run := true } }
    | none => { s with clock := { s.clock with run := true } }

/-- PLL_LOCK (R39, R224). -/
def pllLock (s : State) : State :=
  if !s.pins.mainPg || s.pins.refclk then s
  else
    let s1 := { s with pins := { s.pins with refclk := true } }
    if s.start.step = 1 ∧ s.start.domains.isEmpty then powered (startTime s1) else s1

/-- R511: a SAFE boot is complete. -/
def safeBootDone (s : State) : State := setStartStep 0 (wr F.pwr_MODE_SAFE_BOOT 0 1 (wr F.pwr_START_FAILS_SAFE_BOOT 0 1 s))

/-- DOMAIN_POWER_UP_DONE: domain `d` of the start, or of a domain request, has powered up; `ok` when its self-check passed (R488). -/
def domainPowerUpDone (d : Nat) (ok : Bool) (s : State) : State :=
  let n := s.start.step
  if n = 0 then domainUpDone d ok s
  else
    let next := if n = 3 ∨ n = 5 then s.start.domains.head? == some d else s.start.domains.contains d
    if !next then s
    else if !ok then startFail 6 (if d < 32 then raiseAt 1 d 16 2 0 s else s)
    else
      let s1 := { s with start := { s.start with domains := s.start.domains.filter (· ≠ d) } }
      let s2 := domainUp d (n == 5) s1
      let last := s2.start.domains.isEmpty
      match n with
      | 3 => clusterChecked d s2
      | 5 => if last then finishApply s2 else s2
      | 2 => if last then beginClusters s2 else s2
      | _ => if last then safeBootDone s2 else s2

/-- BANK_SUPPLY (R42): in step 5 of a start the bank is no longer waited for. -/
def bankSupplyAt (b : Nat) (s : State) : State :=
  if !(railsUsed s || starting s) then s
  else
    let s1 := bankSupply b s
    if s1.start.step = 5 ∧ !s.start.domains.isEmpty ∧ s1.start.domains.isEmpty then finishApply s1 else s1

/-- CLUSTER_POWER during a start: a failed self-check fails it (R510). -/
def clusterPowerAt (c why : Nat) (s : State) : State :=
  if why = 2 ∧ s.start.step ≠ 0 then domainPowerUpDone c false s else clusterPower c why s

/-! ### Steps 6 and 7 -/

/-- The device has its ID: assigned, or STATIC (R448). -/
def hasId (s : State) : Bool := rdB F.qdl_DEV_ID_ASSIGNED 0 s || rd F.qdl_ID_CFG_MODE 0 s == 0

/-- R508: every enabled link is UP. -/
def linksSettled (s : State) : Bool := (List.range 6).all (fun l => !rdB F.link_LINK_CTL_EN l s || linkUp l s)

/-- Step 7 (R240, R457, R480): the start is complete. -/
def completeStart (s : State) : State :=
  let s1 := setStartStep 7 s
  let s2 := if s1.start.restored then
      match s1.pwr.asker with
      | some cid => makeReady (reqOf cid 2 s1) (answerMode (some cid) (statusWord 0 0 0 0 (rd F.pwr_WAKE_REC0_CAUSE 0 s1)) s1)
      | none => answerMode none (statusWord 0 0 0 0 (rd F.pwr_WAKE_REC0_CAUSE 0 s1)) s1
    else forN 4096 startAction s1
  let s3 := wr F.pwr_START_FAILS_COLD 0 0 (wr F.pwr_START_FAILS_WARM 0 0 s2)
  let s4 := if s.start.kind = 1 then wr F.pwr_START_FAILS_SAFE_BOOT 0 0 s3 else wr F.pwr_START_CTL_RELOAD 0 0 s3
  let s5 := s4.setReg (keyOf .pwr 0 67) (BitVec.ofNat 36 (min ((s.clock.ao - s.start.began) / 10 ^ 6) (2 ^ 20 - 1)))
  let s6 := setStartStep 0 (wr F.pwr_MODE 0 4 (wr F.pwr_MODE_STEP 0 0 s5))
  let s7 := toRunTargets s6
  if hasId s7 then broadcast 6 (devId s7) false s7 else s7

/-- R506, R508, R449: step 6 goes on as far as it can. -/
def settleDiscovery (s : State) : State :=
  let root := rdB F.qdl_ID_CFG_ROOT 0 s
  if s.start.step ≠ 6 then s
  else if s.start.skipTry then
    if !(linksSettled s || s.start.digestDue) then s
    else
      let s1 := { s with start := { s.start with skipTry := false } }
      if topoDigest s = rd F.qdl_TOPO_DIGEST_VAL 0 s ∧ rdB F.qdl_DEV_ID_ASSIGNED 0 s then
        completeStart (wr F.qdl_TOPO_STAT_SKIPPED 0 1 (wr F.pwr_START_STAT_SKIP_DISC 0 1 s1))
      else
        startDiscovery (if root || rd F.qdl_ID_CFG_MODE 0 s == 0 then s1 else wr F.qdl_DEV_ID_ASSIGNED 0 0 s1)
  else if root then (if rdB F.qdl_TOPO_STAT_DONE 0 s then completeStart s else s)
  else if hasId s then completeStart (wr F.qdl_TOPO_DIGEST_VAL 0 (topoDigest s) s)
  else s

/-- What a command has set in train for the start: one that was asked for begins, and step 6 goes on. A warm start's step 6 is looked at
again when its comparison has failed. -/
def settleStart (s : State) : State :=
  let s1 := match s.start.due with
    | 1 => beginStart false s
    | 2 => beginStart true s
    | _ => s
  settleDiscovery (settleDiscovery s1)

/-- DIGEST_COMPARE_TIMEOUT (R508). -/
def digestTimeout (s : State) : State :=
  if s.start.kind = 2 ∧ 3 ≤ s.start.step then
    { s with start := { s.start with digestDue := true } }
  else s

/-- START_DISCOVERY_TIMEOUT (Table ST-2, step 6). -/
def startDiscoveryTimeout (s : State) : State :=
  if s.start.step = 6 ∧ !s.start.skipTry ∧ !rdB F.qdl_ID_CFG_ROOT 0 s ∧ !hasId s then startFail 5 s else s

/-- POWER_UP_TIMEOUT (R39). -/
def powerUpTimeout (s : State) : State :=
  if s.start.step = 1 ∧ !(s.pins.mainPg && s.pins.refclk) then startFail 1 s else s

/-- START_RETRY (R510). -/
def startRetry (s : State) : State := if s.start.failed then beginStart s.start.retryWarm s else s

/-! ### Requests, reset and the always-on supply -/

/-- START_COLD_REQUEST (R501). -/
def requestCold (s : State) : State :=
  if !s.pins.resetN ∨ modeOf s = 0 ∨ (s.start.step ≠ 0 ∧ s.start.kind ≠ 2) then s
  else { s with start := { s.start with due := 1 } }

/-- START_WARM_REQUEST (R501); a SAFE boot is left only by a cold start (R511). -/
def requestWarm (s : State) : State :=
  if !s.pins.resetN ∨ modeOf s = 0 ∨ starting s ∨ rdB F.pwr_MODE_SAFE_BOOT 0 s ∨ s.start.due ≠ 0 then s
  else { s with start := { s.start with due := 2 } }

/-- WARM_N (R58, R477): in RUN and BOOST a warm start, otherwise a wake with cause WARM_N. -/
def warmPulse (s : State) : State :=
  let entry := match s.pwr.trans with | some t => decide (t.goal ≤ 3) | none => false
  if (modeOf s = 4 ∨ modeOf s = 5) ∧ !entry then requestWarm s else wake 3 0 s

/-- PERST_N_RISE (R477). -/
def perstRise (s : State) : State := if rdB F.pwr_WAKE_EN_PERST_N 0 s then wake 4 0 s else s

/-- WAKE_TIMER (R477): it counts from the completion of an entry. -/
def wakeTimer (s : State) : State :=
  if rd F.pwr_WAKE_TIMER_MS 0 s ≠ 0 ∧ s.pwr.trans.isNone ∧ modeOf s ≠ 4 ∧ modeOf s ≠ 5 then wake 1 0 s else s

/-- RESET_N_FALL (R38): SAFE_N and MAIN_EN go low, and whatever ran ends; MODE reads SENTINEL. -/
def resetFall (s : State) : State :=
  if modeOf s = 0 then { s with pins := { s.pins with resetN := false } }
  else
    let s1 := domainsOff 50 (setStartStep 0 (setTrans none (holdSafe 15 s)))
    let s2 := wr F.pwr_MODE 0 3 (wr F.pwr_MODE_STEP 0 0 (wr F.pwr_MODE_SAFE 0 0 (wr F.pwr_MODE_SAFE_BOOT 0 0 s1)))
    { s2 with
      pins := { s2.pins with resetN := false, mainEn := false, mainPg := false, refclk := false }
      clock := { s2.clock with run := false }
      contain := State.reset.contain
      start := { s2.start with failed := false, due := 0, loading := [], buf := [], domains := [] } }

/-- RESET_N_RISE: BOOT_SEL is sampled and the cold start begins (R39). -/
def resetRise (sel : Nat) (s : State) : State :=
  if s.pins.resetN then s
  else if modeOf s = 0 then { s with pins := { s.pins with resetN := true, bootSel := sel } }
  else beginStart false { s with pins := { s.pins with resetN := true, bootSel := sel } }

/-- The contents of the instruction stores, which keep them in every mode (R333). -/
def onlyImem (s : State) : State :=
  { s with
    mem := s.mem.filter (fun (c : Host.Cell) => isImem (c.1 / 32)), poison := s.poison.filter isImem
    errs := s.errs.filter (fun (e : Nat × Nat) => isImem e.1) }

/-- The machine as VAO leaves it powered up: reset, but for the commands that wait, what has left the device, the model's counters, the
instruction stores, the OTP, and the levels that the plant drives. -/
def vaoFresh (s : State) : State :=
  let t := onlyImem s
  { State.reset with
    pending := s.pending, free := s.free, order := s.order, sent := s.sent
    clock := { State.reset.clock with tick := s.clock.tick }
    mem := t.mem, poison := t.poison, errs := t.errs
    comps := s.comps.map (fun e => (e.1, { Comp.init with uv := e.2.uv })), encs := s.encs
    pins := { State.reset.pins with fltLow := s.pins.fltLow, resetN := false }
    start := { State.reset.start with key := s.start.key, keySet := s.start.keySet, authReq := s.start.authReq } }

/-- VAO_LOSS (R465): OFF. -/
def vaoLoss (s : State) : State := if modeOf s = 0 then s else wr F.pwr_MODE 0 0 (vaoFresh s)

/-- VAO_POWER_UP (R465, R337, R498): SENTINEL, RESET_N low. -/
def vaoPowerUp (s : State) : State := if modeOf s = 0 then vaoFresh s else s

/-- R521: a write of OTP_CTL burns the key hash and AUTH, once and only in a SAFE boot. -/
def burnOtp (v : Word) (s : State) : State :=
  if bits v 0 1 = 0 ∨ s.start.keySet ∨ !rdB F.pwr_MODE_SAFE_BOOT 0 s then s
  else
    let k := (List.range 8).foldl (fun a i => a + bits (s.reg (keyOf .pwr 0 (72 + i))) 0 32 * 2 ^ (32 * i)) 0
    { s with start := { s.start with key := BitVec.ofNat 256 k, keySet := true, authReq := bits v 1 1 == 1 } }

end Sys2Proof.Machine
end

