-- ==== Sys2Proof/Machine/Control.lean ====
section
/-! DEFINITION. The control registers of contexts and units (R73 to R76, R160, R161, R172), as MFC, MTC and the UNT windows reach them. -/

set_option Elab.async false

namespace Sys2Proof.Machine

/-- CST.LOF: the long operations of a context in flight. -/
def lopsOf (cid : Nat) (s : State) : Nat := (s.unit (unitOf cid)).lops.countP (fun l => l.cid == cid)

/-- A truth value as a bit at a place. -/
def bitAt (b : Bool) (n : Nat) : Nat := if b then 2 ^ n else 0

/-- Table EN-4: CST as it reads. -/
def cstWord (cid : Nat) (s : State) : Word :=
  let x := s.ctx cid
  BitVec.ofNat 36 (x.st.code * 2 ^ 24 + x.pri * 2 ^ 20 + bitAt x.dlBit 17 + bitAt x.atBit 16 + min (lopsOf cid s) 4 * 2 ^ 12 + x.trapEn * 2 ^ 8
    + x.sticky)

/-- Table EN-6: a part of an accumulator as it reads: 0 bits 35:0, 1 bits 71:36, 2 bits 79:72 with the copies of the sign. -/
def accPart (m : Acc) (part : Nat) : Word :=
  match part with
  | 0 => m.setWidth 36
  | 1 => (m >>> 36).setWidth 36
  | _ => (m.sshiftRight 72).setWidth 36

/-- Table EN-6: an accumulator with a part written. -/
def accWrite (m : Acc) (part : Nat) (v : Word) : Acc :=
  let n := m.toNat
  match part with
  | 0 => BitVec.ofNat 80 (n / 2 ^ 36 * 2 ^ 36 + v.toNat)
  | 1 => BitVec.ofNat 80 (n / 2 ^ 72 * 2 ^ 72 + v.toNat * 2 ^ 36 + n % 2 ^ 36)
  | _ => BitVec.ofNat 80 (v.toNat % 2 ^ 8 * 2 ^ 72 + n % 2 ^ 72)

/-- Table EN-3: control register `r` of context `cid`; an undefined index reads 0. -/
def readCtl (cid r : Nat) (s : State) : Word :=
  let x := s.ctx cid
  match r with
  | 0 => x.pc.setWidth 36
  | 1 => x.lnk.setWidth 36
  | 2 => cstWord cid s
  | 3 => BitVec.ofNat 36 x.tbr
  | 4 => x.trg
  | 5 => x.frc
  | 6 => BitVec.ofNat 36 cid
  | 8 => accPart x.m0 0
  | 9 => accPart x.m0 1
  | 10 => accPart x.m0 2
  | 12 => accPart x.m1 0
  | 13 => accPart x.m1 1
  | 14 => accPart x.m1 2
  | _ => 0

/-- A part of an accumulator of a context written. -/
def writeAcc (r : Nat) (v : Word) (x : Ctx) : Ctx :=
  if r < 12 then { x with m0 := accWrite x.m0 (r - 8) v } else { x with m1 := accWrite x.m1 (r - 12) v }

/-- Table EN-4: the sticky bits of CST after a write, W1C. -/
def clearSticky (v : Word) (x : Ctx) : Ctx := { x with sticky := x.sticky &&& (31 - bits v 0 5) }

/-- MTC of a control register of the executing context at step `n` (R135, R160): the trap enables and TBR stay pending until SYNC or YIELD; LNK
follows Table PL-3. -/
def writeOwnCtl (cid r n : Nat) (v : Word) (s : State) : State :=
  s.modCtx cid (fun x => match r with
    | 1 => { x with pend := x.pend ++ [{ dst := .lnk, val := v, due := n + 2 }] }
    | 2 => { clearSticky v x with trapEnNext := some (bits v 8 3) }
    | 3 => { x with tbrNext := some (bits v 0 6) }
    | 5 => { x with frc := v }
    | 8 | 9 | 10 | 12 | 13 | 14 => writeAcc r v x
    | _ => x)

/-- R75: a write of another context's register is discarded; the writing context's XR is set. -/
def discardCross (writer : Option Nat) (s : State) : State :=
  match writer with
  | some c => s.modCtx c (fun x => { x with sticky := x.sticky ||| 16 })
  | none => s

/-- R75, R161, R188, R193: a write of control register `r` of context `cid` by another context, or by the host (`writer` none). Where the index
is read only or undefined nothing is written. -/
def writeOtherCtl (writer : Option Nat) (cid r : Nat) (v : Word) (s : State) : State :=
  let x := s.ctx cid
  if !([0, 1, 2, 3, 5, 8, 9, 10, 12, 13, 14].contains r) then s
  else if x.st ≠ .idle ∧ x.st ≠ .halted then discardCross writer s
  else match r with
    | 0 => writeOtherPc cid v s
    | 1 => s.setCtx cid { x with lnk := v.setWidth 32 }
    | 2 => s.setCtx cid { clearSticky v x with trapEn := bits v 8 3, trapEnNext := none }
    | 3 => s.setCtx cid { x with tbr := bits v 0 6, tbrNext := none }
    | 5 => writeFrc cid v s
    | _ => s.setCtx cid (writeAcc r v x)

/-- Table PL-10: STEP_TIME.MEAN of unit `u`, over the window of 1,024 ns before the present one. -/
def stepMean (u : Nat) (s : State) : Nat :=
  let w := s.clock.tick / 1024
  let x := s.unit u
  if w ≠ 0 ∧ (x.win = w ∨ (x.win = w + 1 ∧ x.winPrev = w)) then 1 + Config.stepTime u w % 8191 else 0

/-- Table PL-10: UNT register `k` (from control number 0x0200) of unit `u` as it reads; a read clears the RS fields (R10). STEP_TIME is
0 when the last completed window of 1,024 ns held no step, and otherwise a measured value, free within its field. -/
def readUnt (u k : Nat) (s : State) : Word × State :=
  let x := s.unit u
  match k with
  | 0 => (BitVec.ofNat 36 (u / 128 * 2 ^ 16 + u / 32 * 2 ^ 13 + u / 8 * 2 ^ 8 + u), s)
  | 1 => (BitVec.ofNat 36 x.steps, s)
  | 2 => (BitVec.ofNat 36 (stepMean u s), s)
  | 3 => (BitVec.ofNat 36 (x.waitLof * 2 ^ 27 + x.waitCredit * 2 ^ 18 + x.waitBank * 2 ^ 9 + x.waitFetch),
          s.setUnit u { x with waitLof := 0, waitCredit := 0, waitBank := 0, waitFetch := 0 })
  | 4 => (BitVec.ofNat 36 (bitAt x.lookahead 1 + bitAt x.btbEn 0), s)
  | 5 => (BitVec.ofNat 36 (x.btbMiss * 2 ^ 18 + x.btbHit), s.setUnit u { x with btbHit := 0, btbMiss := 0 })
  | 6 => (BitVec.ofNat 36 (x.owner * 2 ^ 4 + x.lops.foldl (fun a l => a ||| 2 ^ l.slot) 0), s)
  | _ => (0, s)

/-- FETCH_CTL.BTB_FLUSH: every BTB entry is invalid at once. -/
def flushBtb (u : Nat) (s : State) : State := s.modUnit u (fun x => { x with btb := [], btbWait := [] })

/-- A write of UNT register `k` of unit `u`; FETCH_CTL's RW fields wait for SYNC.I (Table PL-4). -/
def writeUnt (u k : Nat) (v : Word) (s : State) : State :=
  if k ≠ 4 then s
  else
    let s1 := s.modUnit u (fun x => { x with btbEnNext := some (bits v 0 1 == 1), lookaheadNext := some (bits v 1 1 == 1) })
    if bits v 2 1 = 1 then flushBtb u s1 else s1

/-- R73, R172: what a control number names: a register of a context of unit `u`, or a UNT register. -/
inductive CtlRef where
  | ctx (cid r : Nat)
  | unt (k : Nat)
  | none
deriving DecidableEq, Repr

/-- R73: the register that control number `n` names, for context `cid`. -/
def ctlRef (n cid : Nat) : CtlRef :=
  if n < 0x10 then .ctx cid n
  else if n < 0x100 then .none
  else if n < 0x200 then .ctx (cid / 16 * 16 + (n - 0x100) / 16) (n % 16)
  else if n < 0x207 then .unt (n - 0x200)
  else .none

/-- MFC: the value of control number `n`, for context `cid`. -/
def mfcRead (cid n : Nat) (s : State) : Word × State :=
  match ctlRef n cid with
  | .ctx c r => (readCtl c r s, s)
  | .unt k => readUnt (unitOf cid) k s
  | .none => (0, s)

/-- MTC at step `n` of control number `k` with value `v`, by context `cid`. -/
def mtcWrite (cid k n : Nat) (v : Word) (s : State) : State :=
  match ctlRef k cid with
  | .ctx c r => if c = cid then writeOwnCtl cid r n v s else writeOtherCtl (some cid) c r v s
  | .unt i => writeUnt (unitOf cid) i v s
  | .none => s

/-- R341: the read of word `o` of the UNT window of unit `u`. -/
def readUntWindow (u o : Nat) (s : State) : Word × State :=
  if !domOn (u / 8) s then (0, s)
  else if o < 0x100 then readUnt u o s
  else (readCtl (16 * u + (o - 0x100) / 16) (o % 16) s, s)

/-- R341: the write of word `o` of the UNT window of unit `u`. -/
def writeUntWindow (writer : Option Nat) (u o : Nat) (v : Word) (s : State) : State :=
  if !domOn (u / 8) s then s
  else if o < 0x100 then writeUnt u o v s
  else writeOtherCtl writer (16 * u + (o - 0x100) / 16) (o % 16) v s

end Sys2Proof.Machine
end

