-- ==== Sys2Proof/Machine/RegBus.lean ====
section
/-! DEFINITION. The control register space (R8 to R13, R340 to R345): what a read of a register returns, with the fields that are computed from
the state, and what a write of it does. A register is named by its word offset from 0x0800_0000; the requester `req` is a context, or 4,096 for
the host. -/

set_option Elab.async false

namespace Sys2Proof.Machine

/-- The domain that holds register `k`: a unit's window lies in its cluster (R342). -/
def regDomain (k : Nat) : Option Nat :=
  if 0x60000 ≤ k then some ((k - 0x60000) / 0x200 / 8) else (locate k).bind (fun e => blkDomain e.1 e.2.1)

/-- A word with a field put in. -/
def putField (w : Word) (f : FRef) (v : Nat) : Word := setBits w f.lo f.w v

/-- The device time of a later or an earlier tick, by the present advance, in 2⁻³⁶ s. -/
def devAtTick (t : Nat) (s : State) : Int :=
  ((s.clock.dev : Int) + ((t : Int) - s.clock.tick) * (rd F.tbu_TIME_INC 0 s + rdZ F.tbu_TIME_SLEW 0 s)) / 2 ^ 29

/-- The registers of the scheduler's block of a context (Table SH-5) that show its heap entries. -/
def shownHeap (cid o : Nat) (w : Word) (s : State) : Word :=
  let h := s.heap cid
  match o with
  | 1 => putField (putField w F.sctx_ANG_TB h.tb) F.sctx_ANG_STATE
          (match h.ang with | .disarmed => 0 | .predicted => 1 | .held => 2 | .away => 3)
  | 2 => if h.ang = .predicted then wordOf (devAtTick h.pred s) else 0
  | 3 => (match h.dl with | some t => BitVec.ofNat 36 (t / 2 ^ 36) | none => 0)
  | 4 => (match h.dl with | some t => BitVec.ofNat 36 t | none => 0)
  | _ => w

/-- The contexts of region `r`. -/
def regionCtxs (r : Nat) : List Nat := (List.range 512).map (512 * r + ·)

/-- The registers of a queue's descriptor (Table QU-11) that show the queue. -/
def shownQueue (q o : Nat) (w : Word) (s : State) : Word :=
  let x := s.queue q
  match o with
  | 4 => putField (putField w F.desc_LEVEL_CELLS x.used) F.desc_LEVEL_WORDS (min x.words (2 ^ 19 - 1))
  | 7 => putField (putField (putField w F.desc_CMD_STAT_MARK (if x.mark.isSome then 1 else 0)) F.desc_CMD_STAT_DISCARD (if x.discard then 1 else 0))
          F.desc_CMD_STAT_RESETTING (if x.resetting then 1 else 0)
  | _ => w

/-- A timebase's registers (Table TB-5) that show its triple. -/
def shownTb (n o : Nat) (w : Word) (s : State) : Word :=
  let now : Nat × Word × Word := match (s.tb n).was with
    | some (t, st, pos, vel) => if t = s.clock.tick then (st, pos, vel) else ((s.tb n).st.code, tbPub n s, wordOf (s.tb n).v)
    | none => ((s.tb n).st.code, tbPub n s, wordOf (s.tb n).v)
  match o with
  | 5 => now.2.1
  | 6 => now.2.2
  | 7 => timeFOf (tbBase n s).2.2
  | 8 => putField w F.tb_STAT_STATE now.1
  | _ => w

/-- What a register reads (R8), its computed fields included. A pad that nothing drives reads either level. -/
def shownReg (req : Nat) (b : Blk) (i o : Nat) (s : State) : Word × State :=
  let w := heldReg (keyOf b i o) s
  match b, o with
  | .pwr, 17 => (BitVec.ofNat 36 (s.clock.ao / 1000), s)
  | .pwr, 68 => (BitVec.ofNat 36 (bitAt s.start.authReq 1 + bitAt s.start.keySet 0), s)
  | .jsp, 50 => (putField w F.jsp_OUT_SAFE_N ((List.range 4).foldl (fun a b => a + bitAt (safePin b s) b) 0), s)
  | .tbu, 0 => (BitVec.ofNat 36 s.timeF, latchTime req s)
  | .tbu, 1 => (latchedS req s, s)
  | .tbu, 6 => (putField w F.tbu_TIME_STAT_PLL_LOCK (if s.pins.refclk then 1 else 0), s)
  | .tb, _ => (shownTb i o w s, s)
  | .sch, 1 =>
    (putField (putField w F.sch_STAT_ARMED_DL ((regionCtxs i).countP (fun c => (s.heap c).dl.isSome))) F.sch_STAT_ARMED_ANG
      ((regionCtxs i).countP (fun c => (s.heap c).ang != .disarmed)), s)
  | .sctx, o => if 1 ≤ o ∧ o ≤ 4 then (shownHeap i o w s, checkHeap i s) else (w, s)
  | .gen, 5 =>
    let (n, d) := if (s.gen i).run then genX i (2 * s.now8) s else (0, 1)
    (putField w F.gen_POS_X (n * 2 ^ 24 / d).toNat, s)
  | .pin, 3 => (putField w F.pin_PIN_STAT_DEPTH (s.evPin i).edges.length, s)
  | .pin, 4 =>
    let (l, s1) := match padLevel i s with | some l => (l, s) | none => s.anyBool
    (putField (putField w F.pin_OUT_FORCED (if forced i s then 1 else 0)) F.pin_OUT_LEVEL (if l then 1 else 0), s1)
  | .dma, 0 => (putField (putField w F.dma_DMA_STAT_BUF_USED (bufUsed s)) F.dma_DMA_STAT_ACTIVE (dmaActive s), s)
  | .hst, 1 => (putField (putField w F.hst_RES_STAT_ENTRIES s.host.res.length) F.hst_RES_STAT_GRANULES (resGranules s), s)
  | .qpl, 0 => (putField (putField w F.qpl_POOL_STAT_FREE (poolFree s i)) F.qpl_POOL_STAT_UNRES (poolUnres s i), s)
  | .qpl, o =>
    if 32 ≤ o ∧ o < 42 then
      (if o = 41 ∧ i = 1 then 0 else putField w (F.qpl_XING_STAT_LOCAL_RESET.nth (o - 32)) (if (s.xing (10 * i + (o - 32))).near then 1 else 0), s)
    else (w, s)
  | .desc, _ => (shownQueue i o w s, s)
  | _, _ => (w, s)

/-- A log entry has been read: a later entry in its place overwrites nothing unread (Tables HP-11, QF-12, PW-12). -/
def noteRead (b : Blk) (o : Nat) (s : State) : State :=
  match b with
  | .hst => if 96 ≤ o ∧ o < 128 ∧ o % 2 = 0 then { s with host := { s.host with unread := s.host.unread.filter (· ≠ (o - 96) / 2) } } else s
  | .qdl => if 96 ≤ o ∧ o < 128 ∧ o % 2 = 0 then { s with qdl := { s.qdl with unread := s.qdl.unread.filter (· ≠ (o - 96) / 2) } } else s
  | .jsp => if 192 ≤ o ∧ o < 224 ∧ o % 2 = 0 then { s with jsp := { s.jsp with unread := s.jsp.unread.filter (· ≠ (o - 192) / 2) } } else s
  | _ => s

/-- R10, R342: a read of register `k`: its value, and the state with its RS fields cleared. -/
def readReg (req k : Nat) (s : State) : Word × State :=
  if 0x60000 ≤ k then (if k < 0x80000 then readUntWindow ((k - 0x60000) / 0x200) (k % 0x200) s else (0, s))
  else match locate k with
    | none => (0, s)
    | some (b, i, o) =>
      if (fieldsAt b o).isEmpty || !blkOn b i s || modeOf s == 0 then (0, s)
      else
        let (w, s1) := shownReg req b i o s
        (w, clearOnRead k (noteRead b o s1))

/-- R202, R203: a write of a CONTAIN register: HALT first, then RELEASE. -/
def writeContain (lvl i : Nat) (v : Word) (s : State) : State :=
  let c : Scope := { lvl := lvl, i := i }
  let s1 := if bits v 2 1 = 1 then softHalt c s else s
  match bits v 0 2 with
  | 1 => releaseLevel c false s1
  | 2 => releaseLevel c true s1
  | _ => s1

/-- R262: a write of CMD of a context's scheduler block. -/
def writeSchCmd (cid : Nat) (v : Word) (s : State) : State :=
  let s1 := if bits v 1 1 = 1 then disarmAngle cid (checkHeap cid s) else s
  let s2 := if bits v 2 1 = 1 then disarmDeadline cid s1 else s1
  if bits v 0 1 = 1 then offerReq (reqOf cid 2 s2) s2 else s2

/-- A write of START_CTL: RELOAD is stored; COLD and WARM ask for a start. -/
def writeStartCtl (v : Word) (s : State) : State :=
  let s1 := storeReg .pwr 0 64 v s
  if bits v 0 1 = 1 then requestCold s1 else if bits v 1 1 = 1 then requestWarm s1 else s1

/-- A write of DOM_CTL; a number above D49 names no domain. -/
def writeDomCtl (v : Word) (s : State) : State :=
  if 50 ≤ bits v 0 6 then s else requestDomain (bits v 0 6) (bits v 6 1 == 1) (bits v 7 1 == 1) s

/-- The writes of PWR registers. -/
def writePwr (o : Nat) (v : Word) (s : State) : State :=
  match o with
  | 2 => hostMode (bits v 0 3) (bits v 3 1 == 1) s
  | 11 => writeDomCtl v s
  | 15 => writeVcoreCtl v s
  | 64 => writeStartCtl v s
  | 69 => burnOtp v s
  | _ => if 72 ≤ o ∧ o < 80 then s.setReg (keyOf .pwr 0 o) (BitVec.ofNat 36 (bits v 0 32)) else storeReg .pwr 0 o v s

/-- The writes of JSP registers. -/
def writeJsp (o : Nat) (v : Word) (s : State) : State :=
  if o = 54 ∨ o = 55 then clearLatches (o == 55) v s
  else if 64 ≤ o ∧ o < 192 then writeRule ((o - 64) / 2) (o % 2) v s
  else storeReg .jsp 0 o v s

/-- The writes of the timebase unit's global registers. A write of TIME_S_NEXT names the seconds of the next good edge or sample. -/
def writeTbu (o : Nat) (v : Word) (s : State) : State :=
  match o with
  | 2 =>
    let s1 := storeReg .tbu 0 2 v s
    { s1 with clock := { s1.clock with nextWritten := true } }
  | 3 => writeTimeCtl v s
  | 7 => writePpsCtl v s
  | _ => storeReg .tbu 0 o v s

/-- The writes of a timebase's registers. -/
def writeTb (n o : Nat) (v : Word) (s : State) : State :=
  match o with
  | 0 => writeTbSrc n v s
  | 1 => writeTbCtl n v s
  | 3 => writeTbScale n v s
  | 4 => writeTbOffset n v s
  | 5 => writeTbPos n v s
  | 7 => writeUpdT n v s
  | _ => storeReg .tb n o v s

/-- The writes of event-output registers. -/
def writeEvo (b : Blk) (i o : Nat) (v : Word) (s : State) : State :=
  match b, o with
  | .bank, 2 | .bank, 3 | .bank, 4 | .bank, 5 | .bank, 6 => writeSource i o v s
  | .bank, 7 => writeTrip i v s
  | .gen, 0 => writeCgCtl i v s
  | .gen, 1 => storeReg .gen i 1 v (notePer i s)
  | .gen, 3 => writePhase i v s
  | .gen, 4 => if bits v 0 1 = 1 then setCommit i s else s
  | .pin, 0 => writePinCtl i v s
  | .pin, 1 => storeReg .pin i 1 v (noteCmp i s)
  | _, _ => storeReg b i o v s

/-- The writes of DMA registers. -/
def writeDma (b : Blk) (i o : Nat) (v : Word) (s : State) : State :=
  match b, o with
  | .cq, 0 | .cq, 1 => writeCqCfg i o v s
  | .cq, 2 => writeCqHead i v s
  | .ch, 0 => writeChCtl i v s
  | _, _ => storeReg b i o v s

/-- R8 to R12, R239, R342: a write of register `k` by a requester. -/
def writeReg (req k : Nat) (v : Word) (s : State) : State :=
  if 0x60000 ≤ k then
    (if k < 0x80000 then writeUntWindow (if req < 4096 then some req else none) ((k - 0x60000) / 0x200) (k % 0x200) v s else s)
  else match locate k with
    | none => s
    | some (b, i, o) =>
      if (fieldsAt b o).isEmpty || !blkOn b i s || modeOf s == 0 then s
      else match b with
        | .pwr => writePwr o v s
        | .jsp => writeJsp o v s
        | .tbu => writeTbu o v s
        | .tb => writeTb i o v s
        | .mfr => if o = 2 then writeSwStrobe v s else storeReg .mfr 0 o v s
        | .grp => writeGrp i o v s
        | .chan => writeChan i o v s
        | .comp => writeComp i o v s
        | .enc => writeEnc i o v s
        | .rt => writeTrk i o v s
        | .gt => writeTrk (8 + i) o v s
        | .evo | .bank | .gen | .pin => writeEvo b i o v s
        | .dma | .cq | .ch => writeDma b i o v s
        | .hst => if o = 4 then raiseHostEvt v s else storeReg .hst 0 o v s
        | .ring => if o = 0 then writeRingCtl i v s else storeReg .ring i o v s
        | .link => if o = 0 then writeLinkCtl i v s else storeReg .link i o v s
        | .sch => if o = 480 then writeContain 2 i v s else storeReg .sch i o v s
        | .sctx =>
          if (s.ctx i).st = .unbound then s else if o = 8 then writeSchCmd i v s else storeReg .sctx i o v s
        | .qpl => if o = 480 then writeContain 3 i v s else storeReg .qpl i o v s
        | .desc => if o = 7 then writeCmdStat i v s else storeReg .desc i o v s
        | .clu => if o = 480 then writeContain 1 i v s else if o = 6 then writeTagWr i v s else storeReg .clu i o v s
        | .qdl | .route => storeReg b i o v s

end Sys2Proof.Machine
end

