-- ==== Sys2Proof/Machine/HostExec.lean ====
section
/-! DEFINITION. The execution of command packets (R414 to R424), of this device's rings and of commands that other devices have forwarded. -/

set_option Elab.async false

namespace Sys2Proof.Machine

/-! ### Results -/

/-- A command leaves those that wait or execute. -/
def dropCmd (c : HCmd) (s : State) : State := { s with host := { s.host with cmds := s.host.cmds.erase c } }

/-- A command replaced by itself further on. -/
def setCmd (c d : HCmd) (s : State) : State := { s with host := { s.host with cmds := s.host.cmds.map (fun x => if x = c then d else x) } }

/-- R504: this device holds no routing image yet. -/
def noRouting (s : State) : Bool := decide (1 ≤ s.start.step) && decide (s.start.step ≤ 5)

/-- R423, R457, R504: a RESULT packet goes back to device `src`. -/
def sendResult (src : Nat) (gs : List Granule) (s : State) : State :=
  let pkt := headOf 3 gs.length src [] s :: gs
  match noRouting s, s.qdl.imageReturn with
  | true, some l => sendLocal l 0 pkt s
  | _, _ =>
    if fencedPeer src s then bump F.qdl_DROP_STAT_FENCED_DEST 0 s
    else match routeOf src s with
      | .out l => sendLocal l 0 pkt s
      | .wait l => sendLocal l 0 pkt s
      | .lost => s
      | _ => bump F.qdl_DROP_STAT_NO_ROUTE 0 s

/-- A command ends with a status, the registers or granules done, the address at which it stopped, and its data. -/
def endCmd (c : HCmd) (status done fault : Nat) (data : List Granule) (s : State) : State :=
  let h : HRec := { rep := false, status := status, op := cOp c.hdr, len := data.length, seq := cSeq c.hdr, nak := 0, src := devId s, done := done,
                    fault := fault, user := cUser c.hdr }
  let s1 := dropCmd c s
  if c.fwd then sendResult c.src (h.gran s :: data) s1
  else if c.dead then ringSettle c.ring s1
  else completeResult c.ring (cSeq c.hdr) (h.gran s :: data) s1

/-! ### Register commands (R416) -/

/-- R416: the status of a register command's range; 0 when it is good. -/
def regRange (c : HCmd) : Nat :=
  let a := cAddr c.hdr
  if a < 0x08000000 ∨ 0x08080000 ≤ a then 3 else if 0x08080000 < a + cLen c.hdr then 5 else 0

/-- Registers read in turn by one REG_RD, whose TIME_S latch is its own (R224). -/
def readRegs (k : Nat) : Nat → State → List Word × State
  | 0, s => ([], s)
  | n + 1, s =>
    let (w, s1) := readReg 4096 k s
    let (l, s2) := readRegs (k + 1) n s1
    (w :: l, s2)

/-- REG_RD. What the result granule holds beside the values is free. -/
def runRegRd (c : HCmd) (s : State) : State :=
  match regRange c with
  | 0 =>
    let latch := s.clock.hostLatch
    let n := cLen c.hdr
    let (ws, s1) := readRegs (cAddr c.hdr - 0x08000000) n { s with clock := { s.clock with hostLatch := 0 } }
    let s2 : State := { s1 with clock := { s1.clock with hostLatch := latch } }
    let (x, s3) := s2.anyBelow (2 ^ 256)
    let g := ws.zipIdx.foldl (fun g e => granPut g (36 * e.2) 36 e.1.toNat) (BitVec.ofNat 256 x)
    endCmd c 0 n 0 [g] s3
  | st => endCmd c st 0 (if st = 3 then cAddr c.hdr else 0) [] s

/-- REG_WR. Poisoned values, of a forwarded command, are not written (log entry 115). -/
def runRegWr (c : HCmd) (s : State) : State :=
  match regRange c with
  | 0 =>
    if c.bad.headD false then endCmd c 7 0 (cAddr c.hdr) [] s else
    let n := cLen c.hdr
    let g := c.data.headD 0
    endCmd c 0 n 0 [] (forN n (fun i s => writeReg 4096 (cAddr c.hdr - 0x08000000 + i) (granWord g i) s) s)
  | st => endCmd c st 0 (if st = 3 then cAddr c.hdr else 0) [] s

/-! ### Memory commands (R417) -/

/-- R417: the range of a memory command: its status (0 good) with the address at which it stops, and its first granule. -/
def memRange (write : Bool) (c : HCmd) (s : State) : Nat × Nat × Nat :=
  let a := cAddr c.hdr
  let n := cLen c.hdr
  match granOver a with
  | none => (3, a, 0)
  | some g =>
    if granAddr g ≠ a then (4, 0, 0)
    else if (granAt (a + 7 * (n - 1))).isNone || granMemory (g + n - 1) != granMemory g then (5, 0, 0)
    else
      let outside := if write then (List.range n).find? (fun i => !granSoft (g + i)) else none
      match outside with
      | some i => (3, granAddr (g + i), 0)
      | none => if granOn g s then (0, 0, g) else (6, 0, 0)

/-- Granules read until the first poisoned or uncorrectable one, and whether there was one. -/
def readGrans (g : Nat) : Nat → State → List Granule × Bool × State
  | 0, s => ([], false, s)
  | n + 1, s =>
    let m := readGran g s
    if m.out = .bad ∨ m.pb then ([], true, m.st)
    else
      let (l, bad, s1) := readGrans (g + 1) n m.st
      (m.data :: l, bad, s1)

/-- MEM_RD. -/
def runMemRd (c : HCmd) (s : State) : State :=
  match memRange false c s with
  | (0, _, g) =>
    let (l, bad, s1) := readGrans g (cLen c.hdr) s
    if bad then endCmd c 7 l.length (granAddr (g + l.length)) l s1 else endCmd c 0 l.length 0 l s1
  | (st, a, _) => endCmd c st 0 a [] s

/-- The granule that a MEM_WR into an instruction store waits for. -/
def memWrGran (c : HCmd) : Nat := match granOver (cAddr c.hdr) with | some g => g + c.done | none => 0

/-- The data granules of a command with their poison bits. -/
def HCmd.grans (c : HCmd) : List (Granule × Bool) := c.data.zipIdx.map (fun e => (e.1, c.bad.getD e.2 false))

/-- MEM_WR. In an instruction store each granule is verified before the next is written. -/
def runMemWr (c : HCmd) (s : State) : State :=
  match memRange true c s with
  | (0, _, g) =>
    if isImem g then writeGran g (c.data.headD 0) (c.bad.headD false) (setCmd c { c with begun := true } s)
    else endCmd c 0 (cLen c.hdr) 0 [] (c.grans.zipIdx.foldl (fun s e => writeGran (g + e.2) e.1.1 e.1.2 s) s)
  | (st, a, _) => endCmd c st 0 a [] s

/-- The verify of granule `g` is over, with the granule good or failed: a MEM_WR that waits for it goes on or ends with WRITE_FAIL. -/
def memWrVerified (g : Nat) (good : Bool) (s : State) : State :=
  match s.host.cmds.find? (fun c => c.begun && cOp c.hdr == 4 && memWrGran c == g) with
  | none => s
  | some c =>
    if !good then endCmd c 8 c.done (granAddr g) [] s
    else if c.done + 1 = cLen c.hdr then endCmd c 0 (c.done + 1) 0 [] s
    else
      let d := { c with done := c.done + 1 }
      writeGran (memWrGran d) (d.data.getD d.done 0) (d.bad.getD d.done false) (setCmd c d s)

/-! ### Queue commands (R418) -/

/-- Granules pushed while credit lasts: how many, and the state. -/
def pushGrans (q : Nat) : List (Granule × Bool) → State → Nat × State
  | [], s => (0, s)
  | (g, pb) :: l, s =>
    if canPushGran s q then
      let (n, s1) := pushGrans q l (pushGran q g pb s)
      (n + 1, s1)
    else (0, s)

/-- R377, R438: queue traffic of the command passes: that of this host crosses X_HP, which is not in reset; that of a forwarded one does not. -/
def crossesHost (c : HCmd) (s : State) : Bool := c.fwd || !(s.xing 9).reset

/-- A Q_PUSH goes on: it is complete when every granule is pushed and visible. -/
def advancePush (c : HCmd) (q : Nat) (s : State) : State :=
  let (n, s1) := if crossesHost c s then pushGrans q (c.grans.drop c.done) s else (0, s)
  let d := { c with done := c.done + n, begun := true }
  let s2 := setCmd c d s1
  if d.done = c.data.length ∧ (s2.queue q).transit.isEmpty then endCmd d 0 d.done 0 [] s2 else s2

/-- The Q_PUSH commands that wait at queue `q` go on. -/
def hostWake (q : Nat) (s : State) : State :=
  match s.host.cmds.find? (fun c => c.begun && cOp c.hdr == 5 && producerQueue s 7 (cAddr c.hdr % 32) == some q) with
  | some c => advancePush c q s
  | none => s

/-- Q_PUSH. The loader takes what goes to HQ31 in step 4 of a start from the host or Quadrille (R504). -/
def runQPush (c : HCmd) (s : State) : State :=
  let n := cAddr c.hdr % 32
  if n = 31 ∧ loaderOpen s then loadGranules c.data (endCmd c 0 c.data.length 0 [] s)
  else match producerQueue s 7 n with
    | none => endCmd c 10 0 0 [] s
    | some q => advancePush c q s

/-- Q_PUSH_TIMEOUT: the push has not completed within Q_TO. -/
def pushTimeout (r : Nat) (s : State) : State :=
  match s.host.cmds.find? (fun c => c.ring == r && c.begun && cOp c.hdr == 5) with
  | some c => endCmd c 9 c.done 0 [] s
  | none => s

/-- R16, R418: closed granules taken from a queue, at most `n`, up to the first poisoned one. That one is removed with its credit and nothing of
it is returned; the spec is silent on it, and the model chooses so (log entry 54). -/
def takeGrans (q : Nat) : Nat → State → List Granule × Bool × State
  | 0, s => ([], false, s)
  | n + 1, s =>
    match takeGran q s with
    | (none, s1) => ([], false, s1)
    | (some (_, true), s1) => ([], true, s1)
    | (some (g, false), s1) =>
      let (l, bad, s2) := takeGrans q n s1
      (g :: l, bad, s2)

/-- Q_TAKE. -/
def runQTake (c : HCmd) (s : State) : State :=
  match consumerQueue s 7 (cAddr c.hdr % 32) with
  | none => endCmd c 10 0 0 [] s
  | some q =>
    let (l, bad, s1) := takeGrans q (cLen c.hdr) s
    endCmd c (if bad then 7 else 0) l.length 0 l s1

/-! ### FETCH (R422) -/

/-- FETCH: a copy of a held result, NOT_READY, or the violation UNKNOWN_SEQ. -/
def runFetch (c : HCmd) (s : State) : State :=
  let s1 := dropCmd c s
  let ring := gbits c.hdr 2 16 4
  let seq := gbits c.hdr 2 0 16
  match s.host.res.find? (fun x => x.ring == ring && x.seq == seq) with
  | none =>
    let s2 := hostViolation 6 c.ring (cSeq c.hdr) s1
    if c.dead then ringSettle c.ring s2 else nakRecord c.ring 6 7 (cSeq c.hdr) (cUser c.hdr) s2
  | some x =>
    if c.dead then ringSettle c.ring s1
    else match x.recd with
    | h :: l => emitRecord c.ring (granPut h 34 1 1 :: l) s1
    | [] =>
      let r : HRec := { rep := false, status := 1, op := x.op, len := 0, seq := x.seq, nak := 0, src := devId s, done := 0, fault := 0, user := x.user }
      emitRecord c.ring [r.gran s] s1

/-! ### Execution -/

/-- R18, R198, R377: what a command acts on can be reached: across X_HP when it comes from this host, and across the die bridge when it lies on
die W. -/
def cmdOpen (c : HCmd) (s : State) : Bool :=
  let near (d : Option Nat) : Bool := d.all (fun d => diePath 0 (domDie d) s)
  match cOp c.hdr with
  | 1 | 2 =>
    crossesHost c s && (List.range (cLen c.hdr)).all (fun i =>
      near (regDomain (cAddr c.hdr - 0x08000000 + i)))
  | 3 | 4 => near ((granOver (cAddr c.hdr)).bind granCluster)
  | 6 => crossesHost c s
  | _ => true

/-- A command executes. An operation that a forwarded packet may not carry has no answer. -/
def runCmd (c : HCmd) (s : State) : State :=
  match cOp c.hdr with
  | 0 => endCmd c 0 0 0 [] s
  | 1 => runRegRd c s
  | 2 => runRegWr c s
  | 3 => runMemRd c s
  | 4 => runMemWr c s
  | 5 => runQPush c s
  | 6 => runQTake c s
  | _ => if c.fwd then dropCmd c s else runFetch c s

/-- R414: the next command of ring `r` executes when it is of operation `op`. -/
def hostCmd (op r : Nat) (s : State) : State :=
  match s.host.cmds.find? (fun c => !c.fwd && c.ring == r) with
  | some c =>
    if domOn 41 s ∧ cOp c.hdr = op ∧ !c.begun ∧ cmdOpen c s then runCmd c s else s
  | none => s

/-- R414, R423: the forwarded commands execute, those of one sender in order; `n` bounds them, `busy` are the senders whose command waits. -/
def runForwarded : Nat → List Nat → State → State
  | 0, _, s => s
  | n + 1, busy, s =>
    match s.host.cmds.find? (fun c => c.fwd && !busy.contains c.src) with
    | none => s
    | some c =>
      if c.begun || !cmdOpen c s then runForwarded n (c.src :: busy) s
      else
        let s1 := runCmd c s
        runForwarded n (if s1.host.cmds.any (fun d => d.fwd && d.begun && d.src == c.src) then c.src :: busy else busy) s1

end Sys2Proof.Machine
end

