-- ==== Sys2Proof/Machine/Finish.lean ====
section
/-! DEFINITION. What follows a command at once: faults that it has raised are handled (R197 to R206), the SAFE state is told to the fabric (R456),
starts that it has asked for begin, forwarded commands execute, and packets move on. -/

set_option Elab.async false

namespace Sys2Proof.Machine

/-- R456, R501: the package SAFE state has been entered: SAFE is flooded, and a start in progress fails. -/
def settleSafe (s : State) : State :=
  if !s.contain.entered then s
  else
    let s1 : State := { s with contain := { s.contain with entered := false } }
    moveLinks (startFail 7 (broadcast 5 (devId s1) false s1))

/-- Faults and notices that have arisen are handled, in the order in which they arose. -/
def settleFaults (s : State) : State := settleSafe (handleAll 64 s)

/-- R423, R438: forwarded commands execute, whether the host port is on or off. -/
def settleForwarded (s : State) : State := runForwarded (s.host.cmds.length + 8) [] s

/-- What follows a command. -/
def finish (s : State) : State :=
  moveLinks (settleStart (settleFaults (settleForwarded (settleStart (settleFaults s)))))

/-- A command's answer: its effect where the device has the instances it names, a fault otherwise. -/
def answer (ok : Bool) (s : State) : Host.Outcome State Fault Refusal := if ok then .next (finish s) else .fault .noSuchInstance

/-- The answer of a word issue, which reaches other agents by commands of their own only. -/
def answerWord (ok : Bool) (s : State) : Host.Outcome State Fault Refusal := if ok then .next (settleFaults s) else .fault .noSuchInstance

end Sys2Proof.Machine
end

