-- ==== Sys2Proof/Machine/TimeCmds.lean ====
section
/-! DEFINITION. The rows of timebases, device time and PPS (chapter 07). A command whose event cannot occur leaves the state as it is (log entry
9). -/

set_option Elab.async false

namespace Sys2Proof.Machine

/-- A write of register word `o` of a block's instance from outside the units. -/
def writeWord (b : Blk) (i o : Nat) (v : Word) (s : State) : State := writeReg 4096 (keyOf b i o) v s

/-- The field `f` of a word that is written. -/
def fieldOf (f : FRef) (v : Word) : Nat := bits v f.lo f.w

/-- An event of the timebase unit, which lies in D48. -/
def inTbu (f : State → State) (s : State) : State := if domOn 48 s then f s else s

/-- The answer of an event of timebase `n`. -/
def answerTb (n : Nat) (f : State → State) (s : State) : Host.Outcome State Fault Refusal := answer (n < 64) (inTbu f s)

/-- ENCODER_UPDATE (R213). -/
def execEncoderUpdate (n : Nat) (s : State) : Host.Outcome State Fault Refusal := answerTb n (encoderUpdate n) s

/-- BOUND_UPDATE (R214). -/
def execBoundUpdate (n : Nat) (s : State) : Host.Outcome State Fault Refusal := answerTb n (boundUpdate n) s

/-- TRIPLE_APPLY (R216). -/
def execTripleApply (n : Nat) (s : State) : Host.Outcome State Fault Refusal := answerTb n (applyTriple n) s

/-- TIMEBASE_LOSS (R221). -/
def execTimebaseLoss (n : Nat) (s : State) : Host.Outcome State Fault Refusal := answerTb n (timebaseLoss n) s

/-- TB_POS_WRITE (R213). -/
def execTbPosWrite (n : Nat) (v : Word) (s : State) : Host.Outcome State Fault Refusal := answer (n < 64) (writeWord .tb n 5 v s)

/-- TB_CONFIG_WRITE (R237): a write of SRC (word 0), CTL with EN and DIR (word 1) or SCALE (word 3). -/
def execTbConfigWrite (n r : Nat) (v : Word) (s : State) : Host.Outcome State Fault Refusal :=
  answer (n < 64) (if r = 0 ∨ r = 1 ∨ r = 3 then writeWord .tb n r v s else s)

/-- TB_OFFSET_WRITE (R212). -/
def execTbOffsetWrite (n : Nat) (v : Word) (s : State) : Host.Outcome State Fault Refusal := answer (n < 64) (writeWord .tb n 4 v s)

/-- PPS_EDGE (R226). -/
def execPpsEdge (s : State) : Host.Outcome State Fault Refusal := answer true (inTbu ppsEdge s)

/-- PPS_HOLDOVER (R227). -/
def execPpsHoldover (s : State) : Host.Outcome State Fault Refusal := answer true (inTbu ppsHoldover s)

/-- SET_NOW (R229): a write of TIME_CTL with SET_NOW = 1. -/
def execSetNow (v : Word) (s : State) : Host.Outcome State Fault Refusal :=
  answer true (if fieldOf F.tbu_TIME_CTL_SET_NOW v = 1 then writeWord .tbu 0 3 v s else s)

/-- TIME_F_READ (R224): a read of TIME_F by a context, or through BAR0 (4,096). -/
def execTimeFRead (req : Nat) (s : State) : Host.Outcome State Fault Refusal := answer (req ≤ 4096) (readReg req (keyOf .tbu 0 0) s).2

/-- PPS_OUT_RISE (R231). -/
def execPpsOutRise (s : State) : Host.Outcome State Fault Refusal := answer true (inTbu ppsRise s)

/-- PPS_OUT_FALL (R231). -/
def execPpsOutFall (s : State) : Host.Outcome State Fault Refusal := answer true (inTbu ppsFallDue s)

/-- MIRROR_GAP_SEND (R232): the newest triple that MIN_GAP holds is sent. -/
def execMirrorGapSend (n : Nat) (s : State) : Host.Outcome State Fault Refusal :=
  answerTb n (fun s => if (s.tb n).held && published n s && (s.tb n).sentAt.all (fun t => decide (t + 100 * rd F.tbu_PUB_CTL_MIN_GAP 0 s ≤ s.clock.tick))
    then sendMirror n s else s) s

/-- MIRROR_REFRESH (R232): nothing was sent for 100 µs. -/
def execMirrorRefresh (n : Nat) (s : State) : Host.Outcome State Fault Refusal :=
  answerTb n (fun s => if published n s && (s.tb n).sentAt.all (fun t => decide (t + 100000 ≤ s.clock.tick)) then sendMirror n s else s) s

/-- TIME_SAMPLE_SEND (R451). -/
def execTimeSampleSend (s : State) : Host.Outcome State Fault Refusal := answer true (inTbu sendTimeSamples s)

end Sys2Proof.Machine
end

