-- ==== Sys2Proof/Machine/DmaCmds.lean ====
section
/-! DEFINITION. The rows of the DMA engine (chapter 13). A command whose event cannot occur leaves the state as it is (log entry 9). -/

set_option Elab.async false

namespace Sys2Proof.Machine

/-- An event of the DMA engine, which lies in D40 and has no clock in STANDBY (Table PW-1). -/
def inDma (f : State → State) (s : State) : State := if clocksOn s && domOn 40 s then f s else s

/-- DMA_GO (R399): a write of CH_CTL with GO = 1. -/
def execDmaGo (c : Nat) (v : Word) (s : State) : Host.Outcome State Fault Refusal :=
  answer (c < 64) (if fieldOf F.ch_CH_CTL_GO v = 1 then writeWord .ch c 0 v s else s)

/-- DMA_DISABLE (R400): a write of CH_CTL with EN = 0. -/
def execDmaDisable (c : Nat) (v : Word) (s : State) : Host.Outcome State Fault Refusal :=
  answer (c < 64) (if fieldOf F.ch_CH_CTL_EN v = 0 then writeWord .ch c 0 v s else s)

/-- DESC_ARRIVE (R384). -/
def execDescArrive (c : Nat) (s : State) : Host.Outcome State Fault Refusal := answer (c < 64) (inDma (descArrive c) s)

/-- DMA_READ_COMPLETE (R380). -/
def execDmaReadComplete (c : Nat) (s : State) : Host.Outcome State Fault Refusal := answer (c < 64) (inDma (readComplete c) s)

/-- DMA_WRITE_RESPONSE (R392). -/
def execDmaWriteResponse (c : Nat) (ok : Bool) (s : State) : Host.Outcome State Fault Refusal := answer (c < 64) (inDma (writeResponse c ok) s)

/-- DMA_RECORD_ANSWERED (R396). -/
def execDmaRecordAnswered (c : Nat) (s : State) : Host.Outcome State Fault Refusal := answer (c < 64) (inDma (recordAnswered c) s)

/-- DMA_CQ_HEAD_WRITE (R397). -/
def execDmaCqHeadWrite (q : Nat) (v : Word) (s : State) : Host.Outcome State Fault Refusal := answer (q < 8) (writeWord .cq q 2 v s)

end Sys2Proof.Machine
end

