-- ==== Sys2Proof/Machine/FrontCmds.lean ====
section
/-! DEFINITION. The rows of the measurement front (chapter 09). A command whose event cannot occur leaves the state as it is (log entry 9). -/

set_option Elab.async false

namespace Sys2Proof.Machine

/-- An event of the measurement front's logic, which has no clock in STANDBY (Table PW-1). -/
def inFront (f : State → State) (s : State) : State := if clocksOn s then f s else s

/-- Edges that arrive at group `g`; the last of them brings about what `test` compares. -/
def answerEdges (ok : Bool) (g : Nat) (es : List ModEdge) (test : State → State → Bool) (s : State) : Host.Outcome State Fault Refusal :=
  answer ok (inFront (feedEdges g es test) s)

/-- DECIMATION (R269): the last edge is a decimation point. -/
def execDecimation (g : Nat) (es : List ModEdge) (s : State) : Host.Outcome State Fault Refusal :=
  answerEdges (g < 12) g es (fun a b => decide ((a.grp g).points < (b.grp g).points)) s

/-- STROBE (R270): the published value reaches or crosses `n` strobe points of group `g` in this tick. -/
def execStrobe (g n : Nat) (s : State) : Host.Outcome State Fault Refusal := answer (g < 12) (inFront (strobePoint g n) s)

/-- SW_STROBE (R270). -/
def execSwStrobe (v : Word) (s : State) : Host.Outcome State Fault Refusal := answer true (inFront (writeWord .mfr 0 2 v) s)

/-- STROBED_OUTPUT (R271): the last edge is the first after a strobe. -/
def execStrobedOutput (g : Nat) (es : List ModEdge) (s : State) : Host.Outcome State Fault Refusal :=
  answerEdges (g < 12) g es (fun a b => (a.grp g).strobe.isSome && (b.grp g).strobe.isNone) s

/-- CLK_LOST (R265). -/
def execClkLost (g : Nat) (s : State) : Host.Outcome State Fault Refusal := answer (g < 12) (inFront (clockLost g) s)

/-- CLK_BACK (R265). -/
def execClkBack (g : Nat) (es : List ModEdge) (s : State) : Host.Outcome State Fault Refusal := answer (g < 12) (inFront (clockBack g es) s)

/-- STUCK (R266): the last edge makes channel `c` STUCK. -/
def execStuck (c : Nat) (es : List ModEdge) (s : State) : Host.Outcome State Fault Refusal :=
  answerEdges (c < 96) (c / 8) es (fun a b => !(a.chan c).told && (b.chan c).told) s

/-- GROUP_RESTART (R290): a write of register `k` that restarts a group: its CTL, or CFG of one of its channels. -/
def execGroupRestart (k : Nat) (v : Word) (s : State) : Host.Outcome State Fault Refusal :=
  let g : Option Nat := match locate k with
    | some (.grp, g, 0) => some g
    | some (.chan, c, 0) => some (c / 8)
    | _ => none
  answer g.isSome (match g with
    | some g =>
      let s1 := writeReg 4096 k v s
      if restartKey g s1 ≠ restartKey g s ∨ (!rdB F.grp_CTL_EN g s && rdB F.grp_CTL_EN g s1) = true then s1 else s
    | none => s)

/-- GROUP_RESTART_END (R290): the last edge is the N × M-th since the restart. -/
def execGroupRestartEnd (g : Nat) (es : List ModEdge) (s : State) : Host.Outcome State Fault Refusal :=
  answerEdges (g < 12) g es (fun a b => decide ((a.grp g).edges < grpWarm g a ∧ grpWarm g b ≤ (b.grp g).edges)) s

/-- STROBE_CONFIG_WRITE (R290): a write of STRB_CTL (word 1) or STRB_PH (word 2). -/
def execStrobeConfigWrite (g r : Nat) (v : Word) (s : State) : Host.Outcome State Fault Refusal :=
  answer (g < 12) (if r = 1 ∨ r = 2 then writeWord .grp g r v s else s)

/-- WINDOW_CHANGE (R275): the last edge changes the level of channel `c`'s window between inside and outside. -/
def execWindowChange (c : Nat) (es : List ModEdge) (s : State) : Host.Outcome State Fault Refusal :=
  answerEdges (c < 96) (c / 8) es (fun a b => (a.chan c).out != (b.chan c).out) s

/-- COMPARATOR_CROSSING (R277): the pin of comparator `n` takes a voltage, in µV. -/
def execComparatorCrossing (n uv : Nat) (s : State) : Host.Outcome State Fault Refusal := answer (n < 48) (crossAc n uv s)

/-- COMPARATOR_THRESHOLD_WRITE (R278): a write of CTL of comparator `n`, and the pin's voltage when the thresholds have settled. -/
def execComparatorThresholdWrite (n : Nat) (v : Word) (uv : Nat) (s : State) : Host.Outcome State Fault Refusal :=
  answer (n < 48) (writeWord .comp n 0 v (s.modComp n (fun x => { x with uv := uv })))

/-- ENCODER_EDGE (R280): the qualified levels of the inputs become `a`, `b`. -/
def execEncoderEdge (n : Nat) (a b : Bool) (s : State) : Host.Outcome State Fault Refusal := answer (n < 16) (inFront (encoderEdge n a b) s)

/-- ENCODER_INDEX (R283). -/
def execEncoderIndex (n : Nat) (s : State) : Host.Outcome State Fault Refusal := answer (n < 16) (inFront (encoderIndex n) s)

/-- COUNT_WRITE (R283). -/
def execCountWrite (n : Nat) (v : Word) (s : State) : Host.Outcome State Fault Refusal := answer (n < 16) (writeWord .enc n 1 v s)

/-- RESOLVER_SAMPLE (R284): the last edge of the tracker's group is the first at or after a sampling position of its carrier generator. -/
def execResolverSample (r : Nat) (es : List ModEdge) (s : State) : Host.Outcome State Fault Refusal :=
  let g := rd (trkF r 0 1 4) r s
  answerEdges (r < 8) g es (fun a b => (a.trk r).due.isSome && (b.trk r).due.isNone && decide (grpWarm g b ≤ (b.grp g).edges)) s

/-- ENCODER_GLITCH (R281). -/
def execEncoderGlitch (n : Nat) (s : State) : Host.Outcome State Fault Refusal := answer (n < 16) (inFront (encoderGlitch n) s)

end Sys2Proof.Machine
end

