-- ==== Sys2Proof/Machine/HostCmds.lean ====
section
/-! DEFINITION. The rows of the host port and of its command packets (chapter 14). A command whose event cannot occur leaves the state as it is
(log entry 9). -/

set_option Elab.async false

namespace Sys2Proof.Machine

/-! ### Doorbells and rings -/

/-- The answer of an event of ring `r`. -/
def answerRing (r : Nat) (f : State → State) (s : State) : Host.Outcome State Fault Refusal := answer (r < 8) (f s)

/-- SQ_DOORBELL (R410, R412): the host writes `v` to the SQ tail doorbell, with an aligned 4- or 8-byte write or not. -/
def execSqDoorbell (r v : Nat) (aligned : Bool) (s : State) : Host.Outcome State Fault Refusal := answerRing r (sqDoorbell r v aligned) s

/-- CQ_DOORBELL (R410, R421). -/
def execCqDoorbell (r v : Nat) (aligned : Bool) (s : State) : Host.Outcome State Fault Refusal := answerRing r (cqDoorbell r v aligned) s

/-- SQ_READ_COMPLETE (R412): the slots from SQ head on that a read of the ring has returned. -/
def execSqReadComplete (r : Nat) (gs : List (BitVec 256)) (s : State) : Host.Outcome State Fault Refusal := answerRing r (sqRead r gs) s

/-- SQ_READ_ERROR (R427). -/
def execSqReadError (r : Nat) (poisoned : Bool) (s : State) : Host.Outcome State Fault Refusal := answerRing r (sqReadError r poisoned) s

/-- A write of RING_CTL that changes EN to `on`. -/
def ringWrite (on : Bool) (r : Nat) (v : Word) (s : State) : State :=
  if rdB F.ring_RING_CTL_EN r s ≠ on ∧ v.getLsbD 0 = on then writeWord .ring r 0 v s else s

/-- RING_ENABLE (R411). -/
def execRingEnable (r : Nat) (v : Word) (s : State) : Host.Outcome State Fault Refusal := answerRing r (ringWrite true r v) s

/-- RING_DISABLE (R411). -/
def execRingDisable (r : Nat) (v : Word) (s : State) : Host.Outcome State Fault Refusal := answerRing r (ringWrite false r v) s

/-! ### Command packets: the next command of ring `r` executes -/

/-- HOST_NOP (R415). -/
def execHostNop (r : Nat) (s : State) : Host.Outcome State Fault Refusal := answerRing r (hostCmd 0 r) s

/-- REG_RD (R416). -/
def execRegRd (r : Nat) (s : State) : Host.Outcome State Fault Refusal := answerRing r (hostCmd 1 r) s

/-- REG_WR (R416). -/
def execRegWr (r : Nat) (s : State) : Host.Outcome State Fault Refusal := answerRing r (hostCmd 2 r) s

/-- MEM_RD (R417). -/
def execMemRd (r : Nat) (s : State) : Host.Outcome State Fault Refusal := answerRing r (hostCmd 3 r) s

/-- MEM_WR (R417). -/
def execMemWr (r : Nat) (s : State) : Host.Outcome State Fault Refusal := answerRing r (hostCmd 4 r) s

/-- Q_PUSH (R418). -/
def execQPush (r : Nat) (s : State) : Host.Outcome State Fault Refusal := answerRing r (hostCmd 5 r) s

/-- Q_TAKE (R418). -/
def execQTake (r : Nat) (s : State) : Host.Outcome State Fault Refusal := answerRing r (hostCmd 6 r) s

/-- FETCH (R422). -/
def execFetch (r : Nat) (s : State) : Host.Outcome State Fault Refusal := answerRing r (hostCmd 7 r) s

/-- Q_PUSH_TIMEOUT (R418): Q_TO ends for the Q_PUSH of ring `r`, or of a forwarded command as ring 8. -/
def execQPushTimeout (r : Nat) (s : State) : Host.Outcome State Fault Refusal := answer (r < 9) (pushTimeout r s)

/-! ### Forwarding -/

/-- FORWARD_RESULT (R423): a RESULT packet's granules reach the host port. -/
def execForwardResult (gs : List (BitVec 256)) (s : State) : Host.Outcome State Fault Refusal := answer true (forwardResult gs s)

/-- FORWARD_TIMEOUT (R424). -/
def execForwardTimeout (r seq : Nat) (s : State) : Host.Outcome State Fault Refusal := answerRing r (forwardTimeout r seq) s

/-! ### Interrupts, the PCIe link and violations -/

/-- HOST_EVT_RAISE (R409). -/
def execHostEvtRaise (v : Word) (s : State) : Host.Outcome State Fault Refusal := answer true (writeWord .hst 0 4 v s)

/-- MSIX_UNMASK (R409). -/
def execMsixUnmask (n : Nat) (s : State) : Host.Outcome State Fault Refusal := answer (n < 64) (msixUnmask n s)

/-- HOST_PORT_RESET (R407). -/
def execHostPortReset (s : State) : Host.Outcome State Fault Refusal := answer true (hostPortReset s)

/-- PCIE_LINK_UP (R405). -/
def execPcieLinkUp (width speed : Nat) (s : State) : Host.Outcome State Fault Refusal := answer true (pcieLinkUp width speed s)

/-- BAR_ACCESS_VIOLATION (R343, R406): a host access that BAR0 or BAR2 does not provide for. -/
def execBarAccessViolation (bar : Nat) (s : State) : Host.Outcome State Fault Refusal :=
  answer (bar = 0 ∨ bar = 2) (if domOn 41 s then hostViolation 9 15 0 s else s)

end Sys2Proof.Machine
end

