-- ==== Sys2Proof/Machine/LinkCmds.lean ====
section
/-! DEFINITION. The rows of the Quadrille fabric (chapter 15). A command whose event cannot occur leaves the state as it is (log entry 9). -/

set_option Elab.async false

namespace Sys2Proof.Machine

/-- The answer of an event of link `l`. -/
def answerLink (l : Nat) (f : State → State) (s : State) : Host.Outcome State Fault Refusal := answer (l < 6) (f s)

/-! ### Link states (Table QF-1) -/

/-- A write of LINK_CTL with EN as the row has it. -/
def linkWrite (on : Bool) (l : Nat) (v : Word) (s : State) : State := if v.getLsbD 0 = on then writeWord .link l 0 v s else s

/-- LINK_ENABLE (R431). -/
def execLinkEnable (l : Nat) (v : Word) (s : State) : Host.Outcome State Fault Refusal := answerLink l (linkWrite true l v) s

/-- LINK_DISABLE (R431). -/
def execLinkDisable (l : Nat) (v : Word) (s : State) : Host.Outcome State Fault Refusal := answerLink l (linkWrite false l v) s

/-- LINK_SIGNAL_DETECT (R431). -/
def execLinkSignalDetect (l : Nat) (s : State) : Host.Outcome State Fault Refusal := answerLink l (linkStep l [1] 2) s

/-- LINK_DETECT_RETRY (R431): DETECT is tried again. -/
def execLinkDetectRetry (l : Nat) (s : State) : Host.Outcome State Fault Refusal := answerLink l (linkStep l [1] 1) s

/-- LINK_TRAINED (R431). -/
def execLinkTrained (l width rate : Nat) (rev : Bool) (s : State) : Host.Outcome State Fault Refusal := answerLink l (linkTrained l width rate rev) s

/-- LINK_TRAIN_TIMEOUT (R431). -/
def execLinkTrainTimeout (l : Nat) (s : State) : Host.Outcome State Fault Refusal := answerLink l (linkTrainTimeout l) s

/-- LINK_SIGNAL_LOSS (R432). -/
def execLinkSignalLoss (l : Nat) (s : State) : Host.Outcome State Fault Refusal := answerLink l (linkSignalLoss l) s

/-- LINK_DOWN_EXPIRE (R431). -/
def execLinkDownExpire (l : Nat) (s : State) : Host.Outcome State Fault Refusal := answerLink l (linkStep l [6] 1) s

/-- LINK_RETRAIN_WRITE (R431): a write of LINK_CTL with RETRAIN = 1 and EN = 1. -/
def execLinkRetrainWrite (l : Nat) (v : Word) (s : State) : Host.Outcome State Fault Refusal :=
  answerLink l (fun s => if v.getLsbD 5 then linkWrite true l v s else s) s

/-! ### LINK flits (R436) -/

/-- LINK_FLIT (R436): a LINK flit with CODE NONE, or one that is undefined. -/
def execLinkFlit (l : Nat) (m : BitVec 256) (s : State) : Host.Outcome State Fault Refusal :=
  answerLink l (onLinkFlit (fun c => c == 0 || decide (7 ≤ c)) id l m) s

/-- LINK_FLIT_SEND (R436). -/
def execLinkFlitSend (l : Nat) (s : State) : Host.Outcome State Fault Refusal :=
  answerLink l (fun s => if linkOn l s ∧ [3, 4, 5].contains (linkState l s) then sendLink l 0 [] s else s) s

/-- HELLO (R431). -/
def execHello (l : Nat) (m : BitVec 256) (s : State) : Host.Outcome State Fault Refusal := answerLink l (onLinkFlit (· == 1) (takeHello l m) l m) s

/-- PROBE_SEND (R450). -/
def execProbeSend (l : Nat) (s : State) : Host.Outcome State Fault Refusal := answerLink l (sendProbe l) s

/-- PROBE (R450): it is answered with its T1 and the times of its arrival and of the reply. -/
def execProbe (l : Nat) (m : BitVec 256) (s : State) : Host.Outcome State Fault Refusal :=
  answerLink l (onLinkFlit (· == 2) (answerProbe l m) l m) s

/-- PROBE_REPLY (R450). -/
def execProbeReply (l : Nat) (m : BitVec 256) (s : State) : Host.Outcome State Fault Refusal :=
  answerLink l (onLinkFlit (· == 3) (takeReply l m) l m) s

/-- VIOL (R459). -/
def execViol (l : Nat) (m : BitVec 256) (s : State) : Host.Outcome State Fault Refusal :=
  answerLink l (onLinkFlit (· == 4) (bump F.link_VIOL_NAK_RX l) l m) s

/-- LINK_ABORT_FLIT (R443). -/
def execLinkAbortFlit (l : Nat) (m : BitVec 256) (s : State) : Host.Outcome State Fault Refusal :=
  answerLink l (onLinkFlit (· == 5) (endPartial l (gbits m 1 0 2)) l m) s

/-- LINK_FENCE_FLIT (R460): the spec gives its receiver nothing to do beyond what every LINK flit brings. -/
def execLinkFenceFlit (l : Nat) (m : BitVec 256) (s : State) : Host.Outcome State Fault Refusal := answerLink l (onLinkFlit (· == 6) id l m) s

/-- FLIT_CRC_FAILURE (R434, R435). -/
def execFlitCrcFailure (l : Nat) (s : State) : Host.Outcome State Fault Refusal := answerLink l (crcFailure l) s

/-! ### Packets (Table QF-5) -/

/-- The KIND of a head lies among some. -/
def ofKind (ks : List Nat) (g : Granule) : Bool := ks.contains (hKind g)

/-- A MGMT head of a type (Table QF-9). -/
def ofMgmt (mt : Nat) (g : Granule) : Bool := hKind g == 6 && gbits g 2 32 4 == mt

/-- QUEUE_PACKET (R442), or one whose KIND is undefined (R459). -/
def execQueuePacket (l vc : Nat) (gs : List (BitVec 256)) (s : State) : Host.Outcome State Fault Refusal :=
  answer (l < 6 ∧ vc < 4) (packetArrives (ofKind [1, 0, 7, 8, 9, 10, 11, 12, 13, 14, 15]) l vc gs s)

/-- COMMAND_PACKET (R438). -/
def execCommandPacket (l vc : Nat) (gs : List (BitVec 256)) (s : State) : Host.Outcome State Fault Refusal :=
  answer (l < 6 ∧ vc < 4) (packetArrives (ofKind [2]) l vc gs s)

/-- RESULT_PACKET (R423). -/
def execResultPacket (l vc : Nat) (gs : List (BitVec 256)) (s : State) : Host.Outcome State Fault Refusal :=
  answer (l < 6 ∧ vc < 4) (packetArrives (ofKind [3]) l vc gs s)

/-- TIME_PACKET (R452). -/
def execTimePacket (l vc : Nat) (gs : List (BitVec 256)) (s : State) : Host.Outcome State Fault Refusal :=
  answer (l < 6 ∧ vc < 4) (packetArrives (ofKind [4]) l vc gs s)

/-- MIRROR_PACKET (R454). -/
def execMirrorPacket (l vc : Nat) (gs : List (BitVec 256)) (s : State) : Host.Outcome State Fault Refusal :=
  answer (l < 6 ∧ vc < 4) (packetArrives (ofKind [5]) l vc gs s)

/-- DISC_REQ (R448). -/
def execDiscReq (l : Nat) (gs : List (BitVec 256)) (s : State) : Host.Outcome State Fault Refusal := answerLink l (packetArrives (ofMgmt 1) l 3 gs) s

/-- DISC_RESP (R448). -/
def execDiscResp (l : Nat) (gs : List (BitVec 256)) (s : State) : Host.Outcome State Fault Refusal := answerLink l (packetArrives (ofMgmt 2) l 3 gs) s

/-- ASSIGN (R448). -/
def execAssign (l : Nat) (gs : List (BitVec 256)) (s : State) : Host.Outcome State Fault Refusal := answerLink l (packetArrives (ofMgmt 3) l 3 gs) s

/-- ASSIGN_ACK (R448). -/
def execAssignAck (l : Nat) (gs : List (BitVec 256)) (s : State) : Host.Outcome State Fault Refusal := answerLink l (packetArrives (ofMgmt 4) l 3 gs) s

/-- SAFE_BROADCAST (R456). -/
def execSafeBroadcast (l : Nat) (gs : List (BitVec 256)) (s : State) : Host.Outcome State Fault Refusal :=
  answerLink l (packetArrives (ofMgmt 5) l 3 gs) s

/-- ALIVE (R457). -/
def execAlive (l : Nat) (gs : List (BitVec 256)) (s : State) : Host.Outcome State Fault Refusal := answerLink l (packetArrives (ofMgmt 6) l 3 gs) s

/-- DISCOVERY_TIMEOUT (R448). -/
def execDiscoveryTimeout (s : State) : Host.Outcome State Fault Refusal := answer true (if domOn 48 s then discoveryTimeout s else s)

/-- PEER_FENCE_RELEASE (R457): a write of V = 0 to PEER_FENCE entry `i`. -/
def execPeerFenceRelease (i : Nat) (v : Word) (s : State) : Host.Outcome State Fault Refusal :=
  answer (i < 32) (if fieldOf F.qdl_PEER_FENCE_V v = 0 then writeWord .qdl 0 (32 + i) v s else s)

end Sys2Proof.Machine
end

