-- ==== Sys2Proof/Machine/PoolCmds.lean ====
section
/-! DEFINITION. The rows of memories, of the queue pool and of the crossings (chapters 11 and 12). A command whose event cannot occur leaves the
state as it is (log entry 9). -/

set_option Elab.async false

namespace Sys2Proof.Machine

/-! ### Memories -/

/-- SCRUB_READ (R338): the scrubber of memory `m` (0 to 31 data SRAMs, 32 to 63 instruction stores, 64 the keep store) reads its next granule. -/
def execScrubRead (m : Nat) (s : State) : Host.Outcome State Fault Refusal := answer (m < 65) (if scrubOn m s then scrubRead m s else s)

/-- TAG_WR (R327). -/
def execTagWr (c : Nat) (v : Word) (s : State) : Host.Outcome State Fault Refusal := answer (c < 32) (writeWord .clu c 6 v s)

/-- The oldest program of cluster `c`'s instruction store that waits for its verify, with the times it has been written. -/
def oldestProgram (c : Nat) (s : State) : Option Prog := s.program.find? (fun e => granMemory e.g == 32 + c)

/-- R333, R335, R517: the verify of a program ends; a program that failed three times fails what wrote it. -/
def programEnd (c : Nat) (ok : Bool) (s : State) : State :=
  match oldestProgram c s with
  | none => s
  | some p =>
    let s1 := programDone c ok s
    if ok then memWrVerified p.g true s1
    else if p.n < 3 then s1
    else
      let s2 := memWrVerified p.g false s1
      if 4 ≤ s2.start.step ∧ p.by_ = 65 then startFail 6 s2 else s2

/-- MRAM_PROGRAM_DONE (R333). -/
def execMramProgramDone (c : Nat) (ok : Bool) (s : State) : Host.Outcome State Fault Refusal := answer (c < 32) (programEnd c ok s)

/-- The flit of a push is decoded on its way (R320 to R322): corrected, or passed on poisoned. A word travels as word 0 of its flit. -/
def meshPush (mask : Nat) (p : Push) : Push :=
  match p with
  | .word v e pb cr => let r := decodeCode (granOf [v] 0) pb mask; .word (granWord r.2.1 0) e r.2.2.1 cr
  | .gran v pb cr => let r := decodeCode v pb mask; .gran r.2.1 r.2.2.1 cr

/-- The same for a posted store. -/
def meshStore (mask : Nat) (p : Posted) : Posted :=
  let r := decodeCode (granOf [p.val] 0) p.pb mask
  { p with val := granWord r.2.1 0, pb := r.2.2.1 }

/-- Errors in a stored cell: in its codeword as it stays stored once the head has decoded it (R367). -/
def strikeCell (mask : Nat) (c : QCell) : QCell :=
  if c.checked then
    let o := c.orig.getD (c.gran, c.pb, 0)
    { c with orig := some (o.1, o.2.1, o.2.2 ^^^ mask) }
  else { c with err := c.err ^^^ mask }

/-- Bit errors in what the device holds (R321): 0 memory granule `a`; 1 the cell number `a` / 8,192 of queue `a` mod 8,192; 2 a control field of
queue `a`; 3 the two copies of C-queue `a`; 4 the two copies of the heap entry of context `a`; 5 granule `a` mod 512 of the next packet that link
`a` / 512 receives; 6 the next source granule of DMA channel `a`; and on the region mesh or the die bridge (R320) 7 the flit of the oldest push on
its way to queue `a`, 8 that of the answer to the remote load of context `a`, 9 that of posted store `a`. `mask` holds the codeword positions in
error. -/
def strike (tgt a mask : Nat) (s : State) : State :=
  match tgt with
  | 7 => s.modQueue a (fun x => match x.transit with | p :: l => { x with transit := meshPush mask p :: l } | [] => x)
  | 8 => s.modCtx a (fun x => { x with rload := x.rload.map (fun r => { r with errs := r.errs ^^^ mask }) })
  | 9 => { s with posted := s.posted.zipIdx.map (fun e => if e.2 = a then meshStore mask e.1 else e.1) }
  | 0 => s.setErr a (s.err a ^^^ mask)
  | 1 =>
    s.modQueue (a % 8192) (fun x =>
      { x with cells := x.cells.zipIdx.map (fun e => if e.2 = a / 8192 then strikeCell mask e.1 else e.1) })
  | 2 =>
    if qCap s a = 0 ∨ mask = 0 then s
    else if onesBelow 276 mask = 1 then bump F.qpl_POOL_ECC_LINK (a / 4096) s
    else raiseAt 3 (a / 4096) 49 a 0 s
  | 3 => if qCap s a = 0 ∨ qIsD s a ∨ mask = 0 then s else s.modQueue a (fun x => { x with copyBad := true })
  | 4 => if mask = 0 then s else s.modHeap a (fun h => { h with bad := true })
  | 6 => s.modChDma a (fun x => { x with errs := x.errs ^^^ mask })
  | _ => s.modLink (a / 512) (fun x => { x with errs := Sparse.put 0 (a % 512) (Sparse.get 0 (a % 512) x.errs ^^^ mask) x.errs })

/-- What `strike` may name. -/
def strikeAt (tgt a mask : Nat) : Bool :=
  decide (mask < 2 ^ 276) &&
    match tgt with
    | 0 => decide (a < keepG 16384)
    | 1 => true
    | 2 | 3 => decide (a < 8192)
    | 4 => decide (a < 4096)
    | 5 => decide (a < 3072)
    | 6 => decide (a < 64)
    | 7 => decide (a < 8192)
    | 8 => decide (a < 4096)
    | 9 => true
    | _ => false

/-- BIT_ERROR (R321). -/
def execBitError (tgt a mask : Nat) (s : State) : Host.Outcome State Fault Refusal := answer (strikeAt tgt a mask) (strike tgt a mask s)

/-! ### Queues -/

/-- PUSH_VISIBLE (R356): the oldest push on its way becomes visible at the consumer. -/
def execPushVisible (q : Nat) (s : State) : Host.Outcome State Fault Refusal := answer (q < 8192) (hostWake q (dmaWake q (landPush q s)))

/-- What waits for a credit of queue `q` goes on (R274, R289). -/
def creditWakes (q : Nat) (s : State) : State :=
  let s1 := forN 4 (fun e s => if evtQueue e s = some q then releaseEvent e s else s) s
  let s2 := forN 48 (fun k s => if streamQueue (k / 4) (k % 4) s = some q then releaseStream (k / 4) (k % 4) s else s) s1
  hostWake q (dmaWake q s2)

/-- R356: a credit on its way back reaches the producer, over a way that is open (R198, R377). -/
def returnCredit (q : Nat) (s : State) : State :=
  if (s.queue q).back = 0 ∨ !prodPath s q then s else creditWakes q (s.modQueue q (fun x => { x with back := x.back - 1 }))

/-- CREDIT_RETURN (R356). -/
def execCreditReturn (q : Nat) (s : State) : Host.Outcome State Fault Refusal := answer (q < 8192) (returnCredit q s)

/-- R366: the reclaim of a mismatch reset ends: CRED returns to CAP. -/
def reclaimDone (q : Nat) (s : State) : State :=
  if (s.queue q).resetting then creditWakes q (s.modQueue q (fun x => { x with resetting := false, reclaim := 0 })) else s

/-- MISMATCH_RECLAIM_DONE (R366). -/
def execMismatchReclaimDone (q : Nat) (s : State) : Host.Outcome State Fault Refusal := answer (q < 8192) (reclaimDone q s)

/-- QUEUE_FLUSH_WRITE (R360): a write of CMD_STAT with FLUSH = 1. -/
def execQueueFlushWrite (q : Nat) (v : Word) (s : State) : Host.Outcome State Fault Refusal :=
  answer (q < 8192) (if fieldOf F.desc_CMD_STAT_FLUSH v = 1 then writeWord .desc q 7 v s else s)

/-- MARK_CLR (R363): a write of CMD_STAT with MARK_CLR = 1 alone. -/
def execMarkClr (q : Nat) (s : State) : Host.Outcome State Fault Refusal :=
  answer (q < 8192) (writeWord .desc q 7 (BitVec.ofNat 36 (2 ^ F.desc_CMD_STAT_MARK_CLR.lo)) s)

/-! ### Crossings (R375 to R377): crossing `i` of die `d` -/

/-- A crossing that the die has. -/
def crossingAt (d i : Nat) : Bool := decide (d < 2 ∧ i < 10) && !(d == 1 && i == 9)

/-- R368: the producer endpoints behind crossing `i` of die `d`, by kind and instance. -/
def behindCrossing (d i kind inst : Nat) : Bool :=
  match kind with
  | 2 => i == 4 && inst / 24 == d
  | 3 | 5 => i == 4 && inst == d
  | 6 => i == 4 && d == 0
  | 7 => i == 9 && d == 0
  | 8 => decide (6 ≤ i) && inst / 4 == 3 * d + (i - 6)
  | _ => false

/-- R377: the peer sees the crossing reset that a side asserts (R376). The backbone's sight of the other side's reset is counted, and aborts the
open items of the producers there (R368); when both sides are in reset neither reports. -/
def resetSeen (d i : Nat) (s : State) : State :=
  let x := s.xing (10 * d + i)
  if x.reset ∨ !(x.near || x.far) then s
  else
    let s1 := wr (F.qpl_XING_STAT_REALIGN.nth i) d 1 (s.setXing (10 * d + i) { x with phase := [], held := [], reset := true })
    if x.near then s1
    else
      let s2 := bump (F.qpl_XING_STAT_PEER_RESETS.nth i) d s1
      (queuesWith s2 1 (behindCrossing d i)).foldl (fun s q => abortItem q s) s2

/-- CROSSING_RESET_SEEN (R377). -/
def execCrossingResetSeen (d i : Nat) (s : State) : Host.Outcome State Fault Refusal := answer (crossingAt d i) (resetSeen d i s)

/-- R376: the side of crossing `i` of die `d` away from the backbone is still held in reset: its domain is off, or its link retrains. -/
def farHeld (d i : Nat) (s : State) : Bool :=
  if i = 9 then !domOn 41 s else if 6 ≤ i then !domOn (42 + 3 * d + (i - 6)) s || linkState (3 * d + (i - 6)) s == 5 else false

/-- R377: the peer sees the crossing reset end, which it does once no side is held in reset. -/
def resetEndSeen (d i : Nat) (s : State) : State :=
  let x := s.xing (10 * d + i)
  if x.reset && !(x.far && farHeld d i s) then
    wr (F.qpl_XING_STAT_REALIGN.nth i) d 0 (s.setXing (10 * d + i) { x with reset := false, near := false, far := false })
  else s

/-- CROSSING_RESET_END_SEEN (R377). -/
def execCrossingResetEndSeen (d i : Nat) (s : State) : Host.Outcome State Fault Refusal := answer (crossingAt d i) (resetEndSeen d i s)

/-- R375: the acknowledge of the oldest toggle returns: its phase ends, and the pulse held behind it is sent. -/
def acknowledge (d i : Nat) (s : State) : State :=
  let x := s.xing (10 * d + i)
  match x.phase with
  | [] => s
  | cid :: l =>
    if s.reqs.any (fun r => r.cid == cid) then s
    else match x.held.find? (fun r => r.cid == cid) with
      | none => s.setXing (10 * d + i) { x with phase := l }
      | some r => { s.setXing (10 * d + i) { x with phase := l ++ [cid], held := x.held.erase r } with reqs := s.reqs ++ [r] }

/-- CROSSING_ACKNOWLEDGE (R375). -/
def execCrossingAcknowledge (d i : Nat) (s : State) : Host.Outcome State Fault Refusal := answer (crossingAt d i) (acknowledge d i s)

end Sys2Proof.Machine
end

