-- ==== Sys2Proof/Machine/PowerCmds.lean ====
section
/-! DEFINITION. The rows of operating modes, power domains, rails, temperatures and of the Jasper sentinel (chapters 2 and 16). A command whose
event cannot occur leaves the state as it is (log entry 9). -/

set_option Elab.async false

namespace Sys2Proof.Machine

/-! ### Mode requests (R466, R474, R490) -/

/-- A write of MODE_REQ with MODE and FORCE. -/
def writeModeReq (goal : Nat) (force : Bool) (s : State) : State :=
  writeWord .pwr 0 2 (BitVec.ofNat 36 (goal + if force then 8 else 0)) s

/-- MODE_REQ_STANDBY (R474). -/
def execModeReqStandby (force : Bool) (s : State) : Host.Outcome State Fault Refusal := answer true (writeModeReq 1 force s)

/-- MODE_REQ_RETAIN (R474). -/
def execModeReqRetain (force : Bool) (s : State) : Host.Outcome State Fault Refusal := answer true (writeModeReq 2 force s)

/-- MODE_REQ_SENTINEL (R474). -/
def execModeReqSentinel (force : Bool) (s : State) : Host.Outcome State Fault Refusal := answer true (writeModeReq 3 force s)

/-- MODE_REQ_RUN (R466). -/
def execModeReqRun (force : Bool) (s : State) : Host.Outcome State Fault Refusal := answer true (writeModeReq 4 force s)

/-- MODE_REQ_BOOST (R490). -/
def execModeReqBoost (force : Bool) (s : State) : Host.Outcome State Fault Refusal := answer true (writeModeReq 5 force s)

/-! ### Domains and their agents (R469 to R473, R485 to R488) -/

/-- A write of DOM_CTL. -/
def writeDomReq (d : Nat) (on force : Bool) (s : State) : State :=
  writeWord .pwr 0 11 (BitVec.ofNat 36 (d + (if on then 64 else 0) + if force then 128 else 0)) s

/-- The answer of an event of domain `d`. -/
def answerDom (d : Nat) (f : State → State) (s : State) : Host.Outcome State Fault Refusal := answer (d < 50) (f s)

/-- DOM_CTL_ON (R485). -/
def execDomCtlOn (d : Nat) (force : Bool) (s : State) : Host.Outcome State Fault Refusal := answerDom d (writeDomReq d true force) s

/-- DOM_CTL_OFF (R485). -/
def execDomCtlOff (d : Nat) (force : Bool) (s : State) : Host.Outcome State Fault Refusal := answerDom d (writeDomReq d false force) s

/-- AGENT_GRANT (R471). -/
def execAgentGrant (d : Nat) (s : State) : Host.Outcome State Fault Refusal := answerDom d (agentGrant d) s

/-- AGENT_DEFER (R470). -/
def execAgentDefer (d : Nat) (s : State) : Host.Outcome State Fault Refusal := answerDom d (agentDefer d) s

/-- AGENT_REFUSE (R472). -/
def execAgentRefuse (d : Nat) (s : State) : Host.Outcome State Fault Refusal := answerDom d (agentRefuse d) s

/-- DEFER_TIMEOUT (R470). -/
def execDeferTimeout (d : Nat) (s : State) : Host.Outcome State Fault Refusal := answerDom d (deferTimeout d) s

/-- DOMAIN_POWER_DOWN_DONE (R486). -/
def execDomainPowerDownDone (d : Nat) (s : State) : Host.Outcome State Fault Refusal := answerDom d (domainDownDone d) s

/-- DOMAIN_POWER_UP_DONE (R486, R488): domain `d` is usable, or has failed its self-check. -/
def execDomainPowerUpDone (d : Nat) (ok : Bool) (s : State) : Host.Outcome State Fault Refusal := answerDom d (domainPowerUpDone d ok) s

/-- CLUSTER_POWER (R488): cluster `c`'s rail fails (`why` 1), or its self-check (2). -/
def execClusterPower (c why : Nat) (s : State) : Host.Outcome State Fault Refusal :=
  answer (c < 32 ∧ (why = 1 ∨ why = 2)) (clusterPowerAt c why s)

/-! ### Wake sources (R477) -/

/-- WAKE_TIMER. -/
def execWakeTimer (s : State) : Host.Outcome State Fault Refusal := answer true (wakeTimer s)

/-- WARM_N (R58, R477). -/
def execWarmN (s : State) : Host.Outcome State Fault Refusal := answer true (warmPulse s)

/-- PERST_N_RISE. -/
def execPerstNRise (s : State) : Host.Outcome State Fault Refusal := answer true (perstRise s)

/-! ### Rails and temperatures -/

/-- An event of the main rails or of what they supply, which are on. -/
def onRails (f : State → State) (s : State) : State := if s.pins.mainPg then f s else s

/-- AVS_STEP_COMPLETE (R43): rail 0 is VCORE_E and rail 1 VCORE_W; `v` is the voltage in steps of 5 mV. -/
def execAvsStepComplete (rail v : Nat) (s : State) : Host.Outcome State Fault Refusal := answer (rail < 2) (onRails (avsStep rail v) s)

/-- AVS_TIMEOUT (R45). -/
def execAvsTimeout (rail v : Nat) (s : State) : Host.Outcome State Fault Refusal := answer (rail < 2) (onRails (avsTimeout rail v) s)

/-- TEMP_SENSOR_UPDATE (R61): sensor `i` reads the 12-bit code `t`. -/
def execTempSensorUpdate (i t : Nat) (s : State) : Host.Outcome State Fault Refusal := answer (i < 11 ∧ t < 4096) (sensorUpdate i t s)

/-- THERMAL_BOOST_EXIT (R62). -/
def execThermalBoostExit (rg : Nat) (s : State) : Host.Outcome State Fault Refusal := answer (rg < 8) (thermalExit rg s)

/-- RAIL_FAULT (R40): the spec has every main rail fail alike, so `rail` only numbers one of Table PK-2. -/
def execRailFault (_rail : Nat) (s : State) : Host.Outcome State Fault Refusal := answer true (mainFault s)

/-- MAIN_PG_FALL (R40). -/
def execMainPgFall (s : State) : Host.Outcome State Fault Refusal := answer true (pgFall s)

/-- MAIN_PG_RISE (R39). -/
def execMainPgRise (s : State) : Host.Outcome State Fault Refusal := answer true (pgRise s)

/-- POWER_UP_TIMEOUT (R39). -/
def execPowerUpTimeout (s : State) : Host.Outcome State Fault Refusal := answer true (powerUpTimeout s)

/-- REFCLK_LOSS (R52). -/
def execRefclkLoss (s : State) : Host.Outcome State Fault Refusal := answer true (if s.pins.refclk then refclkLoss s else s)

/-- PLL_LOCK (R39, R224). -/
def execPllLock (s : State) : Host.Outcome State Fault Refusal := answer true (pllLock s)

/-- BANK_SUPPLY (R42). -/
def execBankSupply (b : Nat) (s : State) : Host.Outcome State Fault Refusal := answer (b < 4) (bankSupplyAt b s)

/-! ### Faults of the fabric inside the device (R197) -/

/-- ROUTER_FAULT: region `rg`'s router. -/
def execRouterFault (rg : Nat) (s : State) : Host.Outcome State Fault Refusal := answer (rg < 8) (onRails (raiseOpen 2 rg 33 false) s)

/-- BRIDGE_FAULT: the bridge of die `d`. -/
def execBridgeFault (d : Nat) (s : State) : Host.Outcome State Fault Refusal := answer (d < 2) (onRails (raiseOpen 3 d 48 false) s)

/-! ### Jasper (R491 to R496) -/

/-- JASPER_CONVERSION (R491). -/
def execJasperConversion (code : Nat) (s : State) : Host.Outcome State Fault Refusal := answer (code < 4096) (convert code s)

/-- JS_IN_QUALIFY (R492). -/
def execJsInQualify (n : Nat) (lvl : Bool) (s : State) : Host.Outcome State Fault Refusal := answer (n < 16) (qualifyInput n lvl s)

/-- JS_COUNT_WINDOW (R492). -/
def execJsCountWindow (n : Nat) (s : State) : Host.Outcome State Fault Refusal := answer (n < 16) (countWindow n s)

/-- JASPER_PASS (R494). -/
def execJasperPass (s : State) : Host.Outcome State Fault Refusal := answer true (jasperPass s)

/-- JASPER_LATCH_CLEAR (R496): a write of LATCH_LO (word 54) or LATCH_HI (word 55). -/
def execJasperLatchClear (hi : Bool) (v : Word) (s : State) : Host.Outcome State Fault Refusal := answer true (writeWord .jsp 0 (if hi then 55 else 54) v s)

/-- JASPER_RULE_WRITE (R494): a write of RULE_A, or with `b` RULE_B, of rule `i`. -/
def execJasperRuleWrite (i : Nat) (b : Bool) (v : Word) (s : State) : Host.Outcome State Fault Refusal :=
  answer (i < 64) (writeWord .jsp 0 (64 + 2 * i + if b then 1 else 0) v s)

end Sys2Proof.Machine
end

