-- ==== Sys2Proof/Machine/ReelCmds.lean ====
section
/-! DEFINITION. The rows of the event outputs and of Reel (chapter 10). A command whose event cannot occur leaves the state as it is (log entry
9). -/

set_option Elab.async false

namespace Sys2Proof.Machine

/-- An event of the event-output logic of bank `b`, which needs its domain and, but in STANDBY, has a clock (Table PW-1). -/
def inBank (b : Nat) (f : State → State) (s : State) : State := if clocksOn s && domOn (bankDomain b) s then f s else s

/-- A command item of TYPE `typ` at the head of queue `q` is applied. -/
def answerItem (q typ : Nat) (s : State) : Host.Outcome State Fault Refusal := answer (q < 8192) (if clocksOn s then applyItem q typ s else s)

/-- EDGE_T (R300). -/
def execEdgeT (q : Nat) (s : State) : Host.Outcome State Fault Refusal := answerItem q 1 s

/-- EDGE_A (R301). -/
def execEdgeA (q : Nat) (s : State) : Host.Outcome State Fault Refusal := answerItem q 2 s

/-- CMP (R306). -/
def execCmp (q : Nat) (s : State) : Host.Outcome State Fault Refusal := answerItem q 3 s

/-- CGSET (R306). -/
def execCgset (q : Nat) (s : State) : Host.Outcome State Fault Refusal := answerItem q 4 s

/-- EDGE_LOCK (R301). -/
def execEdgeLock (p : Nat) (s : State) : Host.Outcome State Fault Refusal := answer (p < 128) (inBank (p / 32) (lockEdges p) s)

/-- EDGE_PLACE (R299). -/
def execEdgePlace (p : Nat) (s : State) : Host.Outcome State Fault Refusal := answer (p < 128) (inBank (p / 32) (placeEdge p) s)

/-- CARRIER_EDGE (R304). -/
def execCarrierEdge (p : Nat) (s : State) : Host.Outcome State Fault Refusal := answer (p < 128) (inBank (p / 32) (carrierEdge p) s)

/-- HANDOVER (R306). -/
def execHandover (g : Nat) (s : State) : Host.Outcome State Fault Refusal := answer (g < 64) (inBank (g / 16) (handoverPoint g) s)

/-- DEAD_TIME_EXPIRE (R305). -/
def execDeadTimeExpire (p : Nat) (s : State) : Host.Outcome State Fault Refusal := answer (p < 128) (inBank (p / 32) (deadTimeEnd p) s)

/-- PIN_CTL_WRITE (R295). -/
def execPinCtlWrite (p : Nat) (v : Word) (s : State) : Host.Outcome State Fault Refusal := answer (p < 128) (writeWord .pin p 0 v s)

/-- CG_CTL_WRITE (R525): a write of CG_CTL (word 0) or PHASE (word 3). -/
def execCgCtlWrite (g r : Nat) (v : Word) (s : State) : Host.Outcome State Fault Refusal :=
  answer (g < 64) (if r = 0 ∨ r = 3 then writeWord .gen g r v s else s)

/-- COMMIT_SET (R307). -/
def execCommitSet (g : Nat) (s : State) : Host.Outcome State Fault Refusal := answer (g < 64) (writeWord .gen g 4 1 s)

/-- An FLT_N pin takes a level; below its switching level it becomes active at Reel (R310). -/
def setFlt (n : Nat) (low : Bool) (s : State) : State :=
  let m := if low then s.pins.fltLow ||| 2 ^ n else s.pins.fltLow &&& (255 - 2 ^ n)
  let s1 : State := { s with pins := { s.pins with fltLow := m } }
  if low && !fltActive n s then sourceActive 2 n s1 else s1

/-- FLT_N_FALL (R310). -/
def execFltNFall (n : Nat) (s : State) : Host.Outcome State Fault Refusal := answer (n < 8) (setFlt n true s)

/-- FLT_N_RISE (R310). -/
def execFltNRise (n : Nat) (s : State) : Host.Outcome State Fault Refusal := answer (n < 8) (setFlt n false s)

/-- SOFTWARE_TRIP (R310): a write of TRIP with SW = 1. -/
def execSoftwareTrip (b : Nat) (v : Word) (s : State) : Host.Outcome State Fault Refusal :=
  answer (b < 4) (if fieldOf F.bank_TRIP_SW v = 1 then writeWord .bank b 7 v s else s)

/-- TRIP_CLEAR (R312): a write of TRIP with CLR = 1 alone. -/
def execTripClear (b : Nat) (s : State) : Host.Outcome State Fault Refusal := answer (b < 4) (writeWord .bank b 7 2 s)

/-- REEL_SOURCE_WRITE (R310): a write of SRC0 to SRC4. -/
def execReelSourceWrite (b r : Nat) (v : Word) (s : State) : Host.Outcome State Fault Refusal :=
  answer (b < 4) (if r < 5 then writeWord .bank b (2 + r) v s else s)

end Sys2Proof.Machine
end

