-- ==== Sys2Proof/Machine/StartCmds.lean ====
section
/-! DEFINITION. The rows of resets, starts and the lattice image (chapters 2 and 17), and of the registers that have no row of their own (R8 to
R12). A command whose event cannot occur leaves the state as it is (log entry 9). -/

set_option Elab.async false

namespace Sys2Proof.Machine

/-! ### Resets and supplies -/

/-- RESET_N_FALL (R38). -/
def execResetNFall (s : State) : Host.Outcome State Fault Refusal := answer true (if s.pins.resetN then resetFall s else s)

/-- RESET_N_RISE (R39): `sel` are the levels of BOOT_SEL. -/
def execResetNRise (sel : Nat) (s : State) : Host.Outcome State Fault Refusal := answer (sel < 8) (resetRise sel s)

/-- VAO_POWER_UP (R337, R465). -/
def execVaoPowerUp (s : State) : Host.Outcome State Fault Refusal := answer true (vaoPowerUp s)

/-- VAO_LOSS (R465). -/
def execVaoLoss (s : State) : Host.Outcome State Fault Refusal := answer true (vaoLoss s)

/-! ### Starts (R500 to R511) -/

/-- START_COLD_REQUEST (R501): a write of START_CTL with COLD; RELOAD keeps the value it has. -/
def execStartColdRequest (s : State) : Host.Outcome State Fault Refusal :=
  answer true (writeWord .pwr 0 64 (s.reg (keyOf .pwr 0 64) &&& ~~~(3 : Word) ||| 1) s)

/-- START_WARM_REQUEST (R501): a write of START_CTL with WARM; RELOAD keeps the value it has. -/
def execStartWarmRequest (s : State) : Host.Outcome State Fault Refusal :=
  answer true (writeWord .pwr 0 64 (s.reg (keyOf .pwr 0 64) &&& ~~~(3 : Word) ||| 2) s)

/-- IMAGE_SECTION (R512): the granules of a section, from the source that the loader reads. -/
def execImageSection (gs : List (BitVec 256)) (s : State) : Host.Outcome State Fault Refusal := answer true (imageSection gs s)

/-- NO_IMAGE (R505). -/
def execNoImage (s : State) : Host.Outcome State Fault Refusal := answer true (noImage s)

/-- START_DISCOVERY_TIMEOUT (R506). -/
def execStartDiscoveryTimeout (s : State) : Host.Outcome State Fault Refusal := answer true (startDiscoveryTimeout s)

/-- DIGEST_COMPARE_TIMEOUT (R508). -/
def execDigestCompareTimeout (s : State) : Host.Outcome State Fault Refusal := answer true (digestTimeout s)

/-- START_TIMEOUT (R510). -/
def execStartTimeout (s : State) : Host.Outcome State Fault Refusal := answer true (startFail 9 s)

/-- START_RETRY (R510). -/
def execStartRetry (s : State) : Host.Outcome State Fault Refusal := answer true (startRetry s)

/-- OTP_BURN (R521): a write of OTP_CTL. -/
def execOtpBurn (v : Word) (s : State) : Host.Outcome State Fault Refusal := answer true (writeWord .pwr 0 69 v s)

/-! ### Registers (R8 to R12) -/

/-- BAR0 has slot `k`: 16 MiB of 8-byte slots (R340, R342, R343). -/
def registerAt (k : Nat) : Bool := decide (k < 0x200000)

/-- R13: bits 35:0 of a slot are its register; a write of bits 63:36 is ignored. -/
def writeSlot (k : Nat) (v : BitVec 64) (s : State) : State := writeReg 4096 k (v.setWidth 36) s

/-- R13: a read of a slot delivers its register in bits 35:0, and 0 in bits 63:36. -/
def readSlot (k : Nat) (s : State) : State :=
  let r := readReg 4096 k s
  { r.2 with sent := r.2.sent ++ [.bar k (r.1.setWidth 64)] }

/-- REGISTER_WRITE (R8, R13): a write of BAR0 slot `k`. -/
def execRegisterWrite (k : Nat) (v : BitVec 64) (s : State) : Host.Outcome State Fault Refusal := answer (registerAt k) (writeSlot k v s)

/-- REGISTER_READ_CLEAR (R10, R13): a read of BAR0 slot `k`. -/
def execRegisterReadClear (k : Nat) (s : State) : Host.Outcome State Fault Refusal := answer (registerAt k) (readSlot k s)

end Sys2Proof.Machine
end

