-- ==== Sys2Proof/Machine/Issue.lean ====
section
/-! DEFINITION. The issue of a word by a unit (chapters 03 to 06): what the unit would issue next, the traps that come before a word, waits,
the step with its operands, effects and producers, and the steps that end a wait. -/

set_option Elab.async false

namespace Sys2Proof.Machine

/-! ### What issues next -/

/-- A store on its way to an instruction store, or a tag write of one (R168, R327): the cluster and the bank. -/
def imemTarget (p : Posted) : Option (Nat × Nat) :=
  match placeOf (clusterOf p.cid) p.ea with
  | .mem g _ => if isImem g then some ((g - imemBase) / 65536, g % 16) else none
  | .reg k => if 0x40000 ≤ k ∧ k < 0x44000 ∧ k % 0x200 = 6 ∧ bits p.val 21 1 = 1 then some ((k - 0x40000) / 0x200, bits p.val 4 16 % 16) else none
  | _ => none

/-- R171, R333: unit `u` has no store to an instruction store on its way or not yet verified, the resume granules of its other contexts are there, and so is the granule
at `pc`. -/
def syncIDone (u : Nat) (pc : Addr) (s : State) : Bool :=
  let x := s.unit u
  !(s.posted.any (fun p => unitOf p.cid == u && (imemTarget p).isSome)) && !(s.program.any (fun p => p.by_ == 1 + u)) && x.freq.all (fun e => e.2.1.isNone) &&
    (match codeGran (u / 8) pc with | some g => x.fbuf.any (fun f => f.g = g) | none => true)

/-- A wait that holds issue until another command ends it (Table PL-1), or a SYNC.I wait whose conditions do not hold yet. -/
def issueHeld (u : Nat) (x : Ctx) (s : State) : Bool :=
  match x.wait with
  | .remoteLoad | .popw _ _ _ _ | .sleep _ => true
  | .syncI => !syncIDone u x.pc s
  | _ => false

/-- The context whose words unit `u` issues now; none at rest, during a dispatch, and while a wait holds issue. -/
def issuing (u : Nat) (s : State) : Option Nat :=
  let x := s.unit u
  match x.run, x.disp with
  | some k, none => if issueHeld u (s.ctx (16 * u + k)) s then none else some (16 * u + k)
  | _, _ => none

/-- What stands at the head of a context's stream. -/
inductive Next where
  /-- A word, from the replay list or from the fetch buffer. -/
  | word (w : Word) (e : Option Replay)
  /-- Granule `g` is not in the fetch buffer. -/
  | missing (g : Nat)
  /-- A fetch that raises ILLEGAL: reason 8, or 9 with no word. -/
  | illegal (reason : Nat) (w : Option Word)
  /-- A word of a granule that carries poison. -/
  | poison (w : Word)
deriving DecidableEq, Repr

/-- R94, R95, R187, R190: the next word of context `cid`, which its unit runs. -/
def nextWord (cid : Nat) (s : State) : Next :=
  let x := s.ctx cid
  match x.replay with
  | e :: _ => .word e.w (some e)
  | [] =>
    match codeGran (clusterOf cid) x.pc with
    | none => .illegal 9 none
    | some g =>
      match (s.unit (unitOf cid)).fbuf.find? (fun f => f.g = g) with
      | none => .missing g
      | some f =>
        let w := granWord f.data ((x.pc.toNat - codeBase (clusterOf cid)) % 7)
        if f.bad = 1 then .illegal 8 (some w) else if f.bad = 2 then .poison w else .word w none

/-- R147, R172: the context waits for granule `g`: the wait is counted once, and in BANK when the bank is found busy, which is free; the
granule is asked for, unless its resume granule is on its way. -/
def fetchWait (cid g : Nat) (s : State) : State :=
  let u := unitOf cid
  let (busy, s1) := s.anyBool
  let s2 := if (s.ctx cid).wait = .fetch then s
    else s1.modUnit u (fun x => { x with waitFetch := min (x.waitFetch + 1) 511, waitBank := if busy then min (x.waitBank + 1) 511 else x.waitBank })
  let s3 := s2.modCtx cid (fun x => { x with wait := .fetch })
  if (s.unit u).freq.any (fun e => e.1 == g && e.2.1 == some (cid % 16)) then s3 else s3.modUnit u (fun x => x.request g)

/-! ### Producers -/

/-- R111: the write of register `d` by the long operations in flight is suppressed. -/
def suppressLops (d : Nat) (l : List Lop) : List Lop :=
  l.map (fun p => { p with dueLo := p.dueLo && p.rd != d, dueHi := p.dueHi && !(p.pair && p.rd + 1 == d) })

/-- R111, R186: the same for the entries of a replay list. -/
def suppressReplay (d : Nat) (l : List Replay) : List Replay :=
  l.map (fun p => { p with dueLo := p.dueLo && p.rd != d, dueHi := p.dueHi && !(p.pair && p.rd + 1 == d) })

/-- R111: register `d` of context `cid` has a later writer than the context's long operations in flight. -/
def claim (cid d : Nat) (s : State) : State :=
  s.modUnit (unitOf cid) (fun x => { x with lops := x.lops.flatMap (fun l => if l.cid = cid then suppressLops d [l] else [l]) })

/-- A producer of register `d` with a fixed distance that ends at step `due` (R146). A context that has stopped issuing takes the value at
once (R153); g0 takes none (R71). -/
def produce (cid d due : Nat) (v : Word) (s : State) : State :=
  if d = 0 then s
  else
    (claim cid d s).modCtx cid (fun x =>
      if x.st = .running then { x with pend := x.pend ++ [{ dst := .g d, val := v, due := due }] } else x.setG d v)

/-- LNK or TRG by a fixed-distance producer (R125, R128). -/
def produceCtl (cid : Nat) (dst : Dest) (due : Nat) (v : Word) (s : State) : State :=
  let p : Pend := { dst := dst, val := v, due := due }
  s.modCtx cid (fun x => if x.st = .running then { x with pend := x.pend ++ [p] } else x.write p)

/-- R110, R111: a long operation that completes writes what is still due of its destination. -/
def lopWrite (l : Lop) (s : State) : State :=
  s.modCtx l.cid (fun x =>
    let x1 := if l.dueLo then writeNow l.rd l.lo x else x
    if l.pair && l.dueHi then writeNow (l.rd + 1) l.hi x1 else x1)

/-- R110, R184: from now on reads of the destination of each long operation in flight may return its result; the register bank takes the result
at completion, so that an operation that is abandoned has written nothing. -/
def earlyWrites (u : Nat) (s : State) : State :=
  (s.unit u).lops.foldl (fun s l =>
    if l.written then s
    else
      let (now, s1) := s.anyBool
      if now then s1.modUnit u (fun x => { x with lops := x.lops.map (fun p => if p.slot = l.slot then { p with written := true } else p) })
      else s1) s

/-- R78, R110, R152: the general registers that a word of context `cid` reads. -/
def State.reads (cid : Nat) (s : State) (r : Nat) : Word :=
  match (s.unit (unitOf cid)).lops.find? (fun l => l.cid == cid && l.written && r != 0 &&
    ((l.dueLo && l.rd == r) || (l.pair && l.dueHi && l.rd + 1 == r))) with
  | some l => if l.dueLo && l.rd == r then l.lo else l.hi
  | none => (s.ctx cid).getG r

/-- R146: the opening of step `n` of the unit of context `cid`: the results due are committed. -/
def openStep (cid n : Nat) (s : State) : State := earlyWrites (unitOf cid) (s.modCtx cid (fun x => x.commit n))

/-- R145: a step of context `cid` completes. -/
def countStep (cid : Nat) (s : State) : State :=
  (s.modUnit (unitOf cid) (fun x => x.tookStep s.clock.tick)).modCtx cid (fun x => { x with actSteps := x.actSteps + 1 })

/-- The steps that the unit of context `cid` has taken. -/
def stepsOf (cid : Nat) (s : State) : Nat := (s.unit (unitOf cid)).steps

/-! ### Loads, stores and their checks (R114 to R121) -/

/-- Table OP-7: the effective address. -/
def Op.ea (o : Op) (g : Nat → Word) : Nat :=
  let off : Word := match o.mn with
    | .ldnu | .ldns | .stn => wordOf (sext 12 (o.imm / 4))
    | .ldx | .stx => g o.rs2
    | _ => wordOf (sext 14 o.imm)
  (g o.rs1 + off).toNat % 2 ^ 32

/-- Table OP-7: the mnemonic stores. -/
def Mn.isStore (m : Mn) : Bool := m == .st || m == .stn || m == .st2 || m == .stx
/-- Table OP-7: the mnemonic loads. -/
def Mn.isLoad (m : Mn) : Bool := m == .ld || m == .ldnu || m == .ldns || m == .ld2 || m == .ldt || m == .ldx

/-- R115: an access of cluster `own` to word `a` is local. -/
def isLocal (own a : Nat) : Bool := match placeOf own a with | .mem g _ => decide (g < imemBase) && g / 32768 == own | _ => false

/-- R116, R336: the KIND of an address that no load, or with `store` no store, may name. -/
def placeKind (store : Bool) (own a : Nat) : Option Nat :=
  match placeOf own a with
  | .nowhere => some 1
  | .unbacked => some 2
  | .mem g _ => if store && !granSoft g then some 2 else none
  | .reg _ => none

/-- R116, R120, R336: the KIND and the address of an ACCESS trap of a load or store. An ST2 to an area of the keep store that takes no unit store
is both KIND 2 and KIND 3; the model reports KIND 2 (log entry 102). -/
def accessFault (own : Nat) (m : Mn) (ea : Nat) : Option (Nat × Nat) :=
  let hi := (ea + 1) % 2 ^ 32
  let inRegs : Bool := match placeOf own ea with | .reg _ => true | _ => false
  match placeKind m.isStore own ea with
  | some k => some (k, ea)
  | none =>
    if (m == .stn || m == .ldt) && inRegs then some (7, ea)
    else if m == .ld2 || m == .st2 then
      if !isLocal own ea then some (3, ea)
      else match placeKind m.isStore own hi with
        | some k => some (k, hi)
        | none => if isLocal own hi then none else some (3, hi)
    else none

/-- R69, R325: a pair at `ea` is split. -/
def isSplit (own ea : Nat) : Bool := match placeOf own ea with | .mem _ i => i == 6 | _ => false

/-- What a load delivers of a granule: the word, a nonet of it, or the tag (Table OP-7; `how` as in `RLoad`). -/
def loadShape (how n : Nat) (w : Word) (tag : Nat) : Word :=
  match how with
  | 0 => w
  | 1 => BitVec.ofNat 36 (nonetOf w n)
  | 2 => wordOf (sext 9 (nonetOf w n))
  | _ => BitVec.ofNat 36 tag

/-- The `how` of a load. -/
def Mn.loadHow (m : Mn) : Nat := match m with | .ldnu => 1 | .ldns => 2 | .ldt => 3 | _ => 0

/-- A read of the word at `a` of a memory; none where the granule is uncorrectable or poisoned (R121). -/
def loadWord (own a how n : Nat) (s : State) : Option Word × State :=
  match placeOf own a with
  | .mem g i =>
    let r := readGran g s
    (if r.pb then none else some (loadShape how n (granWord r.data i) (granTag r.data)), r.st)
  | _ => (none, s)

/-- A write of the word at `a` of a memory; `nib` below 4 writes that nonet alone. -/
def storeWord (own a nib : Nat) (v : Word) (s : State) : State :=
  match placeOf own a with
  | .mem g i => mergeGran g (fun x => granSetWord x i (if nib < 4 then nonetPut (granWord x i) nib (v.toNat % 512) else v)) s
  | _ => s

/-- R121: a POISON trap before the word at step `due`: SOURCE, opcode, address. -/
def poisonDue (cid due source op ea : Nat) (s : State) : State :=
  s.modCtx cid (fun x => { x with traps := x.traps ++ [{ due := due, poison := true, detail := source * 2 ^ 16 + op, addr := ea }] })

/-- R120, R121, R324: the two reads of an LD2 at step `n`, and its producers; unsplit they are one access of one granule. When one half finds
poison, neither half is written; the spec is silent on the sound half (log entry 118). -/
def loadPair (cid n d op ea : Nat) (s : State) : State :=
  let own := clusterOf cid
  let (lo, s1) := loadWord own ea 0 0 s
  let (hi, s2) := if isSplit own ea then loadWord own ((ea + 1) % 2 ^ 32) 0 0 s1 else ((loadWord own ((ea + 1) % 2 ^ 32) 0 0 s).1, s1)
  match lo, hi with
  | some x, some y => produce cid (d + 1) (n + 4) y (produce cid d (n + 4) x s2)
  | _, _ => poisonDue cid (n + 4) 1 op ea s2

/-! ### Queue ports (R129, R133) -/

/-- R133: the queue that an operation at a port acts on, and whether it acts as the producer; or the KIND of an ACCESS trap. -/
def portQueue (cid : Nat) (o : Op) (s : State) : Except Nat (Nat × Bool) :=
  let inst := 32 * cid + o.port
  let p := producerQueue s 1 inst
  match o.mn, consumerQueue s 1 inst with
  | .push, c => match p with | some q => .ok (q, true) | none => .error (if c.isSome then 5 else 4)
  | m, some q => if (m == .qmark || m == .qrew) && !qIsD s q then .error 6 else .ok (q, false)
  | m, none => match p with
    | none => .error 4
    | some q => if m == .qstat || m == .qflush then .ok (q, true) else .error 5

/-- Table OP-11: the mnemonic is a queue operation. -/
def Mn.isQueue (m : Mn) : Bool :=
  match m with
  | .push | .pop | .popw | .qstat | .qflush | .qmark | .qrew => true
  | _ => false

/-! ### May the word issue? -/

/-- Whether an operation can take its step now. -/
inductive Ready where
  | go
  | trap (t : Trap)
  | wait (k : Wait)
deriving DecidableEq, Repr

/-- A precise trap against a slot. -/
def preciseTrap (cause slot reason detail addr : Nat) (w : Word) : Trap :=
  { cause := cause, prec := true, slot := slot, reason := reason, detail := detail, addr := addr, word := w.toNat }

/-- R112, R116, R130, R133, R137, R138, R140, R159: the traps and waits of an operation at issue, with its registers. -/
def opReady (cid : Nat) (w : Word) (slot : Nat) (o : Op) (g : Nat → Word) (s : State) : Ready :=
  if o.mn.isLoad || o.mn.isStore then
    match accessFault (clusterOf cid) o.mn (o.ea g) with
    | some (k, a) => .trap (preciseTrap 2 slot 0 (k * 2 ^ 16 + o.code) a w)
    | none => .go
  else if o.mn.isQueue then
    match portQueue cid o s with
    | .error k => .trap (preciseTrap 2 slot 0 (k * 2 ^ 16 + o.code) 0 w)
    | .ok (q, _) => if o.mn = .push && !canPushWord s q then .wait .credit else .go
  else if o.mn.isLong then (if lopsOf cid s < 4 then .go else .wait .lopSlot)
  else match o.mn with
    | .waitl | .yield => if lopsOf cid s = 0 then .go else .wait .waitl
    | .fence => if s.posted.any (fun p => p.cid == cid) then .wait .fence else .go
    | .trap => .trap (preciseTrap 5 0 0 o.imm 0 w)
    | _ => .go

/-- A word that cannot take its step waits at issue; the waits that Table PL-10 counts are counted once. -/
def beginWait (cid : Nat) (k : Wait) (s : State) : State :=
  if (s.ctx cid).wait = k then s
  else
    let s1 := s.modCtx cid (fun x => { x with wait := k })
    match k with
    | .lopSlot => s1.modUnit (unitOf cid) (fun x => { x with waitLof := min (x.waitLof + 1) 511 })
    | .credit => s1.modUnit (unitOf cid) (fun x => { x with waitCredit := min (x.waitCredit + 1) 511 })
    | _ => s1

/-! ### Effects -/

/-- R123: the position is counted at every pending target; the next word's address. `s` has the word at its PC. -/
def advancePc (cid : Nat) (s : State) : State :=
  let x := s.ctx cid
  let ts := x.targets.map (fun t => (t.1 - 1, t.2))
  match ts with
  | (0, t) :: l => (s.setCtx cid { x with pc := t, targets := l }).modUnit (unitOf cid) (fun y => y.reachTarget (codeGran (clusterOf cid) t) (!l.isEmpty))
  | _ => s.setCtx cid { x with pc := x.pc + 1, targets := ts }

/-- R123, R165: a taken branch at `at_`. -/
def takeBranch (cid : Nat) (at_ target : Addr) (s : State) : State :=
  (s.modCtx cid (fun x => { x with targets := x.targets ++ [(2, target)] })).modUnit (unitOf cid) (fun y => y.branch (clusterOf cid) at_ target)

/-- R110, R157: a long operation takes a free engine slot at step `n`. -/
def startLop (cid n : Nat) (w : Word) (o : Op) (a b : Word) (dueLo dueHi : Bool) (s : State) : State :=
  let r := longResult o.mn a b
  let pair := o.mn.isPairLong
  let used := (s.unit (unitOf cid)).lops
  let slot := ((List.range 4).find? (fun i => !used.any (fun l => l.slot == i))).getD 0
  let l : Lop := { slot := slot, cid := cid, w := w, a := a, b := b, lo := r.lo, hi := r.hi, rd := o.rd, pair := pair, dueLo := dueLo,
                   dueHi := dueHi, sets := r.sets, written := false, step := n }
  let s1 := if dueLo then claim cid o.rd s else s
  let s2 := if pair && dueHi then claim cid (o.rd + 1) s1 else s1
  s2.modUnit (unitOf cid) (fun x => { x with lops := x.lops ++ [l] })

/-- R132: a POPW takes a word at step `n`, or holds its context. -/
def popwAt (cid n : Nat) (w : Word) (slot q d : Nat) (s : State) : State :=
  match popWord q s with
  | (some v, s1) => produce cid d (n + 5) v s1
  | (none, s1) => s1.modCtx cid (fun x => { x with wait := .popw w slot q d })

/-- Table OP-11: a queue operation at step `n`, and the status bits it sets. -/
def queueEffect (cid n : Nat) (w : Word) (slot : Nat) (o : Op) (d : Nat) (a : Word) (s : State) : State × Nat :=
  match portQueue cid o s with
  | .error _ => (s, 0)
  | .ok (q, prod) =>
    match o.mn with
    | .push => (pushWord q a o.endBit s, 0)
    | .pop =>
      match popWord q s with
      | (some v, s1) => (produce cid d (n + 5) v s1, 0)
      | (none, s1) => let (v, s2) := underrun q s1; (produce cid d (n + 5) v s2, 8)
    | .popw => (popwAt cid n w slot q d s, 0)
    | .qstat => let (v, s1) := qstatWord q prod s; (produce cid d (n + 5) v s1, 0)
    | .qflush => (if prod then flushByProducer q s else flushQueue q s, 0)
    | .qmark => (markQueue q s, 0)
    | _ => let (v, s1) := rewindQueue q s; (produce cid d (n + 5) v s1, 0)

/-- Table OP-7: a load at step `n`. -/
def loadEffect (cid n : Nat) (o : Op) (d : Nat) (g : Nat → Word) (w : Word) (s : State) : State :=
  let own := clusterOf cid
  let ea := o.ea g
  let how := o.mn.loadHow
  if o.mn = .ld2 then
    if isSplit own ea then s.modCtx cid (fun x => { x with wait := .split w d ea }) else loadPair cid n d o.code ea s
  else if isLocal own ea then
    match loadWord own ea how (o.imm % 4) s with
    | (some v, s1) => produce cid d (n + 4) v s1
    | (none, s1) => poisonDue cid (n + 4) 1 o.code ea s1
  else s.modCtx cid (fun x => { x with rload := some { ea := ea, rd := d, how := how, n := o.imm % 4, op := o.code, errs := 0 }, wait := .remoteLoad })

/-- R120, R324: the two writes of an ST2: one access of one granule, or of two when it is split. -/
def storePair (own ea : Nat) (lo hi : Word) (s : State) : State :=
  match placeOf own ea with
  | .mem g i =>
    if isSplit own ea then storeWord own ((ea + 1) % 2 ^ 32) 4 hi (storeWord own ea 4 lo s)
    else mergeGran g (fun x => granSetWord (granSetWord x i lo) (i + 1) hi) s
  | _ => s

/-- Table OP-7: a store at step `n`. A split ST2 takes its added step at once (R120). -/
def storeEffect (cid n : Nat) (o : Op) (g : Nat → Word) (s : State) : State :=
  let own := clusterOf cid
  let ea := o.ea g
  let nib := if o.mn = .stn then o.imm % 4 else 4
  if o.mn = .st2 then
    let s1 := storePair own ea (g o.rd) (g (o.rd + 1)) s
    if isSplit own ea then countStep cid (openStep cid (n + 1) s1) else s1
  else if isLocal own ea then storeWord own ea nib (g o.rd) s
  else { s with posted := s.posted ++ [{ cid := cid, ea := ea, val := g o.rd, nib := nib, step := n, pb := false }] }

/-- Table OP-8: a branch at `at_`, issued at step `n`. -/
def branchEffect (cid n : Nat) (at_ : Addr) (o : Op) (g : Nat → Word) (s : State) : State :=
  let call (s : State) : State := produceCtl cid .lnk (n + 2) ((at_ + 3).setWidth 36) s
  let reg : Addr := (g o.rs1 + wordOf (sext 14 o.imm)).setWidth 32
  let rel (k : Nat) : Addr := at_ + BitVec.ofNat 32 (lowBits 32 (sext k o.imm))
  match o.mn with
  | .br => takeBranch cid at_ (rel 24) s
  | .call => takeBranch cid at_ (rel 24) (call s)
  | .jr => takeBranch cid at_ reg s
  | .callr => takeBranch cid at_ reg (call s)
  | .ret => takeBranch cid at_ (s.ctx cid).lnk s
  | _ =>
    let v := g o.rd - 1
    let s1 := produce cid o.rd (n + 2) v s
    if v = 0 then s1 else takeBranch cid at_ (rel 14) s1

/-- Table OP-10: ARM, ARMI, DLINE and DISARM at step `n`. -/
def triggerEffect (cid n : Nat) (o : Op) (d : Nat) (g : Nat → Word) (s : State) : State :=
  let x := s.ctx cid
  let inc := g o.rs1 + wordOf (sext 14 o.imm)
  let armed (r : Word × Word × State) : State := produce cid d (n + 5) r.1 (produceCtl cid .trg (n + 5) r.2.1 r.2.2)
  match o.mn with
  | .arm => armed (armAngle cid x.tbr inc none s)
  | .armi => armed (armAngle cid x.tbr (x.newestTrg + inc) (some inc) s)
  | .dline => let (v, s1) := armDeadline cid (g o.rs1) s; produce cid d (n + 5) v s1
  | _ =>
    let s1 := if o.imm % 2 = 1 then disarmByContext cid s else s
    if o.imm / 2 % 2 = 1 then disarmDeadline cid s1 else s1

/-- R160, R161: the pending writes of a context take effect. -/
def applySync (cid : Nat) (s : State) : State :=
  s.modCtx cid (fun x => { x with trapEn := x.trapEnNext.getD x.trapEn, trapEnNext := none, tbr := x.tbrNext.getD x.tbr, tbrNext := none })

/-- R167, R171: the resume granules of the unit's other contexts are asked for again. -/
def refetchResumes (u k : Nat) (s : State) : State :=
  forN 16 (fun j s =>
    let x := s.ctx (16 * u + j)
    if j = k ∨ x.st = .unbound then s else s.modUnit u (fun y => y.keepResume (u / 8) j x.pc false)) s

/-- R171, Table PL-4: SYNC.I: the unit's pending fetch controls take effect, its buffers are discarded, and it asks for what it needs afresh. -/
def syncIEffect (cid : Nat) (s : State) : State :=
  let u := unitOf cid
  let s1 := s.modUnit u (fun x =>
    { x with
      lookahead := x.lookaheadNext.getD x.lookahead, lookaheadNext := none, btbEn := x.btbEnNext.getD x.btbEn, btbEnNext := none
      fbuf := [], nbuf := [], btb := [], btbWait := [], freq := [], resume := [] })
  let s2 := refetchResumes u (cid % 16) s1
  let s3 := match codeGran (u / 8) (s2.ctx cid).pc with | some g => s2.modUnit u (fun x => x.enter g |>.request g) | none => s2
  s3.modCtx cid (fun x => { x with wait := .syncI })

/-- R138, R255: YIELD ends the activation: the pending writes take effect, the context becomes IDLE, and the scheduler is told. -/
def yieldEffect (cid : Nat) (s : State) : State := yieldEvent cid (becomeIdle cid (stopRunning cid .idle (applySync cid s)))

/-- The effect of one operation at step `n`, whose condition holds and which is ready, with the status bits that it sets (1 OV, 2 DZ, 4 SAT,
8 UND). `d` is its destination (0 where another slot has it, R81), `g` the registers at issue, `c` the value that an MFC reads. -/
def opEffect (cid n : Nat) (at_ : Addr) (w : Word) (slot : Nat) (o : Op) (d : Nat) (g : Nat → Word) (c : Word) (s : State) : State × Nat :=
  let a := o.argA g
  let b := o.argB g
  if o.mn.isLong then (startLop cid n w o a b true true s, 0)
  else if o.mn.isLoad then (loadEffect cid n o d g w s, 0)
  else if o.mn.isStore then (storeEffect cid n o g s, 0)
  else if o.mn.isQueue then queueEffect cid n w slot o d a s
  else match o.mn.aluClass with
    | some k => let r := aluResult o a b (g o.rd); (produce cid d (n + k) r.1 s, if r.2 then 4 else 0)
    | none =>
      match o.mn with
      | .mac | .msu | .macz | .msuz =>
        let x := s.ctx cid
        let sum := macExact (if o.func % 2 = 1 then x.m1 else x.m0) o.func a b
        (s.setCtx cid (if o.func % 2 = 1 then { x with m1 := acc80 sum } else { x with m0 := acc80 sum }), if outOf80 sum then 1 else 0)
      | .mfa =>
        let x := s.ctx cid
        let r := mfaResult (if o.func % 2 = 1 then x.m1 else x.m0) o.func
        (produce cid d (n + 3) r.1 s, if r.2 then 4 else 0)
      | .mta =>
        let m := mtaResult a o.func
        (s.modCtx cid (fun x => if o.func % 2 = 1 then { x with m1 := m } else { x with m0 := m }), 0)
      | .br | .call | .jr | .callr | .ret | .dbnz => (branchEffect cid n at_ o g s, 0)
      | .arm | .armi | .dline | .disarm => (triggerEffect cid n o d g s, 0)
      | .mfc => (produce cid d (n + 2) c s, 0)
      | .mtc => (mtcWrite cid o.imm n a s, 0)
      | .sync => (applySync cid s, 0)
      | .syncI => (syncIEffect cid s, 0)
      | .yield => (yieldEffect cid s, 0)
      | .sleep => (sleepRequest cid (o.imm % 8) a ((claim cid d s).modCtx cid (fun x => { x with wait := .sleep d })), 0)
      | _ => (s, 0)

/-! ### Status and traps -/

/-- R143: the code of the bit that traps, of those set; `en` holds OVT, DZT, UNDT in bits 0 to 2. -/
def statusCode (sets en : Nat) : Nat :=
  if sets % 2 = 1 ∧ en % 2 = 1 then 1
  else if sets / 2 % 2 = 1 ∧ en / 2 % 2 = 1 then 2
  else if sets / 8 % 2 = 1 ∧ en / 4 % 2 = 1 then 3
  else 0

/-- R96: sticky bits set. -/
def setSticky (cid sets : Nat) (s : State) : State := if sets = 0 then s else s.modCtx cid (fun x => { x with sticky := x.sticky ||| sets })

/-- R141 to R143: the STATUS trap of a word, by the opcodes of its slots and the bits that each set. -/
def statusTrap (cid : Nat) (l : List (Nat × Op × Nat)) (s : State) : State :=
  let en := if (s.ctx cid).st = .running then (s.ctx cid).trapEn else 0
  match l.find? (fun e => statusCode e.2.2 en != 0) with
  | none => s
  | some (slot, o, sets) => trapCtx cid { plainTrap 4 (statusCode sets en * 2 ^ 8 + o.code) 0 with slot := slot } s

/-- R200: a POISON trap that falls on the boundary at which its context has just trapped: a second fault of the scope, handled one level up. -/
def secondPoison (cid : Nat) (t : PTrap) (s : State) : State :=
  let (w, s1) := s.anyBelow (2 ^ 36)
  raise { scope := { lvl := 0, i := cid }, cause := 3, notice := false, reason := 0, prec := false, slot := 0, detail := t.detail,
          pc := (s.ctx cid).pc.toNat, addr := t.addr, word := w } s1

/-- R121, R142, R158, R200: an imprecise trap that is due at the opening of step `n` is taken. The others of STATUS are counted in FRC.CNT; the
others of POISON that are due are faults of the same boundary. Word 6 of a POISON record is free. -/
def takeTrap (cid n : Nat) (t : PTrap) (s : State) : State :=
  let x := s.ctx cid
  if t.poison then
    let (w, s1) := s.anyBelow (2 ^ 36)
    let rest := x.traps.erase t
    let more := if isHeld s cid then [] else rest.filter (fun p => p.poison && decide (p.due ≤ n))
    more.foldl (fun s p => secondPoison cid p s)
      (trapCtx cid { plainTrap 3 t.detail w with addr := t.addr } (s1.setCtx cid { x with traps := rest.filter (fun p => !more.contains p) }))
  else
    let more := x.traps.countP (fun p => !p.poison) - 1
    let frc := setBits x.frc 24 2 (min (bits x.frc 24 2 + more) 3)
    trapCtx cid (plainTrap 4 t.detail 0) (s.setCtx cid { x with frc := frc, traps := x.traps.filter (fun p => p.poison) })

/-- The STATUS trap of the operation issued earliest. -/
def firstStatus (l : List PTrap) : Option PTrap :=
  (l.filter (fun t => !t.poison)).foldl (fun b t => match b with | some y => if t.due < y.due then some t else b | none => some t) none

/-- The imprecise trap that comes before a word at step `n`; `skip` leaves STATUS out (R136). -/
def dueTrap (x : Ctx) (n : Nat) (skip : Bool) : Option PTrap :=
  match x.traps.find? (fun t => decide (t.due ≤ n) && !(skip && !t.poison)) with
  | some t => if t.poison then some t else firstStatus x.traps
  | none => none

/-! ### The issue -/

/-- R120: the added step of a split LD2. -/
def takeSplit (cid : Nat) (s : State) : State :=
  match (s.ctx cid).wait with
  | .split w d ea =>
    let n := stepsOf cid s + 1
    let s1 := (countStep cid (openStep cid n s)).modCtx cid (fun x => { x with wait := .none })
    loadPair cid n d (w.toNat / 2 ^ 24 % 128) ea s1
  | _ => s

/-- R77, R80: the slots of a word that execute, each with its number. -/
def runningSlots (f : Fj) (g : Nat → Word) : List (Nat × Op) :=
  match f with
  | .one c o => if condHolds c g then [(0, o)] else []
  | .two c k a b => (if condHolds c g then [(0, a)] else []) ++ (if condHolds c g || !k then [(1, b)] else [])

/-- The general register that an operation writes at a fixed distance or by a pop; 0 for none. -/
def Op.dest (o : Op) : Nat := if o.short && (o.mn == .push || o.mn == .nop) then 0 else o.rd

/-- R81: the destination of a slot: slot A's gives way when slot B names the same. -/
def slotDest (l : List (Nat × Op)) (e : Nat × Op) : Nat :=
  if e.1 = 0 ∧ l.any (fun y => y.1 = 1 && y.2.dest == e.2.dest) then 0 else e.2.rd

/-- The first trap or wait of the slots that execute. -/
def wordReady (cid : Nat) (w : Word) (l : List (Nat × Op)) (g : Nat → Word) (s : State) : Ready :=
  l.foldl (fun r e => match r with | .go => opReady cid w e.1 e.2 g s | _ => r) .go

/-- R145: a word of context `cid`, decoded as `f`, at step `n`; `s` is the state at the opening of the step. -/
def runWord (cid n : Nat) (w : Word) (f : Fj) (s : State) : State :=
  let x := s.ctx cid
  let g := s.reads cid
  let l := runningSlots f g
  let (c, s1) : Word × State := match f, l with
    | .one _ o, _ :: _ => if o.mn = .mfc then mfcRead cid o.imm s else (0, s)
    | _, _ => (0, s)
  let u := unitOf cid
  let s2 := s1.modUnit u (fun y => match codeGran (u / 8) x.pc with | some gr => y.enter gr | none => y)
  let s3 := advancePc cid ((countStep cid s2).modCtx cid (fun y => { y with wait := .none }))
  let r := l.foldl (fun (acc : State × List (Nat × Op × Nat)) e =>
    let q := opEffect cid n x.pc w e.1 e.2 (slotDest l e) g c acc.1
    (setSticky cid q.2 q.1, acc.2 ++ [(e.1, e.2, q.2)])) (s3, [])
  statusTrap cid r.2 r.1

/-- R187: a replay entry issues as one word at step `n`: its operation, with the operand values and the due flags that it holds. -/
def runReplay (cid n : Nat) (e : Replay) (o : Op) (s : State) : State :=
  let s1 := (countStep cid s).modCtx cid (fun x => { x with wait := .none, replay := x.replay.drop 1 })
  let d := if e.dueLo then o.rd else 0
  if o.mn.isLong then startLop cid n e.w o e.a e.b e.dueLo e.dueHi s1
  else if o.mn = .ld2 then s1.modCtx cid (fun x => { x with wait := .split e.w d e.ea })
  else match portQueue cid o s1 with
    | .ok (q, _) => popwAt cid n e.w e.slot q d s1
    | .error _ => s1

/-- The operation of a slot of a word. -/
def Fj.slot (f : Fj) (i : Nat) : Op :=
  match f with
  | .one _ o => o
  | .two _ _ a b => if i = 0 then a else b

/-- R146, R187: the word (or replay entry) at the head of a context's stream takes its step, waits, or traps. -/
def issueReady (cid n : Nat) (w : Word) (f : Fj) (e : Option Replay) (s : State) : State :=
  let so := openStep cid n s
  match e with
  | some r =>
    let o := f.slot r.slot
    if o.mn.isLong ∧ 4 ≤ lopsOf cid s then beginWait cid .lopSlot s else runReplay cid n r o so
  | none =>
    let g := so.reads cid
    match wordReady cid w (runningSlots f g) g so with
    | .go => runWord cid n w f so
    | .trap t => trapCtx cid t so
    | .wait k => beginWait cid k s

/-- The word is a WAITL that has waited (R136). -/
def isWaitingWaitl (cid : Nat) (f : Fj) (s : State) : Bool := f.holds .waitl && (s.ctx cid).wait == .waitl

/-- A precise trap of a fetch (R92 to R95, R190); word 6 is free where no word was fetched. -/
def fetchTrap (cid cause reason detail : Nat) (w : Option Word) (s : State) : State :=
  match w with
  | some w => trapCtx cid (preciseTrap cause 0 reason detail 0 w) s
  | none =>
    let (x, s1) := s.anyBelow (2 ^ 36)
    trapCtx cid (preciseTrap cause 0 reason detail 0 (BitVec.ofNat 36 x)) s1

/-- An imprecise trap that is due is taken; otherwise `k` goes on. -/
def afterTraps (cid n : Nat) (skip : Bool) (s : State) (k : State) : State :=
  match dueTrap (s.ctx cid) n skip with
  | some t => takeTrap cid n t s
  | none => k

/-- The issue of word `w` by unit `u`, asked for under mnemonic `m`: no event unless the unit would issue `w` next, and `w` holds `m` or is
illegal. Traps of the fetch, and imprecise traps that are due, come before the word. -/
def issue (u : Nat) (m : Mn) (w : Word) (s : State) : State :=
  match issuing u s with
  | none => s
  | some cid =>
    let s1 := takeSplit cid s
    let n := stepsOf cid s1 + 1
    match nextWord cid s1 with
    | .missing g => afterTraps cid n false s1 (fetchWait cid g s1)
    | .illegal r v => afterTraps cid n false s1 (fetchTrap cid 1 r 0 v s1)
    | .poison v => afterTraps cid n false s1 (fetchTrap cid 3 0 (3 * 2 ^ 16) (some v) s1)
    | .word v e =>
      if v ≠ w then s
      else match decodeFj w (cid % 16) with
        | .error i => afterTraps cid n false s1 (trapCtx cid (preciseTrap 1 i.slot i.reason i.detail 0 w) s1)
        | .ok f => if f.holds m then afterTraps cid n (isWaitingWaitl cid f s1) s1 (issueReady cid n w f e s1) else s

/-! ### Steps that end a wait -/

/-- R110, R141, R142, R196: a long operation completes. Its trap comes before the context's next word; while a wait that only another event ends
holds the context (a remote load, POPW, SLEEP, SYNC.I), that is now. -/
def completeLop (u slot : Nat) (s : State) : State :=
  match (s.unit u).lops.find? (fun l => l.slot == slot) with
  | none => s
  | some l =>
    let s1 := (lopWrite l s).modUnit u (fun x => { x with lops := x.lops.filter (fun p => p.slot ≠ slot) })
    let s2 := setSticky l.cid l.sets s1
    let code := statusCode l.sets (s2.ctx l.cid).trapEn
    if code = 0 then s2
    else
      let t : PTrap := { due := l.step, poison := false, detail := code * 2 ^ 8 + l.w.toNat / 2 ^ 24 % 128, addr := 0 }
      let s3 := s2.modCtx l.cid (fun x => { x with traps := x.traps ++ [t] })
      if issueHeld u (s3.ctx l.cid) s3 then takeTrap l.cid (stepsOf l.cid s3 + 1) t s3 else s3

/-- R132: a word is present for a POPW that waits: its completion step. -/
def completePopw (cid : Nat) (s : State) : State :=
  let x := s.ctx cid
  let u := s.unit (unitOf cid)
  if u.run ≠ some (cid % 16) ∨ u.disp.isSome then s
  else match x.wait with
    | .popw _ _ q d =>
      match popWord q s with
      | (none, s1) => s1
      | (some v, s1) =>
        let n := stepsOf cid s + 1
        let s2 := (countStep cid (openStep cid n s1)).modCtx cid (fun x => { x with wait := .none })
        produce cid d (n + 5) v s2
    | _ => s

/-- R18, R198, R377: the place of an access by context `cid` can be reached: the die bridge, if it lies on the other die, is open, and so is the
crossing to the registers. -/
def placeOpen (cid : Nat) (p : Place) (s : State) : Bool :=
  match p with
  | .mem g _ => decide (keepBase ≤ g) || diePath (dieOf cid) (domDie (granMemory g % 32)) s
  | .reg k =>
    !(s.xing (regionXing (regionOf cid))).reset &&
      (regDomain k).all (fun d => diePath (dieOf cid) (domDie d) s)
  | _ => true

/-- R320 to R322: what word `i` of the granule that answers a remote load delivers, decoded on its way over the mesh; none when it is poisoned. -/
def meshWord (r : RLoad) (i : Nat) (v : Granule) (pb : Bool) : Option Word :=
  let d := decodeCode v pb r.errs
  if d.2.2.1 then none else some (loadShape r.how r.n (granWord d.2.1 i) (granTag d.2.1))

/-- R163: the bank of an instruction-store granule has a program in progress. -/
def bankBusy (g : Nat) (s : State) : Bool := isImem g && s.program.any (fun p => granMemory p.g == granMemory g && p.g % 16 == g % 16)

/-- R118, R121, R163, R329: the data of a remote load returns. It comes behind the context's own earlier stores to the same word (R119). -/
def completeRemote (cid : Nat) (s : State) : State :=
  match (s.ctx cid).rload with
  | none => s
  | some r =>
    let own := clusterOf cid
    let place := placeOf own r.ea
    if s.posted.any (fun p => p.cid == cid && placeOf own p.ea == place) || !placeOpen cid place s ||
        (match place with | .mem g _ => bankBusy g s | _ => false) then s
    else
      let s0 := s.modCtx cid (fun x => { x with rload := none, wait := if x.wait = .remoteLoad then .none else x.wait })
      let (v, s1) : Option Word × State := match place with
        | .mem g i => if granOn g s0 then let m := readGran g s0; (meshWord r i m.data m.pb, m.st) else (none, s0)
        | .reg k => let (x, t) := readReg cid k s0; (meshWord r 0 (granOf [x] 0) false, t)
        | _ => (none, s0)
      match v with
      | some x =>
        if r.rd = 0 then s1
        else (claim cid r.rd s1).modCtx cid (fun y => let y1 := writeNow r.rd x y; { y1 with replay := suppressReplay r.rd y1.replay })
      | none => if isHeld s1 cid then s1 else poisonDue cid 0 2 r.op r.ea s1

/-- R119: the memory or register block that a posted store is for. -/
def storeDest (p : Posted) : Nat :=
  match placeOf (clusterOf p.cid) p.ea with
  | .mem g _ => granMemory g
  | .reg k => 100 + (if k < 0x10000 then k / 0x2000 else if k < 0x20000 then 8 + (k - 0x10000) / 0x2000
      else if k < 0x40000 then 16 + (k - 0x20000) / 0x10000 else 18 + (k - 0x40000) / 0x200)
  | _ => 99

/-- R119, R163, R168, R198: posted store `i` may arrive: its way is open, its bank does nothing else, and nothing that it must stay behind is on
its way. -/
def storeMayArrive (i : Nat) (p : Posted) (s : State) : Bool :=
  let before := s.posted.take i
  placeOpen p.cid (placeOf (clusterOf p.cid) p.ea) s && !(match placeOf (clusterOf p.cid) p.ea with | .mem g _ => bankBusy g s | _ => false) &&
  !(before.any (fun q => q.cid == p.cid && storeDest q == storeDest p)) &&
    (match imemTarget p with
      | none => true
      | some b =>
        !(before.any (fun q => unitOf q.cid == unitOf p.cid && imemTarget q == some b)) &&
          !(decide (b.1 = clusterOf p.cid) && (s.unit (unitOf p.cid)).freq.any (fun e => e.1 % 16 == b.2 && decide (e.2.2 < p.step))))

/-- R119, R329: posted store `i` reaches its destination. -/
def arriveStore (i : Nat) (s : State) : State :=
  match s.posted[i]? with
  | none => s
  | some p =>
    if !storeMayArrive i p s then s
    else
      let own := clusterOf p.cid
      let s1 : State := { s with posted := s.posted.eraseIdx i }
      match placeOf own p.ea with
      | .mem g _ => if granOn g s1 then (let t := storeWord own p.ea p.nib p.val s1; if p.pb then t.setPb g true else t).claimPrograms s.program.length (1 + unitOf p.cid)
                    else bump F.clu_WR_STAT_OFF_WR own s1
      | .reg k => (writeReg p.cid k p.val s1).claimPrograms s.program.length (1 + unitOf p.cid)
      | _ => s1

/-- R164 to R166: an instruction granule comes into the fetch buffer, a pending target's buffer, or resume granules. -/
def UnitSt.land (x : UnitSt) (c : Nat) (cur : Option Nat) (targets : List Nat) (f : FGran) : UnitSt :=
  let due := x.freq.filter (fun e => e.1 = f.g)
  let x0 := { x with freq := x.freq.filter (fun e => e.1 ≠ f.g) }
  let x1 := due.foldl (fun y e => match e.2.1 with | some k => y.setResume k (some f) | none => y) x0
  let near (g : Nat) : Bool := decide (g ≤ f.g ∧ f.g ≤ g + 2)
  let stream : Bool := due.any (fun e => e.2.1.isNone || e.2.1 == x.run || e.2.1 == x.disp.map (·.k))
  let x2 := if stream && (match cur with | some g => near g | none => false) then { x1 with fbuf := x1.fbuf.filter (fun y => y.g ≠ f.g) ++ [f] } else x1
  let x3 := if stream && targets.any near then { x2 with nbuf := x2.nbuf.filter (fun y => y.g ≠ f.g) ++ [f] } else x2
  x3.fillBtb c f

/-- R163, R168: the read of granule `g` answers unit `u`, which has asked for it: the unit's own earlier stores to the bank have arrived, and of
its requests to the bank this is the oldest. -/
def fetchDue (u g : Nat) (s : State) : Bool :=
  let x := s.unit u
  let asked := x.freq.filter (fun e => e.1 = g)
  !asked.isEmpty && (x.freq.find? (fun e => e.1 % 16 == g % 16)).any (fun e => e.1 == g) &&
    !s.posted.any (fun p => unitOf p.cid == u && imemTarget p == some (u / 8, g % 16) && asked.all (fun e => decide (p.step ≤ e.2.2)))

/-- R164 to R166: granule `f` comes to unit `u`. -/
def landFetch (f : FGran) (u : Nat) (s : State) : State :=
  let x := s.unit u
  let c := u / 8
  let cur := match x.disp, x.run with
    | some d, _ => codeGran c (s.ctx (16 * u + d.k)).pc
    | none, some k => codeGran c (s.ctx (16 * u + k)).pc
    | none, none => none
  let targets := match x.run with | some k => (s.ctx (16 * u + k)).targets.filterMap (fun t => codeGran c t.2) | none => []
  s.modUnit u (fun x => x.land c cur targets f)

/-- R162, R163, R168: an instruction granule that unit `u` has asked for is read, when its bank does nothing else. The requests of the cluster's
other units for it that wait at the bank are merged with this one: one read answers them all. -/
def arriveFetch (u g : Nat) (s : State) : State :=
  let c := u / 8
  if !fetchDue u g s || bankBusy (imemG c g) s || !domOn c s then s
  else
    let (f, s1) := fetchRead c g s
    (((List.range 8).map (8 * c + ·)).filter (fun v => fetchDue v g s)).foldl (fun s v => landFetch f v s) s1

end Sys2Proof.Machine
end

