-- ==== Sys2Proof/Machine/UnitCmds.lean ====
section
/-! DEFINITION. The rows of units and contexts that are no words: completions, fetch, dispatch, containment, and the scheduler's rows. A command
whose event cannot occur leaves the state as it is (log entry 9). -/

set_option Elab.async false

namespace Sys2Proof.Machine

/-! ### Completions and fetch -/

/-- LONG_OP_COMPLETE (R110). -/
def execLongOpComplete (u slot : Nat) (s : State) : Host.Outcome State Fault Refusal := answerWord (u < 256 && slot < 4) (completeLop u slot s)

/-- REMOTE_LOAD_COMPLETE (R118). -/
def execRemoteLoadComplete (cid : Nat) (s : State) : Host.Outcome State Fault Refusal := answer (cid < 4096) (completeRemote cid s)

/-- REMOTE_STORE_ARRIVE (R119): the store number `i` of those on their way. -/
def execRemoteStoreArrive (i : Nat) (s : State) : Host.Outcome State Fault Refusal := answer true (arriveStore i s)

/-- POPW_COMPLETE (R132). -/
def execPopwComplete (cid : Nat) (s : State) : Host.Outcome State Fault Refusal := answerWord (cid < 4096) (completePopw cid s)

/-- FETCH_GRANULE_ARRIVE (R162). -/
def execFetchGranuleArrive (u g : Nat) (s : State) : Host.Outcome State Fault Refusal := answerWord (u < 256 && g < 65536) (arriveFetch u g s)

/-- BTB_FLUSH (R172): a write of FETCH_CTL with BTB_FLUSH = 1, which leaves the other fields as they are. -/
def execBtbFlush (u : Nat) (s : State) : Host.Outcome State Fault Refusal := answerWord (u < 256) (if domOn (u / 8) s then flushBtb u s else s)

/-! ### Dispatch -/

/-- A dispatch request on its way to context `cid` arrives (R179). A held unit takes none (Table PW-1). -/
def deliverReq (cid : Nat) (s : State) : State :=
  if dispatchHeld (clusterOf cid) s then s
  else match s.reqs.find? (fun r => r.cid == cid) with
    | none => s
    | some r => arriveReq r { s with reqs := s.reqs.erase r }

/-- DISPATCH_REQUEST (R179). -/
def execDispatchRequest (cid : Nat) (s : State) : Host.Outcome State Fault Refusal := answerWord (cid < 4096) (deliverReq cid s)

/-- R196: an imprecise trap that is due at the boundary is taken before a dispatch is accepted there. -/
def boundaryTrap (u : Nat) (s : State) : State :=
  match (s.unit u).run with
  | none => s
  | some k =>
    let n := (s.unit u).steps + 1
    match dueTrap (s.ctx (16 * u + k)) n false with
    | some t => takeTrap (16 * u + k) n t s
    | none => s

/-- R181, Table CX-4: a POPW that waits and whose word is there at the request takes its completion step before the acceptance. -/
def popwFirst (u : Nat) (s : State) : State :=
  match (s.unit u).run, (if dispatchHeld (u / 8) s then none else selectCtx u s) with
  | some k, some cid => if (s.ctx (16 * u + k)).pri < (s.ctx cid).pri then completePopw (16 * u + k) s else s
  | _, _ => s

/-- DISPATCH_ACCEPT (R180): a dispatch is accepted, if one can be, and `n` of its steps run. -/
def execDispatchAccept (u n : Nat) (s : State) : Host.Outcome State Fault Refusal :=
  answerWord (u < 256 && n ≤ 6) (runDispatch u n (popwFirst u (boundaryTrap u s)))

/-- FRC_CLEAR (R193): a write of FRC with CAUSE = 0 from outside the context's unit. -/
def execFrcClear (cid : Nat) (v : Word) (s : State) : Host.Outcome State Fault Refusal :=
  answerWord (cid < 4096) (if bits v 28 8 = 0 ∧ domOn (clusterOf cid) s then writeOtherCtl none cid 5 v s else s)

/-- OTHER_PC_WRITE (R188). -/
def execOtherPcWrite (cid : Nat) (v : Word) (s : State) : Host.Outcome State Fault Refusal :=
  answerWord (cid < 4096) (if domOn (clusterOf cid) s then writeOtherCtl none cid 0 v s else s)

/-! ### Containment -/

/-- The scope has a CONTAIN register (Table CX-10): a cluster, a region or a die. -/
def containAt (lvl i : Nat) : Bool := (lvl = 1 && i < 32) || (lvl = 2 && i < 8) || (lvl = 3 && i < 2)

/-- A write of the CONTAIN register of a scope. -/
def writeContainReg (lvl i v : Nat) (s : State) : State := writeReg 4096 (keyOf (containBlk lvl) i 480) (BitVec.ofNat 36 v) s

/-- CONTAIN_HALT (R203): HALT = 1, with RELEASE = `rel`. -/
def execContainHalt (lvl i rel : Nat) (s : State) : Host.Outcome State Fault Refusal :=
  answer (containAt lvl i && rel < 4) (writeContainReg lvl i (4 + rel) s)

/-- CONTAIN_RESUME (R202). -/
def execContainResume (lvl i : Nat) (s : State) : Host.Outcome State Fault Refusal := answer (containAt lvl i) (writeContainReg lvl i 1 s)

/-- CONTAIN_RESTART (R202). -/
def execContainRestart (lvl i : Nat) (s : State) : Host.Outcome State Fault Refusal := answer (containAt lvl i) (writeContainReg lvl i 2 s)

/-- R197: the recovery window of a scope closes. -/
def closeWindow (c : Scope) (s : State) : State :=
  if s.contain.windows.contains c then
    let s1 : State := { s with contain := { s.contain with windows := s.contain.windows.filter (· ≠ c) } }
    wrContain c 9 1 0 s1
  else s

/-- RECOVERY_WINDOW_EXPIRE (R197). -/
def execRecoveryWindowExpire (lvl i : Nat) (s : State) : Host.Outcome State Fault Refusal :=
  answer (containAt lvl i || (lvl = 0 && i < 4096)) (closeWindow { lvl := lvl, i := i } s)

/-! ### The scheduler -/

/-- TRIGGER_FIRE (R250). -/
def execTriggerFire (cid : Nat) (s : State) : Host.Outcome State Fault Refusal := answerWord (cid < 4096) (triggerFire cid s)

/-- DEADLINE_EXPIRE (R256). -/
def execDeadlineExpire (cid : Nat) (s : State) : Host.Outcome State Fault Refusal := answerWord (cid < 4096) (expireDeadline cid s)

/-- A write of CMD of a context's scheduler block. -/
def writeCmdReg (cid v : Nat) (s : State) : State := writeReg 4096 (keyOf .sctx cid 8) (BitVec.ofNat 36 v) s

/-- SCH_DISPATCH (R262). -/
def execSchDispatch (cid : Nat) (s : State) : Host.Outcome State Fault Refusal := answerWord (cid < 4096) (writeCmdReg cid 1 s)

/-- SCH_DIS_ANG (R262). -/
def execSchDisAng (cid : Nat) (s : State) : Host.Outcome State Fault Refusal := answerWord (cid < 4096) (writeCmdReg cid 2 s)

/-- SCH_DIS_DL (R262). -/
def execSchDisDl (cid : Nat) (s : State) : Host.Outcome State Fault Refusal := answerWord (cid < 4096) (writeCmdReg cid 4 s)

end Sys2Proof.Machine
end

