-- ==== Sys2Proof/Machine/Words.lean ====
section
/-! DEFINITION. The rows of FJ36 words: unit `u` issues word `w`, which holds the row's mnemonic (log entry 40). -/

set_option Elab.async false

namespace Sys2Proof.Machine

/-- ADD (R99). -/
def execAdd (u : Nat) (w : Word) (s : State) : Host.Outcome State Fault Refusal := answerWord (u < 256) (issue u .add w s)

/-- SUB (R99). -/
def execSub (u : Nat) (w : Word) (s : State) : Host.Outcome State Fault Refusal := answerWord (u < 256) (issue u .sub w s)

/-- ADDS (R99). -/
def execAdds (u : Nat) (w : Word) (s : State) : Host.Outcome State Fault Refusal := answerWord (u < 256) (issue u .adds w s)

/-- SUBS (R99). -/
def execSubs (u : Nat) (w : Word) (s : State) : Host.Outcome State Fault Refusal := answerWord (u < 256) (issue u .subs w s)

/-- AND (R99). -/
def execAndW (u : Nat) (w : Word) (s : State) : Host.Outcome State Fault Refusal := answerWord (u < 256) (issue u .andW w s)

/-- OR (R99). -/
def execOrW (u : Nat) (w : Word) (s : State) : Host.Outcome State Fault Refusal := answerWord (u < 256) (issue u .orW w s)

/-- XOR (R99). -/
def execXorW (u : Nat) (w : Word) (s : State) : Host.Outcome State Fault Refusal := answerWord (u < 256) (issue u .xorW w s)

/-- ANDN (R99). -/
def execAndn (u : Nat) (w : Word) (s : State) : Host.Outcome State Fault Refusal := answerWord (u < 256) (issue u .andn w s)

/-- NEG (R99). -/
def execNeg (u : Nat) (w : Word) (s : State) : Host.Outcome State Fault Refusal := answerWord (u < 256) (issue u .neg w s)

/-- NEGS (R99). -/
def execNegs (u : Nat) (w : Word) (s : State) : Host.Outcome State Fault Refusal := answerWord (u < 256) (issue u .negs w s)

/-- ABS (R99). -/
def execAbs (u : Nat) (w : Word) (s : State) : Host.Outcome State Fault Refusal := answerWord (u < 256) (issue u .abs w s)

/-- ABSS (R99). -/
def execAbss (u : Nat) (w : Word) (s : State) : Host.Outcome State Fault Refusal := answerWord (u < 256) (issue u .abss w s)

/-- MIN (R99). -/
def execMinS (u : Nat) (w : Word) (s : State) : Host.Outcome State Fault Refusal := answerWord (u < 256) (issue u .minS w s)

/-- MAX (R99). -/
def execMaxS (u : Nat) (w : Word) (s : State) : Host.Outcome State Fault Refusal := answerWord (u < 256) (issue u .maxS w s)

/-- MINU (R99). -/
def execMinu (u : Nat) (w : Word) (s : State) : Host.Outcome State Fault Refusal := answerWord (u < 256) (issue u .minu w s)

/-- MAXU (R99). -/
def execMaxu (u : Nat) (w : Word) (s : State) : Host.Outcome State Fault Refusal := answerWord (u < 256) (issue u .maxu w s)

/-- MOV (R99). -/
def execMov (u : Nat) (w : Word) (s : State) : Host.Outcome State Fault Refusal := answerWord (u < 256) (issue u .mov w s)

/-- ADDI (R99). -/
def execAddi (u : Nat) (w : Word) (s : State) : Host.Outcome State Fault Refusal := answerWord (u < 256) (issue u .addi w s)

/-- ADDSI (R99). -/
def execAddsi (u : Nat) (w : Word) (s : State) : Host.Outcome State Fault Refusal := answerWord (u < 256) (issue u .addsi w s)

/-- ANDI (R99). -/
def execAndi (u : Nat) (w : Word) (s : State) : Host.Outcome State Fault Refusal := answerWord (u < 256) (issue u .andi w s)

/-- ORI (R99). -/
def execOri (u : Nat) (w : Word) (s : State) : Host.Outcome State Fault Refusal := answerWord (u < 256) (issue u .ori w s)

/-- XORI (R99). -/
def execXori (u : Nat) (w : Word) (s : State) : Host.Outcome State Fault Refusal := answerWord (u < 256) (issue u .xori w s)

/-- LUI (R99). -/
def execLui (u : Nat) (w : Word) (s : State) : Host.Outcome State Fault Refusal := answerWord (u < 256) (issue u .lui w s)

/-- ORHI (R99). -/
def execOrhi (u : Nat) (w : Word) (s : State) : Host.Outcome State Fault Refusal := answerWord (u < 256) (issue u .orhi w s)

/-- MINI (R99). -/
def execMini (u : Nat) (w : Word) (s : State) : Host.Outcome State Fault Refusal := answerWord (u < 256) (issue u .mini w s)

/-- MAXI (R99). -/
def execMaxi (u : Nat) (w : Word) (s : State) : Host.Outcome State Fault Refusal := answerWord (u < 256) (issue u .maxi w s)

/-- ADDQ (R99). -/
def execAddq (u : Nat) (w : Word) (s : State) : Host.Outcome State Fault Refusal := answerWord (u < 256) (issue u .addq w s)

/-- MOVQ (R99). -/
def execMovq (u : Nat) (w : Word) (s : State) : Host.Outcome State Fault Refusal := answerWord (u < 256) (issue u .movq w s)

/-- ANDQ (R99). -/
def execAndq (u : Nat) (w : Word) (s : State) : Host.Outcome State Fault Refusal := answerWord (u < 256) (issue u .andq w s)

/-- ORQ (R99). -/
def execOrq (u : Nat) (w : Word) (s : State) : Host.Outcome State Fault Refusal := answerWord (u < 256) (issue u .orq w s)

/-- XORQ (R99). -/
def execXorq (u : Nat) (w : Word) (s : State) : Host.Outcome State Fault Refusal := answerWord (u < 256) (issue u .xorq w s)

/-- NOP (R99). -/
def execNop (u : Nat) (w : Word) (s : State) : Host.Outcome State Fault Refusal := answerWord (u < 256) (issue u .nop w s)

/-- CEQ (R100). -/
def execCeq (u : Nat) (w : Word) (s : State) : Host.Outcome State Fault Refusal := answerWord (u < 256) (issue u .ceq w s)

/-- CNE (R100). -/
def execCne (u : Nat) (w : Word) (s : State) : Host.Outcome State Fault Refusal := answerWord (u < 256) (issue u .cne w s)

/-- CLT (R100). -/
def execClt (u : Nat) (w : Word) (s : State) : Host.Outcome State Fault Refusal := answerWord (u < 256) (issue u .clt w s)

/-- CLE (R100). -/
def execCle (u : Nat) (w : Word) (s : State) : Host.Outcome State Fault Refusal := answerWord (u < 256) (issue u .cle w s)

/-- CLTU (R100). -/
def execCltu (u : Nat) (w : Word) (s : State) : Host.Outcome State Fault Refusal := answerWord (u < 256) (issue u .cltu w s)

/-- CLEU (R100). -/
def execCleu (u : Nat) (w : Word) (s : State) : Host.Outcome State Fault Refusal := answerWord (u < 256) (issue u .cleu w s)

/-- CEQI (R100). -/
def execCeqi (u : Nat) (w : Word) (s : State) : Host.Outcome State Fault Refusal := answerWord (u < 256) (issue u .ceqi w s)

/-- CNEI (R100). -/
def execCnei (u : Nat) (w : Word) (s : State) : Host.Outcome State Fault Refusal := answerWord (u < 256) (issue u .cnei w s)

/-- CLTI (R100). -/
def execClti (u : Nat) (w : Word) (s : State) : Host.Outcome State Fault Refusal := answerWord (u < 256) (issue u .clti w s)

/-- CLEI (R100). -/
def execClei (u : Nat) (w : Word) (s : State) : Host.Outcome State Fault Refusal := answerWord (u < 256) (issue u .clei w s)

/-- CGTI (R100). -/
def execCgti (u : Nat) (w : Word) (s : State) : Host.Outcome State Fault Refusal := answerWord (u < 256) (issue u .cgti w s)

/-- CGEI (R100). -/
def execCgei (u : Nat) (w : Word) (s : State) : Host.Outcome State Fault Refusal := answerWord (u < 256) (issue u .cgei w s)

/-- CLTUI (R100). -/
def execCltui (u : Nat) (w : Word) (s : State) : Host.Outcome State Fault Refusal := answerWord (u < 256) (issue u .cltui w s)

/-- CGEUI (R100). -/
def execCgeui (u : Nat) (w : Word) (s : State) : Host.Outcome State Fault Refusal := answerWord (u < 256) (issue u .cgeui w s)

/-- SLL (R101). -/
def execSll (u : Nat) (w : Word) (s : State) : Host.Outcome State Fault Refusal := answerWord (u < 256) (issue u .sll w s)

/-- SRL (R101). -/
def execSrl (u : Nat) (w : Word) (s : State) : Host.Outcome State Fault Refusal := answerWord (u < 256) (issue u .srl w s)

/-- SRA (R101). -/
def execSra (u : Nat) (w : Word) (s : State) : Host.Outcome State Fault Refusal := answerWord (u < 256) (issue u .sra w s)

/-- ROL (R101). -/
def execRol (u : Nat) (w : Word) (s : State) : Host.Outcome State Fault Refusal := answerWord (u < 256) (issue u .rol w s)

/-- SLLI (R101). -/
def execSlli (u : Nat) (w : Word) (s : State) : Host.Outcome State Fault Refusal := answerWord (u < 256) (issue u .slli w s)

/-- SRLI (R101). -/
def execSrli (u : Nat) (w : Word) (s : State) : Host.Outcome State Fault Refusal := answerWord (u < 256) (issue u .srli w s)

/-- SRAI (R101). -/
def execSrai (u : Nat) (w : Word) (s : State) : Host.Outcome State Fault Refusal := answerWord (u < 256) (issue u .srai w s)

/-- ROLI (R101). -/
def execRoli (u : Nat) (w : Word) (s : State) : Host.Outcome State Fault Refusal := answerWord (u < 256) (issue u .roli w s)

/-- SLLQ (R101). -/
def execSllq (u : Nat) (w : Word) (s : State) : Host.Outcome State Fault Refusal := answerWord (u < 256) (issue u .sllq w s)

/-- SRLQ (R101). -/
def execSrlq (u : Nat) (w : Word) (s : State) : Host.Outcome State Fault Refusal := answerWord (u < 256) (issue u .srlq w s)

/-- SRAQ (R101). -/
def execSraq (u : Nat) (w : Word) (s : State) : Host.Outcome State Fault Refusal := answerWord (u < 256) (issue u .sraq w s)

/-- CLZ (R101). -/
def execClz (u : Nat) (w : Word) (s : State) : Host.Outcome State Fault Refusal := answerWord (u < 256) (issue u .clz w s)

/-- POPC (R101). -/
def execPopc (u : Nat) (w : Word) (s : State) : Host.Outcome State Fault Refusal := answerWord (u < 256) (issue u .popc w s)

/-- NEX (R101). -/
def execNex (u : Nat) (w : Word) (s : State) : Host.Outcome State Fault Refusal := answerWord (u < 256) (issue u .nex w s)

/-- NIN (R102). -/
def execNin (u : Nat) (w : Word) (s : State) : Host.Outcome State Fault Refusal := answerWord (u < 256) (issue u .nin w s)

/-- BFX (R102). -/
def execBfx (u : Nat) (w : Word) (s : State) : Host.Outcome State Fault Refusal := answerWord (u < 256) (issue u .bfx w s)

/-- MUL (R103). -/
def execMul (u : Nat) (w : Word) (s : State) : Host.Outcome State Fault Refusal := answerWord (u < 256) (issue u .mul w s)

/-- MULH (R103). -/
def execMulh (u : Nat) (w : Word) (s : State) : Host.Outcome State Fault Refusal := answerWord (u < 256) (issue u .mulh w s)

/-- MULHU (R103). -/
def execMulhu (u : Nat) (w : Word) (s : State) : Host.Outcome State Fault Refusal := answerWord (u < 256) (issue u .mulhu w s)

/-- MULQ (R103). -/
def execMulq (u : Nat) (w : Word) (s : State) : Host.Outcome State Fault Refusal := answerWord (u < 256) (issue u .mulq w s)

/-- MAC (R104). -/
def execMac (u : Nat) (w : Word) (s : State) : Host.Outcome State Fault Refusal := answerWord (u < 256) (issue u .mac w s)

/-- MSU (R104). -/
def execMsu (u : Nat) (w : Word) (s : State) : Host.Outcome State Fault Refusal := answerWord (u < 256) (issue u .msu w s)

/-- MACZ (R104). -/
def execMacz (u : Nat) (w : Word) (s : State) : Host.Outcome State Fault Refusal := answerWord (u < 256) (issue u .macz w s)

/-- MSUZ (R104). -/
def execMsuz (u : Nat) (w : Word) (s : State) : Host.Outcome State Fault Refusal := answerWord (u < 256) (issue u .msuz w s)

/-- MFA (R105). -/
def execMfa (u : Nat) (w : Word) (s : State) : Host.Outcome State Fault Refusal := answerWord (u < 256) (issue u .mfa w s)

/-- MTA (R103). -/
def execMta (u : Nat) (w : Word) (s : State) : Host.Outcome State Fault Refusal := answerWord (u < 256) (issue u .mta w s)

/-- DIV (R108). -/
def execDiv (u : Nat) (w : Word) (s : State) : Host.Outcome State Fault Refusal := answerWord (u < 256) (issue u .div w s)

/-- DIVU (R108). -/
def execDivu (u : Nat) (w : Word) (s : State) : Host.Outcome State Fault Refusal := answerWord (u < 256) (issue u .divu w s)

/-- SQRT (R107). -/
def execSqrt (u : Nat) (w : Word) (s : State) : Host.Outcome State Fault Refusal := answerWord (u < 256) (issue u .sqrt w s)

/-- RSQRT (R107). -/
def execRsqrt (u : Nat) (w : Word) (s : State) : Host.Outcome State Fault Refusal := answerWord (u < 256) (issue u .rsqrt w s)

/-- SINCOS (R528). -/
def execSincos (u : Nat) (w : Word) (s : State) : Host.Outcome State Fault Refusal := answerWord (u < 256) (issue u .sincos w s)

/-- LD (R117). -/
def execLd (u : Nat) (w : Word) (s : State) : Host.Outcome State Fault Refusal := answerWord (u < 256) (issue u .ld w s)

/-- LDNU (R114). -/
def execLdnu (u : Nat) (w : Word) (s : State) : Host.Outcome State Fault Refusal := answerWord (u < 256) (issue u .ldnu w s)

/-- LDNS (R114). -/
def execLdns (u : Nat) (w : Word) (s : State) : Host.Outcome State Fault Refusal := answerWord (u < 256) (issue u .ldns w s)

/-- LD2 (R120). -/
def execLd2 (u : Nat) (w : Word) (s : State) : Host.Outcome State Fault Refusal := answerWord (u < 256) (issue u .ld2 w s)

/-- LDT (R114). -/
def execLdt (u : Nat) (w : Word) (s : State) : Host.Outcome State Fault Refusal := answerWord (u < 256) (issue u .ldt w s)

/-- LDX (R114). -/
def execLdx (u : Nat) (w : Word) (s : State) : Host.Outcome State Fault Refusal := answerWord (u < 256) (issue u .ldx w s)

/-- ST (R117). -/
def execSt (u : Nat) (w : Word) (s : State) : Host.Outcome State Fault Refusal := answerWord (u < 256) (issue u .st w s)

/-- STN (R114). -/
def execStn (u : Nat) (w : Word) (s : State) : Host.Outcome State Fault Refusal := answerWord (u < 256) (issue u .stn w s)

/-- ST2 (R120). -/
def execSt2 (u : Nat) (w : Word) (s : State) : Host.Outcome State Fault Refusal := answerWord (u < 256) (issue u .st2 w s)

/-- STX (R114). -/
def execStx (u : Nat) (w : Word) (s : State) : Host.Outcome State Fault Refusal := answerWord (u < 256) (issue u .stx w s)

/-- BR (R122). -/
def execBr (u : Nat) (w : Word) (s : State) : Host.Outcome State Fault Refusal := answerWord (u < 256) (issue u .br w s)

/-- CALL (R122). -/
def execCall (u : Nat) (w : Word) (s : State) : Host.Outcome State Fault Refusal := answerWord (u < 256) (issue u .call w s)

/-- JR (R122). -/
def execJr (u : Nat) (w : Word) (s : State) : Host.Outcome State Fault Refusal := answerWord (u < 256) (issue u .jr w s)

/-- CALLR (R122). -/
def execCallr (u : Nat) (w : Word) (s : State) : Host.Outcome State Fault Refusal := answerWord (u < 256) (issue u .callr w s)

/-- RET (R122). -/
def execRet (u : Nat) (w : Word) (s : State) : Host.Outcome State Fault Refusal := answerWord (u < 256) (issue u .ret w s)

/-- DBNZ (R122). -/
def execDbnz (u : Nat) (w : Word) (s : State) : Host.Outcome State Fault Refusal := answerWord (u < 256) (issue u .dbnz w s)

/-- ARM (R246). -/
def execArm (u : Nat) (w : Word) (s : State) : Host.Outcome State Fault Refusal := answerWord (u < 256) (issue u .arm w s)

/-- ARMI (R246). -/
def execArmi (u : Nat) (w : Word) (s : State) : Host.Outcome State Fault Refusal := answerWord (u < 256) (issue u .armi w s)

/-- DLINE (R254). -/
def execDline (u : Nat) (w : Word) (s : State) : Host.Outcome State Fault Refusal := answerWord (u < 256) (issue u .dline w s)

/-- DISARM (R127). -/
def execDisarm (u : Nat) (w : Word) (s : State) : Host.Outcome State Fault Refusal := answerWord (u < 256) (issue u .disarm w s)

/-- PUSH (R353). -/
def execPush (u : Nat) (w : Word) (s : State) : Host.Outcome State Fault Refusal := answerWord (u < 256) (issue u .push w s)

/-- POP (R358). -/
def execPop (u : Nat) (w : Word) (s : State) : Host.Outcome State Fault Refusal := answerWord (u < 256) (issue u .pop w s)

/-- POPW (R132). -/
def execPopw (u : Nat) (w : Word) (s : State) : Host.Outcome State Fault Refusal := answerWord (u < 256) (issue u .popw w s)

/-- QSTAT (R359). -/
def execQstat (u : Nat) (w : Word) (s : State) : Host.Outcome State Fault Refusal := answerWord (u < 256) (issue u .qstat w s)

/-- QFLUSH (R360). -/
def execQflush (u : Nat) (w : Word) (s : State) : Host.Outcome State Fault Refusal := answerWord (u < 256) (issue u .qflush w s)

/-- QMARK (R363). -/
def execQmark (u : Nat) (w : Word) (s : State) : Host.Outcome State Fault Refusal := answerWord (u < 256) (issue u .qmark w s)

/-- QREW (R364). -/
def execQrew (u : Nat) (w : Word) (s : State) : Host.Outcome State Fault Refusal := answerWord (u < 256) (issue u .qrew w s)

/-- MFC (R134). -/
def execMfc (u : Nat) (w : Word) (s : State) : Host.Outcome State Fault Refusal := answerWord (u < 256) (issue u .mfc w s)

/-- MTC (R75). -/
def execMtc (u : Nat) (w : Word) (s : State) : Host.Outcome State Fault Refusal := answerWord (u < 256) (issue u .mtc w s)

/-- SYNC (R161). -/
def execSync (u : Nat) (w : Word) (s : State) : Host.Outcome State Fault Refusal := answerWord (u < 256) (issue u .sync w s)

/-- SYNC_I (R171). -/
def execSyncI (u : Nat) (w : Word) (s : State) : Host.Outcome State Fault Refusal := answerWord (u < 256) (issue u .syncI w s)

/-- FENCE (R137). -/
def execFence (u : Nat) (w : Word) (s : State) : Host.Outcome State Fault Refusal := answerWord (u < 256) (issue u .fence w s)

/-- WAITL (R159). -/
def execWaitl (u : Nat) (w : Word) (s : State) : Host.Outcome State Fault Refusal := answerWord (u < 256) (issue u .waitl w s)

/-- YIELD (R138). -/
def execYield (u : Nat) (w : Word) (s : State) : Host.Outcome State Fault Refusal := answer (u < 256) (issue u .yield w s)

/-- SLEEP (R139). -/
def execSleep (u : Nat) (w : Word) (s : State) : Host.Outcome State Fault Refusal := answer (u < 256) (issue u .sleep w s)

/-- TRAP (R140). -/
def execTrap (u : Nat) (w : Word) (s : State) : Host.Outcome State Fault Refusal := answer (u < 256) (issue u .trap w s)

end Sys2Proof.Machine
end

