-- ==== Sys2Proof/Machine/Dispatch.lean ====
section
/-! DEFINITION. One arm per command of the table. -/

namespace Sys2Proof.Machine

/-- The effect of a command on everything but the queue of waiting commands. -/
def exec (i : Instr) (s : State) : Host.Outcome State Fault Refusal :=
  match i with
  | .add u w => Sys2Proof.Machine.execAdd u w s
  | .sub u w => Sys2Proof.Machine.execSub u w s
  | .adds u w => Sys2Proof.Machine.execAdds u w s
  | .subs u w => Sys2Proof.Machine.execSubs u w s
  | .andW u w => Sys2Proof.Machine.execAndW u w s
  | .orW u w => Sys2Proof.Machine.execOrW u w s
  | .xorW u w => Sys2Proof.Machine.execXorW u w s
  | .andn u w => Sys2Proof.Machine.execAndn u w s
  | .neg u w => Sys2Proof.Machine.execNeg u w s
  | .negs u w => Sys2Proof.Machine.execNegs u w s
  | .abs u w => Sys2Proof.Machine.execAbs u w s
  | .abss u w => Sys2Proof.Machine.execAbss u w s
  | .minS u w => Sys2Proof.Machine.execMinS u w s
  | .maxS u w => Sys2Proof.Machine.execMaxS u w s
  | .minu u w => Sys2Proof.Machine.execMinu u w s
  | .maxu u w => Sys2Proof.Machine.execMaxu u w s
  | .mov u w => Sys2Proof.Machine.execMov u w s
  | .addi u w => Sys2Proof.Machine.execAddi u w s
  | .addsi u w => Sys2Proof.Machine.execAddsi u w s
  | .andi u w => Sys2Proof.Machine.execAndi u w s
  | .ori u w => Sys2Proof.Machine.execOri u w s
  | .xori u w => Sys2Proof.Machine.execXori u w s
  | .lui u w => Sys2Proof.Machine.execLui u w s
  | .orhi u w => Sys2Proof.Machine.execOrhi u w s
  | .mini u w => Sys2Proof.Machine.execMini u w s
  | .maxi u w => Sys2Proof.Machine.execMaxi u w s
  | .addq u w => Sys2Proof.Machine.execAddq u w s
  | .movq u w => Sys2Proof.Machine.execMovq u w s
  | .andq u w => Sys2Proof.Machine.execAndq u w s
  | .orq u w => Sys2Proof.Machine.execOrq u w s
  | .xorq u w => Sys2Proof.Machine.execXorq u w s
  | .nop u w => Sys2Proof.Machine.execNop u w s
  | .ceq u w => Sys2Proof.Machine.execCeq u w s
  | .cne u w => Sys2Proof.Machine.execCne u w s
  | .clt u w => Sys2Proof.Machine.execClt u w s
  | .cle u w => Sys2Proof.Machine.execCle u w s
  | .cltu u w => Sys2Proof.Machine.execCltu u w s
  | .cleu u w => Sys2Proof.Machine.execCleu u w s
  | .ceqi u w => Sys2Proof.Machine.execCeqi u w s
  | .cnei u w => Sys2Proof.Machine.execCnei u w s
  | .clti u w => Sys2Proof.Machine.execClti u w s
  | .clei u w => Sys2Proof.Machine.execClei u w s
  | .cgti u w => Sys2Proof.Machine.execCgti u w s
  | .cgei u w => Sys2Proof.Machine.execCgei u w s
  | .cltui u w => Sys2Proof.Machine.execCltui u w s
  | .cgeui u w => Sys2Proof.Machine.execCgeui u w s
  | .sll u w => Sys2Proof.Machine.execSll u w s
  | .srl u w => Sys2Proof.Machine.execSrl u w s
  | .sra u w => Sys2Proof.Machine.execSra u w s
  | .rol u w => Sys2Proof.Machine.execRol u w s
  | .slli u w => Sys2Proof.Machine.execSlli u w s
  | .srli u w => Sys2Proof.Machine.execSrli u w s
  | .srai u w => Sys2Proof.Machine.execSrai u w s
  | .roli u w => Sys2Proof.Machine.execRoli u w s
  | .sllq u w => Sys2Proof.Machine.execSllq u w s
  | .srlq u w => Sys2Proof.Machine.execSrlq u w s
  | .sraq u w => Sys2Proof.Machine.execSraq u w s
  | .clz u w => Sys2Proof.Machine.execClz u w s
  | .popc u w => Sys2Proof.Machine.execPopc u w s
  | .nex u w => Sys2Proof.Machine.execNex u w s
  | .nin u w => Sys2Proof.Machine.execNin u w s
  | .bfx u w => Sys2Proof.Machine.execBfx u w s
  | .mul u w => Sys2Proof.Machine.execMul u w s
  | .mulh u w => Sys2Proof.Machine.execMulh u w s
  | .mulhu u w => Sys2Proof.Machine.execMulhu u w s
  | .mulq u w => Sys2Proof.Machine.execMulq u w s
  | .mac u w => Sys2Proof.Machine.execMac u w s
  | .msu u w => Sys2Proof.Machine.execMsu u w s
  | .macz u w => Sys2Proof.Machine.execMacz u w s
  | .msuz u w => Sys2Proof.Machine.execMsuz u w s
  | .mfa u w => Sys2Proof.Machine.execMfa u w s
  | .mta u w => Sys2Proof.Machine.execMta u w s
  | .div u w => Sys2Proof.Machine.execDiv u w s
  | .divu u w => Sys2Proof.Machine.execDivu u w s
  | .sqrt u w => Sys2Proof.Machine.execSqrt u w s
  | .rsqrt u w => Sys2Proof.Machine.execRsqrt u w s
  | .sincos u w => Sys2Proof.Machine.execSincos u w s
  | .longOpComplete u slot => Sys2Proof.Machine.execLongOpComplete u slot s
  | .ld u w => Sys2Proof.Machine.execLd u w s
  | .ldnu u w => Sys2Proof.Machine.execLdnu u w s
  | .ldns u w => Sys2Proof.Machine.execLdns u w s
  | .ld2 u w => Sys2Proof.Machine.execLd2 u w s
  | .ldt u w => Sys2Proof.Machine.execLdt u w s
  | .ldx u w => Sys2Proof.Machine.execLdx u w s
  | .st u w => Sys2Proof.Machine.execSt u w s
  | .stn u w => Sys2Proof.Machine.execStn u w s
  | .st2 u w => Sys2Proof.Machine.execSt2 u w s
  | .stx u w => Sys2Proof.Machine.execStx u w s
  | .remoteLoadComplete cid => Sys2Proof.Machine.execRemoteLoadComplete cid s
  | .remoteStoreArrive j => Sys2Proof.Machine.execRemoteStoreArrive j s
  | .br u w => Sys2Proof.Machine.execBr u w s
  | .call u w => Sys2Proof.Machine.execCall u w s
  | .jr u w => Sys2Proof.Machine.execJr u w s
  | .callr u w => Sys2Proof.Machine.execCallr u w s
  | .ret u w => Sys2Proof.Machine.execRet u w s
  | .dbnz u w => Sys2Proof.Machine.execDbnz u w s
  | .arm u w => Sys2Proof.Machine.execArm u w s
  | .armi u w => Sys2Proof.Machine.execArmi u w s
  | .dline u w => Sys2Proof.Machine.execDline u w s
  | .disarm u w => Sys2Proof.Machine.execDisarm u w s
  | .push u w => Sys2Proof.Machine.execPush u w s
  | .pop u w => Sys2Proof.Machine.execPop u w s
  | .popw u w => Sys2Proof.Machine.execPopw u w s
  | .popwComplete cid => Sys2Proof.Machine.execPopwComplete cid s
  | .qstat u w => Sys2Proof.Machine.execQstat u w s
  | .qflush u w => Sys2Proof.Machine.execQflush u w s
  | .qmark u w => Sys2Proof.Machine.execQmark u w s
  | .qrew u w => Sys2Proof.Machine.execQrew u w s
  | .mfc u w => Sys2Proof.Machine.execMfc u w s
  | .mtc u w => Sys2Proof.Machine.execMtc u w s
  | .sync u w => Sys2Proof.Machine.execSync u w s
  | .syncI u w => Sys2Proof.Machine.execSyncI u w s
  | .fence u w => Sys2Proof.Machine.execFence u w s
  | .waitl u w => Sys2Proof.Machine.execWaitl u w s
  | .yield u w => Sys2Proof.Machine.execYield u w s
  | .sleep u w => Sys2Proof.Machine.execSleep u w s
  | .trap u w => Sys2Proof.Machine.execTrap u w s
  | .fetchGranuleArrive u g => Sys2Proof.Machine.execFetchGranuleArrive u g s
  | .btbFlush u => Sys2Proof.Machine.execBtbFlush u s
  | .dispatchRequest cid => Sys2Proof.Machine.execDispatchRequest cid s
  | .dispatchAccept u n => Sys2Proof.Machine.execDispatchAccept u n s
  | .frcClear cid v => Sys2Proof.Machine.execFrcClear cid v s
  | .otherPcWrite cid v => Sys2Proof.Machine.execOtherPcWrite cid v s
  | .containHalt lvl j rel => Sys2Proof.Machine.execContainHalt lvl j rel s
  | .containResume lvl j => Sys2Proof.Machine.execContainResume lvl j s
  | .containRestart lvl j => Sys2Proof.Machine.execContainRestart lvl j s
  | .recoveryWindowExpire lvl j => Sys2Proof.Machine.execRecoveryWindowExpire lvl j s
  | .triggerFire cid => Sys2Proof.Machine.execTriggerFire cid s
  | .deadlineExpire cid => Sys2Proof.Machine.execDeadlineExpire cid s
  | .schDispatch cid => Sys2Proof.Machine.execSchDispatch cid s
  | .schDisAng cid => Sys2Proof.Machine.execSchDisAng cid s
  | .schDisDl cid => Sys2Proof.Machine.execSchDisDl cid s
  | .encoderUpdate n => Sys2Proof.Machine.execEncoderUpdate n s
  | .boundUpdate n => Sys2Proof.Machine.execBoundUpdate n s
  | .tripleApply n => Sys2Proof.Machine.execTripleApply n s
  | .timebaseLoss n => Sys2Proof.Machine.execTimebaseLoss n s
  | .tbPosWrite n v => Sys2Proof.Machine.execTbPosWrite n v s
  | .tbConfigWrite n r v => Sys2Proof.Machine.execTbConfigWrite n r v s
  | .tbOffsetWrite n v => Sys2Proof.Machine.execTbOffsetWrite n v s
  | .ppsEdge => Sys2Proof.Machine.execPpsEdge s
  | .ppsHoldover => Sys2Proof.Machine.execPpsHoldover s
  | .setNow v => Sys2Proof.Machine.execSetNow v s
  | .timeFRead req => Sys2Proof.Machine.execTimeFRead req s
  | .ppsOutRise => Sys2Proof.Machine.execPpsOutRise s
  | .ppsOutFall => Sys2Proof.Machine.execPpsOutFall s
  | .mirrorGapSend n => Sys2Proof.Machine.execMirrorGapSend n s
  | .mirrorRefresh n => Sys2Proof.Machine.execMirrorRefresh n s
  | .timeSampleSend => Sys2Proof.Machine.execTimeSampleSend s
  | .decimation g edges => Sys2Proof.Machine.execDecimation g edges s
  | .strobe g n => Sys2Proof.Machine.execStrobe g n s
  | .swStrobe v => Sys2Proof.Machine.execSwStrobe v s
  | .strobedOutput g edges => Sys2Proof.Machine.execStrobedOutput g edges s
  | .clkLost g => Sys2Proof.Machine.execClkLost g s
  | .clkBack g edges => Sys2Proof.Machine.execClkBack g edges s
  | .stuck c edges => Sys2Proof.Machine.execStuck c edges s
  | .groupRestart k v => Sys2Proof.Machine.execGroupRestart k v s
  | .groupRestartEnd g edges => Sys2Proof.Machine.execGroupRestartEnd g edges s
  | .strobeConfigWrite g r v => Sys2Proof.Machine.execStrobeConfigWrite g r v s
  | .windowChange c edges => Sys2Proof.Machine.execWindowChange c edges s
  | .comparatorCrossing n uv => Sys2Proof.Machine.execComparatorCrossing n uv s
  | .comparatorThresholdWrite n v uv => Sys2Proof.Machine.execComparatorThresholdWrite n v uv s
  | .encoderEdge n a b => Sys2Proof.Machine.execEncoderEdge n a b s
  | .encoderIndex n => Sys2Proof.Machine.execEncoderIndex n s
  | .countWrite n v => Sys2Proof.Machine.execCountWrite n v s
  | .resolverSample r edges => Sys2Proof.Machine.execResolverSample r edges s
  | .edgeT q => Sys2Proof.Machine.execEdgeT q s
  | .edgeA q => Sys2Proof.Machine.execEdgeA q s
  | .cmp q => Sys2Proof.Machine.execCmp q s
  | .cgset q => Sys2Proof.Machine.execCgset q s
  | .edgeLock p => Sys2Proof.Machine.execEdgeLock p s
  | .edgePlace p => Sys2Proof.Machine.execEdgePlace p s
  | .carrierEdge p => Sys2Proof.Machine.execCarrierEdge p s
  | .handover g => Sys2Proof.Machine.execHandover g s
  | .deadTimeExpire p => Sys2Proof.Machine.execDeadTimeExpire p s
  | .pinCtlWrite p v => Sys2Proof.Machine.execPinCtlWrite p v s
  | .cgCtlWrite g r v => Sys2Proof.Machine.execCgCtlWrite g r v s
  | .commitSet g => Sys2Proof.Machine.execCommitSet g s
  | .fltNFall n => Sys2Proof.Machine.execFltNFall n s
  | .softwareTrip b v => Sys2Proof.Machine.execSoftwareTrip b v s
  | .tripClear b => Sys2Proof.Machine.execTripClear b s
  | .reelSourceWrite b r v => Sys2Proof.Machine.execReelSourceWrite b r v s
  | .scrubRead m => Sys2Proof.Machine.execScrubRead m s
  | .tagWr c v => Sys2Proof.Machine.execTagWr c v s
  | .mramProgramDone c ok => Sys2Proof.Machine.execMramProgramDone c ok s
  | .pushVisible q => Sys2Proof.Machine.execPushVisible q s
  | .creditReturn q => Sys2Proof.Machine.execCreditReturn q s
  | .mismatchReclaimDone q => Sys2Proof.Machine.execMismatchReclaimDone q s
  | .queueFlushWrite q v => Sys2Proof.Machine.execQueueFlushWrite q v s
  | .markClr q => Sys2Proof.Machine.execMarkClr q s
  | .crossingResetSeen d j => Sys2Proof.Machine.execCrossingResetSeen d j s
  | .crossingResetEndSeen d j => Sys2Proof.Machine.execCrossingResetEndSeen d j s
  | .crossingAcknowledge d j => Sys2Proof.Machine.execCrossingAcknowledge d j s
  | .dmaGo c v => Sys2Proof.Machine.execDmaGo c v s
  | .dmaDisable c v => Sys2Proof.Machine.execDmaDisable c v s
  | .descArrive c => Sys2Proof.Machine.execDescArrive c s
  | .dmaReadComplete c => Sys2Proof.Machine.execDmaReadComplete c s
  | .dmaWriteResponse c ok => Sys2Proof.Machine.execDmaWriteResponse c ok s
  | .dmaRecordAnswered c => Sys2Proof.Machine.execDmaRecordAnswered c s
  | .dmaCqHeadWrite q v => Sys2Proof.Machine.execDmaCqHeadWrite q v s
  | .sqDoorbell r v aligned => Sys2Proof.Machine.execSqDoorbell r v aligned s
  | .cqDoorbell r v aligned => Sys2Proof.Machine.execCqDoorbell r v aligned s
  | .sqReadComplete r gs => Sys2Proof.Machine.execSqReadComplete r gs s
  | .hostNop r => Sys2Proof.Machine.execHostNop r s
  | .regRd r => Sys2Proof.Machine.execRegRd r s
  | .regWr r => Sys2Proof.Machine.execRegWr r s
  | .memRd r => Sys2Proof.Machine.execMemRd r s
  | .memWr r => Sys2Proof.Machine.execMemWr r s
  | .qPush r => Sys2Proof.Machine.execQPush r s
  | .qTake r => Sys2Proof.Machine.execQTake r s
  | .fetch r => Sys2Proof.Machine.execFetch r s
  | .qPushTimeout r => Sys2Proof.Machine.execQPushTimeout r s
  | .forwardResult gs => Sys2Proof.Machine.execForwardResult gs s
  | .forwardTimeout r seq => Sys2Proof.Machine.execForwardTimeout r seq s
  | .hostEvtRaise v => Sys2Proof.Machine.execHostEvtRaise v s
  | .msixUnmask n => Sys2Proof.Machine.execMsixUnmask n s
  | .hostPortReset => Sys2Proof.Machine.execHostPortReset s
  | .ringEnable r v => Sys2Proof.Machine.execRingEnable r v s
  | .ringDisable r v => Sys2Proof.Machine.execRingDisable r v s
  | .linkEnable l v => Sys2Proof.Machine.execLinkEnable l v s
  | .linkDisable l v => Sys2Proof.Machine.execLinkDisable l v s
  | .linkSignalDetect l => Sys2Proof.Machine.execLinkSignalDetect l s
  | .linkDetectRetry l => Sys2Proof.Machine.execLinkDetectRetry l s
  | .linkTrained l width rate rev => Sys2Proof.Machine.execLinkTrained l width rate rev s
  | .linkTrainTimeout l => Sys2Proof.Machine.execLinkTrainTimeout l s
  | .linkSignalLoss l => Sys2Proof.Machine.execLinkSignalLoss l s
  | .linkDownExpire l => Sys2Proof.Machine.execLinkDownExpire l s
  | .linkRetrainWrite l v => Sys2Proof.Machine.execLinkRetrainWrite l v s
  | .linkFlit l m => Sys2Proof.Machine.execLinkFlit l m s
  | .linkFlitSend l => Sys2Proof.Machine.execLinkFlitSend l s
  | .hello l m => Sys2Proof.Machine.execHello l m s
  | .probeSend l => Sys2Proof.Machine.execProbeSend l s
  | .probe l m => Sys2Proof.Machine.execProbe l m s
  | .probeReply l m => Sys2Proof.Machine.execProbeReply l m s
  | .viol l m => Sys2Proof.Machine.execViol l m s
  | .linkAbortFlit l m => Sys2Proof.Machine.execLinkAbortFlit l m s
  | .linkFenceFlit l m => Sys2Proof.Machine.execLinkFenceFlit l m s
  | .queuePacket l vc gs => Sys2Proof.Machine.execQueuePacket l vc gs s
  | .commandPacket l vc gs => Sys2Proof.Machine.execCommandPacket l vc gs s
  | .resultPacket l vc gs => Sys2Proof.Machine.execResultPacket l vc gs s
  | .timePacket l vc gs => Sys2Proof.Machine.execTimePacket l vc gs s
  | .mirrorPacket l vc gs => Sys2Proof.Machine.execMirrorPacket l vc gs s
  | .discReq l gs => Sys2Proof.Machine.execDiscReq l gs s
  | .discResp l gs => Sys2Proof.Machine.execDiscResp l gs s
  | .assign l gs => Sys2Proof.Machine.execAssign l gs s
  | .assignAck l gs => Sys2Proof.Machine.execAssignAck l gs s
  | .discoveryTimeout => Sys2Proof.Machine.execDiscoveryTimeout s
  | .safeBroadcast l gs => Sys2Proof.Machine.execSafeBroadcast l gs s
  | .alive l gs => Sys2Proof.Machine.execAlive l gs s
  | .peerFenceRelease j v => Sys2Proof.Machine.execPeerFenceRelease j v s
  | .modeReqStandby force => Sys2Proof.Machine.execModeReqStandby force s
  | .modeReqRetain force => Sys2Proof.Machine.execModeReqRetain force s
  | .modeReqSentinel force => Sys2Proof.Machine.execModeReqSentinel force s
  | .modeReqRun force => Sys2Proof.Machine.execModeReqRun force s
  | .modeReqBoost force => Sys2Proof.Machine.execModeReqBoost force s
  | .domCtlOn d force => Sys2Proof.Machine.execDomCtlOn d force s
  | .domCtlOff d force => Sys2Proof.Machine.execDomCtlOff d force s
  | .agentGrant d => Sys2Proof.Machine.execAgentGrant d s
  | .agentDefer d => Sys2Proof.Machine.execAgentDefer d s
  | .agentRefuse d => Sys2Proof.Machine.execAgentRefuse d s
  | .deferTimeout d => Sys2Proof.Machine.execDeferTimeout d s
  | .domainPowerDownDone d => Sys2Proof.Machine.execDomainPowerDownDone d s
  | .domainPowerUpDone d ok => Sys2Proof.Machine.execDomainPowerUpDone d ok s
  | .wakeTimer => Sys2Proof.Machine.execWakeTimer s
  | .warmN => Sys2Proof.Machine.execWarmN s
  | .avsStepComplete rail v => Sys2Proof.Machine.execAvsStepComplete rail v s
  | .avsTimeout rail v => Sys2Proof.Machine.execAvsTimeout rail v s
  | .tempSensorUpdate j t => Sys2Proof.Machine.execTempSensorUpdate j t s
  | .thermalBoostExit rg => Sys2Proof.Machine.execThermalBoostExit rg s
  | .railFault rail => Sys2Proof.Machine.execRailFault rail s
  | .mainPgFall => Sys2Proof.Machine.execMainPgFall s
  | .mainPgRise => Sys2Proof.Machine.execMainPgRise s
  | .powerUpTimeout => Sys2Proof.Machine.execPowerUpTimeout s
  | .refclkLoss => Sys2Proof.Machine.execRefclkLoss s
  | .bankSupply b => Sys2Proof.Machine.execBankSupply b s
  | .clusterPower c why => Sys2Proof.Machine.execClusterPower c why s
  | .resetNFall => Sys2Proof.Machine.execResetNFall s
  | .resetNRise sel => Sys2Proof.Machine.execResetNRise sel s
  | .vaoPowerUp => Sys2Proof.Machine.execVaoPowerUp s
  | .vaoLoss => Sys2Proof.Machine.execVaoLoss s
  | .jasperConversion code => Sys2Proof.Machine.execJasperConversion code s
  | .jsInQualify n lvl => Sys2Proof.Machine.execJsInQualify n lvl s
  | .jsCountWindow n => Sys2Proof.Machine.execJsCountWindow n s
  | .jasperPass => Sys2Proof.Machine.execJasperPass s
  | .jasperLatchClear hi v => Sys2Proof.Machine.execJasperLatchClear hi v s
  | .jasperRuleWrite j b v => Sys2Proof.Machine.execJasperRuleWrite j b v s
  | .otpBurn v => Sys2Proof.Machine.execOtpBurn v s
  | .startColdRequest => Sys2Proof.Machine.execStartColdRequest s
  | .startWarmRequest => Sys2Proof.Machine.execStartWarmRequest s
  | .imageSection gs => Sys2Proof.Machine.execImageSection gs s
  | .noImage => Sys2Proof.Machine.execNoImage s
  | .startDiscoveryTimeout => Sys2Proof.Machine.execStartDiscoveryTimeout s
  | .startTimeout => Sys2Proof.Machine.execStartTimeout s
  | .startRetry => Sys2Proof.Machine.execStartRetry s
  | .registerWrite k v => Sys2Proof.Machine.execRegisterWrite k v s
  | .registerReadClear k => Sys2Proof.Machine.execRegisterReadClear k s
  | .perstNRise => Sys2Proof.Machine.execPerstNRise s
  | .fltNRise n => Sys2Proof.Machine.execFltNRise n s
  | .encoderGlitch n => Sys2Proof.Machine.execEncoderGlitch n s
  | .sqReadError r poisoned => Sys2Proof.Machine.execSqReadError r poisoned s
  | .pcieLinkUp width speed => Sys2Proof.Machine.execPcieLinkUp width speed s
  | .flitCrcFailure l => Sys2Proof.Machine.execFlitCrcFailure l s
  | .routerFault rg => Sys2Proof.Machine.execRouterFault rg s
  | .bridgeFault d => Sys2Proof.Machine.execBridgeFault d s
  | .bitError tgt a mask => Sys2Proof.Machine.execBitError tgt a mask s
  | .barAccessViolation bar => Sys2Proof.Machine.execBarAccessViolation bar s
  | .pllLock => Sys2Proof.Machine.execPllLock s
  | .digestCompareTimeout => Sys2Proof.Machine.execDigestCompareTimeout s

end Sys2Proof.Machine
end

