-- ==== Sys2Proof/Machine/Tick.lean ====
section
/-! DEFINITION. What passes with time alone (log entry 41): one tick of 1 ns, when no command waits. -/

set_option Elab.async false

namespace Sys2Proof.Machine

/-- The clocks count one tick: the model's own, the always-on clock outside OFF, device time while its PLL runs (R223);
a hold that has been passed ends (R218); the measurement front sees where the timebases were and where the carriers are (R270, R284). -/
def countTick (s : State) : State :=
  let s0 := if clocksOn s then forN 12 noteStrobeTb s else s
  let s1 : State := { s0 with clock := { s.clock with tick := s.clock.tick + 1, ao := if modeOf s = 0 then s.clock.ao else s.clock.ao + 1 } }
  let s2 := if s1.clock.run && domOn 48 s1 then (s1.tbs.map (·.1)).foldl (fun s n => endHold n s) (holdoverSecond (advanceTime s1)) else s1
  if clocksOn s2 then forN 8 watchCarrier s2 else s2

/-- One tick without a command; the heaps take what waits for its turn (R242). -/
def idle (s : State) : State := finish (passAp2 (settleHeaps (countTick s)))

end Sys2Proof.Machine
end

