-- ==== Sys2Proof/WellFormed.lean ====
section
/-! DEFINITION. Which commands name something that the device has: the ranges of the operands. A command that is not well formed is answered
with the fault `noSuchInstance`. -/

set_option Elab.async false

namespace Sys2Proof

/-- Table CX-10: the scope `i` of level `lvl` has a CONTAIN register: a cluster, a region or a die. -/
def hasContain (lvl i : Nat) : Bool := decide ((lvl = 1 ∧ i < 32) ∨ (lvl = 2 ∧ i < 8) ∨ (lvl = 3 ∧ i < 2))

/-- Table QU-6: the crossing `i` of die `d`. The host port's, number 9, lies on die E. -/
def hasCrossing (d i : Nat) : Bool := decide ((d = 0 ∧ i < 10) ∨ (d = 1 ∧ i < 9))

/-- R320, R321: what a bit error may strike: the granule `a` of a memory, a queue's cell, a queue, a context's heap entry, a granule on a link, a
granule on its way to a DMA channel; on the region mesh or the die bridge a push to a queue, the answer to a context's remote load, a posted store. The
mask has one bit for each of the 276 positions of a codeword. -/
def hasTarget (tgt a mask : Nat) : Bool :=
  decide (mask < 2 ^ 276) && decide ((tgt = 0 ∧ a < 3162112) ∨ tgt = 1 ∨ ((tgt = 2 ∨ tgt = 3) ∧ a < 8192) ∨ (tgt = 4 ∧ a < 4096) ∨ (tgt = 5 ∧ a < 3072) ∨ (tgt = 6 ∧ a < 64) ∨
    (tgt = 7 ∧ a < 8192) ∨ (tgt = 8 ∧ a < 4096) ∨ tgt = 9)

/-- Tables MF-6 and MF-7: register `k` is CTL of one of the 12 groups or CFG of one of the 96 channels. -/
def groupKey (k : Nat) : Bool :=
  decide ((0x6200 ≤ k ∧ k < 0x6260 ∧ k % 8 = 0) ∨ (0x6400 ≤ k ∧ k < 0x6700 ∧ k % 8 = 0))

/-- The command names only instances that the device has. -/
def Instr.wf (i : Instr) : Bool :=
  match i with
  | .add u _ | .sub u _ | .adds u _ | .subs u _ | .andW u _ | .orW u _ | .xorW u _ | .andn u _ | .neg u _ | .negs u _ | .abs u _
  | .abss u _ | .minS u _ | .maxS u _ | .minu u _ | .maxu u _ | .mov u _ | .addi u _ | .addsi u _ | .andi u _ | .ori u _ | .xori u _
  | .lui u _ | .orhi u _ | .mini u _ | .maxi u _ | .addq u _ | .movq u _ | .andq u _ | .orq u _ | .xorq u _ | .nop u _ | .ceq u _
  | .cne u _ | .clt u _ | .cle u _ | .cltu u _ | .cleu u _ | .ceqi u _ | .cnei u _ | .clti u _ | .clei u _ | .cgti u _ | .cgei u _
  | .cltui u _ | .cgeui u _ | .sll u _ | .srl u _ | .sra u _ | .rol u _ | .slli u _ | .srli u _ | .srai u _ | .roli u _ | .sllq u _
  | .srlq u _ | .sraq u _ | .clz u _ | .popc u _ | .nex u _ | .nin u _ | .bfx u _ | .mul u _ | .mulh u _ | .mulhu u _ | .mulq u _
  | .mac u _ | .msu u _ | .macz u _ | .msuz u _ | .mfa u _ | .mta u _ | .div u _ | .divu u _ | .sqrt u _ | .rsqrt u _ | .sincos u _
  | .ld u _ | .ldnu u _ | .ldns u _ | .ld2 u _ | .ldt u _ | .ldx u _ | .st u _ | .stn u _ | .st2 u _ | .stx u _ | .br u _ | .call u _
  | .jr u _ | .callr u _ | .ret u _ | .dbnz u _ | .arm u _ | .armi u _ | .dline u _ | .disarm u _ | .push u _ | .pop u _ | .popw u _
  | .qstat u _ | .qflush u _ | .qmark u _ | .qrew u _ | .mfc u _ | .mtc u _ | .sync u _ | .syncI u _ | .fence u _ | .waitl u _ | .yield u _
  | .sleep u _ | .trap u _ | .btbFlush u => decide (u < 256)
  | .longOpComplete u slot => decide (u < 256 ∧ slot < 4)
  | .remoteLoadComplete cid | .popwComplete cid | .dispatchRequest cid | .frcClear cid _ | .otherPcWrite cid _ | .triggerFire cid
  | .deadlineExpire cid | .schDispatch cid | .schDisAng cid | .schDisDl cid => decide (cid < 4096)
  | .remoteStoreArrive _ | .ppsEdge | .ppsHoldover | .setNow _ | .ppsOutRise | .ppsOutFall | .timeSampleSend | .swStrobe _
  | .forwardResult _ | .hostEvtRaise _ | .hostPortReset | .discoveryTimeout | .modeReqStandby _ | .modeReqRetain _ | .modeReqSentinel _
  | .modeReqRun _ | .modeReqBoost _ | .wakeTimer | .warmN | .railFault _ | .mainPgFall | .mainPgRise | .powerUpTimeout | .refclkLoss
  | .resetNFall | .vaoPowerUp | .vaoLoss | .jasperPass | .jasperLatchClear _ _ | .otpBurn _ | .startColdRequest | .startWarmRequest
  | .imageSection _ | .noImage | .startDiscoveryTimeout | .startTimeout | .startRetry | .perstNRise | .pcieLinkUp _ _ | .pllLock
  | .digestCompareTimeout => true
  | .fetchGranuleArrive u g => decide (u < 256 ∧ g < 65536)
  | .dispatchAccept u n => decide (u < 256 ∧ n ≤ 6)
  | .containHalt lvl i rel => hasContain lvl i && decide (rel < 4)
  | .containResume lvl i | .containRestart lvl i => hasContain lvl i
  | .recoveryWindowExpire lvl i => hasContain lvl i || decide (lvl = 0 ∧ i < 4096)
  | .encoderUpdate n | .boundUpdate n | .tripleApply n | .timebaseLoss n | .tbPosWrite n _ | .tbConfigWrite n _ _ | .tbOffsetWrite n _
  | .mirrorGapSend n | .mirrorRefresh n | .msixUnmask n => decide (n < 64)
  | .timeFRead req => decide (req ≤ 4096)
  | .decimation g _ | .strobe g _ | .strobedOutput g _ | .clkLost g | .clkBack g _ | .groupRestartEnd g _ | .strobeConfigWrite g _ _ => decide (g < 12)
  | .stuck c _ | .windowChange c _ => decide (c < 96)
  | .groupRestart k _ => groupKey k
  | .comparatorCrossing n _ | .comparatorThresholdWrite n _ _ => decide (n < 48)
  | .encoderEdge n _ _ | .encoderIndex n | .countWrite n _ | .jsInQualify n _ | .jsCountWindow n | .encoderGlitch n => decide (n < 16)
  | .resolverSample r _ | .sqDoorbell r _ _ | .cqDoorbell r _ _ | .sqReadComplete r _ | .hostNop r | .regRd r | .regWr r | .memRd r
  | .memWr r | .qPush r | .qTake r | .fetch r | .forwardTimeout r _ | .ringEnable r _ | .ringDisable r _ | .sqReadError r _ => decide (r < 8)
  | .edgeT q | .edgeA q | .cmp q | .cgset q | .pushVisible q | .creditReturn q | .mismatchReclaimDone q | .queueFlushWrite q _ | .markClr q => decide (q < 8192)
  | .edgeLock p | .edgePlace p | .carrierEdge p | .deadTimeExpire p | .pinCtlWrite p _ => decide (p < 128)
  | .handover g | .cgCtlWrite g _ _ | .commitSet g => decide (g < 64)
  | .fltNFall n | .fltNRise n => decide (n < 8)
  | .softwareTrip b _ | .tripClear b | .reelSourceWrite b _ _ | .bankSupply b => decide (b < 4)
  | .scrubRead m => decide (m < 65)
  | .tagWr c _ | .mramProgramDone c _ => decide (c < 32)
  | .crossingResetSeen d i | .crossingResetEndSeen d i | .crossingAcknowledge d i => hasCrossing d i
  | .dmaGo c _ | .dmaDisable c _ | .descArrive c | .dmaReadComplete c | .dmaWriteResponse c _ | .dmaRecordAnswered c => decide (c < 64)
  | .dmaCqHeadWrite q _ => decide (q < 8)
  | .qPushTimeout r => decide (r < 9)
  | .linkEnable l _ | .linkDisable l _ | .linkSignalDetect l | .linkDetectRetry l | .linkTrained l _ _ _ | .linkTrainTimeout l
  | .linkSignalLoss l | .linkDownExpire l | .linkRetrainWrite l _ | .linkFlit l _ | .linkFlitSend l | .hello l _ | .probeSend l
  | .probe l _ | .probeReply l _ | .viol l _ | .linkAbortFlit l _ | .linkFenceFlit l _ | .discReq l _ | .discResp l _ | .assign l _
  | .assignAck l _ | .safeBroadcast l _ | .alive l _ | .flitCrcFailure l => decide (l < 6)
  | .queuePacket l vc _ | .commandPacket l vc _ | .resultPacket l vc _ | .timePacket l vc _ | .mirrorPacket l vc _ => decide (l < 6 ∧ vc < 4)
  | .peerFenceRelease i _ => decide (i < 32)
  | .domCtlOn d _ | .domCtlOff d _ | .agentGrant d | .agentDefer d | .agentRefuse d | .deferTimeout d | .domainPowerDownDone d
  | .domainPowerUpDone d _ => decide (d < 50)
  | .avsStepComplete rail _ | .avsTimeout rail _ => decide (rail < 2)
  | .tempSensorUpdate i t => decide (i < 11 ∧ t < 4096)
  | .thermalBoostExit rg | .routerFault rg => decide (rg < 8)
  | .clusterPower c why => decide (c < 32 ∧ (why = 1 ∨ why = 2))
  | .resetNRise sel => decide (sel < 8)
  | .jasperConversion code => decide (code < 4096)
  | .jasperRuleWrite i _ _ => decide (i < 64)
  | .registerWrite k _ | .registerReadClear k => decide (k < 0x200000)
  | .bridgeFault d => decide (d < 2)
  | .bitError tgt a mask => hasTarget tgt a mask
  | .barAccessViolation bar => decide (bar = 0 ∨ bar = 2)

end Sys2Proof
end

