-- ==== Sys2Proof/Safety.lean ====
section
/-! DEFINITION. The terms in which the claims are stated: what is quiet, where a word stands at issue, and which row a word belongs to. -/

set_option Elab.async false

namespace Sys2Proof.Machine

/-- No fault or notice waits to be handled (R197), and the package SAFE state has not just been entered. -/
def Quiet (s : State) : Prop := s.raised = [] ∧ s.contain.entered = false

/-- Nothing is left for `finish` to do: the state is quiet, no start is asked for or in its step 6, no forwarded command waits, and the link
switch has nothing to move. -/
def Calm (s : State) : Prop :=
  Quiet s ∧ s.start.due = 0 ∧ s.start.step ≠ 6 ∧ (∀ c ∈ s.host.cmds, c.fwd = false) ∧ linkWork s = false

/-- Memory is in its canonical form (addresses rising, no unlisted value listed). -/
def MemCanonical (s : State) : Prop := Memory.wf s.mem = true

/-- A sparse list with its keys in strictly rising order, so that it holds one value for each. -/
def Rising {α : Type} (l : List (Nat × α)) : Prop := l.Pairwise (fun a b => a.1 < b.1)

/-- Every sparse list of the state is in order, those that RETAIN has saved included, and memory is in its canonical form. -/
structure InOrder (s : State) : Prop where
  mem    : MemCanonical s
  regs   : Rising s.regs
  errs   : Rising s.errs
  ctxs   : Rising s.ctxs
  units  : Rising s.units
  heaps  : Rising s.heaps
  tbs    : Rising s.tbs
  queues : Rising s.queues
  xings  : Rising s.xings
  grps   : Rising s.grps
  chans  : Rising s.chans
  comps  : Rising s.comps
  encs   : Rising s.encs
  trks   : Rising s.trks
  evts   : Rising s.evts
  evPins : Rising s.evPins
  gens   : Rising s.gens
  banks  : Rising s.banks
  dma    : Rising s.dma
  links  : Rising s.links
  saved  : ∀ v, s.saved = some v → Rising v.ctxs ∧ Rising v.heaps ∧ Rising v.tbs ∧ Rising v.regs

/-- A quotient whose rounding the spec leaves open: within one of the exact one, and exact where it can be (log entry 15). -/
def Rounds (q num : Int) (den : Nat) : Prop := (q * den - num).natAbs < den

/-- Timebase `n` is followed by nothing: no other timebase, no armed trigger, no edge and no generator; it is not published, and NOBACK is off. -/
structure TbAlone (n : Nat) (s : State) : Prop where
  followers : followers n s = []
  notSent   : published n s = false
  triggers  : ∀ e ∈ s.heaps, e.2.ang = .disarmed
  edges     : ∀ e ∈ s.evPins, e.2.edges = []
  gens      : s.gens = []
  noback    : rdB F.tb_CTL_NOBACK n s = false

/-- Group `g` of the measurement front runs; none of its streams is in use, and no event is posted. -/
structure PlainGroup (g : Nat) (s : State) : Prop where
  group    : g < 12
  clock    : clocksOn s = true
  runs     : grpRuns g s = true
  order    : InOrder s
  held     : (s.grp g).held = []
  streams  : ∀ i, i < 4 → rd (streamF F.grp_STREAM_MODE i) g s = 0
  silent   : rd F.mfr_EVT_CTL_EN 0 s = 0

/-- No STUCK check but that of channel `i`, if it is one, and no window but that of channel `j`, runs in group `g`. -/
def OnlyChecks (g i j : Nat) (s : State) : Prop :=
  ∀ k, k < 8 → (k ≠ i → rd F.chan_CFG_STUCK (8 * g + k) s = 0) ∧ (k ≠ j → rd F.chan_CFG_FORDER (8 * g + k) s = 0)

/-- A packet of head `g` and the bodies `body` that link `l` may receive on VC `vc` without violation, and that alone moves in the link switch (R437, R438,
R440). -/
structure Arrives (l vc : Nat) (g : Granule) (body : List Granule) (s : State) : Prop where
  link   : l < 6
  chan   : vc < 4
  on     : linkOn l s = true
  up     : linkUp l s = true
  idle   : linkWork s = false
  order  : InOrder s
  errs   : (s.link l).errs = []
  kind   : kindVc (hKind g) vc = true
  head   : headReserved g = false
  len    : hLen g = body.length
  tag    : granTag g = headTag g
  hops   : hHops g < 31
  bodies : ∀ b ∈ body, granTag b % 8 ≠ 0
  freed  : Sparse.get 0 vc (s.link l).freed < 512
  room   : (Sparse.get 0 vc (s.link l).filled + 512 - Sparse.get 0 vc (s.link l).freed) % 512 + body.length < vcSlots vc

/-- The row of a mnemonic: unit `u` issues word `w`. -/
def wordRow (m : Mn) (u : Nat) (w : Word) : Instr :=
  match m with
  | .add => .add u w
  | .sub => .sub u w
  | .adds => .adds u w
  | .subs => .subs u w
  | .andW => .andW u w
  | .orW => .orW u w
  | .xorW => .xorW u w
  | .andn => .andn u w
  | .neg => .neg u w
  | .negs => .negs u w
  | .abs => .abs u w
  | .abss => .abss u w
  | .minS => .minS u w
  | .maxS => .maxS u w
  | .minu => .minu u w
  | .maxu => .maxu u w
  | .mov => .mov u w
  | .addi => .addi u w
  | .addsi => .addsi u w
  | .andi => .andi u w
  | .ori => .ori u w
  | .xori => .xori u w
  | .lui => .lui u w
  | .orhi => .orhi u w
  | .mini => .mini u w
  | .maxi => .maxi u w
  | .addq => .addq u w
  | .movq => .movq u w
  | .andq => .andq u w
  | .orq => .orq u w
  | .xorq => .xorq u w
  | .nop => .nop u w
  | .ceq => .ceq u w
  | .cne => .cne u w
  | .clt => .clt u w
  | .cle => .cle u w
  | .cltu => .cltu u w
  | .cleu => .cleu u w
  | .ceqi => .ceqi u w
  | .cnei => .cnei u w
  | .clti => .clti u w
  | .clei => .clei u w
  | .cgti => .cgti u w
  | .cgei => .cgei u w
  | .cltui => .cltui u w
  | .cgeui => .cgeui u w
  | .sll => .sll u w
  | .srl => .srl u w
  | .sra => .sra u w
  | .rol => .rol u w
  | .slli => .slli u w
  | .srli => .srli u w
  | .srai => .srai u w
  | .roli => .roli u w
  | .sllq => .sllq u w
  | .srlq => .srlq u w
  | .sraq => .sraq u w
  | .clz => .clz u w
  | .popc => .popc u w
  | .nex => .nex u w
  | .nin => .nin u w
  | .bfx => .bfx u w
  | .mul => .mul u w
  | .mulh => .mulh u w
  | .mulhu => .mulhu u w
  | .mulq => .mulq u w
  | .mac => .mac u w
  | .msu => .msu u w
  | .macz => .macz u w
  | .msuz => .msuz u w
  | .mfa => .mfa u w
  | .mta => .mta u w
  | .div => .div u w
  | .divu => .divu u w
  | .sqrt => .sqrt u w
  | .rsqrt => .rsqrt u w
  | .sincos => .sincos u w
  | .ld => .ld u w
  | .ldnu => .ldnu u w
  | .ldns => .ldns u w
  | .ld2 => .ld2 u w
  | .ldt => .ldt u w
  | .ldx => .ldx u w
  | .st => .st u w
  | .stn => .stn u w
  | .st2 => .st2 u w
  | .stx => .stx u w
  | .br => .br u w
  | .call => .call u w
  | .jr => .jr u w
  | .callr => .callr u w
  | .ret => .ret u w
  | .dbnz => .dbnz u w
  | .arm => .arm u w
  | .armi => .armi u w
  | .dline => .dline u w
  | .disarm => .disarm u w
  | .push => .push u w
  | .pop => .pop u w
  | .popw => .popw u w
  | .qstat => .qstat u w
  | .qflush => .qflush u w
  | .qmark => .qmark u w
  | .qrew => .qrew u w
  | .mfc => .mfc u w
  | .mtc => .mtc u w
  | .sync => .sync u w
  | .syncI => .syncI u w
  | .fence => .fence u w
  | .waitl => .waitl u w
  | .yield => .yield u w
  | .sleep => .sleep u w
  | .trap => .trap u w

/-- A wait in which the word at the head of the stream may issue (Table PL-1). -/
def Wait.atIssue : Wait → Bool
  | .none | .fetch | .credit | .lopSlot | .waitl | .fence => true
  | _ => false

/-- Unit `u` runs context `16 u + k`, whose next word is `w`, decoded as `f`; no trap or dispatch comes before it. -/
structure AtWord (u k : Nat) (w : Word) (f : Fj) (s : State) : Prop where
  unit    : u < 256
  ctx     : k < 16
  run     : (s.unit u).run = some k
  nodisp  : (s.unit u).disp = none
  running : (s.ctx (16 * u + k)).st = .running
  wait    : (s.ctx (16 * u + k)).wait.atIssue = true
  notraps : (s.ctx (16 * u + k)).traps = []
  next    : nextWord (16 * u + k) s = .word w none
  decoded : decodeFj w k = .ok f
  quiet   : Quiet s

/-- What follows the word of a row: YIELD, SLEEP and TRAP reach other agents at once; of the others only the faults are handled. -/
def afterWord (m : Mn) (s : State) : State := if m = .yield ∨ m = .sleep ∨ m = .trap then finish s else settleFaults s

/-- The number of the step that context `cid` would take next, counted by its unit (R145). -/
def nextStep (cid : Nat) (s : State) : Nat := stepsOf cid s + 1

/-- The state at the opening of that step: the results due by then are committed (R146). -/
def opened (cid : Nat) (s : State) : State := openStep cid (nextStep cid s) s

/-- The step of a word but for its operations: the fetch buffer moves on, the step is counted, the context waits no longer, and its PC goes to
the next word (R123, R145, R164). -/
def stepped (cid : Nat) (s : State) : State :=
  let s1 := s.modUnit (unitOf cid) (fun y => match codeGran (unitOf cid / 8) (s.ctx cid).pc with | some g => y.enter g | none => y)
  advancePc cid ((countStep cid s1).modCtx cid (fun y => { y with wait := .none }))

/-- R56, R450, R453: a device time in 2⁻⁶⁵ s that a capture or a stamp may take in this tick: on a step of 125 ps in it or within 250 ps of it
(the model's grid: log entry 127). -/
def StampTime (t : Nat) (s : State) : Prop :=
  ∃ u : Nat, u < 12 ∧ t = (((s.clock.dev : Int) + ((u : Int) - 2) * (rd F.tbu_TIME_INC 0 s + rdZ F.tbu_TIME_SLEW 0 s) / 8) % 2 ^ 101).toNat

/-! ### Results in the terms of chapter 04 -/

/-- The low 36 bits of an exact result (Table OP-1). -/
def wrap36 (x : Int) : Word := BitVec.ofInt 36 x

/-- `x` clipped to the range −2³⁵ to 2³⁵ − 1 (Table OP-1). -/
def clip36 (x : Int) : Int := max (-2 ^ 35) (min (2 ^ 35 - 1) x)

/-- Table OP-2: the exact result of an ALU operation, and whether it is clipped (sat36) or wrapped. -/
def tableOp2 (m : Mn) (a b : Word) : Option (Int × Bool) :=
  match m with
  | .add | .addi | .addq => some (a.toInt + b.toInt, false)
  | .sub => some (a.toInt - b.toInt, false)
  | .adds | .addsi => some (a.toInt + b.toInt, true)
  | .subs => some (a.toInt - b.toInt, true)
  | .andW | .andi | .andq => some (((a &&& b).toNat : Int), false)
  | .orW | .ori | .orq => some (((a ||| b).toNat : Int), false)
  | .xorW | .xori | .xorq => some (((a ^^^ b).toNat : Int), false)
  | .andn => some (((a &&& ~~~b).toNat : Int), false)
  | .neg => some (-a.toInt, false)
  | .negs => some (-a.toInt, true)
  | .abs => some ((a.toInt.natAbs : Int), false)
  | .abss => some ((a.toInt.natAbs : Int), true)
  | .minS | .mini => some (min a.toInt b.toInt, false)
  | .maxS | .maxi => some (max a.toInt b.toInt, false)
  | .minu => some (((min a.toNat b.toNat : Nat) : Int), false)
  | .maxu => some (((max a.toNat b.toNat : Nat) : Int), false)
  | .mov => some (a.toInt, false)
  | .movq => some (b.toInt, false)
  | .lui => some ((b.toNat : Int) * 2 ^ 22, false)
  | .orhi => some (((a ||| wrap36 ((b.toNat : Int) * 2 ^ 14)).toNat : Int), false)
  | _ => none

/-- Table OP-3: the relation of a compare. -/
def tableOp3 (m : Mn) (a b : Word) : Option Bool :=
  match m with
  | .ceq | .ceqi => some (decide (a = b))
  | .cne | .cnei => some (decide (a ≠ b))
  | .clt | .clti => some (decide (a.toInt < b.toInt))
  | .cle | .clei => some (decide (a.toInt ≤ b.toInt))
  | .cgti => some (decide (a.toInt > b.toInt))
  | .cgei => some (decide (a.toInt ≥ b.toInt))
  | .cltu | .cltui => some (decide (a.toNat < b.toNat))
  | .cleu => some (decide (a.toNat ≤ b.toNat))
  | .cgeui => some (decide (a.toNat ≥ b.toNat))
  | _ => none

/-- Table OP-4: the exact result of a shift or bit operation; `old` is g[rd], `o` gives n and w. -/
def tableOp4 (o : Op) (a b old : Word) : Option Int :=
  let c := b.toNat % 128
  let n := o.func % 4
  match o.mn with
  | .sll | .slli | .sllq => some (if c ≤ 35 then a.toInt * 2 ^ c else 0)
  | .srl | .srli | .srlq => some (if c ≤ 35 then ((a.toNat / 2 ^ c : Nat) : Int) else 0)
  | .sra | .srai | .sraq => some (if c ≤ 35 then a.toInt / 2 ^ c else if a.toInt < 0 then -1 else 0)
  | .rol | .roli => some (((a.toNat * 2 ^ (c % 36) % 2 ^ 36 + a.toNat * 2 ^ (c % 36) / 2 ^ 36 : Nat) : Int))
  | .clz => some ((((List.range 36).takeWhile (fun i => !a.getLsbD (35 - i))).length : Nat) : Int)
  | .popc => some ((((List.range 36).map (fun i => a.toNat / 2 ^ i % 2)).sum : Nat) : Int)
  | .nex => some ((a.toNat / 512 ^ n % 512 : Nat) : Int)
  | .nin => some ((old.toNat : Int) + ((a.toNat % 512 : Nat) - (old.toNat / 512 ^ n % 512 : Nat)) * 512 ^ n)
  | .bfx => some (if 36 ≤ c then 0 else ((a.toNat / 2 ^ c % 2 ^ (o.func % 64) : Nat) : Int))
  | _ => none

/-- Table OP-5: the exact result of a multiply, and whether it is clipped. -/
def tableOp5 (m : Mn) (a b : Word) : Option (Int × Bool) :=
  match m with
  | .mul => some (a.toInt * b.toInt, false)
  | .mulh => some (a.toInt * b.toInt / 2 ^ 36, false)
  | .mulhu => some (((a.toNat * b.toNat / 2 ^ 36 : Nat) : Int), false)
  | .mulq => some ((a.toInt * b.toInt + 2 ^ 34) / 2 ^ 35, true)
  | _ => none

/-- Tables OP-2 to OP-5: what an operation of class A or M writes after how many steps, and whether it sets SAT (R97, R98). -/
def tableResult (o : Op) (a b old : Word) : Option (Word × Nat × Bool) :=
  match tableOp2 o.mn a b, tableOp3 o.mn a b, tableOp4 o a b old, tableOp5 o.mn a b with
  | some (x, c), _, _, _ => some (wrap36 (if c then clip36 x else x), 2, c && decide (clip36 x ≠ x))
  | none, some r, _, _ => some (if r then 1 else 0, 2, false)
  | none, none, some x, _ => some (wrap36 x, 2, false)
  | none, none, none, some (x, c) => some (wrap36 (if c then clip36 x else x), 3, c && decide (clip36 x ≠ x))
  | _, _, _, _ => none

/-- A result at step `n + d` for register `r`, and the status bit SAT (value 4 of the sticky bits). -/
def deliverResult (cid n r : Nat) (x : Word × Nat × Bool) (s : State) : State :=
  setSticky cid (if x.2.2 then 4 else 0) (produce cid r (n + x.2.1) x.1 s)

/-- Fields of one instance written, in the order of the list. -/
def wrAll (i : Nat) (l : List (FRef × Nat)) (s : State) : State := l.foldl (fun s e => wr e.1 i e.2 s) s

end Sys2Proof.Machine
end

