-- ==== Sys2Proof/Certificates/Slice0/Obligations.lean ====
section
/-! DEFINITION. The statements of this model: what each family of commands does, by the rules of the spec; an invariant of every step; and the
round trip of the words of FJ36. A conclusion `exec c s = .next t` says both that the command completes and all that it changes. -/

set_option Elab.async false

open Sys2Proof Sys2Proof.Machine

/-- Tables OP-2 to OP-5 with R97, R98, R100, R145, R146: a single word of class A or M takes its step; its destination takes the table's result two or
three steps later, clipped with SAT or wrapped without a status bit, 1 or 0 of a compare. The frame: no memory, register, queue or other agent
changes, no other context but one for which a long operation of the unit is in flight, and of its own context no accumulator, no control register but
the sticky bits, and, before that later step, no general register. A producer for g0 has no effect but its status bit (R71). Completes: add, addi,
addq, sub, adds, addsi, subs, andW, andi, andq, orW, ori, orq, xorW, xori, xorq, andn, neg, negs, abs, abss, minS, mini, maxS, maxi, minu, maxu, mov,
movq, lui, orhi, ceq, ceqi, cne, cnei, clt, clti, cle, clei, cgti, cgei, cltu, cltui, cleu, cgeui, sll, slli, sllq, srl, srli, srlq, sra, srai, sraq,
rol, roli, clz, popc, nex, nin, bfx, mul, mulh, mulhu, mulq. Model's choices: log entries 40, 87. -/
def Obligations.ResultWord : Prop :=
  ∀ (u k c : Nat) (w : Word) (o : Op) (s : State) (x : Word × Nat × Bool), AtWord u k w (.one c o) s →
    let cid := 16 * u + k
    let so := opened cid s
    let g := so.reads cid
    let t := deliverResult cid (nextStep cid s) o.rd x (stepped cid so)
    condHolds c g = true → tableResult o (o.argA g) (o.argB g) (g o.rd) = some x →
    exec (wordRow o.mn u w) s = .next t ∧
    t = { s with ctxs := t.ctxs, units := t.units, free := t.free } ∧ (∀ v, v ≠ u → t.unit v = s.unit v) ∧
    (∀ j, j ≠ cid → (∀ l ∈ (s.unit u).lops, l.cid ≠ j) → t.ctx j = s.ctx j) ∧
    (InOrder s →
      let y := t.ctx cid
      let z := so.ctx cid
      y.getG = z.getG ∧ y.m0 = z.m0 ∧ y.m1 = z.m1 ∧ y.lnk = z.lnk ∧ y.trg = z.trg ∧ y.frc = z.frc ∧ y.tbr = z.tbr ∧ y.trapEn = z.trapEn ∧
      y.sticky = (if x.2.2 then z.sticky ||| 4 else z.sticky) ∧ y.st = .running ∧
      y.pend = z.pend ++ (if o.rd = 0 then [] else [{ dst := .g o.rd, val := x.1, due := nextStep cid s + x.2.1 }]))

/-- R77: the condition C = {N, rrr} holds when (g[rrr] = 0) differs from N. R79 of 03_fj36_words_encoding.md, with R80: a word whose condition fails only
takes its step, whatever its operation; so does a pair with K = 1. YIELD, SLEEP and TRAP are answered with what follows a command. -/
def Obligations.ConditionalWord : Prop :=
  (∀ (n : Bool) (r : Nat) (g : Nat → Word), r < 8 → condHolds ((if n then 8 else 0) + r) g = (decide (g r = 0) != n)) ∧
  ∀ (u k c : Nat) (w : Word) (f : Fj) (m : Mn) (s : State), AtWord u k w f s →
    let cid := 16 * u + k
    let so := opened cid s
    condHolds c (so.reads cid) = false → f.holds m = true → ((∃ o, f = .one c o) ∨ ∃ a b, f = .two c true a b) →
    exec (wordRow m u w) s = .next (afterWord m (stepped cid so))

/-- R80, R81, R90, Tables EN-13, EN-14: a pair of short operations, of which one may be a queue operation. Slot A executes when the condition holds, slot
B when it holds or K = 0; both read their operands first, and slot A's destination gives way to slot B's. Completes: nop. -/
def Obligations.PairWord : Prop :=
  ∀ (u k c : Nat) (kk : Bool) (w : Word) (a b : Op) (m : Mn) (s : State), AtWord u k w (.two c kk a b) s →
    let cid := 16 * u + k
    let n := nextStep cid s
    let so := opened cid s
    let g := so.reads cid
    let onA := condHolds c g
    let onB := onA || !kk
    let queueReady (o : Op) : Prop := o.mn.isQueue = true → opReady cid w 0 o g so = .go
    (onA = true → queueReady a) → (onB = true → queueReady b) → m = a.mn ∨ m = b.mn →
    let slot (i : Nat) (o : Op) (d : Nat) (t : State) : State × Nat :=
      match tableResult o (o.argA g) (o.argB g) (g o.rd) with
      | some r => (produce cid d (n + r.2.1) r.1 t, if r.2.2 then 4 else 0)
      | none => if o.mn = .nop then (t, 0) else queueEffect cid n w i o d (o.argA g) t
    let d := if b.dest = a.dest then 0 else a.rd
    let t0 := stepped cid so
    let ra := if onA then slot 0 a d t0 else (t0, 0)
    let rb := if onB then slot 1 b b.rd (setSticky cid ra.2 ra.1) else (setSticky cid ra.2 ra.1, 0)
    exec (wordRow m u w) s = .next (settleFaults (statusTrap cid [(0, a, ra.2), (1, b, rb.2)] (setSticky cid rb.2 rb.1)))

/-- R103, R104: a MAC-group word adds the signed or, with U, unsigned product or its negation to the accumulator or, with CLR, to 0, wrapped to 80 bits;
it sets OV when the exact sum lies outside 80 bits. MTA writes sext(a) × 2^SHIFT. Completes: mac, msu, macz, msuz, mta. -/
def Obligations.AccumulatorWord : Prop :=
  (∀ (u k c : Nat) (w : Word) (o : Op) (s : State), AtWord u k w (.one c o) s →
    let cid := 16 * u + k
    let so := opened cid s
    let g := so.reads cid
    let x := (stepped cid so).ctx cid
    let a := o.argA g
    let b := o.argB g
    let p : Int := if o.func / 8 % 2 = 1 then ((a.toNat * b.toNat : Nat) : Int) else a.toInt * b.toInt
    let acc := if o.func % 2 = 1 then x.m1 else x.m0
    let sum : Int := (if o.func / 4 % 2 = 1 then 0 else acc.toInt) + (if o.func / 2 % 2 = 1 then -p else p)
    let ov := sum < -2 ^ 79 ∨ 2 ^ 79 - 1 < sum
    condHolds c g = true → o.mn = .mac ∨ o.mn = .msu ∨ o.mn = .macz ∨ o.mn = .msuz → (ov → x.trapEn % 2 = 0) →
    exec (wordRow o.mn u w) s = .next
      (setSticky cid (if ov then 1 else 0)
        ((stepped cid so).setCtx cid
          (if o.func % 2 = 1 then { x with m1 := BitVec.ofInt 80 sum } else { x with m0 := BitVec.ofInt 80 sum })))) ∧
  ∀ (u k c : Nat) (w : Word) (o : Op) (s : State), AtWord u k w (.one c o) s →
    let cid := 16 * u + k
    let so := opened cid s
    let x := (stepped cid so).ctx cid
    let m : Acc := BitVec.ofInt 80 ((o.argA (so.reads cid)).toInt * 2 ^ (o.func / 2 % 128))
    condHolds c (so.reads cid) = true → o.mn = .mta →
    exec (wordRow o.mn u w) s = .next ((stepped cid so).setCtx cid (if o.func % 2 = 1 then { x with m1 := m } else { x with m0 := m }))

/-- R105: MFA, by S (func bit 8) and SHIFT (func bits 7:1), three steps later. Completes: mfa. -/
def Obligations.MfaWord : Prop :=
  ∀ (u k c : Nat) (w : Word) (o : Op) (s : State), AtWord u k w (.one c o) s →
    let cid := 16 * u + k
    let so := opened cid s
    let x := (stepped cid so).ctx cid
    let m : Int := (if o.func % 2 = 1 then x.m1 else x.m0).toInt
    let shift := o.func / 2 % 128
    let exact : Int := if o.func < 256 then m / 2 ^ shift else if shift = 0 then m else (m + 2 ^ (shift - 1)) / 2 ^ shift
    let sat := decide (256 ≤ o.func ∧ clip36 exact ≠ exact)
    condHolds c (so.reads cid) = true → o.mn = .mfa →
    exec (wordRow o.mn u w) s = .next
      (setSticky cid (if sat then 4 else 0)
        (produce cid o.rd (nextStep cid s + 3) (wrap36 (if o.func < 256 then exact else clip36 exact)) (stepped cid so)))

/-- R107, R109, Table OP-6: what a long operation leaves in its destination and the status bits it sets: DIV and DIVU, and the edges of every operation.
R528: SINCOS ignores bits 35:24, sets no bit, and is exact on the axes, +1 being 2³⁵ − 1. R107: SQRT of a ≥ 0 is √(a × 2³⁵) and RSQRT of a > 0 is
√(2⁷¹ / a), each rounded to nearest with ties up, and neither sets a bit. -/
def Obligations.LongResults : Prop :=
  ((∀ a b : Word, b ≠ 0 → ¬ (a.toInt = -2 ^ 35 ∧ b.toInt = -1) →
     let r := longResult .div a b
     a.toInt = r.lo.toInt * b.toInt + r.hi.toInt ∧ r.hi.toInt.natAbs < b.toInt.natAbs ∧ (r.hi ≠ 0 → (r.hi.toInt < 0 ↔ a.toInt < 0)) ∧ r.sets = 0) ∧
   (∀ a b : Word, b ≠ 0 →
     let r := longResult .divu a b
     a.toNat = r.lo.toNat * b.toNat + r.hi.toNat ∧ r.hi.toNat < b.toNat ∧ r.sets = 0) ∧
   (∀ a : Word, longResult .div a 0 = { lo := if 0 ≤ a.toInt then 2 ^ 35 - 1 else 2 ^ 35, hi := a, sets := 2 }) ∧
   (∀ a : Word, longResult .divu a 0 = { lo := -1, hi := a, sets := 2 }) ∧
   longResult .div (2 ^ 35) (-1) = { lo := 2 ^ 35 - 1, hi := 0, sets := 1 } ∧
   (∀ a b : Word, a.toInt < 0 → longResult .sqrt a b = { lo := 0, hi := 0, sets := 1 }) ∧
   (∀ b : Word, longResult .rsqrt 0 b = { lo := -1, hi := 0, sets := 2 }) ∧
   (∀ a b : Word, a.toInt < 0 → longResult .rsqrt a b = { lo := -1, hi := 0, sets := 1 }) ∧
   (∀ a b : Word, (longResult .sincos a b).sets = 0 ∧ longResult .sincos (a &&& 0xFFFFFF) b = longResult .sincos a b) ∧
   ∀ b : Word, longResult .sincos 0 b = { lo := 0, hi := 2 ^ 35 - 1, sets := 0 } ∧ longResult .sincos 0x400000 b = { lo := 2 ^ 35 - 1, hi := 0, sets := 0 } ∧
     longResult .sincos 0x800000 b = { lo := 0, hi := 2 ^ 35, sets := 0 } ∧ longResult .sincos 0xC00000 b = { lo := 2 ^ 35, hi := 0, sets := 0 }) ∧
  (∀ a b : Word, 0 ≤ a.toInt →
    let r := longResult .sqrt a b
    (2 * r.lo.toNat - 1) ^ 2 * (if r.lo = 0 then 0 else 1) ≤ 4 * (a.toNat * 2 ^ 35) ∧ 4 * (a.toNat * 2 ^ 35) < (2 * r.lo.toNat + 1) ^ 2 ∧ r.sets = 0) ∧
  ∀ a b : Word, 0 < a.toInt →
    let r := longResult .rsqrt a b
    (2 * r.lo.toNat - 1) ^ 2 * a.toNat ≤ 4 * 2 ^ 71 ∧ 4 * 2 ^ 71 < (2 * r.lo.toNat + 1) ^ 2 * a.toNat ∧ r.sets = 0

/-- R110 to R112: a long operation of a context with fewer than four in flight takes its step and a free engine slot; it holds its operands and its
result, and the writes of its destination by earlier long operations are suppressed. With four in flight the word waits. LONG_OP_COMPLETE writes what
is still due, sets the status bits and frees the slot; a bit whose trap is enabled leaves a STATUS trap before the next word. Completes:
longOpComplete, div, divu, sqrt, rsqrt, sincos. Model's choices: log entry 39. -/
def Obligations.LongOperation : Prop :=
  (∀ (u k c : Nat) (w : Word) (o : Op) (s : State), AtWord u k w (.one c o) s →
    let cid := 16 * u + k
    let so := opened cid s
    let g := so.reads cid
    let t := stepped cid so
    let r := longResult o.mn (o.argA g) (o.argB g)
    let used := (t.unit (unitOf cid)).lops
    condHolds c g = true → o.mn = .div ∨ o.mn = .divu ∨ o.mn = .sqrt ∨ o.mn = .rsqrt ∨ o.mn = .sincos → lopsOf cid so < 4 →
    exec (wordRow o.mn u w) s = .next
      ((if o.mn.isPairLong then claim cid (o.rd + 1) (claim cid o.rd t) else claim cid o.rd t).modUnit (unitOf cid) (fun x =>
        { x with lops := x.lops ++
            [{ slot := ((List.range 4).find? (fun i => !used.any (fun l => l.slot == i))).getD 0, cid := cid, w := w, a := o.argA g, b := o.argB g,
               lo := r.lo, hi := r.hi, rd := o.rd, pair := o.mn.isPairLong, dueLo := true, dueHi := true, sets := r.sets, written := false,
               step := nextStep cid s }] }))) ∧
  (∀ (u k c : Nat) (w : Word) (o : Op) (s : State), AtWord u k w (.one c o) s →
    let cid := 16 * u + k
    condHolds c ((opened cid s).reads cid) = true →
    o.mn = .div ∨ o.mn = .divu ∨ o.mn = .sqrt ∨ o.mn = .rsqrt ∨ o.mn = .sincos → 4 ≤ lopsOf cid (opened cid s) →
    exec (wordRow o.mn u w) s = .next (settleFaults (beginWait cid .lopSlot s))) ∧
  ∀ (u slot : Nat) (l : Lop) (s : State), u < 256 → slot < 4 → Quiet s → (s.unit u).lops.find? (fun l => l.slot == slot) = some l →
    let s1 := s.modCtx l.cid (fun x =>
      let x1 := if l.dueLo then writeNow l.rd l.lo x else x
      if l.pair && l.dueHi then writeNow (l.rd + 1) l.hi x1 else x1)
    let t := setSticky l.cid l.sets (s1.modUnit u (fun x => { x with lops := x.lops.filter (fun p => p.slot ≠ slot) }))
    let code := statusCode l.sets (t.ctx l.cid).trapEn
    let trap : PTrap := { due := l.step, poison := false, detail := code * 2 ^ 8 + l.w.toNat / 2 ^ 24 % 128, addr := 0 }
    let t1 := t.modCtx l.cid (fun x => { x with traps := x.traps ++ [trap] })
    (code = 0 → exec (.longOpComplete u slot) s = .next t) ∧
    (code ≠ 0 → issueHeld u (t1.ctx l.cid) t1 = false → exec (.longOpComplete u slot) s = .next t1)

/-- R114, R117, R120, R121, Table OP-7: a local load. It reads the word at the effective address through the granule code and gives the word, a nonet of
it, or the tag to its destination four steps later; LD2 reads two words, and when its low word stands in slot 6 it only starts its added step. A word
that is uncorrectable or poisoned leaves the destination and brings a POISON trap. R114, R117, R120, Table OP-7: a local store. ST and STX replace the
word at the effective address, STN one nonet of it, ST2 two words; the rest of the granule and its tag stay. A split ST2 takes its added step.
Completes: ld, ldnu, ldns, ldt, ldx, ld2, st, stx, stn, st2. Model's choices: log entry 118. -/
def Obligations.LocalAccess : Prop :=
  (∀ (u k c : Nat) (w : Word) (o : Op) (s : State) (gr i : Nat), AtWord u k w (.one c o) s →
     let cid := 16 * u + k
     let so := opened cid s
     let g := so.reads cid
     let n := nextStep cid s
     let t := stepped cid so
     let ea := o.ea g
     condHolds c g = true → placeOf (clusterOf cid) ea = .mem gr i → gr / 32768 = clusterOf cid →
     (o.mn = .ld ∨ o.mn = .ldnu ∨ o.mn = .ldns ∨ o.mn = .ldt ∨ o.mn = .ldx →
       let r := readGran gr t
       let v : Word := match o.mn with
         | .ldnu => BitVec.ofNat 36 (nonetOf (granWord r.data i) (o.imm % 4))
         | .ldns => wordOf (sext 9 (nonetOf (granWord r.data i) (o.imm % 4)))
         | .ldt => BitVec.ofNat 36 (granTag r.data)
         | _ => granWord r.data i
       exec (wordRow o.mn u w) s = .next (settleFaults (if r.pb then poisonDue cid (n + 4) 1 o.code ea r.st else produce cid o.rd (n + 4) v r.st))) ∧
     (o.mn = .ld2 →
       (i = 6 → isLocal (clusterOf cid) ((ea + 1) % 2 ^ 32) = true →
         exec (wordRow o.mn u w) s = .next (t.modCtx cid (fun x => { x with wait := .split w o.rd ea }))) ∧
       (i < 6 → placeOf (clusterOf cid) ((ea + 1) % 2 ^ 32) = .mem gr (i + 1) →
         let r := readGran gr t
         exec (wordRow o.mn u w) s = .next (settleFaults
           (if r.pb then poisonDue cid (n + 4) 1 o.code ea r.st
            else produce cid (o.rd + 1) (n + 4) (granWord r.data (i + 1)) (produce cid o.rd (n + 4) (granWord r.data i) r.st)))))) ∧
  ∀ (u k c : Nat) (w : Word) (o : Op) (s : State) (gr i : Nat), AtWord u k w (.one c o) s →
    let cid := 16 * u + k
    let so := opened cid s
    let g := so.reads cid
    let t := stepped cid so
    let ea := o.ea g
    condHolds c g = true → placeOf (clusterOf cid) ea = .mem gr i → gr / 32768 = clusterOf cid →
    (o.mn = .st ∨ o.mn = .stx → exec (wordRow o.mn u w) s = .next (settleFaults (mergeGran gr (fun v => granSetWord v i (g o.rd)) t))) ∧
    (o.mn = .stn → exec (wordRow o.mn u w) s = .next (settleFaults
      (mergeGran gr (fun v => granSetWord v i (setBits (granWord v i) (9 * (o.imm % 4)) 9 ((g o.rd).toNat % 512))) t))) ∧
    (o.mn = .st2 → i < 6 → placeOf (clusterOf cid) ((ea + 1) % 2 ^ 32) = .mem gr (i + 1) →
      exec (wordRow o.mn u w) s = .next (settleFaults
        (mergeGran gr (fun v => granSetWord (granSetWord v i (g o.rd)) (i + 1) (g (o.rd + 1))) t))) ∧
    (o.mn = .st2 → i = 6 → ∀ gr2 i2, placeOf (clusterOf cid) ((ea + 1) % 2 ^ 32) = .mem gr2 i2 → gr2 / 32768 = clusterOf cid →
      let t2 := mergeGran gr2 (fun v => granSetWord v i2 (g (o.rd + 1))) (mergeGran gr (fun v => granSetWord v i (g o.rd)) t)
      exec (wordRow o.mn u w) s = .next (settleFaults (countStep cid (openStep cid (nextStep cid s + 1) t2))))

/-- R118, R119: a load from a word that is not local holds its context with the load in flight, and REMOTE_LOAD_COMPLETE writes the word into the
context's register; a store posts its word, and REMOTE_STORE_ARRIVE takes the oldest such store to its memory. Completes: remoteLoadComplete,
remoteStoreArrive, stn. Model's choices: log entry 122. -/
def Obligations.RemoteAccess : Prop :=
  (∀ (u k c : Nat) (w : Word) (o : Op) (s : State), AtWord u k w (.one c o) s →
    let cid := 16 * u + k
    let so := opened cid s
    let g := so.reads cid
    let t := stepped cid so
    condHolds c g = true → isLocal (clusterOf cid) (o.ea g) = false → accessFault (clusterOf cid) o.mn (o.ea g) = none →
    (o.mn.isLoad = true → exec (wordRow o.mn u w) s = .next (t.modCtx cid (fun x =>
      { x with rload := some { ea := o.ea g, rd := o.rd, how := o.mn.loadHow, n := o.imm % 4, op := o.code, errs := 0 }, wait := .remoteLoad }))) ∧
    (o.mn.isStore = true → exec (wordRow o.mn u w) s = .next
      { t with posted := t.posted ++ [{ cid := cid, ea := o.ea g, val := g o.rd, nib := if o.mn = .stn then o.imm % 4 else 4, step := nextStep cid s, pb := false }] })) ∧
  (∀ (cid : Nat) (r : RLoad) (gr i : Nat) (s : State), cid < 4096 → (s.ctx cid).rload = some r → s.posted = [] → r.rd ≠ 0 →
    placeOf (clusterOf cid) r.ea = .mem gr i →
    let s0 := s.modCtx cid (fun x => { x with rload := none, wait := if x.wait = .remoteLoad then .none else x.wait })
    placeOpen cid (.mem gr i) s = true → bankBusy gr s = false → r.errs = 0 → granOn gr s0 = true → (readGran gr s0).pb = false →
    exec (.remoteLoadComplete cid) s = .next (finish ((claim cid r.rd (readGran gr s0).st).modCtx cid (fun x =>
      let y := writeNow r.rd (loadShape r.how r.n (granWord (readGran gr s0).data i) (granTag (readGran gr s0).data)) x
      { y with replay := suppressReplay r.rd y.replay })))) ∧
  ∀ (p : Posted) (l : List Posted) (gr i : Nat) (s : State), s.posted = p :: l → imemTarget p = none →
    placeOf (clusterOf p.cid) p.ea = .mem gr i → placeOpen p.cid (.mem gr i) s = true → bankBusy gr s = false → p.pb = false →
    granOn gr { s with posted := l } = true →
    exec (.remoteStoreArrive 0) s = .next (finish (mergeGran gr
      (fun v => granSetWord v i (if p.nib < 4 then nonetPut (granWord v i) p.nib (p.val.toNat % 512) else p.val)) { s with posted := l }))

/-- R122, R123, R125, Table OP-8: a taken branch. Its target is reached after two delay slots; CALL and CALLR give LNK the branch's address + 3 two steps
later; DBNZ writes g[rd] − 1 and is taken when that is not 0. Completes: br, call, jr, callr, ret, dbnz. -/
def Obligations.BranchWord : Prop :=
  ∀ (u k c : Nat) (w : Word) (o : Op) (s : State), AtWord u k w (.one c o) s →
    let cid := 16 * u + k
    let so := opened cid s
    let x := so.ctx cid
    let g := so.reads cid
    let n := nextStep cid s
    let t := stepped cid so
    let taken (target : Addr) (t : State) : State :=
      (t.modCtx cid (fun y => { y with targets := y.targets ++ [(2, target)] })).modUnit u (fun y => y.branch (u / 8) x.pc target)
    let link (t : State) : State := produceCtl cid .lnk (n + 2) ((x.pc + 3).setWidth 36) t
    let rel : Addr := x.pc + BitVec.ofInt 32 (sext 24 o.imm)
    let reg : Addr := (g o.rs1 + BitVec.ofInt 36 (sext 14 o.imm)).setWidth 32
    let near : Addr := x.pc + BitVec.ofInt 32 (sext 14 o.imm)
    condHolds c g = true →
    (o.mn = .br → exec (wordRow .br u w) s = .next (taken rel t)) ∧
    (o.mn = .call → exec (wordRow .call u w) s = .next (taken rel (link t))) ∧
    (o.mn = .jr → exec (wordRow .jr u w) s = .next (taken reg t)) ∧
    (o.mn = .callr → exec (wordRow .callr u w) s = .next (taken reg (link t))) ∧
    (o.mn = .ret → exec (wordRow .ret u w) s = .next (taken (t.ctx cid).lnk t)) ∧
    (o.mn = .dbnz →
      let v := g o.rd - 1
      let t1 := produce cid o.rd (n + 2) v t
      exec (wordRow .dbnz u w) s = .next (if v = 0 then t1 else taken near t1))

/-- R123, R124, R145: the step of a word of a running context. The unit's step count and the activation's go up by one, the wait ends, and the context
goes to its pending target, whose granules the unit takes, when that is at the next position; otherwise its address counts up and every pending target
comes one position nearer. No other context or unit changes, and nothing else does. Model's choices: log entry 87. -/
def Obligations.StepOfAWord : Prop :=
  ∀ (cid : Nat) (s : State),
    let x := s.ctx cid
    let z := s.unit (unitOf cid)
    let y := match codeGran (unitOf cid / 8) x.pc with | some g => z.enter g | none => z
    let t := stepped cid s
    let x1 := { x with actSteps := x.actSteps + 1, wait := .none }
    x.st = .running → z.run = some (cid % 16) →
    (∀ a l, x.targets = (1, a) :: l →
      t.ctx cid = { x1 with pc := a, targets := l.map (fun e => (e.1 - 1, e.2)) } ∧
      t.unit (unitOf cid) = (y.tookStep s.clock.tick).reachTarget (codeGran (clusterOf cid) a) (!l.isEmpty)) ∧
    ((∀ e ∈ x.targets, 2 ≤ e.1) →
      t.ctx cid = { x1 with pc := x.pc + 1, targets := x.targets.map (fun e => (e.1 - 1, e.2)) } ∧
      t.unit (unitOf cid) = y.tookStep s.clock.tick) ∧
    (∀ c, c ≠ cid → t.ctx c = s.ctx c) ∧ (∀ v, v ≠ unitOf cid → t.unit v = s.unit v) ∧
    t = { s with ctxs := t.ctxs, units := t.units }

/-- R146, R151, R152: a result due at step `d` stands in its register from the opening of step `d` on, and not before; of two results for one register
that are both due, the one issued later stands. R71, R110: g0 reads as zero and takes no write; a register written reads what was written, and every
other register of the context stays. A word reads its context's registers, unless a long operation in flight has its result ready for reads. -/
def Obligations.RegistersAndDistance : Prop :=
  (∀ (x : Ctx) (r d n : Nat) (v : Word), r ≠ 0 → x.pend = [{ dst := .g r, val := v, due := d }] →
     (n < d → x.commit n = x) ∧
     (d ≤ n → (v ≠ 0 → (x.commit n).getG r = v) ∧ (∀ j, j ≠ r → (x.commit n).getG j = x.getG j) ∧ x.commit n = { x.setG r v with pend := [] }) ∧
     ∀ (d2 : Nat) (v2 : Word) (y : Ctx), y = { x with pend := x.pend ++ [{ dst := .g r, val := v2, due := d2 }] } →
       (d ≤ n → d2 ≤ n → y.commit n = { (y.setG r v).setG r v2 with pend := [] }) ∧
       (d2 ≤ n → n < d → y.commit n = { y.setG r v2 with pend := [] })) ∧
  (∀ (cid : Nat) (s : State), s.reads cid 0 = 0 ∧
    ((∀ l ∈ (s.unit (unitOf cid)).lops, l.cid = cid → l.written = false) → ∀ r, s.reads cid r = (s.ctx cid).getG r)) ∧
  ∀ (x : Ctx) (r j : Nat) (v : Word), x.getG 0 = 0 ∧ x.setG 0 v = x ∧ (j ≠ r → (x.setG r v).getG j = x.getG j) ∧
    (r ≠ 0 → (v ≠ 0 ∨ x.g = []) → (x.setG r v).getG r = v)

/-- R127, R128, R245, R254, Table OP-10: ARM, ARMI, DLINE and DISARM of a context whose heap entry is sound, with no trigger armed before. A trigger that
lies AHEAD is armed with status 0, one whose timebase stands is held with status 1; TRG takes the target and the destination the status five steps
later. DLINE arms the deadline at the activation's time plus a. DISARM empties what its bits name. Completes: arm, armi, dline, disarm. Model's
choices: log entry 101. -/
def Obligations.TriggerWord : Prop :=
  ∀ (u k c : Nat) (w : Word) (o : Op) (s : State), AtWord u k w (.one c o) s →
    let cid := 16 * u + k
    let so := opened cid s
    let g := so.reads cid
    let n := nextStep cid s
    let t := stepped cid so
    let x := t.ctx cid
    let off := g o.rs1 + BitVec.ofInt 36 (sext 14 o.imm)
    condHolds c g = true → (t.heap cid).bad = false →
    (∀ (target : Word) (inc : Option Word), (t.heap cid).ang = .disarmed →
      (o.mn = .arm ∧ target = off ∧ inc = none) ∨ (o.mn = .armi ∧ target = x.newestTrg + off ∧ inc = some off) →
      let cl := classOf x.tbr (distance x.tbr target t) t
      cl ≠ .passed →
      exec (wordRow o.mn u w) s = .next (settleFaults (produce cid o.rd (n + 5) (if cl = .held then 1 else 0)
        (produceCtl cid .trg (n + 5) target (armEntry cid x.tbr target inc t))))) ∧
    (o.mn = .dline →
      let due := (actTime cid t + (g o.rs1).toNat) % 2 ^ 72
      let status : Word := (if (t.heap cid).dl.isSome then 16 else 0) + (if due ≤ t.dev72 then 2 else 0)
      exec (wordRow .dline u w) s = .next (settleFaults (produce cid o.rd (n + 5) status
        (setArmedBit cid .dlBit true (t.modHeap cid (fun h => { h with dl := some due, dlDue := false })))))) ∧
    (o.mn = .disarm → o.imm % 4 = 2 → (t.heap cid).dl.isSome = true →
      exec (wordRow .disarm u w) s = .next (settleFaults (setArmedBit cid .dlBit false (t.modHeap cid (fun h => { h with dl := none, dlDue := false }))))) ∧
    (o.mn = .disarm → o.imm % 4 = 1 → (t.heap cid).ang = .held →
      exec (wordRow .disarm u w) s = .next (settleFaults (setArmedBit cid .atBit false
        (t.modHeap cid (fun h => { h with ang := .disarmed, reachedAt := none, inc := none, revFlag := false })))))

/-- R129 to R133, R353, R358 to R364, Table OP-11: the queue operations of a single word, on the queue that R133 gives the port. PUSH appends its word to
the pushes on their way; POP takes the next word, or the idle item or last word with UND; POPW takes the next word or waits; QSTAT, QFLUSH, QMARK and
QREW act on the queue at once. R132: POPW_COMPLETE gives a waiting POPW its word: the completion is a step of the unit, and the distance of class Q
counts from it. Completes: popwComplete, push, pop, popw, qstat, qflush, qmark, qrew. -/
def Obligations.QueueWord : Prop :=
  (∀ (u k c : Nat) (w : Word) (o : Op) (s : State) (q : Nat) (prod : Bool), AtWord u k w (.one c o) s →
     let cid := 16 * u + k
     let so := opened cid s
     let g := so.reads cid
     let n := nextStep cid s
     let t := stepped cid so
     let x := t.queue q
     condHolds c g = true → portQueue cid o so = .ok (q, prod) → x.copyBad = false →
     (o.mn = .push → canPushWord so q = true → x.cut = false → x.mark = none →
       exec (wordRow .push u w) s = .next (settleFaults (t.setQueue q
         { x with transit := x.transit ++ [.word (o.argA g) o.endBit false (decide (x.fill = 0))],
                  fill := if o.endBit then 0 else (x.fill + 1) % 7 }))) ∧
     (o.mn = .pop → ∀ v, x.front = some v →
       exec (wordRow .pop u w) s = .next (settleFaults (produce cid o.rd (n + 5) v (settle q (t.setQueue q { x.advance with last := v }))))) ∧
     (o.mn = .pop → x.front = none →
       let v := if rdB F.desc_CFG_IDLE_EN q t then rdW F.desc_IDLE q t else x.last
       let t1 := bump F.desc_CNT_UNDERRUNS q (t.modQueue q (fun x => { x with flagsP := x.flagsP ||| 1, flagsC := x.flagsC ||| 1 }))
       exec (wordRow .pop u w) s = .next (settleFaults (statusTrap cid [(0, o, 8)] (setSticky cid 8 (produce cid o.rd (n + 5) v t1))))) ∧
     (o.mn = .popw → ∀ v, x.front = some v →
       exec (wordRow .popw u w) s = .next (settleFaults (produce cid o.rd (n + 5) v (settle q (t.setQueue q { x.advance with last := v }))))) ∧
     (o.mn = .popw → x.front = none →
       exec (wordRow .popw u w) s = .next (settleFaults (t.modCtx cid (fun y => { y with wait := .popw w 0 q o.rd })))) ∧
     (o.mn = .qstat →
       exec (wordRow .qstat u w) s = .next (settleFaults (produce cid o.rd (n + 5) (qstatWord q prod t).1
         (t.setQueue q (if prod then { x with flagsP := 0 } else { x with flagsC := 0 }))))) ∧
     (o.mn = .qflush → prod = false →
       exec (wordRow .qflush u w) s = .next (settleFaults (bump F.desc_CNT_FLUSHES q (t.setQueue q
         { x with cells := [], rdc := 0, rdw := 0, mark := none, back := x.back + x.cells.length, skip := false, discard := x.discard || x.open_,
                  open_ := false, flagsP := x.flagsP ||| 4, flagsC := x.flagsC ||| 4 })))) ∧
     (o.mn = .qflush → prod = true → exec (wordRow .qflush u w) s = .next (settleFaults (flushByProducer q t))) ∧
     (o.mn = .qmark →
       exec (wordRow .qmark u w) s = .next (settleFaults (t.modQueue q (fun x => { x.freeRetained with mark := some x.rdw, markLost := false })))) ∧
     (o.mn = .qrew → ∀ m, x.mark = some m →
       let back := ((x.cells.take x.rdc).map (·.ws.length)).sum + x.rdw - m
       exec (wordRow .qrew u w) s = .next (settleFaults (produce cid o.rd (n + 5) (BitVec.ofNat 36 (min back 524287 * 2 ^ 17))
         (settle q (t.setQueue q { x with cells := x.cells.map QCell.stored, rdc := 0, rdw := m }))))) ∧
     (o.mn = .qrew → x.mark = none →
       exec (wordRow .qrew u w) s = .next (settleFaults (produce cid o.rd (n + 5) (if x.markLost then 2 else 1) (t.setQueue q { x with markLost := false }))))) ∧
  ∀ (cid q d slot : Nat) (w v : Word) (s : State), cid < 4096 → Quiet s →
    (s.unit (unitOf cid)).run = some (cid % 16) → (s.unit (unitOf cid)).disp = none → (s.ctx cid).wait = .popw w slot q d →
    (s.queue q).copyBad = false → (s.queue q).front = some v →
    let t := settle q (s.setQueue q { (s.queue q).advance with last := v })
    let n := nextStep cid s
    exec (.popwComplete cid) s = .next (settleFaults (produce cid d (n + 5) v
      ((countStep cid (openStep cid n t)).modCtx cid (fun x => { x with wait := .none }))))

/-- R73, R76, R135, R160, Tables EN-3, PL-4: MFC of the context's own registers gives the value at issue two steps later, PC being the word's own address.
MTC of them writes LNK with the distance of two steps, keeps the trap enables of CST and TBR for SYNC, and writes the others at once. Completes: mfc,
mtc. -/
def Obligations.OwnControlRegisters : Prop :=
  ∀ (u k c : Nat) (w : Word) (o : Op) (s : State), AtWord u k w (.one c o) s →
    let cid := 16 * u + k
    let so := opened cid s
    let x := so.ctx cid
    let n := nextStep cid s
    let t := stepped cid so
    let y := t.ctx cid
    let v := o.argA (so.reads cid)
    condHolds c (so.reads cid) = true → o.imm < 16 →
    (o.mn = .mfc →
      let r : Word := match o.imm with
        | 0 => x.pc.setWidth 36
        | 1 => x.lnk.setWidth 36
        | 2 => cstWord cid so
        | 3 => BitVec.ofNat 36 x.tbr
        | 4 => x.trg
        | 5 => x.frc
        | 6 => BitVec.ofNat 36 cid
        | 8 => x.m0.extractLsb' 0 36
        | 9 => x.m0.extractLsb' 36 36
        | 10 => (x.m0.extractLsb' 72 8).signExtend 36
        | 12 => x.m1.extractLsb' 0 36
        | 13 => x.m1.extractLsb' 36 36
        | 14 => (x.m1.extractLsb' 72 8).signExtend 36
        | _ => 0
      exec (wordRow .mfc u w) s = .next (produce cid o.rd (n + 2) r t)) ∧
    (o.mn = .mtc →
      let z : Ctx := match o.imm with
        | 1 => { y with pend := y.pend ++ [{ dst := .lnk, val := v, due := n + 2 }] }
        | 2 => { y with sticky := y.sticky &&& (31 - v.toNat % 32), trapEnNext := some (v.toNat / 256 % 8) }
        | 3 => { y with tbrNext := some (v.toNat % 64) }
        | 5 => { y with frc := v }
        | 8 | 9 | 10 | 12 | 13 | 14 => writeAcc o.imm v y
        | _ => y
      exec (wordRow .mtc u w) s = .next (t.setCtx cid z))

/-- R136, R137, R159 to R161, R171, Table OP-12: SYNC makes the context's pending control writes; FENCE with no posted store and WAITL with no long
operation in flight take their step and nothing else, and wait otherwise; SYNC.I makes the unit's pending fetch controls, discards its buffers, and
waits. Completes: sync, fence, waitl, syncI. -/
def Obligations.OrderingWord : Prop :=
  ∀ (u k c : Nat) (w : Word) (o : Op) (s : State), AtWord u k w (.one c o) s →
    let cid := 16 * u + k
    let so := opened cid s
    let t := stepped cid so
    condHolds c (so.reads cid) = true →
    (o.mn = .sync → exec (wordRow .sync u w) s = .next (t.modCtx cid (fun x =>
      { x with trapEn := x.trapEnNext.getD x.trapEn, trapEnNext := none, tbr := x.tbrNext.getD x.tbr, tbrNext := none }))) ∧
    (o.mn = .fence → exec (wordRow .fence u w) s =
      .next (if so.posted.any (fun p => p.cid == cid) then settleFaults (beginWait cid .fence s) else t)) ∧
    (o.mn = .waitl → exec (wordRow .waitl u w) s = .next (if lopsOf cid so = 0 then t else settleFaults (beginWait cid .waitl s))) ∧
    (o.mn = .syncI → ∃ t1, exec (wordRow .syncI u w) s = .next t1 ∧
      (t1.unit u).lookahead = (t.unit u).lookaheadNext.getD (t.unit u).lookahead ∧ (t1.unit u).btbEn = (t.unit u).btbEnNext.getD (t.unit u).btbEn ∧
      (t1.unit u).btb = [] ∧ (t1.unit u).fbuf = [] ∧ (t1.unit u).nbuf = [] ∧ (t1.ctx cid).wait = .syncI ∧
      (∀ v, v ≠ u → t1.unit v = t.unit v) ∧ (∀ j, j ≠ cid → t1.ctx j = t.ctx j) ∧ t1 = { t with ctxs := t1.ctxs, units := t1.units })

/-- R138, R255, Table CX-2: YIELD with no long operation in flight ends the activation: the context, whose results are all committed and whose pending
control writes are made, is IDLE at the word that would have come next, and its unit runs no context. R139, R140, R189, R190, R468: SLEEP asks the
power manager for its mode and holds its context; TRAP halts the context at the TRAP word with cause TRAP, PREC and its imm14 in FRC. Completes:
yield, sleep, trap. -/
def Obligations.EndingWord : Prop :=
  (∀ (u k c : Nat) (w : Word) (o : Op) (s : State), AtWord u k w (.one c o) s →
     let cid := 16 * u + k
     let so := opened cid s
     let t := stepped cid so
     let x := t.ctx cid
     condHolds c (so.reads cid) = true → o.mn = .yield → lopsOf cid so = 0 → x.handlerHeld = false → (t.heap cid).bad = false →
     (t.heap cid).dl = none → (t.heap cid).deferred = false → x.entry.isSome = true →
     ∃ t1, exec (wordRow .yield u w) s = .next (finish t1) ∧
       t1.ctx cid = { ({ x with trapEn := x.trapEnNext.getD x.trapEn, trapEnNext := none, tbr := x.tbrNext.getD x.tbr, tbrNext := none } : Ctx).stop
         (t.unit u).lops with st := .idle, handlerHeld := false } ∧
       (t1.unit u).run = none ∧ (t1.unit u).lops = [] ∧ (∀ j, j ≠ cid → t1.ctx j = t.ctx j) ∧ t1 = { t with ctxs := t1.ctxs, units := t1.units }) ∧
  ∀ (u k c : Nat) (w : Word) (o : Op) (s : State), AtWord u k w (.one c o) s →
    let cid := 16 * u + k
    let so := opened cid s
    let g := so.reads cid
    let t := stepped cid so
    condHolds c g = true →
    (o.mn = .sleep → exec (wordRow .sleep u w) s = .next (finish (requestMode (o.imm % 8) (bits (o.argA g) 35 1 == 1) (some cid) (bits (o.argA g) 32 3 == 0)
      (bits (o.argA g) 0 32) ((claim cid o.rd t).modCtx cid (fun x => { x with wait := .sleep o.rd }))))) ∧
    (o.mn = .trap → isHeld so cid = false → rdB F.sctx_CFG_HV cid so = false → ∃ t1, exec (wordRow .trap u w) s = .next (finish t1) ∧
      (t1.ctx cid).st = .halted ∧ (t1.ctx cid).pc = (so.ctx cid).pc ∧ (t1.ctx cid).targets = (so.ctx cid).targets ∧
      (t1.ctx cid).frc = BitVec.ofNat 36 (5 * 2 ^ 28 + 2 ^ 27 + min (bits (so.ctx cid).frc 24 2 + 1) 3 * 2 ^ 24 + o.imm) ∧
      (t1.unit u).run = none ∧ (∀ j, j ≠ cid → t1.ctx j = so.ctx j) ∧ t1.regs = so.regs ∧ t1.mem = so.mem)

/-- R91 to R93, R116, R189, R190: a word that decode rejects, or whose load or store names no place, has no effect: its context halts at the word, with
the cause, PREC, the slot, the reason and the detail in FRC. Model's choices: log entry 102. -/
def Obligations.PreciseTraps : Prop :=
  (∀ (u k : Nat) (w : Word) (m : Mn) (e : Illegal) (s : State), u < 256 → k < 16 → (s.unit u).run = some k → (s.unit u).disp = none →
    (s.ctx (16 * u + k)).wait.atIssue = true → (s.ctx (16 * u + k)).traps = [] → nextWord (16 * u + k) s = .word w none → decodeFj w k = .error e →
    exec (wordRow m u w) s = .next (afterWord m (trapCtx (16 * u + k)
      { cause := 1, prec := true, slot := e.slot, reason := e.reason, detail := e.detail, addr := 0, word := w.toNat } s))) ∧
  (∀ (u k c kind a : Nat) (w : Word) (o : Op) (s : State), AtWord u k w (.one c o) s →
    let cid := 16 * u + k
    let so := opened cid s
    condHolds c (so.reads cid) = true → o.mn.isLoad = true ∨ o.mn.isStore = true →
    accessFault (clusterOf cid) o.mn (o.ea (so.reads cid)) = some (kind, a) →
    exec (wordRow o.mn u w) s = .next (settleFaults (trapCtx cid
      { cause := 2, prec := true, slot := 0, reason := 0, detail := kind * 2 ^ 16 + o.code, addr := a, word := w.toNat } so))) ∧
  ∀ (cid : Nat) (t : Trap) (s : State), isHeld s cid = false → (s.unit (unitOf cid)).run = some (cid % 16) → (s.ctx cid).st = .running →
    let s1 := trapCtx cid t s
    rdB F.sctx_CFG_HV cid s = false →
    (s1.ctx cid).st = .halted ∧ (s1.ctx cid).pc = (s.ctx cid).pc ∧
    (s1.ctx cid).frc = BitVec.ofNat 36 (t.cause * 2 ^ 28 + (if t.prec then 2 ^ 27 else 0) + t.slot * 2 ^ 26 + min (bits (s.ctx cid).frc 24 2 + 1) 3 * 2 ^ 24
      + t.reason * 2 ^ 20 + t.detail) ∧
    (s1.ctx cid).m0 = (s.ctx cid).m0 ∧ (s1.ctx cid).m1 = (s.ctx cid).m1 ∧ (∀ j, j ≠ cid → s1.ctx j = s.ctx j) ∧ s1.mem = s.mem ∧ s1.regs = s.regs

/-- R162, R164, R165, R172: a granule that the running context's stream has asked for, within two of the word at issue, goes into the fetch buffer in
place of an older copy. BTB_FLUSH empties the BTB and drops what waits to enter it. Nothing else of the unit changes. R188, R193: from outside its
unit, a write of FRC with CAUSE 0 takes a HALTED context that nothing holds to IDLE; a write of an IDLE context's PC replaces it, drops its pending
target and replay list, and has its resume granule fetched anew. Completes: fetchGranuleArrive, btbFlush, frcClear, otherPcWrite. Model's choices: log
entries 100, 122. -/
def Obligations.UnitControl : Prop :=
  ((∀ (u k g g0 m : Nat) (s : State), u < 256 → g < 65536 → domOn (u / 8) s = true → s.posted = [] → s.program = [] →
     (∀ v, v / 8 = u / 8 → v ≠ u → ∀ e ∈ (s.unit v).freq, e.1 ≠ g) →
     (s.unit u).freq = [(g, none, m)] → (s.unit u).btbWait = [] → (s.unit u).disp = none → (s.unit u).run = some k →
     (s.ctx (16 * u + k)).targets = [] → codeGran (u / 8) (s.ctx (16 * u + k)).pc = some g0 → g0 ≤ g → g ≤ g0 + 2 →
     let r := readGran (imemG (u / 8) g) s
     let f : FGran := { g := g, data := r.data, bad := if granTag r.data ≠ 1 then 1 else if r.pb then 2 else 0 }
     exec (.fetchGranuleArrive u g) s = .next (settleFaults (r.st.modUnit u (fun x =>
       { x with freq := [], fbuf := x.fbuf.filter (fun y => y.g ≠ g) ++ [f], btb := x.btb.take 64 })))) ∧
   ∀ (u : Nat) (s : State), u < 256 → domOn (u / 8) s = true →
     exec (.btbFlush u) s = .next (settleFaults (s.modUnit u (fun x => { x with btb := [], btbWait := [] })))) ∧
  (∀ (cid : Nat) (v : Word) (s : State), cid < 4096 → domOn (clusterOf cid) s = true → v.toNat / 2 ^ 28 = 0 → (s.ctx cid).st = .halted →
    isHeld s cid = false → (s.ctx cid).handlerHeld = false →
    exec (.frcClear cid v) s = .next (settleFaults (s.modCtx cid (fun x => { x with frc := v, st := .idle, handlerHeld := false })))) ∧
  ∀ (cid g : Nat) (v : Word) (s : State), cid < 4096 → domOn (clusterOf cid) s = true → (s.ctx cid).st = .idle →
    codeGran (clusterOf cid) (v.setWidth 32) = some g → queuesWith s 1 (fun kind inst => kind = 1 ∧ inst / 32 = cid) = [] →
    exec (.otherPcWrite cid v) s = .next (settleFaults ((s.modCtx cid (fun x => { x with pc := v.setWidth 32, targets := [], replay := [] })).modUnit
      (unitOf cid) (fun x => (x.setResume (cid % 16) none).ask g (some (cid % 16)))))

/-- R176: a unit selects a READY or PREEMPTED context of its own, if it has one; no other of them has a higher priority, or the same and an older place,
or both the same and a lower number. -/
def Obligations.SelectionOrder : Prop :=
  ∀ (u : Nat) (s : State),
    let waits (k : Nat) : Prop := (s.ctx (16 * u + k)).st = .ready ∨ (s.ctx (16 * u + k)).st = .preempted
    (selectCtx u s = none ↔ ∀ k, k < 16 → ¬ waits k) ∧
    ∀ cid, selectCtx u s = some cid → ∃ k, k < 16 ∧ cid = 16 * u + k ∧ waits k ∧ ∀ j, j < 16 → waits j → j ≠ k →
      let x := s.ctx cid
      let y := s.ctx (16 * u + j)
      y.pri < x.pri ∨ y.pri = x.pri ∧ (x.age < y.age ∨ x.age = y.age ∧ k < j)

/-- R174, R179, R180, R251, R258, Table SH-5: a request that reaches an IDLE context makes it READY, the youngest of its unit. A unit that runs no context
accepts the context it selects: six steps later that runs, its buffer holds its resume granule, and its activation is recorded in ACT_S, ACT_F and
ACT_INFO with OVR_CNT copied and cleared. Completes: dispatchRequest, dispatchAccept. -/
def Obligations.DispatchRows : Prop :=
  (∀ (r : Req) (l : List Req) (s : State), r.cid < 4096 → dispatchHeld (clusterOf r.cid) s = false → s.reqs = r :: l → (s.ctx r.cid).st = .idle →
    exec (.dispatchRequest r.cid) s = .next (settleFaults (State.modCtx r.cid (fun x => { x with st := .ready, req := some r, age := s.order })
      { s with reqs := l, order := s.order + 1 }))) ∧
  ∀ (u k : Nat) (r : Req) (s : State), u < 256 → k < 16 → dispatchHeld (u / 8) s = false → (s.unit u).run = none → (s.unit u).disp = none →
    selectCtx u s = some (16 * u + k) → (s.ctx (16 * u + k)).req = some r →
    let cid := 16 * u + k
    let x := s.unit u
    let z := x.beginDispatch k (codeGran (u / 8) (s.ctx cid).pc)
    let b (v : Bool) : Nat := if v then 1 else 0
    let s1 := wrAll cid [(F.sctx_ACT_S, r.time / 2 ^ 36), (F.sctx_ACT_F, r.time % 2 ^ 36), (F.sctx_ACT_INFO_SRC, r.src), (F.sctx_ACT_INFO_LATE, b r.late),
      (F.sctx_ACT_INFO_REV, b r.rev), (F.sctx_ACT_INFO_LOSS, b r.loss), (F.sctx_ACT_INFO_HELD, b r.held), (F.sctx_ACT_INFO_OVR_CNT, (s.heap cid).ovr),
      (F.sctx_ACT_INFO_LATE_NS, min r.lateNs 4095)]
      (s.setUnit u { z.tookStep s.clock.tick with steps := x.steps + 6, disp := none, run := some k, owner := cid })
    z.fbuf = (x.resumeOf k).toList ∧
    ∃ t, exec (.dispatchAccept u 6) s = .next (settleFaults t) ∧ (t.ctx cid) = { s.ctx cid with st := .running, req := none, actSteps := 0 } ∧
      (∀ j, j ≠ cid → t.ctx j = s.ctx j) ∧ t.heaps = (s1.modHeap cid (fun h => { h with ovr := 0 })).heaps ∧
      t = { s1 with ctxs := t.ctxs, heaps := t.heaps }

/-- R198, R203, Table CX-9: the action of a cluster, region or die is in force after it: every bound context of the scope is HALTED, keeping its PC and
accumulators, and no other context changes. HALT = 1 applies it with cause SW_CONTAIN and a notice. Completes: containHalt. -/
def Obligations.ContainmentHalts : Prop :=
  (∀ (c : Scope) (cause : Nat) (esc : Bool) (s : State), 1 ≤ c.lvl → c.lvl ≤ 3 →
    let t := applyAction c cause esc s
    c ∈ t.contain.held ∧
    (∀ cid, cid < 4096 → c.covers cid = true → (s.ctx cid).st ≠ .unbound → (t.ctx cid).st = .halted ∧ (t.ctx cid).pc = (s.ctx cid).pc ∧
      (t.ctx cid).m0 = (s.ctx cid).m0 ∧ (t.ctx cid).m1 = (s.ctx cid).m1) ∧
    (∀ cid, c.covers cid = false → t.ctx cid = s.ctx cid) ∧ (c.lvl < 3 → t.mem = s.mem ∧ t.queues = s.queues)) ∧
  ∀ (lvl i : Nat) (s : State), containAt lvl i = true → blkOn (containBlk lvl) i s = true → modeOf s ≠ 0 →
    let c : Scope := { lvl := lvl, i := i }
    let r : Raised := { scope := c, cause := 99, notice := true, reason := 0, prec := false, slot := 0, detail := 0, pc := 0, addr := 0, word := 0 }
    exec (.containHalt lvl i 0) s = .next (finish (raise r (applyAction c 99 false s)))

/-- R197, R204 to R206, Table CX-11: a fault of a context, cluster or region that no level above holds, with no window of its scope open and room in the
queue. Its record, with tag 7, stands in slot TAIL mod 32 of the queue; TAIL and SEQ count up, the window of the scope opens, and the scope is held, a
context's excepted, whose own trap halts it. -/
def Obligations.FaultRecords : Prop :=
  ∀ (r : Raised) (s : State), InOrder s → heldAbove r.scope s = false → r.notice = false → s.contain.windows.contains r.scope = false → frqCount s < 32 →
    r.scope.lvl ≤ 2 → r.scope.lvl = 0 ∨ containAt r.scope.lvl r.scope.i = true →
    let t := handleRaised r s
    let n := rd F.pwr_FRQ_PTR_TAIL 0 s
    let seq := rd F.pwr_FRQ_STAT_SEQ 0 s
    t.granBits (keepG (16352 + n % 32)) = granOf ([r.scope.lvl * 2 ^ 33 + r.cause * 2 ^ 25 + r.reason * 2 ^ 21 + (if r.prec then 2 ^ 20 else 0) + r.slot * 2 ^ 19 + r.scope.i,
      if s.clock.run then s.timeS else 0, s.timeF, r.pc, r.addr, seq * 2 ^ 20 + r.detail % 2 ^ 20, r.word].map (BitVec.ofNat 36)) 7 ∧
    rd F.pwr_FRQ_PTR_TAIL 0 t = (n + 1) % 64 ∧ rd F.pwr_FRQ_STAT_SEQ 0 t = (seq + 1) % 2 ^ 16 ∧ t.contain.windows = r.scope :: s.contain.windows ∧
    (r.scope.lvl ≠ 0 → r.scope ∈ t.contain.held) ∧ (r.scope.lvl = 0 → t.ctxs = s.ctxs) ∧
    ∀ h, h ≠ keepG (16352 + n % 32) → t.granBits h = s.granBits h

/-- R197, R202: a release of the one scope that is held, with no handler request and no reached trigger kept for it: every HALTED context of the scope
goes to IDLE, with a restart at its entry point and without what it had pending; no other context changes, and the scope is held no longer.
RECOVERY_WINDOW_EXPIRE closes the window of a scope and clears its bit WINDOW. Completes: recoveryWindowExpire, containRestart, containResume. Model's
choices: log entries 12, 104. -/
def Obligations.ContainmentReleases : Prop :=
  (∀ (lvl i : Nat) (restart : Bool) (s : State), containAt lvl i = true → blkOn (containBlk lvl) i s = true → modeOf s ≠ 0 →
    let c : Scope := { lvl := lvl, i := i }
    InOrder s → inSafe s = false → s.contain.held = [c] → (∀ d ∈ c.clusters, domOn d s = true) →
    (∀ j, (s.ctx j).restartDue = false ∧ (s.ctx j).handlerHeld = false) → (∀ e ∈ s.heaps, e.2.reachedAt = none) →
    ∃ t, exec (if restart then .containRestart lvl i else .containResume lvl i) s = .next (finish t) ∧
      t.contain.held = [] ∧ t.contain.windows = s.contain.windows.filter (fun w => !w.within c) ∧
      (∀ cid, cid < 4096 → c.covers cid = true → (s.ctx cid).st = .halted →
        let x := { s.ctx cid with st := .idle, handlerHeld := false, restartDue := false }
        t.ctx cid = if restart then { x with pc := x.entry.getD x.pc, targets := [], replay := [], traps := [], atBit := false, dlBit := false } else x) ∧
      ∀ cid, c.covers cid = false ∨ (s.ctx cid).st ≠ .halted → t.ctx cid = s.ctx cid) ∧
  ∀ (lvl i : Nat) (s : State), containAt lvl i = true → s.contain.windows.contains { lvl := lvl, i := i } = true →
    exec (.recoveryWindowExpire lvl i) s = .next (finish (wr ⟨containBlk lvl, 480, 9, 1⟩ i 0
      { s with contain := { s.contain with windows := s.contain.windows.filter (· ≠ { lvl := lvl, i := i }) } }))

/-- R242, R250, R251, R256, R262, Table SH-5: on a context that is IDLE with no request on its way. The fire tick of a predicted trigger that is reached
disarms it, counts it, and sends a request with its lateness in ns; LATE is set, and counted, when that is above LATE_THR. SCH_DISPATCH sends a
request with source 2. SCH_DIS_ANG and SCH_DIS_DL disarm what is armed. A deadline's tick disarms it and counts a miss; a context that is READY,
RUNNING or PREEMPTED also takes a DEADLINE trap. Completes: triggerFire, schDispatch, schDisAng, schDisDl, deadlineExpire. Model's choices: log
entries 6, 12, 114. -/
def Obligations.SchedulerRows : Prop :=
  (∀ (cid : Nat) (s : State), cid < 4096 →
    let rg := regionOf cid
    let h := s.heap cid
    let g := s.xing (regionXing rg)
    let q : Req := { cid := cid, src := 0, late := false, rev := false, loss := false, held := false, lateNs := 0, time := s.dev72 }
    let send (r : Req) (t : State) : State := { t.setXing (regionXing rg) { g with phase := g.phase ++ [cid] } with reqs := s.reqs ++ [r] }
    let disarm (t : State) : State :=
      setArmedBit cid .atBit false (t.modHeap cid (fun h => { h with ang := .disarmed, reachedAt := none, inc := none, revFlag := false }))
    InOrder s → (s.ctx cid).st = .idle → (s.reqs ++ g.held).any (fun r => r.cid = cid) = false → g.reset = false → g.phase.contains cid = false → h.bad = false →
    (h.ang = .predicted → h.reachedAt = none → h.revFlag = false → h.pred ≤ s.clock.tick → reached h s = true → heapQuiet rg s = false → takenNow rg s < 2 →
      (∀ e ∈ s.heaps, e.1 = cid ∨ e.2.ang ≠ .predicted) →
      let n := s.clock.tick - h.pred
      let late := decide (rd F.sch_CTL_LATE_THR rg s < n)
      let fired := bump F.sch_FIRES rg (disarm (s.takeTurn rg))
      exec (.triggerFire cid) s = .next (settleFaults (send { q with late := late, lateNs := n } (if late then bump F.sch_LATE rg fired else fired)))) ∧
    (blkOn .sctx cid s = true → modeOf s ≠ 0 →
      exec (.schDispatch cid) s = .next (settleFaults (send { q with src := 2 } s)) ∧
      (h.ang ≠ .disarmed → exec (.schDisAng cid) s = .next (settleFaults (disarm s))) ∧
      (h.dl.isSome = true →
        exec (.schDisDl cid) s = .next (settleFaults (setArmedBit cid .dlBit false (s.modHeap cid (fun h => { h with dl := none, dlDue := false }))))))) ∧
  ∀ (cid t : Nat) (s : State), cid < 4096 → (s.heap cid).bad = false → (s.heap cid).dl = some t → rd F.pwr_MODE 0 s ≠ 1 →
    t ≤ s.dev72 → takenNow (regionOf cid) s < 2 →
    let x := s.ctx cid
    let missed := bump F.sch_DL_MISS (regionOf cid) (setArmedBit cid .dlBit false
      ((s.takeTurn (regionOf cid)).modHeap cid (fun h => { h with dl := none, dlDue := false })))
    (x.st = .idle ∨ x.st = .halted → exec (.deadlineExpire cid) s = .next (settleFaults missed)) ∧
    (x.st = .ready ∨ x.st = .running ∨ x.st = .preempted → exec (.deadlineExpire cid) s = .next (settleFaults (trapCtx cid
      { cause := 6, prec := false, slot := 0, reason := 0, detail := x.st.code * 2 ^ 16 + min x.actSteps 65535, addr := 0, word := t % 2 ^ 36 } missed)))

/-- R212 to R217, R237, Table TB-3: the rows that feed the estimator, on a timebase that nothing follows. ENCODER_UPDATE delivers the counts since the
last update, scaled; a write of POS delivers its position. TRIPLE_APPLY of an update that is not the first predicts the position, corrects it by
2^−ALPHA of the error and V by 2^−BETA of the error per time, rounded; D follows V. The first one sets the position and V = 0. Completes:
encoderUpdate, tbPosWrite, tripleApply. Model's choices: log entry 15. -/
def Obligations.TimebaseUpdates : Prop :=
  (∀ (n : Nat) (s : State), n < 32 → domOn 48 s = true → InOrder s →
    let x := s.tb n
    let m := (x.mAcc + signedMod 36 (x.edgeCount - x.lastCount) * (tbScale n s * 2 ^ 12)) % 2 ^ 60
    let upd : Upd := { m := m, t := x.edgeTick, dev := x.edgeDev, jump := 0, ord := s.order }
    tbKind n s = 1 → x.st ≠ .off → x.st ≠ .fallback → x.edges ≠ 0 → x.idx = none → x.upd = none →
    exec (.encoderUpdate n) s = .next (finish (State.setTb n { x with mAcc := m, lastCount := x.edgeCount, edges := 0, upd := some upd }
      { s with order := s.order + 1 }))) ∧
  (∀ (n : Nat) (v : Word) (s : State), n < 64 → domOn 48 s = true → modeOf s ≠ 0 →
    let x := s.tb n
    let upd : Upd := { m := v.toNat * 2 ^ 24, t := s.clock.tick, dev := s.clock.dev, jump := 0, ord := s.order }
    tbKind n s = 5 → x.st ≠ .off → x.st ≠ .fallback → x.updT = none → x.upd = none →
    exec (.tbPosWrite n v) s = .next (finish (State.setTb n { x with upd := some upd } { s with order := s.order + 1 }))) ∧
  ∀ (n : Nat) (q : Upd) (s : State), n < 64 → domOn 48 s = true → InOrder s → TbAlone n s → (s.tb n).upd = some q → updateDue n q s = true → q.jump = 0 →
    let x := s.tb n
    ∃ t, exec (.tripleApply n) s = .next (finish t) ∧ (∀ j, j ≠ n → t.tb j = s.tb j) ∧
      let y := t.tb n
      y.tu = q.t ∧ y.dev = q.dev ∧ y.st = .track ∧ y.upd = none ∧ y.first = false ∧ y.holdAt = none ∧
      (x.first = true → y.pu = q.m % 2 ^ 60 ∧ y.v = 0 ∧ y.d = 0) ∧
      (x.first = false → x.vset = true → x.tu < q.t →
        let dt := q.t - x.tu
        let guess := x.pu + x.d * dt
        let e := signedMod 60 (q.m - guess)
        ∃ dp dv : Int, Rounds dp e (2 ^ rd F.tb_CTL_ALPHA_SH n s) ∧ Rounds dv (e * 1000000000) (2 ^ 36 * dt.toNat * 2 ^ rd F.tb_CTL_BETA_SH n s) ∧
          y.pu = (guess + dp) % 2 ^ 60 ∧ y.v = max (-2 ^ 35) (min (2 ^ 35 - 1) (x.v + dv)) ∧ y.d = incOf y.v)

/-- R212, R214, R221, R237, Table TB-5: on a timebase that nothing follows. BOUND_UPDATE bounds |V| by one count in the time since the last edge.
TIMEBASE_LOSS makes the state LOST: under HOLD the value stands with V = 0, under COAST the triple stays. A write of SRC that defines a source
restarts an enabled timebase in ACQUIRE with its value standing and V = 0; a write of SCALE of a disabled one stores it. A write of OFFSET moves the
value by the difference. Completes: boundUpdate, timebaseLoss, tbConfigWrite, tbOffsetWrite. Model's choices: log entries 12, 15, 107. -/
def Obligations.TimebaseChanges : Prop :=
  (∀ (n : Nat) (s : State), n < 32 → domOn 48 s = true → InOrder s → TbAlone n s →
    let x := s.tb n
    let dt := (s.clock.tick : Int) - x.edgeTick
    let sc := rd F.tb_SCALE n s
    tbKind n s = 1 → x.st = .track → x.v ≠ 0 → 0 < dt → 3 * sc * 1000000000 < 2 * 2 ^ 24 * x.v.natAbs * dt.toNat →
    ∃ t b, exec (.boundUpdate n) s = .next (finish t) ∧ Rounds b ((sc : Int) * 1000000000) (2 ^ 24 * dt.toNat) ∧ (∀ j, j ≠ n → t.tb j = s.tb j) ∧
      (t.tb n).v = (if b < x.v.natAbs then (if x.v < 0 then -b else b) else x.v) ∧ (t.tb n).d = incOf (t.tb n).v ∧ (t.tb n).pu = x.pu) ∧
  (∀ (n : Nat) (s : State), n < 64 → domOn 48 s = true → InOrder s → TbAlone n s → tbKind n s ≠ 0 → tbKind n s ≠ 4 →
    (s.tb n).st = .track ∨ (s.tb n).st = .acquire ∨ (s.tb n).st = .stale →
    ∃ t, exec (.timebaseLoss n) s = .next (finish t) ∧ (∀ j, j ≠ n → t.tb j = s.tb j) ∧
      (rd F.tb_CTL_LOSS_ACT n s = 0 → (t.tb n).st = .lost ∧ (t.tb n).pu = tbShown n s ∧ (t.tb n).tu = s.clock.tick ∧ (t.tb n).v = 0 ∧ (t.tb n).d = 0) ∧
      (rd F.tb_CTL_LOSS_ACT n s = 1 → (t.tb n).st = .lost ∧ (t.tb n).pu = (s.tb n).pu ∧ (t.tb n).tu = (s.tb n).tu ∧ (t.tb n).v = (s.tb n).v ∧
        (t.tb n).d = (s.tb n).d)) ∧
  (∀ (n : Nat) (v : Word) (s : State), n < 64 → domOn 48 s = true → modeOf s ≠ 0 → rdB F.tb_CTL_EN n s = false →
    exec (.tbConfigWrite n 3 v) s = .next (finish (s.setReg (keyOf .tb n 3) v))) ∧
  (∀ (n : Nat) (v : Word) (s : State), n < 64 → domOn 48 s = true → modeOf s ≠ 0 → InOrder s → TbAlone n s → rdB F.tb_CTL_EN n s = true →
    kindAllowed n (v.toNat % 16) (v.toNat / 16 % 64) = true → v.toNat % 16 ≠ 0 → v.toNat % 16 ≠ 4 →
    ∃ t, exec (.tbConfigWrite n 0 v) s = .next (finish t) ∧ tbKind n t = v.toNat % 16 ∧ rd F.tb_SRC_INST n t = v.toNat / 16 % 64 ∧
      (t.tb n).st = .acquire ∧ (t.tb n).v = 0 ∧ (t.tb n).d = 0 ∧ (t.tb n).tu = s.clock.tick ∧ (t.tb n).first = true ∧ (t.tb n).upd = none ∧
      ((t.tb n).pu - tbShown n s) % 2 ^ 60 = 0) ∧
  ∀ (n : Nat) (v : Word) (s : State), n < 64 → domOn 48 s = true → modeOf s ≠ 0 → InOrder s → TbAlone n s →
    ∃ t, exec (.tbOffsetWrite n v) s = .next (finish t) ∧ rdW F.tb_OFFSET n t = v ∧ (∀ j, j ≠ n → t.tb j = s.tb j) ∧
      (t.tb n).pu = ((s.tb n).pu + ((v.toNat : Int) - rd F.tb_OFFSET n s) * 2 ^ 24) % 2 ^ 60 ∧ (t.tb n).v = (s.tb n).v ∧ (t.tb n).st = (s.tb n).st

/-- R223, R224, R226 to R231: PPS and device time. PPS_EDGE captures device time to 125 ps, within 250 ps of the edge; with no edge before, the edge is
bad. PPS_HOLDOVER of a LOCKED unit counts a missed edge and enters HOLDOVER with its frequency held. SET_NOW makes TIME_S the value of TIME_S_NEXT and
leaves TIME_F. A read of TIME_F latches TIME_S for the reader. PPS_OUT rises for OUT_HIGH_MS, and falls. R232, R233, R451, R454, Tables QF-7, QF-8: a
published timebase's triple goes out as a MIRROR packet on a link of the time tree that is UP, at MIRROR_REFRESH when none was sent for 100 µs, and at
MIRROR_GAP_SEND when MIN_GAP has held it back and passed; TIME_SAMPLE_SEND sends a TIME packet on the served link that is UP, once for each second.
Completes: ppsEdge, ppsHoldover, setNow, timeFRead, ppsOutRise, ppsOutFall, mirrorRefresh, mirrorGapSend, timeSampleSend. Model's choices: log entries
12, 90, 113, 127. -/
def Obligations.DeviceTimeRows : Prop :=
  ((∀ s : State, domOn 48 s = true → InOrder s → rdB F.tbu_PPS_CTL_IN_EN 0 s = true → s.pps.lastEdge = none →
     ∃ t, ∃ cap : Nat, exec .ppsEdge s = .next (finish t) ∧ StampTime cap s ∧
       t.pps.lastEdge = some cap ∧ rd F.tbu_PPS_CAP_F 0 t = cap / 2 ^ 29 % 2 ^ 36 ∧ rd F.tbu_PPS_CAP_S 0 t = cap / 2 ^ 65 ∧
       rd F.tbu_PPS_STAT_BAD 0 t = min (rd F.tbu_PPS_STAT_BAD 0 s + 1) 511 ∧ (rd F.tbu_TIME_CTL_SRC 0 s = 1 → t.pps.goodRun = 0) ∧ t.clock = s.clock) ∧
   (∀ s : State, domOn 48 s = true → InOrder s → rd F.tbu_TIME_STAT_STATE 0 s = 2 →
     ∃ t, exec .ppsHoldover s = .next (finish t) ∧ rd F.tbu_TIME_STAT_STATE 0 t = 3 ∧ t.pps.goodRun = 0 ∧ t.pps.holdFrom = s.clock.tick ∧
       rd F.tbu_PPS_STAT_MISSED 0 t = min (rd F.tbu_PPS_STAT_MISSED 0 s + 1) 511 ∧
       rdZ F.tbu_TIME_SLEW 0 t = max (-1844674) (min 1844674 s.pps.freq) ∧
       rd F.tbu_TIME_STAT_SLEW_LIM 0 t = (if s.pps.freq.natAbs ≤ 1844674 then 0 else 1) ∧ t.clock = s.clock) ∧
   (∀ (v : Word) (s : State), domOn 48 s = true → modeOf s ≠ 0 → InOrder s → v.toNat / 8 % 2 = 1 → v.toNat % 4 = rd F.tbu_TIME_CTL_SRC 0 s →
     s.tbs = [] → s.heaps = [] → s.evPins = [] →
     ∃ t, exec (.setNow v) s = .next (finish t) ∧ t.timeS = rd F.tbu_TIME_S_NEXT 0 s ∧ t.timeF = s.timeF ∧ t.clock.nextWritten = s.clock.nextWritten ∧
       rd F.tbu_TIME_STAT_STEPS 0 t = min (rd F.tbu_TIME_STAT_STEPS 0 s + 1) 511 ∧ t.pps.prevErr = none) ∧
   (∀ (req : Nat) (s : State), req ≤ 4096 → domOn 48 s = true → modeOf s ≠ 0 → InOrder s →
     (readReg req (keyOf .tbu 0 0) s).1 = BitVec.ofNat 36 s.timeF ∧
     ∃ t, exec (.timeFRead req) s = .next (finish t) ∧ latchedS req t = BitVec.ofNat 36 s.timeS ∧ (∀ j, j ≠ req → t.ctx j = s.ctx j) ∧
       (∀ k, t.reg k = s.reg k)) ∧
   (∀ s : State, domOn 48 s = true → rdB F.tbu_PPS_CTL_OUT_EN 0 s = true →
     ((s.clock.dev % 2 ^ 65 : Nat) : Int) < rd F.tbu_TIME_INC 0 s + rdZ F.tbu_TIME_SLEW 0 s →
     exec .ppsOutRise s = .next (finish { s with pps := { s.pps with outHigh := true, outFall :=
       (s.clock.dev / 2 ^ 65 * 2 ^ 65 + rd F.tbu_PPS_CTL_OUT_HIGH_MS 0 s * 2 ^ 65 / 1000) % 2 ^ 101 } })) ∧
   ∀ s : State, domOn 48 s = true → s.pps.outHigh = true → 0 ≤ s.devSince s.pps.outFall →
     exec .ppsOutFall s = .next (finish { s with pps := { s.pps with outHigh := false } })) ∧
  (∀ (n l : Nat) (s : State), n < 64 → domOn 48 s = true → published n s = true → assigned s = true → treeLinks s = [l] → linkUp l s = true →
    let x := s.tb n
    let b := tbBase n s
    let p := (b.1 % 2 ^ 60).toNat
    let hops := if tbKind n s = 7 then rd F.tb_STAT_HOPS n s else 0
    let packet := headOf 5 0 0 [p / 2 ^ 24, n * 2 ^ 30 + rd F.tbu_TIME_STAT_STATE 0 s * 2 ^ 27 + hops % 8 * 2 ^ 24 + p % 2 ^ 24, (x.v % 2 ^ 36).toNat,
      b.2.2 / 2 ^ 65 % 2 ^ 36, b.2.2 / 2 ^ 29 % 2 ^ 36] s
    let t := (s.setTb n { x with held := false, sentAt := some s.clock.tick }).modLink l (fun y => { y with tx := y.tx ++ [(2, [packet])] })
    InOrder s →
    ((∀ k, x.sentAt = some k → k + 100000 ≤ s.clock.tick) → exec (.mirrorRefresh n) s = .next (finish t)) ∧
    (x.held = true → (∀ k, x.sentAt = some k → k + 100 * rd F.tbu_PUB_CTL_MIN_GAP 0 s ≤ s.clock.tick) → exec (.mirrorGapSend n) s = .next (finish t))) ∧
  ∀ (l : Nat) (s : State), domOn 48 s = true → assigned s = true → l < 6 → (∀ j, j < 6 → (s.qdl.timeCfg.toNat / 2 ^ (4 + j) % 2 = 1 ↔ j = l)) →
    linkUp l s = true → rd F.tbu_TIME_CTL_SRC 0 s ≠ 2 →
    let st := rd F.tbu_TIME_STAT_STATE 0 s
    st = 0 ∨ st = 2 ∨ st = 3 → s.qdl.sampleDue = true → s.timeF * 1000000 ≤ 2 ^ 36 →
    exec .timeSampleSend s = .next (finish (State.modLink l (fun y =>
      { y with tx := y.tx ++ [(2, [headOf 4 0 0 [0, 0, st * 2 ^ 33 + devId s, 0, 0] s])] }) { s with qdl := { s.qdl with sampleDue := false } }))

/-- R264, R266 to R269, R271, R272, R275, R290, Tables MF-5 to MF-7: one modulator edge of a group in clock-out mode brings its bits into the filters and
is counted. At a decimation point every channel that is on takes y = sat36(⌊raw × 2^SH⌋) and z = sat36(⌊((y − OFFSET) × GAIN + 2¹⁵) / 2¹⁶⌋) into LAST,
and u moves by ⌊(z − u) / 2^IIR_SH⌋; the N × M-th edge ends a restart. The first edge after a strobe that is not delayed uses it up. Completes:
decimation, groupRestartEnd, strobedOutput. Model's choices: log entry 126. -/
def Obligations.FilterEdges : Prop :=
  (∀ (g : Nat) (b : ModEdge) (s : State), PlainGroup g s → rdB F.grp_CTL_CLKMODE g s = false → (s.grp g).lost = false → (s.grp g).strobe = none →
    OnlyChecks g 8 8 s → (∀ r, r < 8 → trkReads (8 + r) g s = false ∧ (s.trk r).due = none) →
    let x := s.grp g
    let m := rd F.grp_CTL_DEC g s
    let hist := ({ b with gap := rd F.grp_CTL_CLKDIV g s } :: x.hist).take 4096
    m ≠ 0 → (x.edges + 1) % m = 0 →
    ∃ t, exec (.decimation g [b]) s = .next (finish t) ∧
      (x.edges < grpWarm g s → grpWarm g s ≤ x.edges + 1 → exec (.groupRestartEnd g [b]) s = .next (finish t)) ∧
      t.grp g = { x with hist := hist, edges := x.edges + 1, points := x.points + 1 } ∧
      ∀ i, i < 8 →
        let c := 8 * g + i
        let n := rd F.chan_CFG_ORDER c s
        let y := clip36 (shiftRaw (sincRaw n m (hist.map (fun v => if v.bits.getLsbD i then 1 else -1))) (rdZ F.chan_CFG_SH c s))
        let z := clip36 (((y - (rdW F.chan_OFFSET c s).toInt) * (rd F.chan_GAIN c s : Int) + 2 ^ 15) / 2 ^ 16)
        n ≠ 0 → rdZ F.chan_LAST c t = z ∧ (t.chan c).u = (s.chan c).u + (z - (s.chan c).u) / 2 ^ rd F.chan_CFG_IIR_SH c s) ∧
  (∀ (g : Nat) (b : ModEdge) (t0 : Nat) (s : State), PlainGroup g s → rdB F.grp_CTL_CLKMODE g s = false → (s.grp g).lost = false →
    (s.grp g).strobe = some t0 → t0 ≤ s.clock.tick → (∀ r, r < 8 → (s.trk r).due = none) → OnlyChecks g 8 8 s → (s.grp g).lateStrobe = false → ((s.grp g).edges + 1) % rd F.grp_CTL_DEC g s ≠ 0 → grpWarm g s < (s.grp g).edges + 1 →
    ∃ t, exec (.strobedOutput g [b]) s = .next (finish t) ∧
      t.grp g = { s.grp g with hist := ({ b with gap := rd F.grp_CTL_CLKDIV g s } :: (s.grp g).hist).take 4096, edges := (s.grp g).edges + 1, strobe := none }) ∧
  ∀ (n m : Nat) (xs : List Int), 1 ≤ n → n * m ≤ xs.length → (∀ x ∈ xs, x = 1) → sincRaw n m xs = (m : Int) ^ n

/-- R265, R266, R275, R276, R290: with events disabled. The edge that makes the run of equal bits of a channel longer than its limit sets its STUCK bit.
The edge at which the fast value has stayed above WIN_HI for QUAL edges sets WIN and WIN_HI. CLK_LOST marks a group in clock-in mode; CLK_BACK lets it
restart with the edge that came. A write of CTL that sets EN restarts the group. Completes: stuck, windowChange, clkLost, clkBack, groupRestart. -/
def Obligations.GroupStates : Prop :=
  (∀ (g i : Nat) (b : ModEdge) (s : State), i < 8 → PlainGroup g s → rdB F.grp_CTL_CLKMODE g s = false → (s.grp g).lost = false →
    (∀ r, r < 8 → (s.trk r).due = none) →
    (s.grp g).strobe = none → ((s.grp g).edges + 1) % rd F.grp_CTL_DEC g s ≠ 0 →
    let c := 8 * g + i
    let x := s.chan c
    (OnlyChecks g i 8 s → 0 < rd F.chan_CFG_STUCK c s → x.run = rd F.chan_CFG_STUCK c s * 16 → x.bit = b.bits.getLsbD i → x.told = false →
      ∃ t, exec (.stuck c [b]) s = .next (finish t) ∧ t.chan c = { x with run := x.run + 1, told := true, out := 0, qual := 0 } ∧
        rd ⟨.grp, 7, 1 + i, 1⟩ g t = 1) ∧
    (OnlyChecks g 8 i s → rd F.chan_CFG_FORDER c s ≠ 0 → x.out = 0 → qualOf c s ≤ min (x.qual + 1) 16 → grpWarm g s ≤ (s.grp g).edges + 1 →
      (∀ k, k < 4 → srcEnabled k 3 c s = false) →
      let r := sincRaw (rd F.chan_CFG_FORDER c s) (rd F.chan_CFG_FDEC c s) (((b :: (s.grp g).hist).take 4096).map (fun v => if v.bits.getLsbD i then 1 else -1))
      rdZ F.chan_WIN_HI c s < r →
      ∃ t, exec (.windowChange c [b]) s = .next (finish t) ∧ (t.chan c).out = 1 ∧ rd F.chan_STAT_WIN c t = 1 ∧ rd F.chan_STAT_WIN_HI c t = 1 ∧
        rd F.chan_FAST_RAW c t = lowBits 18 r)) ∧
  (∀ (g : Nat) (s : State), PlainGroup g s → rdB F.grp_CTL_CLKMODE g s = true → (s.grp g).lost = false →
    exec (.clkLost g) s = .next (finish (wr F.grp_STAT_CLK_LOST g 1 (s.modGrp g (fun x => { x with lost := true }))))) ∧
  (∀ (g : Nat) (b : ModEdge) (s : State), PlainGroup g s → rdB F.grp_CTL_CLKMODE g s = true → (s.grp g).lost = true → (s.grp g).strobe = none →
    (∀ r, r < 8 → (s.trk r).due = none) →
    OnlyChecks g 8 8 s → rd F.grp_CTL_DEC g s ≠ 1 →
    ∃ t, exec (.clkBack g [b]) s = .next (finish t) ∧ rd F.grp_STAT_CLK_LOST g t = 0 ∧
      t.grp g = { s.grp g with hist := [b], edges := 1, points := 0, lost := false, lateStrobe := false } ∧ ∀ i, i < 8 → (t.chan (8 * g + i)).u = 0) ∧
  ∀ (g : Nat) (v : Word) (s : State), g < 12 → domOn (grpDomain g) s = true → modeOf s ≠ 0 → InOrder s → rdB F.grp_CTL_EN g s = false → v.toNat % 2 = 1 →
    ∃ t, exec (.groupRestart (keyOf .grp g 0) v) s = .next (finish t) ∧ rdB F.grp_CTL_EN g t = true ∧
      (t.grp g).hist = [] ∧ (t.grp g).edges = 0 ∧ (t.grp g).points = 0 ∧ (t.grp g).strobe = (s.grp g).strobe ∧
      ∀ i, i < 8 → (t.chan (8 * g + i)).u = 0 ∧ (t.chan (8 * g + i)).qual = 0

/-- R270, R273, R290: the values between the strobe timebase's value at the last comparison and its present one that are strobe points, a multiple of PER
from PHASE within the turn, give one strobe, and all but one of them are counted as SKIPPED; a strobe while one waits is counted as MERGED. SW_STROBE
strobes the groups it names. A write of STRB_CTL or STRB_PH is stored; the tick after it strobes nothing. A stream that has a queue with room pushes
the words of its channels and the stamp as one item. Completes: strobe, swStrobe, strobeConfigWrite. -/
def Obligations.Strobes : Prop :=
  (∀ (g n : Nat) (a : Word) (s : State), g < 12 → clocksOn s = true → grpRuns g s = true → rdB F.grp_STRB_CTL_EN g s = true → rd F.grp_STRB_CTL_PER g s ≠ 0 → n ≠ 0 →
    (s.grp g).quiet = none → (s.grp g).at_ = some a →
    let b := tbPub (rd F.grp_STRB_PH_TB g s) s
    let d := (b - a).toInt
    n = (List.range d.natAbs).countP (fun j => ((a.toNat : Int) + (if 0 < d then (j : Int) + 1 else -(j : Int) - 1) - rd F.grp_STRB_PH_PHASE g s) % 2 ^ 24
      % rd F.grp_STRB_CTL_PER g s = 0) →
    let x := { s.grp g with at_ := some b }
    let skip := (List.range 4).foldl (fun l i => addSat i (n - 1) 511 l) x.skip
    let t := bumpBy F.grp_STAT_SKIPPED g (n - 1) s
    (x.strobe = none →
      exec (.strobe g n) s = .next (finish (t.setGrp g { x with strobe := some s.clock.tick, lateStrobe := false, skip := skip }))) ∧
    (x.strobe.isSome = true → exec (.strobe g n) s = .next (finish (bump F.grp_STAT_MERGED g (t.setGrp g { x with skip := skip }))))) ∧
  (∀ (g n t : Nat) (old : Option (Word × Word)) (s : State), g < 12 → (s.grp g).quiet = some (t, old) → t + 1 = s.clock.tick → exec (.strobe g n) s = .next (finish s)) ∧
  (∀ (g : Nat) (s : State), g < 12 → clocksOn s = true → domOn 48 s = true → modeOf s ≠ 0 → domOn (grpDomain g) s = true → (s.grp g).strobe = none →
    let x := s.grp g
    exec (.swStrobe (BitVec.ofNat 36 (2 ^ g))) s = .next (finish ((bumpBy F.grp_STAT_SKIPPED g 0 s).setGrp g
      { x with strobe := some s.clock.tick, lateStrobe := false, skip := (List.range 4).foldl (fun l i => addSat i 0 511 l) x.skip }))) ∧
  (∀ (g r : Nat) (v : Word) (s : State), g < 12 → r = 1 ∨ r = 2 → domOn (grpDomain g) s = true → modeOf s ≠ 0 →
    (∀ e, (s.grp g).quiet = some e → e.1 ≠ s.clock.tick) →
    exec (.strobeConfigWrite g r v) s = .next (finish ((storeReg .grp g r v s).modGrp g (fun x =>
      { x with quiet := some (s.clock.tick, strobeSettings g s) })))) ∧
  ∀ (g i q : Nat) (stamp : Word) (s : State), InOrder s → i < 4 → grpRuns g s = true → (s.grp g).lost = false → grpWarm g s ≤ (s.grp g).edges → (s.grp g).held = [] →
    (s.grp g).skip = [] → (s.grp g).repl = [] → streamQueue g i s = some q → rdB (streamF F.grp_STREAM_STAMP i) g s = true → rdB (streamF F.grp_STREAM_STATUS i) g s = false →
    let chs := ((List.range 8).filter (fun k => (rd (streamF F.grp_STREAM_CHMASK i) g s).testBit k)).map (fun k => 8 * g + k)
    let item := chs.map (fun c => wordOf (chanZ c s).1) ++ [stamp]
    canPushItem q item.length s = true →
    formItem g i false false stamp s = pushItem q item (s.setGrp g (s.grp g))

/-- R277, R278, R280 to R283, Tables MF-8, MF-9: with events disabled and no source of Reel. A comparator whose pin lies above its upper threshold's
bounds is outside: OUT, TRIP_HI and COUNT follow. A write of CTL that disables both thresholds brings it inside. In quadrature mode the levels move
COUNT by one along 00, 10, 11, 01, or count a QERR; the index captures COUNT; a write of COUNT replaces it; a pulse that is too short is counted.
Completes: comparatorCrossing, comparatorThresholdWrite, encoderEdge, encoderIndex, countWrite, encoderGlitch. Model's choices: log entries 21, 62. -/
def Obligations.ComparatorsAndEncoders : Prop :=
  (∀ (n uv : Nat) (s : State), n < 48 → domOn (compDomain n) s = true → rd F.mfr_EVT_CTL_EN 0 s = 0 → (∀ b, b < 4 → srcEnabled b 1 n s = false) →
    rdB F.comp_CTL_EN_HI n s = true → rdB F.comp_CTL_EN_LO n s = false → (s.comp n).hi = false → (s.comp n).lo = false → InOrder s →
    ((rd F.comp_CTL_HI n s : Int) + 1) * 1890000000 / 1024 + 5000000 < 1000 * uv →
    exec (.comparatorCrossing n uv) s = .next (finish (wr F.comp_STAT_TRIP_HI n 1 (bump F.comp_STAT_COUNT n (wr F.comp_STAT_OUT n 1
      (s.setComp n { uv := uv, hi := true, lo := false })))))) ∧
  (∀ (n uv : Nat) (v : Word) (s : State), n < 48 → domOn (compDomain n) s = true → modeOf s ≠ 0 → InOrder s → v.toNat / 2 ^ 22 % 4 = 0 →
    exec (.comparatorThresholdWrite n v uv) s = .next (finish (wr F.comp_STAT_OUT n 0 ((storeReg .comp n 0 v s).setComp n { uv := uv, hi := false, lo := false })))) ∧
  ∀ (n : Nat) (s : State), n < 16 → clocksOn s = true → modeOf s ≠ 0 → domOn (encDomain n) s = true → rd F.mfr_EVT_CTL_EN 0 s = 0 → s.tbs = [] →
    let x := s.enc n
    let stamp := timeFOf (devAgo (rd F.enc_CTL_FILT n s) s)
    let count := (rdW F.enc_COUNT n s).toInt
    let moved (by_ : Int) (t : State) : State := wrAll n [(F.enc_COUNT, lowBits 36 (count + by_)), (F.enc_EDGE_T, stamp.toNat),
      (F.enc_STAT_DIR, if by_ < 0 then 1 else 0)] t
    (∀ a b : Bool, rd F.enc_CTL_MODE n s = 1 → rdB F.enc_CTL_SWAP n s = false →
      let place (p q : Bool) : Int := if p then (if q then 2 else 1) else (if q then 3 else 0)
      let d := (place a b - place x.a x.b) % 4
      let t := s.setEnc n { a := a, b := b }
      (d = 1 → exec (.encoderEdge n a b) s = .next (finish (moved 1 t))) ∧ (d = 3 → exec (.encoderEdge n a b) s = .next (finish (moved (-1) t))) ∧
      (d = 2 → exec (.encoderEdge n a b) s = .next (finish (bump F.enc_STAT_QERR n t)))) ∧
    (rd F.enc_CTL_MODE n s ≠ 0 → rdB F.enc_CTL_IDXQ n s = false →
      exec (.encoderIndex n) s = .next (finish (wrAll n [(F.enc_IDX_CNT, rd F.enc_COUNT n s), (F.enc_IDX_T, stamp.toNat), (F.enc_STAT_IDX_SEEN, 1)] s))) ∧
    (∀ v, exec (.countWrite n v) s = .next (finish (s.setReg (keyOf .enc n 1) v))) ∧
    (rd F.enc_CTL_MODE n s ≠ 0 → rd F.enc_CTL_FILT n s ≠ 0 → exec (.encoderGlitch n) s = .next (finish (bump F.enc_STAT_GLITCH n s)))

/-- R284 to R286, Table MF-10: a resolver tracker for which a sampling position waits takes, at the next edge of its group, the angle of its two channels,
negated at the second position of the period: ANGLE moves by the nearer way to an angle that ends in it, and AMP takes the amplitude. The angle of a
vector on an axis is exact. Completes: resolverSample. Model's choices: log entries 15, 20, 126. -/
def Obligations.ResolverTracker : Prop :=
  (∀ (r g t0 : Nat) (neg : Bool) (b : ModEdge) (s : State), r < 8 → PlainGroup g s → OnlyChecks g 8 8 s → trkReads r g s = true →
    rdB F.grp_CTL_CLKMODE g s = false → (s.grp g).lost = false → (s.grp g).strobe = none →
    ((s.grp g).edges + 1) % rd F.grp_CTL_DEC g s ≠ 0 → grpWarm g s ≤ (s.grp g).edges + 1 → s.tbs = [] →
    (s.trk r).due = some (t0, neg) → t0 ≤ s.clock.tick → (∀ k, k < 8 → k ≠ r → (s.trk k).due = none) → (s.trk r).seen = true →
    let sgn : Int := if neg then -1 else 1
    ∃ t, ∃ step : Int, ∃ w : State, exec (.resolverSample r [b]) s = .next (finish t) ∧ (t.trk r).seen = true ∧ (t.trk r).due = none ∧
      rd F.rt_ANGLE r t % 2 ^ 24 = (angleOf (sgn * (chanZ (8 * g + rd F.rt_CTL_CH_A r s) t).1) (sgn * (chanZ (8 * g + rd F.rt_CTL_CH_B r s) t).1) w).1 % 2 ^ 24 ∧
      -2 ^ 23 ≤ step ∧ step < 2 ^ 23 ∧
      rd F.rt_ANGLE r t = lowBits 36 ((rd F.rt_ANGLE r s : Int) + step) ∧
      (rd F.rt_AMP_VAL r t < rd F.rt_AMP_WIN_AMIN r s → rd F.rt_STAT_FAULT r t = 1)) ∧
  ∀ (n : Int) (s : State), 0 < n → (angleOf 0 n s).1 = 0 ∧ (angleOf n 0 s).1 = 2 ^ 22 ∧ (angleOf 0 (-n) s).1 = 2 ^ 23 ∧ (angleOf (-n) 0 s).1 = 3 * 2 ^ 22

/-- R296 to R298, R300, R301, R306, R307, Tables EV-2, EV-3: a well-formed item at the head of a command queue is popped whole and applied. EDGE_T at a
device time at least 16 ns ahead, and 2 ns after the pin's edge before, joins the pin's list; one that is late is counted, and placed, under PLACE, at
the later of 16 ns ahead and 2 ns after the edge before, with an event; otherwise it is dropped, with an event. EDGE_A on a moving timebase that has
not reached its target gets its time by the triple in force. CMP and CGSET set a shadow, and COMMIT the commit latch. An undefined TYPE is discarded,
counted and told. Completes: edgeT, edgeA, cmp, cgset. Model's choices: log entry 124. -/
def Obligations.CommandItems : Prop :=
  ∀ (q : Nat) (h : Word) (ws : List Word) (s : State), q < 8192 → clocksOn s = true → isCommandQueue q s = true → consPath s q = true →
    (s.queue q).copyBad = false → headItem q s = some (h :: ws) →
    let ty := h.toNat / 2 ^ 32
    let commit := h.toNat / 2 ^ 24 % 2 = 1
    let p := h.toNat / 2 ^ 25 % 128
    let x := s.evPin p
    let level := h.toNat / 2 ^ 22 % 4
    let popped := (popItem q (ws.length + 1) s).2
    let prev := lastEdge p popped
    let soon : Int := popped.now8 + 128
    let add (e : Edge) (t : State) : State := t.modEvPin p (fun x => { x with edges := x.edges ++ [e] })
    (∀ a b, ty = 1 → ws = [a, b] → edgeItemOk q h 3 s = true → x.edges.length < 8 →
      let e : Edge := { at_ := 0, den := 1, dev := some (a.toNat * 2 ^ 36 + b.toNat), ang := none, level := level, lock := false, held := false }
      let t := edgeTime e popped
      let late := bump F.pin_PIN_STAT_LATE p popped
      (soon * t.2 ≤ t.1 → (∀ y, prev = some y → (y.1 + 16 * y.2) * t.2 ≤ t.1 * y.2) → exec (.edgeT q) s = .next (finish (add e popped))) ∧
      (t.1 < soon * t.2 → rdB F.pin_PIN_CTL_EDGE_LATE p late = false →
        let z : Int × Int := match prev with
          | some y => if soon * y.2 ≤ y.1 + 16 * y.2 then (y.1 + 16 * y.2, y.2) else (soon, 1)
          | none => (soon, 1)
        exec (.edgeT q) s = .next (finish (add { at_ := z.1, den := z.2, dev := none, ang := none, level := level, lock := true, held := false }
          (postEvent (2 + p / 64) 9 p 1 late)))) ∧
      (t.1 < soon * t.2 → rdB F.pin_PIN_CTL_EDGE_LATE p late = true →
        exec (.edgeT q) s = .next (finish (postEvent (2 + p / 64) 9 p 2 (bump F.pin_PIN_STAT_DROPPED p late))))) ∧
    (∀ a, ty = 2 → ws = [a] → edgeItemOk q h 2 s = true → x.edges.length < 8 →
      let n := h.toNat / 2 ^ 16 % 64
      let d := (popped.tb n).d
      let gap := signedMod 60 ((a.toNat : Int) * 2 ^ 24 - tbPos n popped)
      let at_ := popped.now8 * |d| + |gap| * 8
      (popped.tb n).v > 0 → 0 < d → 0 < (a - tbPub n s).toInt → 0 < (a - tbPub n popped).toInt → 0 < gap →
      (∀ y, prev = some y → (y.1 + 16 * y.2) * |d| ≤ at_ * y.2) →
      exec (.edgeA q) s = .next (finish (add { at_ := at_, den := |d|, dev := none, ang := some (n, a, (a - tbPub n s).toInt), level := level, lock := false,
                                               held := false } popped))) ∧
    (∀ c, ty = 3 → ws = [c] → cmpItemOk q [h, c] s = true →
      let t := wr F.pin_CMP_SH_VAL p (c.toNat % 2 ^ 25) (noteCmp p popped)
      exec (.cmp q) s = .next (finish (if commit then setCommit (pinGen p s) t else t))) ∧
    (∀ v, ty = 4 → ws = [v] → cgsetItemOk q [h, v] s = true →
      let g := h.toNat / 2 ^ 25 % 64
      domOn (bankDomain (g / 16)) popped = true →
      let t := wr F.gen_PER_SH_VAL g (v.toNat % 2 ^ 32) (notePer g popped)
      exec (.cgset q) s = .next (finish (if commit then setCommit g t else t))) ∧
    (ty = 0 ∨ 4 < ty →
      let t := postEvent (2 + q / 4096) 10 (q % 256) 1 (bump (if q < 4096 then F.evo_CMD_STAT_BAD_E else F.evo_CMD_STAT_BAD_W) 0 popped)
      ∀ c ∈ [Instr.edgeT q, .edgeA q, .cmp q, .cgset q], exec c s = .next (finish t))

/-- R295, R299, R303 to R305, Table EV-1: pins outside a pair. EDGE_PLACE places a due edge of an EDGE pin at the level it names, a toggle at the inverse
of the level placed last; EDGE_LOCK locks an edge on a timebase within 64 ns; CARRIER_EDGE takes a locked edge; a write of PIN_CTL that makes a pin
STATIC drives LEVEL. The end of a dead time makes the pin active, or is suppressed when the pulse left would be shorter than 2 ns. R305: the
underlying level of a pin. A change to inactive shows at once and drops a change that waits, which is counted; a change to active of a pin of a pair
with a dead time waits for that, and shows at once otherwise, but that a pair without dead time suppresses a pulse below 2 ns and counts it. The odd
pin takes the inverse level. Completes: edgePlace, edgeLock, carrierEdge, pinCtlWrite, deadTimeExpire. Model's choices: log entries 108, 124. -/
def Obligations.PinRows : Prop :=
  ((∀ (p : Nat) (s : State), p < 128 → clocksOn s = true → domOn (bankDomain (p / 32)) s = true → InOrder s → oddOfPair p s = false → evenOfPair p s = false →
     let x := s.evPin p
     let driven (l : Bool) (x : Pin) : Pin := if l then { x with under := true, out := true } else if x.under then { x with under := false, out := false } else x
     (∀ e, x.edges = [e] → e.held = false → edgeAt e s ≤ s.now8 + 7 → rd F.pin_PIN_CTL_MODE p s = 2 → x.safe = false → x.delay = none →
       let lvl := if e.level = 2 then !x.placed else e.level == 1
       exec (.edgePlace p) s = .next (finish (s.setEvPin p (driven lvl { x with edges := [], placed := lvl, prev := some (edgeTime e s) })))) ∧
     (∀ e, x.edges = [e] → e.ang.isSome = true → e.held = false → edgeAt e s ≤ s.now8 + 512 →
       exec (.edgeLock p) s = .next (finish (s.setEvPin p { x with edges := [{ e with lock := true }] }))) ∧
     (∀ z lvl r, rd F.pin_PIN_CTL_MODE p s = 3 → x.follow = true → x.locks = (z, lvl) :: r → z ≤ s.now8 + 7 → x.delay = none →
       exec (.carrierEdge p) s = .next (finish (s.setEvPin p (driven lvl { x with locks := r })))) ∧
     (∀ v : Word, modeOf s ≠ 0 → rd F.pin_PIN_CTL_MODE p s ≤ 1 → v.toNat % 8 = 1 → v.toNat / 2 ^ 11 % 2 = 0 → x.delay = none →
       x.safe = false → (s.evPin (p + 1)).safe = false →
       let lvl := v.getLsbD 28
       let t := storeReg .pin p 0 v s
       exec (.pinCtlWrite p v) s = .next (finish (if x.under = lvl ∧ (lvl = true → x.out = true) then t else t.setEvPin p { x with under := lvl, out := lvl })))) ∧
   ∀ (p : Nat) (z : Int) (s : State), p < 128 → clocksOn s = true → domOn (bankDomain (p / 32)) s = true → (s.evPin p).delay = some z → z ≤ s.now8 + 7 →
     exec (.deadTimeExpire p) s = .next (finish (if fallsSoon p z s then bump F.pin_PIN_STAT_SUPPR p (s.modEvPin p (fun x => { x with delay := none }))
       else s.modEvPin p (fun x => { x with delay := none, out := true })))) ∧
  ∀ (p : Nat) (lvl : Bool) (z : Int) (s : State), InOrder s → (s.evPin p).under = !lvl →
    let x := s.evPin p
    let t := setUnder p lvl z s
    (lvl = false → t.evPin p = { x with under := false, out := false, delay := none } ∧
      rd F.pin_PIN_STAT_SUPPR p t = if x.delay.isSome then min (rd F.pin_PIN_STAT_SUPPR p s + 1) 511 else rd F.pin_PIN_STAT_SUPPR p s) ∧
    (lvl = true → pinDt p s = 0 →
      t = if (oddOfPair p s || evenOfPair p s) && fallsSoon p z s then bump F.pin_PIN_STAT_SUPPR p (s.setEvPin p { x with under := true })
        else s.setEvPin p { x with under := true, out := true }) ∧
    (lvl = true → pinDt p s ≠ 0 → t = s.setEvPin p { x with under := true, delay := some (z + pinDt p s) }) ∧
    (evenOfPair p s = true → setLead p lvl z s = setUnder (p + 1) (!lvl) z t)

/-- R303, R304, R306 to R308, R525, R526, Tables EV-4, EV-11: generators whose pins are not in CARRIER mode. A write of CG_CTL that sets EN starts a time
generator at PHASE from now with PER_ACT = PER_SH, or lets it wait for the second under ALIGN, is refused with PER_SH below 512, and one that clears
EN stops it. A write of PHASE of a stopped one is stored. COMMIT_SET sets the latch. A locked hand-over with the latch set for 4 ns makes the shadows
active (a new RATIO only at a cycle point); within 4 ns it is counted as late. The carrier of C = 0 is never active, and that of C ≥ 2²⁴ always.
Completes: cgCtlWrite, commitSet, handover. Model's choices: log entries 95, 108, 124. -/
def Obligations.GeneratorRows : Prop :=
  (∀ (g : Nat) (v : Word) (s : State), g < 64 → domOn (bankDomain (g / 16)) s = true → modeOf s ≠ 0 → InOrder s →
    (rdB F.gen_CG_CTL_EN g s = false → v.toNat % 4 = 1 →
      let s1 := storeReg .gen g 0 v s
      let s2 := wr F.gen_PER_ACT g (rd F.gen_PER_SH_VAL g s) s1
      let phase : Int := (rd F.gen_PHASE g s % 2 ^ 32 : Nat)
      let half : Int := if v.getLsbD 4 then 2 else 1
      (512 ≤ rd F.gen_PER_SH_VAL g s → v.getLsbD 5 = false → exec (.cgCtlWrite g 0 v) s = .next (finish (s2.modGen g (fun x =>
        { x with run := true, wait := false, t0 := 2 * (s.now8 + phase), idx := half * (-(2 * phase)) / (2 * (rd F.gen_PER_SH_VAL g s : Int)), lock := none, lead := 0 })))) ∧
      (512 ≤ rd F.gen_PER_SH_VAL g s → v.getLsbD 5 = true →
        exec (.cgCtlWrite g 0 v) s = .next (finish (s2.modGen g (fun x => { x with run := true, wait := true, lock := none, lead := 0 })))) ∧
      (rd F.gen_PER_SH_VAL g s < 512 → ∃ t, exec (.cgCtlWrite g 0 v) s = .next (finish t) ∧ rd F.gen_CG_CTL_EN g t = 0 ∧
        rd F.gen_CG_CTL_SRC g t = rd F.gen_CG_CTL_SRC g s ∧ t.gens = s.gens)) ∧
    (rdB F.gen_CG_CTL_EN g s = true → v.toNat % 2 = 0 → ∃ t, exec (.cgCtlWrite g 0 v) s = .next (finish t) ∧ rdB F.gen_CG_CTL_EN g t = false ∧
      (t.gen g).run = false ∧ (t.gen g).wait = false ∧ (t.gen g).lock = none) ∧
    ((s.gen g).run = false → exec (.cgCtlWrite g 3 v) s = .next (finish (s.setReg (keyOf .gen g 3) v))) ∧
    exec (.commitSet g) s = .next (finish (wr F.gen_COMMIT_PENDING g 1 (s.modGen g (fun x => { x with setAt := s.clock.tick }))))) ∧
  (∀ (g : Nat) (z : Int) (s : State), g < 64 → clocksOn s = true → domOn (bankDomain (g / 16)) s = true → InOrder s → genPins g s = [] →
    rdB F.gen_COMMIT_PENDING g s = true →
    let x := s.gen g
    rdB F.gen_CG_CTL_SRC g s = false ∨ ratioOf (perShadow g s) = genPer g s ∨ isCyclePoint g (x.idx + 1) s = true →
    x.lock = some (z, 1) → z ≤ s.now8 + 7 → (∀ o, x.shWas ≠ some (s.clock.tick, o)) → (∀ p o, (s.evPin p).shWas ≠ some (s.clock.tick, o)) →
    ∃ t, exec (.handover g) s = .next (finish t) ∧ rd F.gen_POS_PERIODS g t = (rd F.gen_POS_PERIODS g s + 1) % 4096 ∧
      (x.setAt + 4 ≤ s.clock.tick → rdB F.gen_COMMIT_PENDING g t = false ∧ rd F.gen_PER_ACT g t = rd F.gen_PER_SH_VAL g s ∧
        rd F.gen_CG_STAT_COMMITS g t = min (rd F.gen_CG_STAT_COMMITS g s + 1) (2 ^ 18 - 1) ∧
        ∀ i, i < 32 → let p := 32 * (g / 16) + i; pinGen p s = g → rd F.pin_CMP_ACT p t = rd F.pin_CMP_SH_VAL p s) ∧
      (s.clock.tick < x.setAt + 4 → rdB F.gen_COMMIT_PENDING g t = true ∧ rd F.gen_PER_ACT g t = rd F.gen_PER_ACT g s ∧
        rd F.gen_CG_STAT_LATE_COMMIT g t = min (rd F.gen_CG_STAT_LATE_COMMIT g s + 1) (2 ^ 18 - 1))) ∧
  ∀ (shape c : Nat) (num den dir : Int), 0 ≤ num → num < den →
    shapeActive shape 0 num den dir = false ∧ (2 ^ 24 ≤ c → shapeActive shape c num den dir = true)

/-- R30, R293, R309 to R315, Tables EV-5, EV-6, EV-10: Reel. FLT_N below its level is a source of every bank that names it; a source sets the latch of a
powered bank, which records the first one with its time. A further source sets MORE. A software trip records kind 4 with the bank. A clear with no
enabled source active, no software trip in its tick, no fence and no SAFE clears the latch, and is refused with CLR_FAIL otherwise. A write of a
source register with no source active only stores it. A pin that a set latch covers shows its SAFE level; a pin outside COVER shows its own.
Completes: fltNFall, fltNRise, softwareTrip, tripClear, reelSourceWrite. Model's choices: log entry 125. -/
def Obligations.ReelRows : Prop :=
  (∀ (b kind inst : Nat) (s : State), b < 4 → InOrder s → domOn (bankDomain b) s = true → rdB F.bank_TRIP_LATCHED b s = false →
    evtQueue (2 + b / 2) s = none → inst < 128 → kind < 16 →
    let t := setLatch b kind inst s
    rdB F.bank_TRIP_LATCHED b t = true ∧ rd F.bank_TRIP_REC_KIND b t = kind ∧ rd F.bank_TRIP_REC_INST b t = inst ∧ rd F.bank_TRIP_T b t = s.timeF ∧
      rd F.bank_TRIP_REC_COUNT b t = min (rd F.bank_TRIP_REC_COUNT b s + 1) 511) ∧
  (∀ (n : Nat) (s : State), n < 8 → s.pins.fltLow.testBit n = false →
    let t : State := { s with pins := { s.pins with fltLow := s.pins.fltLow ||| 2 ^ n } }
    let latched (b : Nat) (u : State) : State := if srcEnabled b 2 n u then setLatch b 2 n u else u
    exec (.fltNFall n) s = .next (finish (latched 3 (latched 2 (latched 1 (latched 0 t))))) ∧
    (∀ b, b < 4 → srcEnabled b 2 n s = (rd F.bank_SRC1_FLT b s).testBit n)) ∧
  (∀ (n : Nat) (s : State), n < 8 → exec (.fltNRise n) s = .next (finish { s with pins := { s.pins with fltLow := s.pins.fltLow &&& (255 - 2 ^ n) } })) ∧
  (∀ (b : Nat) (s : State), b < 4 → domOn (bankDomain b) s = true → modeOf s ≠ 0 →
    exec (.softwareTrip b 1) s =
      .next (finish ((setLatch b 4 b (storeReg .bank b 7 1 s)).modBank b (fun x => { x with swAt := some s.clock.tick })))) ∧
  (∀ (b kind inst : Nat) (s : State), domOn (bankDomain b) s = true → rdB F.bank_TRIP_LATCHED b s = true → kind ≤ 4 →
    setLatch b kind inst s = wr F.bank_TRIP_MORE b 1 s) ∧
  (∀ (b : Nat) (s : State), b < 4 → domOn (bankDomain b) s = true → modeOf s ≠ 0 → InOrder s →
    (clearBlocked b s = true → ∃ t, exec (.tripClear b) s = .next (finish t) ∧ rdB F.bank_TRIP_CLR_FAIL b t = true ∧
      rd F.bank_TRIP_LATCHED b t = rd F.bank_TRIP_LATCHED b s ∧ t.banks = s.banks ∧ t.evPins = s.evPins) ∧
    (clearBlocked b s = false → rdB F.bank_TRIP_LATCHED b s = true → rdB F.bank_BANK_CTL_RELEASE b s = false →
      ∃ t, exec (.tripClear b) s = .next (finish t) ∧ rdB F.bank_TRIP_LATCHED b t = false ∧ (t.bank b).all = false ∧
        ∀ p, p < 128 → t.evPin p = if p / 32 = b ∧ covered p s = true then { s.evPin p with safe := false } else s.evPin p)) ∧
  (∀ (b r : Nat) (v : Word) (s : State), b < 4 → r < 5 → domOn (bankDomain b) s = true → modeOf s ≠ 0 →
    activeSources b (storeReg .bank b (2 + r) v s) = [] → exec (.reelSourceWrite b r v) s = .next (finish (storeReg .bank b (2 + r) v s))) ∧
  ∀ (p : Nat) (s : State), domOn (bankDomain (p / 32)) s = true → rdB F.bank_TRIP_LATCHED (p / 32) s = true → (s.bank (p / 32)).all = false →
    ((rd F.bank_COVER_MASK (p / 32) s).testBit (p % 32) = true → padLevel p s =
      if rd F.pin_PIN_CTL_SAFE p s = 0 then some false else if rd F.pin_PIN_CTL_SAFE p s = 1 then some true else none) ∧
    ((rd F.bank_COVER_MASK (p / 32) s).testBit (p % 32) = false → pinMode p s ≠ 0 → (s.evPin p).safe = false →
      padLevel p s = some ((s.evPin p).out != rdB F.pin_PIN_CTL_ACTIVE p s))

/-- R289, R317, Tables MF-4, EV-7: an event of a die's front or event outputs, with no other held and none open. Its item is a header of kind, instance
and code, and TIME_F; it is pushed into the queue bound, held when that has no room, and dropped and counted when there is none. A second one of the
same kind, instance and code within 1 µs merges into it. -/
def Obligations.EventPosting : Prop :=
  ∀ (e kind inst code : Nat) (s : State), e < 4 → (e < 2 → rd F.mfr_EVT_CTL_EN 0 s ≠ 0) → (s.evt e).held = none →
    let key := kind * 65536 + inst * 256 + code
    let item := [BitVec.ofNat 36 (kind * 2 ^ 32 + inst * 2 ^ 24 + code * 2 ^ 16), BitVec.ofNat 36 s.timeF]
    let opened (held : Option (List Word)) : State := s.setEvt e { held := held, groups := [(key, s.clock.tick)] }
    ((s.evt e).groups = [] →
      (evtQueue e s = none → postEvent e kind inst code s = bump (if e = 0 then F.mfr_EVT_STAT_DROPPED_E else if e = 1 then F.mfr_EVT_STAT_DROPPED_W
        else if e = 2 then F.evo_EVT_STAT_DROPPED_E else F.evo_EVT_STAT_DROPPED_W) 0 (opened none)) ∧
      ∀ q, evtQueue e s = some q →
        (canPushWord s q = true → postEvent e kind inst code s = pushItem q item (opened none)) ∧
        (canPushWord s q = false → InOrder s → postEvent e kind inst code s = opened (some item))) ∧
    ∀ z, (key, z) ∈ (s.evt e).groups → s.clock.tick < z + 1000 → postEvent e kind inst code s = s

/-- R319, R321, Table MM-1: an error in any one of the 276 positions of a codeword is corrected, the check bits and PB included. R319, R321, R322, Table
MM-1: two errors are corrected; three are uncorrectable: the data stays as received and is poisoned. -/
def Obligations.CodeCorrects : Prop :=
  (∀ (data : Granule) (pb : Bool) (i : Nat), i < 276 → decodeCode data pb (2 ^ i) = (if pb then .poisoned else .one, data, pb, 1)) ∧
  ∀ (data : Granule) (pb : Bool) (i j k : Nat), i < j → j < k → k < 276 →
    decodeCode data pb (2 ^ i ^^^ 2 ^ j) = (if pb then .poisoned else .two, data, pb, 2) ∧
    decodeCode data pb (2 ^ i ^^^ 2 ^ j ^^^ 2 ^ k) = (.bad, data ^^^ codeData (2 ^ i ^^^ 2 ^ j ^^^ 2 ^ k), true, 0)

/-- R4, R320, R325: a word stored in a granule reads back and leaves the other words and the tag; a granule stored whole reads back as a valid codeword
and leaves every byte of every other granule; so does a store that merges. -/
def Obligations.GranuleStores : Prop :=
  (∀ (v : Granule) (i j : Nat) (w : Word), i < 7 → j < 7 →
    granWord (granSetWord v i w) i = w ∧ (j ≠ i → granWord (granSetWord v i w) j = granWord v j) ∧ granTag (granSetWord v i w) = granTag v) ∧
  (∀ (g : Nat) (v : Granule) (pb : Bool) (s : State), InOrder s →
    let t := s.setCode g v pb
    t.granBits g = v ∧ t.pb g = pb ∧ t.err g = 0 ∧ ∀ h, h ≠ g → t.granBits h = s.granBits h ∧ t.pb h = s.pb h ∧ t.err h = s.err h) ∧
  ∀ (g a : Nat) (f : Granule → Granule) (s : State), a / 32 ≠ g → (mergeGran g f s).byte a = s.byte a

/-- R320 to R324, R327, R333, R335, R338, Tables MM-1, MM-2, MM-8: the scrubber reads its next granule, acts on what it finds, and goes on; the last
granule ends a pass. TAG_WR replaces a tag. A verified program is done, a failed one is counted and repeated up to three times, and then is an
IMEM_BANK fault of the cluster. BIT_ERROR flips codeword bits of a granule, makes the copies of a heap entry or of a C-queue's fields differ, and
strikes the next source granule of a DMA channel and the answer to a remote load. Completes: scrubRead, tagWr, mramProgramDone, bitError. Model's
choices: log entries 2, 47, 63, 86. -/
def Obligations.MemoryRows : Prop :=
  (∀ (m : Nat) (s : State), m < 65 → scrubOn m s = true →
    let base := if m < 32 then dmemG m 0 else if m < 64 then imemG (m - 32) 0 else keepG 0
    let size := if m < 32 then 32768 else if m < 64 then 65536 else 16384
    let period := if m < 32 then rd F.clu_SCRUB_CTL_DMEM_PER m s else if m < 64 then rd F.clu_SCRUB_CTL_IMEM_PER (m - 32) s else rd ⟨.pwr, 484, 0, 10⟩ 0 s
    let p := Sparse.get 0 m s.scrub
    let r := readGran (base + p) s
    let y := if r.out = .poisoned then countDecode (base + p) .poisoned s else r.st
    period ≠ 0 → r.out ≠ .bad →
    (p + 1 < size → exec (.scrubRead m) s = .next (finish { y with scrub := Sparse.put 0 m (p + 1) y.scrub })) ∧
    (p + 1 = size → m < 32 →
      exec (.scrubRead m) s = .next (finish (bump F.clu_SCRUB_STAT_DMEM_PASSES m { y with scrub := Sparse.put 0 m 0 y.scrub })))) ∧
  (∀ (c : Nat) (v : Word) (s : State), c < 32 → domOn c s = true → modeOf s ≠ 0 →
    let g := v.toNat / 16 % 65536
    let tag (x : Granule) : Granule := granPut x 252 4 (v.toNat % 16)
    (v.toNat / 2 ^ 21 % 2 = 0 → g < 32768 → exec (.tagWr c v) s = .next (finish (mergeGran (dmemG c g) tag s))) ∧
    (v.toNat / 2 ^ 21 % 2 = 1 → exec (.tagWr c v) s = .next (finish (mergeGran (imemG c g) tag s)))) ∧
  (∀ (c : Nat) (p : Prog) (s : State), c < 32 → oldestProgram c s = some p → s.host.cmds = [] →
    exec (.mramProgramDone c true) s = .next (finish { s with program := s.program.erase p }) ∧
    (p.n < 3 → exec (.mramProgramDone c false) s = .next (finish (bump F.clu_IMEM_WR c (bump F.clu_WR_STAT_VERIFY_RETRY c
      { s with program := s.program.map (fun q => if q = p then { q with n := q.n + 1 } else q) })))) ∧
    (3 ≤ p.n → s.start.step < 4 ∨ p.by_ ≠ 65 → ∃ t, exec (.mramProgramDone c false) s = .next (finish t) ∧ t.program = s.program.erase p ∧
      t.raised = s.raised ++ [{ scope := { lvl := 1, i := (p.g - imemBase) / 65536 }, cause := 17, notice := false, reason := 0, prec := false, slot := 0,
                                detail := 0, pc := 0, addr := 0, word := (p.g - imemBase) % 65536 % 16 * 2 ^ 16 + (p.g - imemBase) % 65536 }])) ∧
  ∀ (a mask : Nat) (s : State), 0 < mask → mask < 2 ^ 276 →
    (a < keepG 16384 → exec (.bitError 0 a mask) s = .next (finish (s.setErr a (s.err a ^^^ mask)))) ∧
    (a < 4096 → exec (.bitError 4 a mask) s = .next (finish (s.modHeap a (fun h => { h with bad := true })))) ∧
    (a < 8192 → qCap s a ≠ 0 → qIsD s a = false → exec (.bitError 3 a mask) s = .next (finish (s.modQueue a (fun x => { x with copyBad := true })))) ∧
    (a < 64 → exec (.bitError 6 a mask) s = .next (finish (s.modChDma a (fun x => { x with errs := x.errs ^^^ mask })))) ∧
    (a < 4096 → exec (.bitError 8 a mask) s = .next (finish (s.modCtx a (fun x =>
      { x with rload := x.rload.map (fun r => { r with errs := r.errs ^^^ mask }) }))))

/-- R351 to R357, R360, R361, R363, R366, R379, Tables QU-1, QU-11: rows of a queue that no stream, event source, DMA channel or host command uses.
PUSH_VISIBLE lands the oldest push: a word in the open cell or in a new one, a granule in a cell of its own. CREDIT_RETURN gives a credit back. The
end of a mismatch reset's reclaim restores the credits. A flush empties the queue, discards what is still coming of its open item, and tells both
ends. MARK_CLR releases the mark. Completes: pushVisible, creditReturn, mismatchReclaimDone, queueFlushWrite, markClr. Model's choices: log entries
37, 38, 120. -/
def Obligations.QueueRows : Prop :=
  ∀ (q : Nat) (s : State), q < 8192 → InOrder s → s.host.cmds = [] → domOn 40 s = false → prodPath s q = true →
    (∀ e, e < 4 → evtQueue e s ≠ some q) → (∀ k, k < 48 → streamQueue (k / 4) (k % 4) s ≠ some q) →
    let x := s.queue q
    (x.copyBad = false → x.discard = false → x.skip = false → x.resetting = false →
      (∀ v e pb cr rest c, x.transit = .word v e pb cr :: rest → x.cells.getLast? = some c → c.closed = false →
        let c' := { c with ws := c.ws ++ [v], e := e, pb := c.pb || pb, closed := e || decide (c.ws.length + 1 = 7) }
        exec (.pushVisible q) s = .next (finish (settle q (s.setQueue q { x with transit := rest, cells := x.cells.dropLast ++ [c'], open_ := !e })))) ∧
      (∀ v e pb cr rest, x.transit = .word v e pb cr :: rest → (∀ c, x.cells.getLast? = some c → c.closed = true) → cellFree s q = true →
        let c : QCell := { ws := [v], e := e, closed := e, pb := pb, err := 0, checked := false, orig := none }
        exec (.pushVisible q) s = .next (finish (settle q (s.setQueue q { x with transit := rest, open_ := !e, poolWait := false, cells := x.cells ++ [c] })))) ∧
      (∀ g pb cr rest, x.transit = .gran g pb cr :: rest → granTag g % 8 ≠ 0 → cellFree s q = true →
        let c : QCell := { ws := granWords g (granTag g % 8), e := decide (8 ≤ granTag g), closed := true, pb := pb, err := 0, checked := false,
                           orig := none }
        exec (.pushVisible q) s = .next (finish (settle q (s.setQueue q
          { x with transit := rest, open_ := !c.e, poolWait := false, cells := x.cells ++ [c] }))))) ∧
    (0 < x.back → exec (.creditReturn q) s = .next (finish (s.setQueue q { x with back := x.back - 1 }))) ∧
    (x.resetting = true → exec (.mismatchReclaimDone q) s = .next (finish (s.setQueue q { x with resetting := false, reclaim := 0 }))) ∧
    (domOn (48 + q / 4096) s = true → modeOf s ≠ 0 → qCap s q ≠ 0 →
      (x.copyBad = false → exec (.queueFlushWrite q (BitVec.ofNat 36 128)) s = .next (finish (bump F.desc_CNT_FLUSHES q (s.setQueue q
        { x with cells := [], rdc := 0, rdw := 0, mark := none, back := x.back + x.cells.length, skip := false, discard := x.discard || x.open_, open_ := false,
                 flagsP := x.flagsP ||| 4, flagsC := x.flagsC ||| 4 })))) ∧
      (qIsD s q = true → exec (.markClr q) s = .next (finish (s.setQueue q { x with cells := x.cells.drop x.rdc, back := x.back + x.rdc, rdc := 0, mark := none }))))

/-- R353 to R356, R358, R363, R365: what a queue holds. Cells, pushes on their way and credits on their way back together never hide a credit: CRED is CAP
less those. A pop takes the words of a cell in order, and the cell's credit goes back with its last word unless a mark retains it; a rewind brings the
read position back to the mark. -/
def Obligations.QueueWords : Prop :=
  (∀ (q : Nat) (v : Word) (s : State), (s.queue q).copyBad = false → (s.queue q).resetting = false → (s.queue q).cells ≠ [] →
    let x := s.queue q
    ∀ c, x.rdc < x.cells.length → x.cells[x.rdc]? = some c → c.closed = true → c.checked = true → c.err = 0 → c.ws[x.rdw]? = some v → InOrder s →
    (x.rdw + 1 < c.ws.length → popWord q s = (some v, s.setQueue q { x with rdw := x.rdw + 1, last := v })) ∧
    (x.rdw + 1 = c.ws.length → x.mark = none → x.cells = [c] → x.rdc = 0 →
      popWord q s = (some v, s.setQueue q { x with cells := [], back := x.back + 1, rdw := 0, last := v }))) ∧
  (∀ (q : Nat) (v : Word) (e : Bool) (s : State), InOrder s → (s.queue q).fill = 0 → (s.queue q).cut = false → (s.queue q).mark = none →
    let t := pushWord q v e s
    t.queue q = { s.queue q with transit := (s.queue q).transit ++ [.word v e false true], fill := if e then 0 else 1 } ∧ qCred t q = qCred s q - 1) ∧
  ∀ (q m : Nat) (s : State), (s.queue q).mark = some m →
    let x := s.queue q
    let n := ((x.cells.take x.rdc).map (·.ws.length)).sum + x.rdw - m
    rewindQueue q s = (BitVec.ofNat 36 (min n 524287 * 2 ^ 17), settle q (s.setQueue q { x with cells := x.cells.map QCell.stored, rdc := 0, rdw := m }))

/-- R368, R375 to R377, Table QU-6: crossings. A reset that a side asserts is seen: it empties the crossing, and the peer's is counted and aborts the
items of the producers behind it; with its end, when no side is held in reset, traffic crosses again. An acknowledge ends the phase of the oldest
toggle, and sends the pulse that waits behind it. Completes: crossingResetSeen, crossingResetEndSeen, crossingAcknowledge. Model's choices: log
entries 85, 104, 116, 123. -/
def Obligations.CrossingRows : Prop :=
  ∀ (d i : Nat) (s : State), crossingAt d i = true →
    let k := 10 * d + i
    let x := s.xing k
    let seen := wr (F.qpl_XING_STAT_REALIGN.nth i) d 1 (s.setXing k { x with phase := [], held := [], reset := true })
    (x.reset = false → x.near = true → exec (.crossingResetSeen d i) s = .next (finish seen)) ∧
    (x.reset = false → x.near = false → x.far = true → queuesWith s 1 (behindCrossing d i) = [] →
      exec (.crossingResetSeen d i) s = .next (finish (bump (F.qpl_XING_STAT_PEER_RESETS.nth i) d seen))) ∧
    (x.reset = true → x.far = false ∨ farHeld d i s = false → exec (.crossingResetEndSeen d i) s =
      .next (finish (wr (F.qpl_XING_STAT_REALIGN.nth i) d 0 (s.setXing k { x with reset := false, near := false, far := false })))) ∧
    ∀ cid l, x.phase = cid :: l → (∀ r ∈ s.reqs, r.cid ≠ cid) →
      ((∀ r ∈ x.held, r.cid ≠ cid) → exec (.crossingAcknowledge d i) s = .next (finish (s.setXing k { x with phase := l }))) ∧
      ∀ r h, x.held = r :: h → r.cid = cid →
        exec (.crossingAcknowledge d i) s = .next (finish { s.setXing k { x with phase := l ++ [cid], held := h } with reqs := s.reqs ++ [r] })

/-- R380, R383 to R392, R396, R397, R399, R400, Tables DM-2 to DM-4, DM-6: a DMA channel. DMA_GO of an enabled IDLE channel clears DONE and fetches the
descriptor at HEAD; of another it sets GO_LOST. A descriptor that passes the checks starts its reads, one with a reserved bit ends with FORMAT. A read
of a COPY between memories, on its way or next in turn, is issued to its destination; its response writes the granule and counts it in DONE. The
record stands in its ring, TAIL and SEQ advance, and the chain goes on at NEXT or ends. DMA_DISABLE ends a transfer with status ABORTED once its
writes are answered. A write of CQ_HEAD moves the head within the records. Completes: dmaGo, descArrive, dmaReadComplete, dmaWriteResponse,
dmaRecordAnswered, dmaDisable, dmaCqHeadWrite. Model's choices: log entries 59, 86, 120, 129, 130. -/
def Obligations.DmaRows : Prop :=
  ∀ (c : Nat) (s : State), c < 64 → domOn 40 s = true → clocksOn s = true → modeOf s ≠ 0 → InOrder s →
    let x := s.chDma c
    let g := x.desc
    let plain : Prop := dOp g = 0 ∧ dSrcQ g = false ∧ dDstQ g = false
    (∀ v : Word, v.toNat % 4 = 3 →
      (chState c s = 0 → (∀ d, d < 41 → heldStill d s = false) →
        ∃ t, exec (.dmaGo c v) s = .next (finish t) ∧ chState c t = 1 ∧ rd F.ch_CH_CUR_ADDR c t = rd F.ch_CH_HEAD_ADDR c s ∧ rd F.ch_CH_DONE_DONE c t = 0 ∧
          rdB F.ch_CH_CTL_EN c t = true ∧ t.chDma c = Dma.init ∧ ∀ d, d ≠ c → t.chDma d = s.chDma d) ∧
      (chState c s ≠ 0 → exec (.dmaGo c v) s = .next (finish (wr F.ch_CH_STAT_GO_LOST c 1 (storeReg .ch c 0 v s))))) ∧
    (∀ a m, chState c s = 1 → rd F.ch_CH_CUR_ADDR c s = a → granAt a = some m → granOver a = some m → isImem m = false → granOn m s = true →
      dmaReaches m s = true →
      let r := readGran m s
      let s1 := countDma a r.out r.st
      r.pb = false →
      (checkDesc c r.data s1 = 0 → exec (.descArrive c) s = .next (finish (setChState c 2 (s1.setChDma c { Dma.init with desc := r.data, known := true })))) ∧
      (dfield r.data 0 20 1 = 1 → ringOn (dCq r.data) s = true → ∃ t, exec (.descArrive c) s = .next (finish t) ∧ (t.chDma c).status = 7 ∧ (t.chDma c).stop = true ∧ (t.chDma c).desc = r.data ∧
        (chState c t = 5 ∨ chState c t = 6))) ∧
    (∀ m, plain → chState c s = 2 → x.stop = false → x.buf = [] → x.out = [] → x.errs = 0 →
      x.asked = 1 ∨ (x.asked = 0 ∧ mayRead c s = true ∧ ∀ d, d < 64 → d ≠ c → mayRead d s = false) →
      granAt (dSrcAddr g x.reads) = some m → granOn m s = true → dmaReaches m s = true →
      dfield g 0 18 1 = 0 → dfield g 0 12 2 = 0 → (readGran m s).pb = false →
      ∃ t, exec (.dmaReadComplete c) s = .next (finish t) ∧ chState c t = (if x.reads + 1 = dLen g then 4 else 2) ∧
        t.chDma c = { x with asked := 0, reads := x.reads + 1, issued := x.issued ++ [(x.reads, (readGran m s).data, false)] } ∧
        ∀ d, d ≠ c → t.chDma d = s.chDma d) ∧
    (∀ i v pb l m, plain → x.issued = (i, v, pb) :: l → (∀ n, x.limit = some n → i < n) → granAt (dDstAddr g i) = some m → granOn m s = true →
      dmaReaches m s = true → ringOn (dCq g) s = true →
      ∃ t, exec (.dmaWriteResponse c true) s = .next (finish t) ∧ t.granBits m = v ∧ t.pb m = pb ∧ t.err m = 0 ∧
        (∀ h, h ≠ m → t.granBits h = s.granBits h ∧ t.pb h = s.pb h) ∧
        rd F.ch_CH_DONE_DONE c t = min (rd F.ch_CH_DONE_DONE c s + 1) (dLen g) ∧ t.chDma c = { x with issued := l, endDev := s.clock.dev }) ∧
    (∀ q m, chState c s = 5 → x.known = true → dCq g = q → rd F.cq_CQ_CFG_NOTIFY q s = 0 →
      let n := 2 ^ rd F.cq_CQ_CFG_SIZE_LOG q s
      let tail := rd F.cq_CQ_TAIL_TAIL q s
      let more := dChain g && x.status == 0 && !x.cut
      granAt (rd F.cq_CQ_BASE_ADDR q s + 7 * (tail % n)) = some m → granOn m s = true → isImem m = false →
      dmaReaches m s = true → ringOn q s = true →
      ∃ t, exec (.dmaRecordAnswered c) s = .next (finish t) ∧
        rd F.cq_CQ_TAIL_TAIL q t = (tail + 1) % (2 * n) % 2 ^ 13 ∧ rd F.ch_CH_STAT_SEQ c t = (rd F.ch_CH_STAT_SEQ c s + 1) % 2 ^ 16 ∧
        rd F.ch_CH_STAT_LAST_STATUS c t = x.status % 2 ^ 5 ∧
        t.granBits m = granOf ([tail / n % 2 * 2 ^ 35 + c * 2 ^ 29 + x.status * 2 ^ 24 + dOp g * 2 ^ 20 + (if x.poisoned then 2 ^ 19 else 0)
          + (if more then 0 else 2 ^ 18) + rd F.ch_CH_STAT_SEQ c s, rd F.ch_CH_CUR_ADDR c s, rd F.ch_CH_DONE_DONE c s, x.endDev / 2 ^ 65, x.endDev / 2 ^ 29,
          x.faultAddr, dfield g 6 0 36].map (BitVec.ofNat 36)) 0 ∧
        (more = true → chState c t = 1 ∧ rd F.ch_CH_CUR_ADDR c t = dNext g) ∧
        (more = false → chState c t = 0 ∧ rd F.ch_CH_HEAD_ADDR c t = dNext g ∧ t.chDma c = Dma.init)) ∧
    (∀ v : Word, plain → v.toNat % 4 = 0 → chState c s = 2 → x.issued ≠ [] →
      ∃ t, exec (.dmaDisable c v) s = .next (finish t) ∧ rdB F.ch_CH_CTL_EN c t = false ∧ chState c t = 4 ∧
        t.chDma c = { x with buf := [], out := [], asked := 0, cut := true, status := 1, stop := true, endDev := s.clock.dev }) ∧
    ∀ (q : Nat) (v : Word), q < 8 → (∀ d, d < 64 → chState d s ≠ 6) →
      let h := v.toNat % 2 ^ 13
      let n := 2 ^ rd F.cq_CQ_CFG_SIZE_LOG q s
      exec (.dmaCqHeadWrite q v) s = .next (finish (if (rd F.cq_CQ_TAIL_TAIL q s + 2 ^ 14 - h) % (2 * n) ≤ n then wr F.cq_CQ_HEAD_HEAD q h s else s))

/-- R405, R407, R409 to R413, R421, R425 to R427, Tables HP-2 to HP-4, HP-11: the host port's rings and messages. A doorbell within its ring moves its
pointer, and frees the results whose records lie before the new CQ head; any other is a violation, which is logged, raised in AER and counted. A
packet without violation for this device is taken in: it holds a result and waits to execute. A ring read that fails puts the ring in ERROR. RING_CTL
enables a ring with its pointers 0, and discards the results and records of one it disables. A port reset discards all results, resets the ring
registers and asserts the reset of X_HP. HOST_EVT and an unmask send the message of a vector, or leave it pending. Completes: sqDoorbell, cqDoorbell,
barAccessViolation, sqReadComplete, sqReadError, ringEnable, ringDisable, hostPortReset, pcieLinkUp, hostEvtRaise, msixUnmask. Model's choices: log
entries 7, 14, 49, 133. -/
def Obligations.HostRings : Prop :=
  ∀ (r : Nat) (s : State), r < 8 → domOn 41 s = true → modeOf s ≠ 0 → InOrder s →
    let en := rdB F.ring_RING_CTL_EN r s
    let violated (code ring seq : Nat) (t : State) : Prop :=
      let i := rd F.hst_VLOG_STAT_NEXT 0 s
      rd (F.hst_VLOG_CODE.nth (2 * i)) 0 t = code ∧ rd (F.hst_VLOG_RING.nth (2 * i)) 0 t = ring ∧ rd (F.hst_VLOG_SEQ.nth (2 * i)) 0 t = seq ∧
      rd (F.hst_VLOG_TIME_F.nth (2 * i)) 0 t = s.timeF ∧ rd F.hst_VLOG_STAT_NEXT 0 t = (i + 1) % 16 ∧
      rd F.hst_VLOG_STAT_COUNT 0 t = min (rd F.hst_VLOG_STAT_COUNT 0 s + 1) 511 ∧ t.host.aer = true ∧ t.host.res = s.host.res ∧ t.mem = s.mem
    (∀ v, let m := 2 * sqSize r s
      en = true → v < m → (v + m - rd F.ring_SQ_PTR_HEAD r s) % m ≤ sqSize r s → exec (.sqDoorbell r v true) s = .next (finish (wr F.ring_SQ_PTR_TAIL r v s))) ∧
    (∀ v al, al = false ∨ en = false → ∃ t, exec (.sqDoorbell r v al) s = .next (finish t) ∧ violated 8 r 0 t) ∧
    (∀ v, let m := 2 * cqSize r s
      let h := rd F.ring_CQ_PTR_HEAD r s
      en = true → v < m → v < 2 ^ 17 → h < m → (v + m - h) % m ≤ cqCount r s →
      ∃ t, exec (.cqDoorbell r v true) s = .next (finish t) ∧ rd F.ring_CQ_PTR_HEAD r t = v ∧
        (s.host.waiting = [] → (∀ x ∈ s.host.res, x.ring ≠ r ∨ x.wrote = none ∨ x.wrote = some h → x ∈ t.host.res) ∧
          ∀ x ∈ s.host.res, x.ring = r → x.wrote = some v → v ≠ h → x ∉ t.host.res)) ∧
    (∀ bar, bar = 0 ∨ bar = 2 → ∃ t, exec (.barAccessViolation bar) s = .next (finish t) ∧ violated 9 15 0 t) ∧
    (∀ (h : Granule) (data : List Granule), en = true → rd F.ring_RING_STAT_STATE r s ≠ 4 → granTag h = 12 → cOp h < 7 → data.length = cData h →
      1 + data.length ≤ sqCount r s → packetViolation r h data s = 0 → resRoom (1 + cResult h) s = true → executing s < 64 → cDest h = devId s →
      ∃ t, exec (.sqReadComplete r (h :: data)) s = .next (finish t) ∧
        rd F.ring_SQ_PTR_HEAD r t = (rd F.ring_SQ_PTR_HEAD r s + (1 + data.length)) % (2 * sqSize r s) % 2 ^ 17 ∧
        t.host.cmds = s.host.cmds ++ [{ ring := r, hdr := h, data := data, bad := [], done := 0, fwd := false, src := 0, begun := false, dead := false }] ∧
        t.host.res = s.host.res ++ [{ ring := r, seq := cSeq h, op := cOp h, dest := cDest h, user := cUser h, rsv := 1 + cResult h, recd := [], wrote := none }]) ∧
    (en = true → rd F.ring_RING_STAT_STATE r s ≠ 4 → sqCount r s ≠ 0 → exec (.sqReadError r false) s = .next (finish (wr F.ring_RING_STAT_STATE r 4 s))) ∧
    (∀ v : Word, (∀ x ∈ s.host.stalled, x.1 ≠ r) → (∀ x ∈ s.host.waiting, x.1 ≠ r) →
      (en = false → v.toNat % 2 = 1 → ∃ t, exec (.ringEnable r v) s = .next (finish t) ∧ rdB F.ring_RING_CTL_EN r t = true ∧ rd F.ring_RING_STAT_STATE r t = 1 ∧
        rd F.ring_SQ_PTR_TAIL r t = 0 ∧ rd F.ring_SQ_PTR_HEAD r t = 0 ∧ rd F.ring_CQ_PTR_TAIL r t = 0 ∧ rd F.ring_CQ_PTR_HEAD r t = 0 ∧ t.host = s.host) ∧
      (en = true → v.toNat % 2 = 0 → ∃ t, exec (.ringDisable r v) s = .next (finish t) ∧ rdB F.ring_RING_CTL_EN r t = false ∧
        t.host.res = s.host.res.filter (fun x => x.ring ≠ r) ∧ t.host.waiting = s.host.waiting ∧ t.host.cmds = s.host.cmds.map (HCmd.kill (· == r)))) ∧
    (∃ t, exec .hostPortReset s = .next (finish t) ∧ (t.xing 9).far = true ∧
      t.host = { s.host with cmds := s.host.cmds.map (HCmd.kill (fun _ => true)), res := [], waiting := [], stalled := [], badRun := [], orphans := [], masks := 2 ^ 64 - 1, pend := 0 } ∧
      (∀ o, o < 8 → t.reg (keyOf .ring r o) = resetWord (keyOf .ring r o)) ∧ (∀ i o, i < 64 → o < 6 → t.reg (keyOf .ch i o) = s.reg (keyOf .ch i o)) ∧
      rd F.hst_VLOG_STAT_COUNT 0 t = rd F.hst_VLOG_STAT_COUNT 0 s) ∧
    (∀ width speed, width = 1 ∨ width = 2 ∨ width = 4 ∨ width = 8 → 1 ≤ speed → speed ≤ 4 → exec (.pcieLinkUp width speed) s =
      .next (finish (wrAll 0 [(F.hst_PORT_STAT_WIDTH, width), (F.hst_PORT_STAT_SPEED, speed), (F.hst_PORT_STAT_LINK_UP, 1)] s))) ∧
    (∀ i, i < 32 → exec (.hostEvtRaise (BitVec.ofNat 36 (2 ^ i))) s = .next (finish
      (if s.host.masks.testBit (18 + i) then { s with host := { s.host with pend := s.host.pend ||| 2 ^ (18 + i) } } else { s with sent := s.sent ++ [.msix (18 + i)] }))) ∧
    ∀ n, n < 64 → ∃ t, exec (.msixUnmask n) s = .next (finish t) ∧ t.host.masks.testBit n = false ∧ t.host.pend.testBit n = false ∧
      t.sent = (if s.host.pend.testBit n then s.sent ++ [.msix n] else s.sent) ∧ ∀ m, m < 64 → m ≠ n → t.host.masks.testBit m = s.host.masks.testBit m

/-- R413 to R418, R420 to R424, Tables HP-5, HP-6: the command at the head of a ring executes and its result is held, with the status, the operation, the
granules or registers done, SEQ and USER in its header. A NOP gives status 0; REG_RD returns the register's value and REG_WR writes it; MEM_RD and
MEM_WR read and write granules; Q_PUSH pushes, and at Q_TO ends with Q_FULL; Q_TAKE takes a granule; FETCH sends a copy of a held result with REP. A
forwarded command ends with the RESULT that has come back, or with TIMEOUT. A record goes to its ring's CQ when that has room. Completes: hostNop,
regRd, regWr, memRd, memWr, qPush, qTake, fetch, qPushTimeout, forwardResult, forwardTimeout. Model's choices: log entries 8, 12, 52, 53, 54, 55, 120. -/
def Obligations.HostCommands : Prop :=
  (∀ (r : Nat) (c : HCmd) (e : HRes) (s : State), r < 8 → domOn 41 s = true → modeOf s ≠ 0 → InOrder s → s.host.cmds.find? (fun c => !c.fwd && c.ring == r) = some c → c.begun = false →
    c.dead = false → c.bad = [] → cmdOpen c s = true → e ∈ s.host.res → e.ring = r → e.seq = cSeq c.hdr → e.recd = [] →
    let a := cAddr c.hdr
    let answered (status done : Nat) (data : List Granule) (t : State) : Prop :=
      t.host.cmds = s.host.cmds.erase c ∧ ∃ y ∈ t.host.res, ∃ h : Granule, y.ring = r ∧ y.seq = cSeq c.hdr ∧ y.recd = h :: data ∧
        gbits h 0 29 5 = status ∧ gbits h 0 25 4 = cOp c.hdr ∧ gbits h 0 17 8 = data.length ∧ gbits h 0 0 16 = cSeq c.hdr ∧ gbits h 2 0 36 = done ∧
        gbits h 6 0 36 = cUser c.hdr ∧ granTag h = 13
    (cOp c.hdr = 0 → ∃ t, exec (.hostNop r) s = .next (finish t) ∧ answered 0 0 [] t) ∧
    (cOp c.hdr = 1 → cLen c.hdr = 1 → 0x08000000 ≤ a → a < 0x08080000 →
      let v := (readReg 4096 (a - 0x08000000) { s with clock := { s.clock with hostLatch := 0 } }).1
      ∃ t g, exec (.regRd r) s = .next (finish t) ∧ answered 0 1 [g] t ∧ granWord g 0 = v) ∧
    (cOp c.hdr = 2 → cLen c.hdr = 1 → 0x08000000 ≤ a → a < 0x08080000 → ∀ g, c.data = [g] →
      let s1 := writeReg 4096 (a - 0x08000000) (granWord g 0) s
      s1.host = s.host → ∃ t, exec (.regWr r) s = .next (finish t) ∧ answered 0 1 [] t ∧ t.ctxs = s1.ctxs ∧ t.mem = s1.mem ∧ t.queues = s1.queues) ∧
    (∀ m, granAt a = some m → granOver a = some m → granAddr m = a → granOn m s = true → cLen c.hdr = 1 →
      (cOp c.hdr = 3 → (readGran m s).out ≠ .bad → (readGran m s).pb = false → ∃ t, exec (.memRd r) s = .next (finish t) ∧ answered 0 1 [(readGran m s).data] t) ∧
      (cOp c.hdr = 4 → isImem m = false → granSoft m = true → ∀ v, c.data = [v] →
        ∃ t, exec (.memWr r) s = .next (finish t) ∧ answered 0 1 [] t ∧ t.granBits m = v ∧ t.pb m = false ∧ ∀ h, h ≠ m → t.granBits h = s.granBits h)) ∧
    (∀ q, cOp c.hdr = 5 → a % 32 ≠ 31 → producerQueue s 7 (a % 32) = some q → canPushGran s q = true → (s.queue q).mark = none → c.done = 0 →
      (s.xing 9).reset = false ∨ c.fwd = true → ∀ v, c.data = [v] →
      ∃ t, exec (.qPush r) s = .next (finish t) ∧ t.queue q = { s.queue q with transit := (s.queue q).transit ++ [.gran v false (!(s.queue q).cut)] } ∧
        t.host.cmds = s.host.cmds.map (fun x => if x = c then { c with done := 1, begun := true } else x)) ∧
    (∀ q k l, cOp c.hdr = 6 → consumerQueue s 7 (a % 32) = some q → consPath s q = true → cLen c.hdr = 1 → (s.queue q).copyBad = false → (s.queue q).hasGran = true →
      (s.queue q).cells = k :: l → k.pb = false → ∃ t, exec (.qTake r) s = .next (finish t) ∧ answered 0 1 [k.gran] t)) ∧
  (∀ (r : Nat) (c : HCmd) (y : HRes) (h : Granule) (l : List Granule) (s : State), r < 8 → domOn 41 s = true →
    s.host.cmds.find? (fun c => !c.fwd && c.ring == r) = some c → c.begun = false → c.dead = false →
    cOp c.hdr = 7 → s.host.res.find? (fun x => x.ring == gbits c.hdr 2 16 4 && x.seq == gbits c.hdr 2 0 16) = some y → y.recd = h :: l →
    exec (.fetch r) s = .next (finish (emitRecord r (granPut h 34 1 1 :: l) { s with host := { s.host with cmds := s.host.cmds.erase c } }))) ∧
  (∀ (r : Nat) (c : HCmd) (e : HRes) (s : State), r < 9 → s.host.cmds.find? (fun c => c.ring == r && c.begun && cOp c.hdr == 5) = some c → c.fwd = false → c.dead = false →
    e ∈ s.host.res → e.ring = r → e.seq = cSeq c.hdr → e.recd = [] →
    ∃ t, exec (.qPushTimeout r) s = .next (finish t) ∧ t.host.cmds = s.host.cmds.erase c ∧
      ∃ y ∈ t.host.res, ∃ h, y.ring = r ∧ y.seq = cSeq c.hdr ∧ y.recd = [h] ∧ gbits h 0 29 5 = 9 ∧ gbits h 2 0 36 = c.done % 2 ^ 36) ∧
  (∀ (r : Nat) (gs : List Granule) (h : Granule) (l : List Granule) (x : HRes) (s : State), r < 8 → x.ring = r → x.recd = [] → x.dest ≠ devId s →
    (gs = h :: l → s.qdl.results.contains gs = true →
      s.host.res.find? (fun x => x.recd = [] ∧ x.dest = gbits h 1 0 16 ∧ x.seq = gbits h 0 0 16 ∧ x.op = gbits h 0 25 4 ∧ x.dest ≠ devId s) = some x →
      ∃ t, exec (.forwardResult gs) s = .next (finish t) ∧ t.qdl.results = s.qdl.results.erase gs ∧ ∃ y ∈ t.host.res, y.ring = r ∧ y.seq = x.seq ∧ y.recd = gs) ∧
    ((∀ c ∈ s.host.cmds, c.ring ≠ r) → s.host.res.find? (fun y => y.ring = r ∧ y.seq = x.seq ∧ y.recd = [] ∧ y.dest ≠ devId s) = some x →
      ∃ t, exec (.forwardTimeout r x.seq) s = .next (finish t) ∧ ∃ y ∈ t.host.res, ∃ g, y.ring = r ∧ y.seq = x.seq ∧ y.recd = [g] ∧ gbits g 0 29 5 = 12)) ∧
  ∀ (r : Nat) (h : Granule) (l : List Granule) (s : State), r < 8 → InOrder s → s.host.waiting = [] → cqCount r s + (1 + l.length) ≤ cqSize r s →
    let tail := rd F.ring_CQ_PTR_TAIL r s
    let n := cqSize r s
    let t := emitRecord r (h :: l) s
    (∃ rest, t.sent = s.sent ++ .cq r (tail % n) (BitVec.ofNat 256 (h.toNat + if tail / n % 2 = 0 then 2 ^ 35 else 0) :: l) :: rest) ∧
      rd F.ring_CQ_PTR_TAIL r t = (tail + (1 + l.length)) % (2 * n) % 2 ^ 17 ∧ t.host.waiting = []

/-- R431, R432, R434 to R436, R450, R459, Tables QF-1, QF-3: a link's states and LINK flits. EN takes a DISABLED link to DETECT, and its fall to DISABLED;
a partner's signal brings TRAIN, and DETECT again ends in DETECT; trained lanes bring HELLO and a HELLO flit; a HELLO both ways and 16 probes bring UP
with full credit; a timeout falls back to DETECT, or from RETRAIN to DOWN; the loss of the signal brings DOWN with nothing kept for replay, and DOWN
ends in DETECT; RETRAIN takes a fenced link to TRAIN. A LINK flit acknowledges and gives credit; PROBE is answered with its T1 and the time;
PROBE_REPLY gives a delay; VIOL is counted; ABORT ends the packet that is arriving; a failed CRC is counted and answered with NAK. Completes:
linkEnable, linkDisable, linkRetrainWrite, linkSignalDetect, linkDetectRetry, linkTrained, linkTrainTimeout, linkSignalLoss, linkDownExpire,
linkFlitSend, probeSend, hello, probe, probeReply, viol, linkFenceFlit, linkFlit, linkAbortFlit, flitCrcFailure. Model's choices: log entries 12, 90,
91, 127. -/
def Obligations.LinkRows : Prop :=
  ∀ (l : Nat) (s : State), l < 6 → linkOn l s = true → modeOf s ≠ 0 → InOrder s →
    let st := linkState l s
    let x := s.link l
    let sent (code : Nat) (ws : List Nat) (nak : Bool) (t : State) : Prop := ∃ g : Granule, t.sent = s.sent ++ [.flit l (flitOf 3 0 false g)] ∧
      gbits g 0 32 4 = code ∧ gbits g 0 0 3 = l ∧ (∀ i w, ws[i]? = some w → gbits g (1 + i) 0 36 = w % 2 ^ 36) ∧
      gbits g 5 0 12 = (x.rxSeq + 4095) % 4096 ∧ gbits g 5 12 1 = if nak then 1 else 0
    (∀ v : Word, (v.toNat % 2 = 1 → st = 0 → exec (.linkEnable l v) s = .next (finish (wr F.link_LINK_STAT_STATE l 1 (storeReg .link l 0 v s)))) ∧
      (v.toNat % 2 = 0 → st ≠ 0 → st ≠ 4 → exec (.linkDisable l v) s = .next (finish (wr F.link_LINK_STAT_STATE l 0 (storeReg .link l 0 v s)))) ∧
      (v.toNat % 2 = 1 → v.toNat / 32 % 2 = 1 → st = 7 →
        exec (.linkRetrainWrite l v) s = .next (finish (wr F.link_LINK_STAT_STATE l 2 (storeReg .link l 0 v s))))) ∧
    (st = 1 → exec (.linkSignalDetect l) s = .next (finish (wr F.link_LINK_STAT_STATE l 2 s)) ∧
      exec (.linkDetectRetry l) s = .next (finish (wr F.link_LINK_STAT_STATE l 1 s))) ∧
    (∀ width rev, st = 2 → width = 1 ∨ width = 2 ∨ width = 4 → width ≤ 4 / 2 ^ rd F.link_LINK_CTL_MAX_WIDTH l s →
      ∃ t, exec (.linkTrained l width (rd F.link_LINK_CTL_RATE l s) rev) s = .next (finish t) ∧ linkState l t = 3 ∧ rd F.link_LINK_STAT_WIDTH l t = width ∧
        rd F.link_LINK_STAT_REVERSED l t = (if rev then 1 else 0) ∧ (t.link l).helloTx = true ∧ (t.link l).helloRx = false ∧ (t.link l).probes = 0 ∧
        sent 1 [devId s + (if assigned s then 65536 else 0), serialNat % 2 ^ 36, serialNat / 2 ^ 36] x.nak t) ∧
    (st = 2 ∨ st = 3 → exec (.linkTrainTimeout l) s = .next (finish (wr F.link_LINK_STAT_STATE l 1 s))) ∧
    (st = 5 → exec (.linkTrainTimeout l) s = .next (finish (wr F.link_LINK_STAT_STATE l 6 s))) ∧
    (st = 4 → rdB F.link_LINK_CTL_PROXY l s = false → ∃ t, exec (.linkSignalLoss l) s = .next (finish t) ∧ linkState l t = 6 ∧ (t.xing (linkXing l)).far = true ∧ (t.link l).replay = [] ∧
      (t.link l).rxSeq = 0 ∧ (t.link l).txSeq = 0 ∧ t.reg (keyOf .link l 5) = 0) ∧
    (st = 6 → exec (.linkDownExpire l) s = .next (finish (wr F.link_LINK_STAT_STATE l 1 s))) ∧
    (3 ≤ st → st ≤ 5 →
      (∃ t, exec (.linkFlitSend l) s = .next (finish t) ∧ sent 0 [] x.nak t ∧ t = { s with sent := t.sent }) ∧
      (∃ t t1, exec (.probeSend l) s = .next (finish t) ∧ StampTime t1 s ∧ sent 2 [stampF t1] x.nak t ∧ (t.link l).t1 = some (stampF t1)) ∧
      ∀ m : Granule, linkBad m = false →
        let code := gbits m 0 32 4
        (code = 1 → st = 3 →
          ∃ t, exec (.hello l m) s = .next (finish t) ∧ rd F.link_LINK_STAT_NBR_ID l t = gbits m 1 0 16 ∧ rd F.link_LINK_STAT_NBR_VALID l t = gbits m 1 16 1 ∧
            rd F.link_LINK_STAT_NBR_LINK l t = gbits m 0 0 3 ∧ (t.link l).helloRx = true ∧
            (t.link l).nbrSerial = BitVec.ofNat 72 (gbits m 3 0 36 * 2 ^ 36 + gbits m 2 0 36) ∧
            (x.helloTx = true → 16 ≤ x.probes → linkState l t = 4 ∧ rd (linkCred 0) l t = 32 ∧ rd (linkCred 1) l t = 192 ∧ rd (linkCred 2) l t = 16 ∧
              rd (linkCred 3) l t = 16) ∧
            (x.probes < 16 → linkState l t = 3)) ∧
        (st ≠ 4 → code = 2 → ∃ t t2 t3, exec (.probe l m) s = .next (finish t) ∧ StampTime t2 s ∧ StampTime t3 s ∧
          sent 3 [gbits m 1 0 36, stampF t2, stampF t3] x.nak t ∧ t = { s with sent := t.sent, free := t.free }) ∧
        (code = 3 → x.t1 = some (gbits m 1 0 36) → st ≠ 4 →
          ∃ t t4, exec (.probeReply l m) s = .next (finish t) ∧ StampTime t4 s ∧
            let d2 := signedMod 36 ((stampF t4 : Int) - (gbits m 1 0 36 : Int)) - signedMod 36 ((gbits m 3 0 36 : Int) - (gbits m 2 0 36 : Int))
            (t.link l).delays = (lowBits 36 d2 :: x.delays).take 16 ∧ (t.link l).t1 = none ∧
            (t.link l).probes = min (x.probes + 1) 16) ∧
        (code = 4 → st ≠ 4 → exec (.viol l m) s = .next (finish (bump F.link_VIOL_NAK_RX l s))) ∧
        (code = 6 → st ≠ 4 → exec (.linkFenceFlit l m) s = .next (finish s)) ∧
        (code = 0 → st ≠ 4 → exec (.linkFlit l m) s = .next (finish s)) ∧
        (code = 0 → st = 4 → gbits m 5 12 1 = 0 → x.acked < 4096 →
          let n := (gbits m 5 0 12 + 4096 - x.acked) % 4096
          n ≤ x.replay.length → x.naks < 8 →
          ∃ t, exec (.linkFlit l m) s = .next (finish t) ∧ (t.link l).acked = gbits m 5 0 12 ∧ (t.link l).replay = x.replay.drop n ∧ t.sent = s.sent ∧
            ∀ v, v < 4 → Sparse.get 0 v x.seen < 512 →
              rd (linkCred v) l t = min (rd (linkCred v) l s + (gbits m 6 (9 * v) 9 + 512 - Sparse.get 0 v x.seen) % 512) 511) ∧
        (∀ p vc, code = 5 → st ≠ 4 → gbits m 1 0 2 = vc → rxOf l vc s = [p] → p.need ≠ 0 → p.moved = false → p.old = false → Rising x.freed → Rising x.rx →
          ∃ t, exec (.linkAbortFlit l m) s = .next (finish t) ∧ rxOf l vc t = [] ∧
            Sparse.get 0 vc (t.link l).freed = (Sparse.get 0 vc x.freed + (p.body.length + 1)) % 512 ∧
            rd F.link_ERR_ABORTS l t = min (rd F.link_ERR_ABORTS l s + 1) 511)) ∧
    (st = 4 → x.crcAt.length < 63 → ∃ t, exec (.flitCrcFailure l) s = .next (finish t) ∧ rd F.link_ERR_CRC l t = min (rd F.link_ERR_CRC l s + 1) 511 ∧
      (t.link l).nak = true ∧ linkState l t = 4 ∧ sent 0 [] true t)

/-- R423, R438, R442, R452, R454 to R457, Tables QF-5, QF-8, QF-9: a packet that arrives without violation. A QUEUE packet for this device is pushed into
its ejection queue with HOPS one higher, a COMMAND waits to execute, a RESULT reaches the host port. A TIME sample from the upstream link gives its
master and hops, and is a bad edge while its sender is FREE. A MIRROR sample is applied to the mirror that follows it, and goes on along the time
tree. A source-routed MGMT packet goes on by its next digit, or is answered at its end: DISC_REQ by DISC_RESP, ASSIGN by taking the ID and ASSIGN_ACK.
A broadcast that is new is remembered and flooded: SAFE brings a notice and, with PEER_ACT, the fence; ALIVE ends the fence. R448, R457: the root's
request that has found no answer goes out again, up to twice, and then its device is skipped; with no other left to ask, discovery is done. A write of
V = 0 ends a peer's fence and no other. Completes: queuePacket, commandPacket, resultPacket, timePacket, mirrorPacket, discoveryTimeout,
peerFenceRelease, discReq, discResp, assign, assignAck, safeBroadcast, alive. Model's choices: log entries 23, 24, 52, 60, 115. -/
def Obligations.PacketRows : Prop :=
  (∀ (l vc : Nat) (g : Granule) (body : List Granule) (s : State), Arrives l vc g body s →
     let g1 := granPut g 18 5 (hHops g + 1)
     let own := routeOf (hDest g) s = .here
     let mt := gbits g 2 32 4
     let hops := gbits g 3 24 3 + (hHops g + 1)
     (∀ q, body = [] → hKind g = 1 → own → inSafe s = false → ejectQueue (hPort g) vc s = some q → canPushGran s q = true → (s.queue q).mark = none →
       (s.xing (linkXing (hPort g))).reset = false →
       ∃ t, exec (.queuePacket l vc [g]) s = .next (finish t) ∧ t.queue q = { s.queue q with transit := (s.queue q).transit ++ [.gran g1 false (!(s.queue q).cut)] } ∧
         rd F.link_FLITS_RX l t = min (rd F.link_FLITS_RX l s + 1) (2 ^ 36 - 1) ∧ (∀ p, p ≠ q → t.queue p = s.queue p) ∧ t.mem = s.mem) ∧
     (∀ h r, body = h :: r → hKind g = 2 → own → ∃ t, exec (.commandPacket l vc (g :: body)) s = .next (finish t) ∧ t.qdl.imageReturn = some l ∧
       t.host.cmds = s.host.cmds ++ [{ ring := 8, hdr := h, data := r, bad := r.map (fun _ => false), done := 0, fwd := true, src := hSrc g, begun := false, dead := false }]) ∧
     (body ≠ [] → hKind g = 3 → own → ∃ t, exec (.resultPacket l vc (g :: body)) s = .next (finish t) ∧ t.qdl.results = s.qdl.results ++ [body]) ∧
     (body = [] → hKind g = 4 → rd F.tbu_TIME_CTL_SRC 0 s = 2 → bits s.qdl.timeCfg 0 3 = l → gbits g 4 33 3 = 1 →
       ∃ t, exec (.timePacket l vc [g]) s = .next (finish t) ∧ t.qdl.srcHops = gbits g 4 30 3 ∧ t.qdl.master = gbits g 4 0 16 ∧ t.pps.goodRun = 0 ∧
         rd F.tbu_PPS_STAT_BAD 0 t = min (rd F.tbu_PPS_STAT_BAD 0 s + 1) 511 ∧ t.clock = s.clock) ∧
     (body = [] → hKind g = 5 → hops < 7 →
       (∀ o, treeLinks s = [l, o] ∨ treeLinks s = [o, l] → o ≠ l → linkUp o s = true → mirrorsOf (hSrc g) (gbits g 3 30 6) s = [] →
         ∃ t, exec (.mirrorPacket l vc [g]) s = .next (finish t) ∧ (t.link o).tx = [(2, [g1])] ∧ t.tbs = s.tbs) ∧
       (∀ n, treeLinks s = [l] → mirrorsOf (hSrc g) (gbits g 3 30 6) s = [n] → TbAlone n s →
         ∃ t, exec (.mirrorPacket l vc [g]) s = .next (finish t) ∧ (t.tb n).pu = ((gbits g 2 0 36 * 2 ^ 24 + gbits g 3 0 24 : Nat) : Int) ∧
           (t.tb n).v = clipV (signedMod 36 ((gbits g 4 0 36 : Nat) : Int)) ∧ (t.tb n).st = .track ∧ rd F.tb_STAT_HOPS n t = hops ∧ ∀ j, j ≠ n → t.tb j = s.tb j)) ∧
     (hKind g = 6 → 1 ≤ mt → mt ≤ 4 →
       let len := gbits g 3 32 4
       let hop := gbits g 3 28 4
       let route := gbits g 3 0 24
       let c : Instr := if mt = 1 then .discReq l (g :: body) else if mt = 2 then .discResp l (g :: body) else if mt = 3 then .assign l (g :: body)
         else .assignAck l (g :: body)
       (hop < len → digit route hop < 6 → ∃ t, exec c s = .next (finish t) ∧
         (t.link (digit route hop)).tx = [(3, granPut g1 108 36 (routeWord len (hop + 1) (setDigit route hop l)) :: body)]) ∧
       (len ≤ hop → 1 ≤ len → len ≤ 8 → s.qdl.mseq < 65536 → mt = 1 ∨ mt = 3 → ∃ t, exec c s = .next (finish t) ∧ t.qdl.mseq = (s.qdl.mseq + 1) % 65536 ∧
         (∃ h : Granule, (t.link l).tx = [(3, h :: if mt = 1 then respBody s else [])] ∧ hKind h = 6 ∧ gbits h 2 32 4 = mt + 1 ∧ hSrc h = devId t) ∧
         (mt = 3 → devId t = gbits g 4 0 16 ∧ assigned t = true) ∧ (mt = 1 → devId t = devId s)) ∧
       (len ≤ hop → mt = 2 → ∀ b0 bs k r i, body = b0 :: bs → s.qdl.asked = some (1, k, r, i) →
         let serial : BitVec 72 := BitVec.ofNat 72 (gbits b0 1 0 36 * 2 ^ 36 + gbits b0 0 0 36)
         (∀ f ∈ s.qdl.found, f.2.2 ≠ serial) → ∃ t, exec c s = .next (finish t) ∧ (gbits b0 2 0 16 + (if gbits b0 2 16 1 = 1 then 0 else 65536), r, serial) ∈ t.qdl.found) ∧
       (len ≤ hop → mt = 4 → ∀ k r i, s.qdl.asked = some (3, k, r, i) → s.qdl.walk = [] → ∃ t, exec c s = .next (finish t) ∧ t.qdl.asked = none ∧
         rd F.qdl_TOPO_STAT_DONE 0 t = 1 ∧ rd F.qdl_TOPO_DIGEST_VAL 0 t = topoDigest s % 2 ^ 32)) ∧
     (hKind g = 6 → body = [] → mt = 5 ∨ mt = 6 → (∀ e ∈ s.qdl.seen, e.1 = hSrc g → e.2.1 = gbits g 2 0 16 → e.2.2 + 10000000 < s.clock.tick) →
       let id := gbits g 4 0 16
       let fenced (i : Nat) (t : State) : Prop := rdB (F.qdl_PEER_FENCE_V.nth i) 0 t = true ∧ rd (F.qdl_PEER_FENCE_ID.nth i) 0 t = id
       id ≠ devId s → rd F.qdl_MGMT_CTL_PEER_ACT 0 s ≤ 1 →
       ∃ t, exec (if mt = 5 then .safeBroadcast l [g] else .alive l [g]) s = .next (finish t) ∧ t.qdl.seen.head? = some (hSrc g, gbits g 2 0 16, s.clock.tick) ∧
         (∀ k, k < 6 → k ≠ l → (t.link k).tx = if linkUp k s then [(3, [g1])] else []) ∧
         (mt = 5 → rd F.qdl_MGMT_STAT_SAFE_RX 0 t = min (rd F.qdl_MGMT_STAT_SAFE_RX 0 s + 1) 511 ∧
           (∃ r : Raised, t.raised = s.raised ++ [r] ∧ r.notice = true ∧ r.cause = 100 ∧ r.word = id) ∧
           (rd F.qdl_MGMT_CTL_PEER_ACT 0 s = 1 → (∃ i, i < 32 ∧ rdB (F.qdl_PEER_FENCE_V.nth i) 0 s = false) → ∃ i, i < 32 ∧ fenced i t)) ∧
         (mt = 6 → t.raised = s.raised ∧ ∀ i, i < 32 → ¬ fenced i t))) ∧
  (∀ (mt k r i : Nat) (s : State), domOn 48 s = true → s.qdl.asked = some (mt, k, r, i) →
    (s.qdl.tries < 3 → ∃ t, exec .discoveryTimeout s = .next (finish t) ∧ t.qdl.tries = s.qdl.tries + 1 ∧ t.qdl.asked = s.qdl.asked ∧
      t.qdl.mseq = (s.qdl.mseq + 1) % 65536 ∧ (InOrder s → ∃ h : Granule, (t.link (digit r 0)).tx = (s.link (digit r 0)).tx ++ [(3, [h])] ∧ hKind h = 6)) ∧
    (3 ≤ s.qdl.tries → s.qdl.walk = [] → InOrder s → ∃ t, exec .discoveryTimeout s = .next (finish t) ∧ t.qdl.asked = none ∧
      rd F.qdl_TOPO_STAT_MISSED 0 t = min (rd F.qdl_TOPO_STAT_MISSED 0 s + 1) 511 ∧ rd F.qdl_TOPO_STAT_DONE 0 t = 1)) ∧
  ∀ (i : Nat) (v : Word) (s : State), i < 32 → domOn 48 s = true → modeOf s ≠ 0 → InOrder s → v.toNat / 2 ^ 17 % 2 = 0 →
    ∃ t, exec (.peerFenceRelease i v) s = .next (finish t) ∧ rdB (F.qdl_PEER_FENCE_V.nth i) 0 t = false ∧ ∀ k, k ≠ keyOf .qdl 0 (32 + i) → t.reg k = s.reg k

/-- R40, R42 to R45, R60 to R62, R197, R465 to R475, R477, R482, R485 to R488, R490, Tables PW-1, PW-3, PW-4: modes and domains. A request for STANDBY,
RETAIN or SENTINEL in RUN asks the agent of every domain that is on; one for RUN leaves BOOST or STANDBY; one for BOOST gives both rails the BOOST
target. A domain request waits for its agent's answer: a GRANT lets it go on, a DEFER postpones it, a REFUSE, or a DEFER that outlasts its bound, ends
it with a status. A domain that is down or up shows in DOM_ON, with status 0. A wake from STANDBY records its cause and returns to RUN. A cluster that
fails, a bank supply, router or bridge fault is recorded. Completes: modeReqStandby, modeReqRetain, modeReqSentinel, modeReqBoost, modeReqRun,
wakeTimer, perstNRise, warmN, domCtlOn, domCtlOff, agentGrant, agentDefer, agentRefuse, deferTimeout, domainPowerDownDone, domainPowerUpDone,
clusterPower, bankSupply, routerFault, bridgeFault. Model's choices: log entries 12, 29, 71, 72, 88. -/
def Obligations.PowerRows : Prop :=
  ∀ s : State, InOrder s → inSafe s = false → rdB F.pwr_MODE_SAFE_BOOT 0 s = false → s.start.step = 0 → s.start.failed = false → s.start.due = 0 →
    let m := modeOf s
    let entry (goal : Nat) (force : Bool) (waiting : List Nat) : Trans :=
      { goal := goal, force := force, asker := none, waiting := waiting, deferred := [], granted := [], step := 1, from_ := m, wake := none }
    let begun (goal : Nat) (force : Bool) (t : State) : Prop := rd F.pwr_MODE_STEP 0 t = 1 ∧ modeOf t = 4 ∧
      t.pwr.trans = some (entry goal force ((List.range 50).filter (fun d => domOn d s)))
    let woken (cause : Nat) (t : State) : Prop := modeOf t = 4 ∧ rd F.pwr_WAKE_REC0_CAUSE 0 t = cause ∧ rd F.pwr_WAKE_REC0_RULE 0 t = 0 ∧
      rd F.pwr_VCORE_STAT_BIAS 0 t = 0 ∧ t.pins.safeN = 0
    let request (goal : Nat) (force : Bool) (waiting : List Nat) : State := { s with pwr := { s.pwr with trans := some (entry goal force waiting) } }
    let domStat (w : Word) (t : State) : Prop := t.reg (keyOf .pwr 0 12) = w
    (s.pwr.trans = none → m = 4 → ∀ force,
      (∃ t, exec (.modeReqStandby force) s = .next (finish t) ∧ begun 1 force t) ∧
      (rd F.pwr_WAKE_TIMER_MS 0 s ≠ 0 → (∃ t, exec (.modeReqRetain force) s = .next (finish t) ∧ begun 2 force t) ∧
        ∃ t, exec (.modeReqSentinel force) s = .next (finish t) ∧ begun 3 force t) ∧
      (s.pwr.thermLock = false → rdB (railFail 0) 0 s = false → rdB (railFail 1) 0 s = false →
        ∃ t, exec (.modeReqBoost force) s = .next (finish t) ∧ t.pwr.targetE = boostTarget s ∧ t.pwr.targetW = boostTarget s)) ∧
    (s.pwr.trans = none → m = 5 → ∀ force, ∃ t, exec (.modeReqRun force) s = .next (finish t) ∧ modeOf t = 4 ∧ rd F.pwr_VCORE_STAT_BIAS 0 t = 0) ∧
    (s.pwr.trans = none → m = 1 → s.pins.resetN = true →
      (∀ force, ∃ t, exec (.modeReqRun force) s = .next (finish t) ∧ woken 5 t) ∧
      (rd F.pwr_WAKE_TIMER_MS 0 s ≠ 0 → ∃ t, exec .wakeTimer s = .next (finish t) ∧ woken 1 t) ∧
      (rdB F.pwr_WAKE_EN_PERST_N 0 s = true → ∃ t, exec .perstNRise s = .next (finish t) ∧ woken 4 t)) ∧
    (s.pwr.trans = none → m = 4 → s.pins.resetN = true → exec .warmN s = .next (finish { s with start := { s.start with due := 2 } })) ∧
    (∀ d force, s.pwr.trans = none → m = 4 ∨ m = 5 → d < 48 → (36 ≤ d → s.pwr.bankBad.contains (d - 36) = false) →
      (exec (.domCtlOn d force) s = .next (finish (if domOn d s then s.setReg (keyOf .pwr 0 12) (statusWord 0 0 0 0 0) else request (80 + d) force []))) ∧
      (exec (.domCtlOff d force) s = .next (finish (if domOn d s then request (10 + d) force [d] else s.setReg (keyOf .pwr 0 12) (statusWord 0 0 0 0 0))))) ∧
    (∀ d (q : Trans), d < 48 → s.pwr.trans = some q → q.goal = 10 + d → q.force = false →
      let later (l : State) : Prop := l.pwr.trans = some { q with waiting := [], deferred := [], granted := q.granted ++ [d] } ∧
        l.pins.safeN = if 36 ≤ d ∧ d < 40 then s.pins.safeN ||| 2 ^ (d - 36) else s.pins.safeN
      let refused (r : Nat) (l : State) : Prop := l.pwr.trans = none ∧ domStat (statusWord 2 0 d r 0) l
      (q.waiting = [d] → q.deferred = [] →
        (refuseReason d s = none → deferReason d q.asker s = none → ∃ t, exec (.agentGrant d) s = .next (finish t) ∧ later t) ∧
        (refuseReason d s = none → (deferReason d q.asker s).isSome = true →
          exec (.agentDefer d) s = .next (finish { s with pwr := { s.pwr with trans := some { q with waiting := [], deferred := [d] } } })) ∧
        (∀ r, refuseReason d s = some r → ∃ t, exec (.agentRefuse d) s = .next (finish t) ∧ refused r t)) ∧
      (q.waiting = [] → q.deferred = [d] →
        (∀ r, deferReason d q.asker s = some r → r ≠ 0 → ∃ t, exec (.deferTimeout d) s = .next (finish t) ∧ refused r t) ∧
        (deferReason d q.asker s = some 0 ∨ deferReason d q.asker s = none → ∃ t, exec (.deferTimeout d) s = .next (finish t) ∧ later t)) ∧
      (q.granted.contains d = true → ∃ t, exec (.domainPowerDownDone d) s = .next (finish t) ∧ domOn d t = false ∧ t.pwr.trans = none ∧
        domStat (statusWord 0 0 0 0 0) t ∧ ∀ e, e < 50 → e ≠ d → domOn e t = domOn e s)) ∧
    (∀ d (q : Trans), d < 48 → s.pwr.trans = some q → q.goal = 80 + d → ∃ t, exec (.domainPowerUpDone d true) s = .next (finish t) ∧ domOn d t = true ∧
      t.pwr.trans = none ∧ domStat (statusWord 0 0 0 0 0) t) ∧
    (∀ c, c < 32 → domOn c s = true → ∃ r : Raised, exec (.clusterPower c 1) s = .next (finish { s with raised := s.raised ++ [r] }) ∧
      r.scope = { lvl := 1, i := c } ∧ r.cause = 16 ∧ r.word = 1 ∧ r.notice = false) ∧
    (∀ b, b < 4 → m = 1 ∨ m = 4 ∨ m = 5 → ∃ t, exec (.bankSupply b) s = .next (finish t) ∧ domOn (36 + b) t = false ∧ t.pins.safeN.testBit b = true ∧
      t.pwr.bankBad.contains b = true ∧ ∃ r : Raised, t.raised = s.raised ++ [r] ∧ r.cause = 98 ∧ r.word = b ∧ r.notice = true) ∧
    (s.pins.mainPg = true → ∀ i, (i < 8 → ∃ t, ∃ r : Raised, exec (.routerFault i) s = .next (finish t) ∧ t.raised = s.raised ++ [r] ∧ r.scope = { lvl := 2, i := i } ∧
        r.cause = 33 ∧ t = { s with raised := t.raised, free := t.free }) ∧
      (i < 2 → ∃ t, ∃ r : Raised, exec (.bridgeFault i) s = .next (finish t) ∧ t.raised = s.raised ++ [r] ∧ r.scope = { lvl := 3, i := i } ∧ r.cause = 48 ∧
        t = { s with raised := t.raised, free := t.free }))

/-- R39, R40, R43 to R45, R52, R60 to R62, R489: rails, clock and temperature. A regulator's report becomes READ, and the next step, at most 50 mV, is
asked for until the target is reached; one that is late sets AVS_FAIL with a notice. A sensor's reading sets TEMP and its flags, drives THERM_N low at
the critical level and is then a fault. A region too hot for 1 ms ends BOOST. The records name the rail, the sensor and the region. The loss of a main
rail, of MAIN_PG or of REFCLK is a package fault while the rails are in use; MAIN_PG rises with the rails at 0.80 V; the PLL lock starts device time
and step 2 of a start. Completes: avsStepComplete, avsTimeout, tempSensorUpdate, thermalBoostExit, railFault, mainPgFall, refclkLoss, mainPgRise,
pllLock. Model's choices: log entries 29, 30, 34, 94, 105, 106. -/
def Obligations.RailRows : Prop :=
  ∀ s : State, InOrder s →
    let used := modeOf s = 1 ∨ modeOf s = 4 ∨ modeOf s = 5
    let told (cause : Nat) (notice : Bool) (t : State) : Prop := ∃ r : Raised, t.raised = s.raised ++ [r] ∧ r.scope = { lvl := 4, i := 0 } ∧ r.cause = cause ∧ r.notice = notice
    let toldOf (cause word : Nat) (notice : Bool) (t : State) : Prop := told cause notice t ∧ ∀ r : Raised, t.raised = s.raised ++ [r] → r.word = word
    (∀ r v, r < 2 → v < 256 → s.pins.mainPg = true → rdB (railRamp r) 0 s = true → s.pwr.trans = none →
      (∃ t, exec (.avsStepComplete r v) s = .next (finish t) ∧ rd (railRead r) 0 t = v ∧
        (rdB (railFail r) 0 s = false → railAsked r s ≠ railTarget r s →
          railAsked r t = (if v < railTarget r s then min (railTarget r s) (v + 10) else max (railTarget r s) (v - 10)) ∧ rdB (railRamp r) 0 t = true) ∧
        (railAsked r s = railTarget r s → rdB (railRamp r) 0 t = false)) ∧
      ∃ t, exec (.avsTimeout r v) s = .next (finish t) ∧ rd (railRead r) 0 t = v ∧ rdB (railFail r) 0 t = true ∧ rdB (railRamp r) 0 t = false ∧ toldOf 97 r true t) ∧
    (∀ i c, i < 11 → c < 4096 → sensorOn i s = true → modeOf s ≠ 0 →
      let lim : Int := 16 * (rd F.pwr_THERM_CTL_BOOST_LIM 0 s : Int)
      let x := signedOf 12 c
      ∃ t, exec (.tempSensorUpdate i c) s = .next (finish t) ∧ rd (F.pwr_TS_TEMP.nth i) 0 t = c ∧ rd (F.pwr_TS_VALID.nth i) 0 t = 1 ∧
        rd (F.pwr_TS_OVER_BOOST.nth i) 0 t = (if lim < x then 1 else 0) ∧ rd (F.pwr_TS_CRIT.nth i) 0 t = (if criticalLevel ≤ x then 1 else 0) ∧
        (criticalLevel ≤ x → t.pins.thermN = false ∧ (asleep s = false → toldOf 66 i false t)) ∧ (x < criticalLevel → t.raised = s.raised)) ∧
    (∀ rg, rg < 8 → modeOf s = 5 → s.pwr.hot.contains rg = true → s.pwr.trans = none →
      ∃ t, exec (.thermalBoostExit rg) s = .next (finish t) ∧ modeOf t = 4 ∧ t.pwr.thermLock = true ∧ t.pwr.hot = [] ∧ t.pwr.targetE = 180 ∧ t.pwr.targetW = 180 ∧
        rd F.pwr_VCORE_STAT_BIAS 0 t = 0 ∧ toldOf 96 rg true t) ∧
    (used →
      (∀ n, ∃ t, exec (.railFault n) s = .next (finish t) ∧ told 64 false t ∧ t.pins.safeN = 15 ∧ t.pwr.startCold = true) ∧
      (∃ t, exec .mainPgFall s = .next (finish t) ∧ told 64 false t ∧ t.pins.mainPg = false ∧ t.pins.refclk = false ∧ t.clock.run = false ∧ t.pins.safeN = 15 ∧ t.pwr.startCold = true) ∧
      (s.pins.refclk = true → ∃ t, exec .refclkLoss s = .next (finish t) ∧ told 65 false t ∧ t.pins.refclk = false ∧ t.clock.run = false)) ∧
    (s.pins.mainEn = true → ∃ t, exec .mainPgRise s = .next (finish t) ∧ t.pins.mainPg = true ∧ rd (railRead 0) 0 t = 160 ∧ rd (railRead 1) 0 t = 160 ∧
      t.pwr.targetE = 160 ∧ t.pwr.targetW = 160) ∧
    (s.pins.mainPg = true → s.pins.refclk = false →
      (s.start.step ≠ 1 → exec .pllLock s = .next (finish { s with pins := { s.pins with refclk := true } })) ∧
      (s.start.step = 1 → s.start.domains = [] → s.start.kind = 1 → ∃ t, exec .pllLock s = .next (finish t) ∧ t.pins.refclk = true ∧ t.clock.dev = 0 ∧ t.clock.run = true ∧
        t.start.step = 2 ∧ t.start.domains = [48, 49, 41, 42, 43, 44, 45, 46, 47].filter (fun d => !domOn d s)))

/-- R491 to R496, Tables PW-9 to PW-12: Jasper. A conversion of the next enabled channel gives RAW, and FILT with no filter on; an input that has
qualified gives LEVEL and counts its rising edges, and its window clears the count. A pass evaluates every rule in order: q is true when the raw
result, chained to the rule before, has held for longer than HOLD, and stays while it holds; a rule that fires sets and clears its outputs; a latch
sets while its q is true. A latch is cleared by writing ones, and a write of a rule clears its q. Completes: jasperConversion, jsInQualify,
jsCountWindow, jasperPass, jasperLatchClear, jasperRuleWrite. Model's choices: log entries 35, 36, 78, 131. -/
def Obligations.JasperRows : Prop :=
  ∀ s : State, InOrder s → modeOf s ≠ 0 →
    (∀ n code, nextChannel s = some n → code < 4096 → rd (F.jsp_AIN_FILT_MED.nth n) 0 s = 0 →
      ∃ t, exec (.jasperConversion code) s = .next (finish t) ∧ rd (F.jsp_AIN_VAL_RAW.nth n) 0 t = code ∧ t.jsp.seq = n + 1 ∧
        (rd (F.jsp_AIN_FILT_IIR_SH.nth n) 0 s = 0 → rd (F.jsp_AIN_VAL_FILT.nth n) 0 t = code)) ∧
    (∀ n lvl, n < 16 → rdB (F.jsp_DIN_CNT_LEVEL.nth n) 0 s ≠ lvl → ∃ t, exec (.jsInQualify n lvl) s = .next (finish t) ∧ rdB (F.jsp_DIN_CNT_LEVEL.nth n) 0 t = lvl ∧
      rd (F.jsp_DIN_CNT_COUNT.nth n) 0 t = if lvl then min (rd (F.jsp_DIN_CNT_COUNT.nth n) 0 s + 1) 65535 else rd (F.jsp_DIN_CNT_COUNT.nth n) 0 s) ∧
    (∀ n, n < 16 → rd (F.jsp_DIN_WIN.nth n) 0 s ≠ 0 → exec (.jsCountWindow n) s = .next (finish (wr (F.jsp_DIN_CNT_COUNT.nth n) 0 0 s))) ∧
    (∃ t, exec .jasperPass s = .next (finish t) ∧
      (∀ i, i < 64 →
        let raw := ruleCond i s && (ruleF F.jsp_RULE_A_CHAIN i s == 0 || (decide (0 < i) && ruleQ (i - 1) t))
        ruleQ i t = (raw && (ruleQ i s || decide (holdPasses i s < Sparse.get 0 i s.jsp.hold + 1))) ∧
        (ruleF F.jsp_RULE_B_LATCH i s = 1 → ruleQ i t = true → ruleLatch i t = true)) ∧
      ((∀ i, i < 64 → ruleQ i t = true → ruleQ i s = true) → rd F.jsp_OUT_JS_OUT 0 t = rd F.jsp_OUT_JS_OUT 0 s) ∧
      ∀ k, k < 64 → ruleQ k t = true → ruleQ k s = false → (∀ i, i < 64 → i ≠ k → ruleQ i t = true → ruleQ i s = true) →
        rd F.jsp_OUT_JS_OUT 0 t = (rd F.jsp_OUT_JS_OUT 0 s ||| ruleF F.jsp_RULE_B_OUT_SET k s) &&& (15 - ruleF F.jsp_RULE_B_OUT_CLR k s)) ∧
    (∀ hi (v : Word), ∃ t, exec (.jasperLatchClear hi v) s = .next (finish t) ∧ ∀ i, i < 64 →
      ruleLatch i t = (ruleLatch i s && !(decide (36 ≤ i) == hi && v.getLsbD (if hi then i - 36 else i)))) ∧
    ∀ i b (v : Word), i < 64 → ∃ t, exec (.jasperRuleWrite i b v) s = .next (finish t) ∧ ruleQ i t = false ∧ (∀ j, j < 64 → j ≠ i → ruleQ j t = ruleQ j s) ∧
      (Rising s.jsp.hold → Sparse.get 0 i t.jsp.hold = 0) ∧ (b = true → ruleF F.jsp_RULE_B_LATCH i t = v.toNat / 2 ^ 16 % 2) ∧
      (b = false → ruleF F.jsp_RULE_A_THR i t = v.toNat / 2 ^ 15 % 4096)

/-- R38, R39, R465, R498, R500, R501, R503 to R506, R508, R510, R512, R519, R521, Tables ST-2, ST-4, ST-9: resets and starts. RESET_N low ends what runs,
in SENTINEL; RESET_N high samples BOOT_SEL and begins a cold start, or after three that failed a SAFE boot; VAO brings SENTINEL, its loss OFF. A
request for a start is taken up at once. A section without a failure is kept, one with a failure rejects the image with its lowest reason. A start
that fails keeps its cause, counts, and drops MAIN_EN; its retry begins it anew. OTP_CTL burns the key and AUTH, once, in a SAFE boot. Completes:
resetNFall, resetNRise, vaoPowerUp, vaoLoss, startColdRequest, startWarmRequest, imageSection, noImage, startDiscoveryTimeout, digestCompareTimeout,
startTimeout, powerUpTimeout, startRetry, otpBurn. Model's choices: log entries 10, 12, 26, 28, 64, 66, 132. -/
def Obligations.StartRows : Prop :=
  ∀ s : State, InOrder s →
    let failed (cause : Nat) (t : State) : Prop := rd F.pwr_START_STAT_CAUSE 0 t = cause ∧ t.start.step = 0 ∧ t.start.failed = true ∧
      t.start.retryWarm = (s.start.kind == 2 && cause != 1) ∧ t.pins.mainEn = false ∧ t.pins.mainPg = false ∧ t.pins.refclk = false ∧ t.pins.safeN = 15 ∧ t.clock.run = false
    let kind : Nat := if rd F.pwr_START_FAILS_COLD 0 s = 3 then 3 else 1
    let begun (k : Nat) (t : State) : Prop := t.start.kind = k ∧ rd F.pwr_START_STAT_KIND 0 t = k ∧ t.start.failed = false ∧ t.pins.mainEn = true ∧ t.ctxs = [] ∧
      t.units = [] ∧ rdB F.pwr_MODE_SAFE_BOOT 0 t = false ∧ inSafe t = false ∧
      t.start.step = if s.pins.mainPg ∧ s.pins.refclk ∧ k ≠ 3 then 2 else 1
    (modeOf s ≠ 0 → s.pins.resetN = true → ∃ t, exec .resetNFall s = .next (finish t) ∧ modeOf t = 3 ∧ t.pins.resetN = false ∧ t.pins.mainEn = false ∧
      t.pins.safeN = 15 ∧ t.start.step = 0 ∧ t.contain = State.reset.contain ∧ t.pwr.trans = none ∧ ∀ d, d < 50 → domOn d t = false) ∧
    (∀ sel, sel < 8 → s.pins.resetN = false →
      (modeOf s ≠ 0 → ∃ t, exec (.resetNRise sel) s = .next (finish t) ∧ begun kind t ∧ t.pins.resetN = true ∧ t.pins.bootSel = sel) ∧
      (modeOf s = 0 → exec (.resetNRise sel) s = .next (finish { s with pins := { s.pins with resetN := true, bootSel := sel } }))) ∧
    (modeOf s = 0 → ∃ t, exec .vaoPowerUp s = .next (finish t) ∧ modeOf t = 3 ∧ t.regs = [] ∧ t.ctxs = [] ∧ t.start.key = s.start.key ∧ t.start.keySet = s.start.keySet ∧
      (∀ a, t.byte a = if isImem (a / 32) then s.byte a else 0)) ∧
    (modeOf s ≠ 0 → ∃ t, exec .vaoLoss s = .next (finish t) ∧ modeOf t = 0 ∧ t.ctxs = [] ∧ ∀ a, t.byte a = if isImem (a / 32) then s.byte a else 0) ∧
    (s.pins.resetN = true → modeOf s ≠ 0 →
      (s.start.step = 0 → ∃ t, exec .startColdRequest s = .next (finish t) ∧ t.start = { s.start with due := 1 } ∧ rd F.pwr_START_CTL_RELOAD 0 t = rd F.pwr_START_CTL_RELOAD 0 s) ∧
      (starting s = false → rdB F.pwr_MODE_SAFE_BOOT 0 s = false → s.start.due = 0 → ∃ t, exec .startWarmRequest s = .next (finish t) ∧
        t.start = { s.start with due := 2 } ∧ rd F.pwr_START_CTL_RELOAD 0 t = rd F.pwr_START_CTL_RELOAD 0 s)) ∧
    (∀ h b, s.start.step = 4 → s.start.skipTry = false →
      let x : Section := { hdr := h, body := b }
      let s0 : State := if x.typ = 1 then { s with start := { s.start with stage := [], loading := [] } } else s
      let before := if x.typ = 1 then [] else s.start.loading
      (x.typ ≠ 10 → x.typ ≠ 15 → sectionCheck (h :: b) x before s0 = [] →
        exec (.imageSection (h :: b)) s = .next (finish { s0 with start := { s0.start with loading := before ++ [x] } })) ∧
      ∀ c l, sectionCheck (h :: b) x before s0 = c :: l → ∃ t, exec (.imageSection (h :: b)) s = .next (finish t) ∧ rdW F.pwr_IMAGE_ID 0 t = 0 ∧ t.start.stage = [] ∧
        t.start.loading = [] ∧ ∃ r ∈ c :: l, (∀ e ∈ c :: l, r ≤ e) ∧ rd F.pwr_START_STAT_REASON 0 t = r % 16) ∧
    (s.start.step = 4 → s.start.skipTry = false →
      (bootSource s = some 2 ∨ bootSource s = some 3 ∨ (bootSources s.pins.bootSel).length ≤ s.start.tried + 1 → ∃ t, exec .noImage s = .next (finish t) ∧ failed 3 t) ∧
      (bootSource s = some 0 ∨ bootSource s = some 1 → s.start.tried + 1 < (bootSources s.pins.bootSel).length →
        ∃ t, exec .noImage s = .next (finish t) ∧ t.start.tried = s.start.tried + 1 ∧ t.start.step = 4 ∧ t.start.loading = [])) ∧
    (s.start.step = 6 → s.start.skipTry = false → rdB F.qdl_ID_CFG_ROOT 0 s = false → hasId s = false →
      ∃ t, exec .startDiscoveryTimeout s = .next (finish t) ∧ failed 5 t) ∧
    (s.start.kind = 2 → 3 ≤ s.start.step → exec .digestCompareTimeout s = .next (finish { s with start := { s.start with digestDue := true } })) ∧
    (s.start.step ≠ 0 → ∃ t, exec .startTimeout s = .next (finish t) ∧ failed 9 t ∧
      (s.start.kind = 2 → rd F.pwr_START_FAILS_WARM 0 t = min (rd F.pwr_START_FAILS_WARM 0 s + 1) 3) ∧
      (s.start.kind ≠ 2 → rd F.pwr_START_FAILS_COLD 0 t = min (rd F.pwr_START_FAILS_COLD 0 s + 1) 3)) ∧
    (s.start.step = 1 → s.pins.mainPg = false ∨ s.pins.refclk = false → ∃ t, exec .powerUpTimeout s = .next (finish t) ∧ failed 1 t) ∧
    (s.start.failed = true → s.start.retryWarm = false → ∃ t, exec .startRetry s = .next (finish t) ∧ begun kind t) ∧
    ∀ v : Word, modeOf s ≠ 0 → rdB F.pwr_MODE_SAFE_BOOT 0 s = true → s.start.keySet = false → v.toNat % 2 = 1 →
      ∃ t, exec (.otpBurn v) s = .next (finish t) ∧ t.start.keySet = true ∧ t.start.authReq = v.getLsbD 1 ∧
        (∀ i, i < 8 → t.start.key.toNat / 2 ^ (32 * i) % 2 ^ 32 = rd (F.pwr_OTP_KEY_VAL.nth i) 0 s) ∧ t = { s with start := t.start }

/-- R8, R10, R12, R13, R239, R342: a write of a register that only stores takes its fields, bits 63:36 of its slot being ignored; a write of a register of
a block that is off or of an UNBOUND context, or of no register, does nothing. A field RW takes a value that it defines, and a field W1C is cleared by
ones. A read delivers the register, with bits 63:36 zero; a read of a counter that is RS clears it, and clears nothing else; one of no register
delivers 0. Completes: registerWrite, registerReadClear. -/
def Obligations.RegisterRows : Prop :=
  (∀ (b : Blk) (i o : Nat) (v : BitVec 64) (s : State), locate (keyOf b i o) = some (b, i, o) → keyOf b i o < 0x60000 →
    let read (w : Word) (t : State) : State := { t with sent := t.sent ++ [.bar (keyOf b i o) (w.setWidth 64)] }
    (b = .route ∨ b = .qdl ∨ b = .evo ∨ (b = .desc ∧ o ≠ 7) ∨ (b = .sctx ∧ o ≠ 8) ∨ (b = .clu ∧ o ≠ 480 ∧ o ≠ 6)) →
    ((fieldsAt b o).isEmpty = false → blkOn b i s = true → modeOf s ≠ 0 → (b = .sctx → (s.ctx i).st ≠ .unbound) →
      exec (.registerWrite (keyOf b i o) v) s = .next (finish (storeReg b i o (v.setWidth 36) s))) ∧
    (b = .sctx → (s.ctx i).st = .unbound → exec (.registerWrite (keyOf b i o) v) s = .next (finish s)) ∧
    (blkOn b i s = false → exec (.registerWrite (keyOf b i o) v) s = .next (finish s) ∧ exec (.registerReadClear (keyOf b i o)) s = .next (finish (read 0 s)))) ∧
  (∀ (k : Nat) (v : BitVec 64) (s : State), (k < 0x60000 ∧ locate k = none) ∨ (0x80000 ≤ k ∧ k < 0x200000) →
    exec (.registerWrite k v) s = .next (finish s) ∧ exec (.registerReadClear k) s = .next (finish { s with sent := s.sent ++ [.bar k 0] })) ∧
  (∀ (b : Blk) (i o : Nat) (v : Word) (s : State) (f : Fld), InOrder s → fieldsAt b o = [f] →
    let k := keyOf b i o
    let t := storeReg b i o v s
    (f.acc = .rw → fieldOk b i o f.lo (bits v f.lo f.w) v s = true → f.lo + f.w ≤ 36 → bits (t.reg k) f.lo f.w = bits v f.lo f.w) ∧
    (f.acc = .w1c → f.lo + f.w ≤ 36 → ∀ j, j < f.w → (bits (t.reg k) f.lo f.w).testBit j = ((bits (s.reg k) f.lo f.w).testBit j && !(bits v f.lo f.w).testBit j)) ∧
    (f.acc = .ro → t.reg k = s.reg k) ∧ ∀ j, j ≠ k → t.reg j = s.reg j) ∧
  ∀ (l o : Nat) (s : State), l < 6 → o = 6 ∨ o = 7 → domOn (42 + l) s = true → modeOf s ≠ 0 →
    (readReg 4096 (keyOf .link l o) s).1 = s.reg (keyOf .link l o) ∧
    exec (.registerReadClear (keyOf .link l o)) s =
      .next (finish { s.setReg (keyOf .link l o) 0 with sent := s.sent ++ [.bar (keyOf .link l o) ((s.reg (keyOf .link l o)).setWidth 64)] })

/-- The queue of waiting commands (log entries 11, 13): a step takes the command at its front and is that command's effect with the rest of the queue. -/
def Obligations.StepRunsFront : Prop :=
  ∀ (c : Instr) (rest : List Instr) (s : State), s.pending = c :: rest → step s = exec c { s with pending := rest }

/-- The model's choices (log entries 32, 41, 95): on an empty queue a step is a tick of 1 ns. What follows a command leaves a calm state as it is, and
handles no fault in a quiet one. In a calm state without a transition, a heap entry, a hold, a running filter group or tracker, a tick counts the
ticks, the always-on clock outside OFF, and device time, by INC and SLEW, while its PLL runs and D48 is on. An entry of RETAIN or SENTINEL that has
its grants passes AP2. -/
def Obligations.IdleTick : Prop :=
  (∀ s : State, (Calm s → finish s = s) ∧ (Quiet s → settleFaults s = s)) ∧
  ∀ s : State, s.pending = [] → Calm s → s.heaps = [] → (∀ n, (s.tb n).holdAt = none) →
    clocksOn s = false ∨ ((∀ g, g < 12 → grpRuns g s = false) ∧ ∀ r, r < 8 → domOn (trkDomain r) s = false ∨ rdB (trkF r 0 0 1) r s = false) →
    let ao := if modeOf s = 0 then s.clock.ao else s.clock.ao + 1
    let t : State := { s with clock := { s.clock with tick := s.clock.tick + 1, ao := ao } }
    (s.pwr.trans = none → s.clock.run = false ∨ domOn 48 s = false → step s = .next t) ∧
    (s.pwr.trans = none → s.clock.run = true → domOn 48 s = true → rd F.tbu_TIME_STAT_STATE 0 s ≠ 3 →
      let dev := (((s.clock.dev : Int) + rd F.tbu_TIME_INC 0 s + rdZ F.tbu_TIME_SLEW 0 s) % 2 ^ 101).toNat
      dev / 2 ^ 65 = s.clock.dev / 2 ^ 65 → step s = .next { t with clock := { t.clock with dev := dev } }) ∧
    ∀ q : Trans, s.pwr.trans = some q → q.goal = 2 ∨ q.goal = 3 → q.step = 2 → s.clock.run = false → InOrder s →
      ∃ t2, step s = .next (finish t2) ∧ rd F.pwr_MODE_STEP 0 t2 = 3 ∧ t2.clock = t.clock ∧
        t2.pwr.trans = some { q with step := 3, waiting := (List.range 50).filter (fun d => domOn d s), granted := List.range 50 } ∧
        ∀ k, k ≠ keyOf .pwr 0 F.pwr_MODE_STEP.o → t2.reg k = s.reg k

/-- Log entry 9: a command that names only instances that the device has completes in every state; any other is a fault. No command is refused. -/
def Obligations.EveryCommandCompletes : Prop :=
  ∀ (i : Instr) (s : State), (Instr.wf i = true → ∃ t, exec i s = .next t) ∧ (Instr.wf i = false → exec i s = .fault .noSuchInstance)

/-- R71, R337, R465, R498, Tables PW-1, CX-1 and the reset columns (log entries 2, 3, 4, 10): after reset the mode is SENTINEL with RESET_N low and no
start in progress, every domain is off, every register holds its reset value, general registers, accumulators and memory read zero, no queue holds a
word, no link is on, no fault is held, nothing waits, and the state is calm and in order. -/
def Obligations.ResetState : Prop :=
  let s := State.reset
  s.pending = [] ∧ Calm s ∧ InOrder s ∧ modeOf s = 3 ∧ (∀ d, domOn d s = false) ∧ (∀ k, s.reg k = resetWord k) ∧ (∀ a, s.byte a = 0) ∧
  (∀ cid r, (s.ctx cid).getG r = 0 ∧ (s.ctx cid).m0 = 0 ∧ (s.ctx cid).m1 = 0) ∧ (∀ q, (s.queue q).cells = [] ∧ (s.queue q).transit = []) ∧
  (∀ l, l < 6 → linkState l s = 0) ∧ (∀ b, b < 4 → s.pins.safeN.testBit b = true) ∧ s.pins.resetN = false ∧ s.pins.mainEn = false ∧ s.pins.thermN = true ∧
  s.start.step = 0 ∧ s.contain.held = [] ∧ inSafe s = false ∧ (∀ n, n < 64 → s.host.masks.testBit n = true) ∧ rd F.pwr_FRQ_PTR_TAIL 0 s = 0

/-- The form of the state (log entry 2): every step that answers a next state keeps every sparse list in order, with one value for each key, and memory
canonical, from whatever state in order it starts and whatever commands wait. -/
def Obligations.OrderKept : Prop :=
  ∀ s t : State, InOrder s → step s = .next t → InOrder t

/-- R77 to R93, Tables EN-7 to EN-16: decode loses no bit of a word. A single word of any condition, opcode and fields that R92 has no reason against, and
a pair of any two slots that it has no reason against and of which not both are queue operations, decode to their operations, which encode to the same
word; and what a word decodes to encodes to that word. -/
def Obligations.WordRoundTrip : Prop :=
  (∀ c op low k, c < 16 → op < 128 → low < 2 ^ 24 → longReason op low k = none →
    decodeFj (encodeFj (.one c (longOf op low))) k = .ok (.one c (longOf op low)) ∧
    (encodeFj (.one c (longOf op low))).toNat = c * 2 ^ 31 + op * 2 ^ 24 + low) ∧
  (∀ c kk a b k, c < 16 → a < 2 ^ 15 → b < 2 ^ 15 → shortReason a = none → shortReason b = none → (isShortQueue a && isShortQueue b) = false →
    decodeFj (encodeFj (.two c kk (shortOf a) (shortOf b))) k = .ok (.two c kk (shortOf a) (shortOf b)) ∧
    (encodeFj (.two c kk (shortOf a) (shortOf b))).toNat = 2 ^ 35 + c * 2 ^ 31 + (if kk then 2 ^ 30 else 0) + a * 2 ^ 15 + b) ∧
  ∀ (w : Word) (k : Nat) (f : Fj), decodeFj w k = .ok f → encodeFj f = w
end

