-- ==== Sys2Proof/Laws/State.lean ====
section
/-! SUPPORT. What each update of the state leaves as it is: one lemma per field per update, each true by unfolding; and each field of an instance as an update of one instance. -/

set_option Elab.async false

namespace Sys2Proof.Machine

/-! ### setCtx -/

@[simp] theorem State.setCtx_pending (k : Nat) (x : Ctx) (s : State) : (s.setCtx k x).pending = s.pending := rfl
@[simp] theorem State.setCtx_free (k : Nat) (x : Ctx) (s : State) : (s.setCtx k x).free = s.free := rfl
@[simp] theorem State.setCtx_order (k : Nat) (x : Ctx) (s : State) : (s.setCtx k x).order = s.order := rfl
@[simp] theorem State.setCtx_clock (k : Nat) (x : Ctx) (s : State) : (s.setCtx k x).clock = s.clock := rfl
@[simp] theorem State.setCtx_regs (k : Nat) (x : Ctx) (s : State) : (s.setCtx k x).regs = s.regs := rfl
@[simp] theorem State.setCtx_mem (k : Nat) (x : Ctx) (s : State) : (s.setCtx k x).mem = s.mem := rfl
@[simp] theorem State.setCtx_poison (k : Nat) (x : Ctx) (s : State) : (s.setCtx k x).poison = s.poison := rfl
@[simp] theorem State.setCtx_errs (k : Nat) (x : Ctx) (s : State) : (s.setCtx k x).errs = s.errs := rfl
@[simp] theorem State.setCtx_units (k : Nat) (x : Ctx) (s : State) : (s.setCtx k x).units = s.units := rfl
@[simp] theorem State.setCtx_heaps (k : Nat) (x : Ctx) (s : State) : (s.setCtx k x).heaps = s.heaps := rfl
@[simp] theorem State.setCtx_fired (k : Nat) (x : Ctx) (s : State) : (s.setCtx k x).fired = s.fired := rfl
@[simp] theorem State.setCtx_reqs (k : Nat) (x : Ctx) (s : State) : (s.setCtx k x).reqs = s.reqs := rfl
@[simp] theorem State.setCtx_posted (k : Nat) (x : Ctx) (s : State) : (s.setCtx k x).posted = s.posted := rfl
@[simp] theorem State.setCtx_tbs (k : Nat) (x : Ctx) (s : State) : (s.setCtx k x).tbs = s.tbs := rfl
@[simp] theorem State.setCtx_pps (k : Nat) (x : Ctx) (s : State) : (s.setCtx k x).pps = s.pps := rfl
@[simp] theorem State.setCtx_queues (k : Nat) (x : Ctx) (s : State) : (s.setCtx k x).queues = s.queues := rfl
@[simp] theorem State.setCtx_xings (k : Nat) (x : Ctx) (s : State) : (s.setCtx k x).xings = s.xings := rfl
@[simp] theorem State.setCtx_grps (k : Nat) (x : Ctx) (s : State) : (s.setCtx k x).grps = s.grps := rfl
@[simp] theorem State.setCtx_chans (k : Nat) (x : Ctx) (s : State) : (s.setCtx k x).chans = s.chans := rfl
@[simp] theorem State.setCtx_comps (k : Nat) (x : Ctx) (s : State) : (s.setCtx k x).comps = s.comps := rfl
@[simp] theorem State.setCtx_encs (k : Nat) (x : Ctx) (s : State) : (s.setCtx k x).encs = s.encs := rfl
@[simp] theorem State.setCtx_trks (k : Nat) (x : Ctx) (s : State) : (s.setCtx k x).trks = s.trks := rfl
@[simp] theorem State.setCtx_evts (k : Nat) (x : Ctx) (s : State) : (s.setCtx k x).evts = s.evts := rfl
@[simp] theorem State.setCtx_evPins (k : Nat) (x : Ctx) (s : State) : (s.setCtx k x).evPins = s.evPins := rfl
@[simp] theorem State.setCtx_gens (k : Nat) (x : Ctx) (s : State) : (s.setCtx k x).gens = s.gens := rfl
@[simp] theorem State.setCtx_banks (k : Nat) (x : Ctx) (s : State) : (s.setCtx k x).banks = s.banks := rfl
@[simp] theorem State.setCtx_dma (k : Nat) (x : Ctx) (s : State) : (s.setCtx k x).dma = s.dma := rfl
@[simp] theorem State.setCtx_dmaTurn (k : Nat) (x : Ctx) (s : State) : (s.setCtx k x).dmaTurn = s.dmaTurn := rfl
@[simp] theorem State.setCtx_host (k : Nat) (x : Ctx) (s : State) : (s.setCtx k x).host = s.host := rfl
@[simp] theorem State.setCtx_links (k : Nat) (x : Ctx) (s : State) : (s.setCtx k x).links = s.links := rfl
@[simp] theorem State.setCtx_qdl (k : Nat) (x : Ctx) (s : State) : (s.setCtx k x).qdl = s.qdl := rfl
@[simp] theorem State.setCtx_pwr (k : Nat) (x : Ctx) (s : State) : (s.setCtx k x).pwr = s.pwr := rfl
@[simp] theorem State.setCtx_pins (k : Nat) (x : Ctx) (s : State) : (s.setCtx k x).pins = s.pins := rfl
@[simp] theorem State.setCtx_jsp (k : Nat) (x : Ctx) (s : State) : (s.setCtx k x).jsp = s.jsp := rfl
@[simp] theorem State.setCtx_start (k : Nat) (x : Ctx) (s : State) : (s.setCtx k x).start = s.start := rfl
@[simp] theorem State.setCtx_contain (k : Nat) (x : Ctx) (s : State) : (s.setCtx k x).contain = s.contain := rfl
@[simp] theorem State.setCtx_raised (k : Nat) (x : Ctx) (s : State) : (s.setCtx k x).raised = s.raised := rfl
@[simp] theorem State.setCtx_saved (k : Nat) (x : Ctx) (s : State) : (s.setCtx k x).saved = s.saved := rfl
@[simp] theorem State.setCtx_scrub (k : Nat) (x : Ctx) (s : State) : (s.setCtx k x).scrub = s.scrub := rfl
@[simp] theorem State.setCtx_program (k : Nat) (x : Ctx) (s : State) : (s.setCtx k x).program = s.program := rfl
@[simp] theorem State.setCtx_sent (k : Nat) (x : Ctx) (s : State) : (s.setCtx k x).sent = s.sent := rfl
theorem State.modCtx_eq (k : Nat) (f : Ctx → Ctx) (s : State) : s.modCtx k f = s.setCtx k (f (s.ctx k)) := rfl
@[simp] theorem State.setCtx_unit (k : Nat) (x : Ctx) (j : Nat) (s : State) : (s.setCtx k x).unit j = s.unit j := rfl
@[simp] theorem State.setCtx_heap (k : Nat) (x : Ctx) (j : Nat) (s : State) : (s.setCtx k x).heap j = s.heap j := rfl
@[simp] theorem State.setCtx_tb (k : Nat) (x : Ctx) (j : Nat) (s : State) : (s.setCtx k x).tb j = s.tb j := rfl
@[simp] theorem State.setCtx_queue (k : Nat) (x : Ctx) (j : Nat) (s : State) : (s.setCtx k x).queue j = s.queue j := rfl
@[simp] theorem State.setCtx_xing (k : Nat) (x : Ctx) (j : Nat) (s : State) : (s.setCtx k x).xing j = s.xing j := rfl
@[simp] theorem State.setCtx_grp (k : Nat) (x : Ctx) (j : Nat) (s : State) : (s.setCtx k x).grp j = s.grp j := rfl
@[simp] theorem State.setCtx_chan (k : Nat) (x : Ctx) (j : Nat) (s : State) : (s.setCtx k x).chan j = s.chan j := rfl
@[simp] theorem State.setCtx_comp (k : Nat) (x : Ctx) (j : Nat) (s : State) : (s.setCtx k x).comp j = s.comp j := rfl
@[simp] theorem State.setCtx_enc (k : Nat) (x : Ctx) (j : Nat) (s : State) : (s.setCtx k x).enc j = s.enc j := rfl
@[simp] theorem State.setCtx_trk (k : Nat) (x : Ctx) (j : Nat) (s : State) : (s.setCtx k x).trk j = s.trk j := rfl
@[simp] theorem State.setCtx_evt (k : Nat) (x : Ctx) (j : Nat) (s : State) : (s.setCtx k x).evt j = s.evt j := rfl
@[simp] theorem State.setCtx_evPin (k : Nat) (x : Ctx) (j : Nat) (s : State) : (s.setCtx k x).evPin j = s.evPin j := rfl
@[simp] theorem State.setCtx_gen (k : Nat) (x : Ctx) (j : Nat) (s : State) : (s.setCtx k x).gen j = s.gen j := rfl
@[simp] theorem State.setCtx_bank (k : Nat) (x : Ctx) (j : Nat) (s : State) : (s.setCtx k x).bank j = s.bank j := rfl
@[simp] theorem State.setCtx_chDma (k : Nat) (x : Ctx) (j : Nat) (s : State) : (s.setCtx k x).chDma j = s.chDma j := rfl
@[simp] theorem State.setCtx_link (k : Nat) (x : Ctx) (j : Nat) (s : State) : (s.setCtx k x).link j = s.link j := rfl
@[simp] theorem State.setCtx_reg (k : Nat) (x : Ctx) (j : Nat) (s : State) : (s.setCtx k x).reg j = s.reg j := rfl

/-! ### setUnit -/

@[simp] theorem State.setUnit_pending (k : Nat) (x : UnitSt) (s : State) : (s.setUnit k x).pending = s.pending := rfl
@[simp] theorem State.setUnit_free (k : Nat) (x : UnitSt) (s : State) : (s.setUnit k x).free = s.free := rfl
@[simp] theorem State.setUnit_order (k : Nat) (x : UnitSt) (s : State) : (s.setUnit k x).order = s.order := rfl
@[simp] theorem State.setUnit_clock (k : Nat) (x : UnitSt) (s : State) : (s.setUnit k x).clock = s.clock := rfl
@[simp] theorem State.setUnit_regs (k : Nat) (x : UnitSt) (s : State) : (s.setUnit k x).regs = s.regs := rfl
@[simp] theorem State.setUnit_mem (k : Nat) (x : UnitSt) (s : State) : (s.setUnit k x).mem = s.mem := rfl
@[simp] theorem State.setUnit_poison (k : Nat) (x : UnitSt) (s : State) : (s.setUnit k x).poison = s.poison := rfl
@[simp] theorem State.setUnit_errs (k : Nat) (x : UnitSt) (s : State) : (s.setUnit k x).errs = s.errs := rfl
@[simp] theorem State.setUnit_ctxs (k : Nat) (x : UnitSt) (s : State) : (s.setUnit k x).ctxs = s.ctxs := rfl
@[simp] theorem State.setUnit_heaps (k : Nat) (x : UnitSt) (s : State) : (s.setUnit k x).heaps = s.heaps := rfl
@[simp] theorem State.setUnit_fired (k : Nat) (x : UnitSt) (s : State) : (s.setUnit k x).fired = s.fired := rfl
@[simp] theorem State.setUnit_reqs (k : Nat) (x : UnitSt) (s : State) : (s.setUnit k x).reqs = s.reqs := rfl
@[simp] theorem State.setUnit_posted (k : Nat) (x : UnitSt) (s : State) : (s.setUnit k x).posted = s.posted := rfl
@[simp] theorem State.setUnit_tbs (k : Nat) (x : UnitSt) (s : State) : (s.setUnit k x).tbs = s.tbs := rfl
@[simp] theorem State.setUnit_pps (k : Nat) (x : UnitSt) (s : State) : (s.setUnit k x).pps = s.pps := rfl
@[simp] theorem State.setUnit_queues (k : Nat) (x : UnitSt) (s : State) : (s.setUnit k x).queues = s.queues := rfl
@[simp] theorem State.setUnit_xings (k : Nat) (x : UnitSt) (s : State) : (s.setUnit k x).xings = s.xings := rfl
@[simp] theorem State.setUnit_grps (k : Nat) (x : UnitSt) (s : State) : (s.setUnit k x).grps = s.grps := rfl
@[simp] theorem State.setUnit_chans (k : Nat) (x : UnitSt) (s : State) : (s.setUnit k x).chans = s.chans := rfl
@[simp] theorem State.setUnit_comps (k : Nat) (x : UnitSt) (s : State) : (s.setUnit k x).comps = s.comps := rfl
@[simp] theorem State.setUnit_encs (k : Nat) (x : UnitSt) (s : State) : (s.setUnit k x).encs = s.encs := rfl
@[simp] theorem State.setUnit_trks (k : Nat) (x : UnitSt) (s : State) : (s.setUnit k x).trks = s.trks := rfl
@[simp] theorem State.setUnit_evts (k : Nat) (x : UnitSt) (s : State) : (s.setUnit k x).evts = s.evts := rfl
@[simp] theorem State.setUnit_evPins (k : Nat) (x : UnitSt) (s : State) : (s.setUnit k x).evPins = s.evPins := rfl
@[simp] theorem State.setUnit_gens (k : Nat) (x : UnitSt) (s : State) : (s.setUnit k x).gens = s.gens := rfl
@[simp] theorem State.setUnit_banks (k : Nat) (x : UnitSt) (s : State) : (s.setUnit k x).banks = s.banks := rfl
@[simp] theorem State.setUnit_dma (k : Nat) (x : UnitSt) (s : State) : (s.setUnit k x).dma = s.dma := rfl
@[simp] theorem State.setUnit_dmaTurn (k : Nat) (x : UnitSt) (s : State) : (s.setUnit k x).dmaTurn = s.dmaTurn := rfl
@[simp] theorem State.setUnit_host (k : Nat) (x : UnitSt) (s : State) : (s.setUnit k x).host = s.host := rfl
@[simp] theorem State.setUnit_links (k : Nat) (x : UnitSt) (s : State) : (s.setUnit k x).links = s.links := rfl
@[simp] theorem State.setUnit_qdl (k : Nat) (x : UnitSt) (s : State) : (s.setUnit k x).qdl = s.qdl := rfl
@[simp] theorem State.setUnit_pwr (k : Nat) (x : UnitSt) (s : State) : (s.setUnit k x).pwr = s.pwr := rfl
@[simp] theorem State.setUnit_pins (k : Nat) (x : UnitSt) (s : State) : (s.setUnit k x).pins = s.pins := rfl
@[simp] theorem State.setUnit_jsp (k : Nat) (x : UnitSt) (s : State) : (s.setUnit k x).jsp = s.jsp := rfl
@[simp] theorem State.setUnit_start (k : Nat) (x : UnitSt) (s : State) : (s.setUnit k x).start = s.start := rfl
@[simp] theorem State.setUnit_contain (k : Nat) (x : UnitSt) (s : State) : (s.setUnit k x).contain = s.contain := rfl
@[simp] theorem State.setUnit_raised (k : Nat) (x : UnitSt) (s : State) : (s.setUnit k x).raised = s.raised := rfl
@[simp] theorem State.setUnit_saved (k : Nat) (x : UnitSt) (s : State) : (s.setUnit k x).saved = s.saved := rfl
@[simp] theorem State.setUnit_scrub (k : Nat) (x : UnitSt) (s : State) : (s.setUnit k x).scrub = s.scrub := rfl
@[simp] theorem State.setUnit_program (k : Nat) (x : UnitSt) (s : State) : (s.setUnit k x).program = s.program := rfl
@[simp] theorem State.setUnit_sent (k : Nat) (x : UnitSt) (s : State) : (s.setUnit k x).sent = s.sent := rfl
theorem State.modUnit_eq (k : Nat) (f : UnitSt → UnitSt) (s : State) : s.modUnit k f = s.setUnit k (f (s.unit k)) := rfl
@[simp] theorem State.setUnit_ctx (k : Nat) (x : UnitSt) (j : Nat) (s : State) : (s.setUnit k x).ctx j = s.ctx j := rfl
@[simp] theorem State.setUnit_heap (k : Nat) (x : UnitSt) (j : Nat) (s : State) : (s.setUnit k x).heap j = s.heap j := rfl
@[simp] theorem State.setUnit_tb (k : Nat) (x : UnitSt) (j : Nat) (s : State) : (s.setUnit k x).tb j = s.tb j := rfl
@[simp] theorem State.setUnit_queue (k : Nat) (x : UnitSt) (j : Nat) (s : State) : (s.setUnit k x).queue j = s.queue j := rfl
@[simp] theorem State.setUnit_xing (k : Nat) (x : UnitSt) (j : Nat) (s : State) : (s.setUnit k x).xing j = s.xing j := rfl
@[simp] theorem State.setUnit_grp (k : Nat) (x : UnitSt) (j : Nat) (s : State) : (s.setUnit k x).grp j = s.grp j := rfl
@[simp] theorem State.setUnit_chan (k : Nat) (x : UnitSt) (j : Nat) (s : State) : (s.setUnit k x).chan j = s.chan j := rfl
@[simp] theorem State.setUnit_comp (k : Nat) (x : UnitSt) (j : Nat) (s : State) : (s.setUnit k x).comp j = s.comp j := rfl
@[simp] theorem State.setUnit_enc (k : Nat) (x : UnitSt) (j : Nat) (s : State) : (s.setUnit k x).enc j = s.enc j := rfl
@[simp] theorem State.setUnit_trk (k : Nat) (x : UnitSt) (j : Nat) (s : State) : (s.setUnit k x).trk j = s.trk j := rfl
@[simp] theorem State.setUnit_evt (k : Nat) (x : UnitSt) (j : Nat) (s : State) : (s.setUnit k x).evt j = s.evt j := rfl
@[simp] theorem State.setUnit_evPin (k : Nat) (x : UnitSt) (j : Nat) (s : State) : (s.setUnit k x).evPin j = s.evPin j := rfl
@[simp] theorem State.setUnit_gen (k : Nat) (x : UnitSt) (j : Nat) (s : State) : (s.setUnit k x).gen j = s.gen j := rfl
@[simp] theorem State.setUnit_bank (k : Nat) (x : UnitSt) (j : Nat) (s : State) : (s.setUnit k x).bank j = s.bank j := rfl
@[simp] theorem State.setUnit_chDma (k : Nat) (x : UnitSt) (j : Nat) (s : State) : (s.setUnit k x).chDma j = s.chDma j := rfl
@[simp] theorem State.setUnit_link (k : Nat) (x : UnitSt) (j : Nat) (s : State) : (s.setUnit k x).link j = s.link j := rfl
@[simp] theorem State.setUnit_reg (k : Nat) (x : UnitSt) (j : Nat) (s : State) : (s.setUnit k x).reg j = s.reg j := rfl

/-! ### setHeap -/

@[simp] theorem State.setHeap_pending (k : Nat) (x : Heap) (s : State) : (s.setHeap k x).pending = s.pending := rfl
@[simp] theorem State.setHeap_free (k : Nat) (x : Heap) (s : State) : (s.setHeap k x).free = s.free := rfl
@[simp] theorem State.setHeap_order (k : Nat) (x : Heap) (s : State) : (s.setHeap k x).order = s.order := rfl
@[simp] theorem State.setHeap_clock (k : Nat) (x : Heap) (s : State) : (s.setHeap k x).clock = s.clock := rfl
@[simp] theorem State.setHeap_regs (k : Nat) (x : Heap) (s : State) : (s.setHeap k x).regs = s.regs := rfl
@[simp] theorem State.setHeap_mem (k : Nat) (x : Heap) (s : State) : (s.setHeap k x).mem = s.mem := rfl
@[simp] theorem State.setHeap_poison (k : Nat) (x : Heap) (s : State) : (s.setHeap k x).poison = s.poison := rfl
@[simp] theorem State.setHeap_errs (k : Nat) (x : Heap) (s : State) : (s.setHeap k x).errs = s.errs := rfl
@[simp] theorem State.setHeap_ctxs (k : Nat) (x : Heap) (s : State) : (s.setHeap k x).ctxs = s.ctxs := rfl
@[simp] theorem State.setHeap_units (k : Nat) (x : Heap) (s : State) : (s.setHeap k x).units = s.units := rfl
@[simp] theorem State.setHeap_fired (k : Nat) (x : Heap) (s : State) : (s.setHeap k x).fired = s.fired := rfl
@[simp] theorem State.setHeap_reqs (k : Nat) (x : Heap) (s : State) : (s.setHeap k x).reqs = s.reqs := rfl
@[simp] theorem State.setHeap_posted (k : Nat) (x : Heap) (s : State) : (s.setHeap k x).posted = s.posted := rfl
@[simp] theorem State.setHeap_tbs (k : Nat) (x : Heap) (s : State) : (s.setHeap k x).tbs = s.tbs := rfl
@[simp] theorem State.setHeap_pps (k : Nat) (x : Heap) (s : State) : (s.setHeap k x).pps = s.pps := rfl
@[simp] theorem State.setHeap_queues (k : Nat) (x : Heap) (s : State) : (s.setHeap k x).queues = s.queues := rfl
@[simp] theorem State.setHeap_xings (k : Nat) (x : Heap) (s : State) : (s.setHeap k x).xings = s.xings := rfl
@[simp] theorem State.setHeap_grps (k : Nat) (x : Heap) (s : State) : (s.setHeap k x).grps = s.grps := rfl
@[simp] theorem State.setHeap_chans (k : Nat) (x : Heap) (s : State) : (s.setHeap k x).chans = s.chans := rfl
@[simp] theorem State.setHeap_comps (k : Nat) (x : Heap) (s : State) : (s.setHeap k x).comps = s.comps := rfl
@[simp] theorem State.setHeap_encs (k : Nat) (x : Heap) (s : State) : (s.setHeap k x).encs = s.encs := rfl
@[simp] theorem State.setHeap_trks (k : Nat) (x : Heap) (s : State) : (s.setHeap k x).trks = s.trks := rfl
@[simp] theorem State.setHeap_evts (k : Nat) (x : Heap) (s : State) : (s.setHeap k x).evts = s.evts := rfl
@[simp] theorem State.setHeap_evPins (k : Nat) (x : Heap) (s : State) : (s.setHeap k x).evPins = s.evPins := rfl
@[simp] theorem State.setHeap_gens (k : Nat) (x : Heap) (s : State) : (s.setHeap k x).gens = s.gens := rfl
@[simp] theorem State.setHeap_banks (k : Nat) (x : Heap) (s : State) : (s.setHeap k x).banks = s.banks := rfl
@[simp] theorem State.setHeap_dma (k : Nat) (x : Heap) (s : State) : (s.setHeap k x).dma = s.dma := rfl
@[simp] theorem State.setHeap_dmaTurn (k : Nat) (x : Heap) (s : State) : (s.setHeap k x).dmaTurn = s.dmaTurn := rfl
@[simp] theorem State.setHeap_host (k : Nat) (x : Heap) (s : State) : (s.setHeap k x).host = s.host := rfl
@[simp] theorem State.setHeap_links (k : Nat) (x : Heap) (s : State) : (s.setHeap k x).links = s.links := rfl
@[simp] theorem State.setHeap_qdl (k : Nat) (x : Heap) (s : State) : (s.setHeap k x).qdl = s.qdl := rfl
@[simp] theorem State.setHeap_pwr (k : Nat) (x : Heap) (s : State) : (s.setHeap k x).pwr = s.pwr := rfl
@[simp] theorem State.setHeap_pins (k : Nat) (x : Heap) (s : State) : (s.setHeap k x).pins = s.pins := rfl
@[simp] theorem State.setHeap_jsp (k : Nat) (x : Heap) (s : State) : (s.setHeap k x).jsp = s.jsp := rfl
@[simp] theorem State.setHeap_start (k : Nat) (x : Heap) (s : State) : (s.setHeap k x).start = s.start := rfl
@[simp] theorem State.setHeap_contain (k : Nat) (x : Heap) (s : State) : (s.setHeap k x).contain = s.contain := rfl
@[simp] theorem State.setHeap_raised (k : Nat) (x : Heap) (s : State) : (s.setHeap k x).raised = s.raised := rfl
@[simp] theorem State.setHeap_saved (k : Nat) (x : Heap) (s : State) : (s.setHeap k x).saved = s.saved := rfl
@[simp] theorem State.setHeap_scrub (k : Nat) (x : Heap) (s : State) : (s.setHeap k x).scrub = s.scrub := rfl
@[simp] theorem State.setHeap_program (k : Nat) (x : Heap) (s : State) : (s.setHeap k x).program = s.program := rfl
@[simp] theorem State.setHeap_sent (k : Nat) (x : Heap) (s : State) : (s.setHeap k x).sent = s.sent := rfl
theorem State.modHeap_eq (k : Nat) (f : Heap → Heap) (s : State) : s.modHeap k f = s.setHeap k (f (s.heap k)) := rfl
@[simp] theorem State.setHeap_ctx (k : Nat) (x : Heap) (j : Nat) (s : State) : (s.setHeap k x).ctx j = s.ctx j := rfl
@[simp] theorem State.setHeap_unit (k : Nat) (x : Heap) (j : Nat) (s : State) : (s.setHeap k x).unit j = s.unit j := rfl
@[simp] theorem State.setHeap_tb (k : Nat) (x : Heap) (j : Nat) (s : State) : (s.setHeap k x).tb j = s.tb j := rfl
@[simp] theorem State.setHeap_queue (k : Nat) (x : Heap) (j : Nat) (s : State) : (s.setHeap k x).queue j = s.queue j := rfl
@[simp] theorem State.setHeap_xing (k : Nat) (x : Heap) (j : Nat) (s : State) : (s.setHeap k x).xing j = s.xing j := rfl
@[simp] theorem State.setHeap_grp (k : Nat) (x : Heap) (j : Nat) (s : State) : (s.setHeap k x).grp j = s.grp j := rfl
@[simp] theorem State.setHeap_chan (k : Nat) (x : Heap) (j : Nat) (s : State) : (s.setHeap k x).chan j = s.chan j := rfl
@[simp] theorem State.setHeap_comp (k : Nat) (x : Heap) (j : Nat) (s : State) : (s.setHeap k x).comp j = s.comp j := rfl
@[simp] theorem State.setHeap_enc (k : Nat) (x : Heap) (j : Nat) (s : State) : (s.setHeap k x).enc j = s.enc j := rfl
@[simp] theorem State.setHeap_trk (k : Nat) (x : Heap) (j : Nat) (s : State) : (s.setHeap k x).trk j = s.trk j := rfl
@[simp] theorem State.setHeap_evt (k : Nat) (x : Heap) (j : Nat) (s : State) : (s.setHeap k x).evt j = s.evt j := rfl
@[simp] theorem State.setHeap_evPin (k : Nat) (x : Heap) (j : Nat) (s : State) : (s.setHeap k x).evPin j = s.evPin j := rfl
@[simp] theorem State.setHeap_gen (k : Nat) (x : Heap) (j : Nat) (s : State) : (s.setHeap k x).gen j = s.gen j := rfl
@[simp] theorem State.setHeap_bank (k : Nat) (x : Heap) (j : Nat) (s : State) : (s.setHeap k x).bank j = s.bank j := rfl
@[simp] theorem State.setHeap_chDma (k : Nat) (x : Heap) (j : Nat) (s : State) : (s.setHeap k x).chDma j = s.chDma j := rfl
@[simp] theorem State.setHeap_link (k : Nat) (x : Heap) (j : Nat) (s : State) : (s.setHeap k x).link j = s.link j := rfl
@[simp] theorem State.setHeap_reg (k : Nat) (x : Heap) (j : Nat) (s : State) : (s.setHeap k x).reg j = s.reg j := rfl

/-! ### setTb -/

@[simp] theorem State.setTb_pending (k : Nat) (x : Tb) (s : State) : (s.setTb k x).pending = s.pending := rfl
@[simp] theorem State.setTb_free (k : Nat) (x : Tb) (s : State) : (s.setTb k x).free = s.free := rfl
@[simp] theorem State.setTb_order (k : Nat) (x : Tb) (s : State) : (s.setTb k x).order = s.order := rfl
@[simp] theorem State.setTb_clock (k : Nat) (x : Tb) (s : State) : (s.setTb k x).clock = s.clock := rfl
@[simp] theorem State.setTb_regs (k : Nat) (x : Tb) (s : State) : (s.setTb k x).regs = s.regs := rfl
@[simp] theorem State.setTb_mem (k : Nat) (x : Tb) (s : State) : (s.setTb k x).mem = s.mem := rfl
@[simp] theorem State.setTb_poison (k : Nat) (x : Tb) (s : State) : (s.setTb k x).poison = s.poison := rfl
@[simp] theorem State.setTb_errs (k : Nat) (x : Tb) (s : State) : (s.setTb k x).errs = s.errs := rfl
@[simp] theorem State.setTb_ctxs (k : Nat) (x : Tb) (s : State) : (s.setTb k x).ctxs = s.ctxs := rfl
@[simp] theorem State.setTb_units (k : Nat) (x : Tb) (s : State) : (s.setTb k x).units = s.units := rfl
@[simp] theorem State.setTb_heaps (k : Nat) (x : Tb) (s : State) : (s.setTb k x).heaps = s.heaps := rfl
@[simp] theorem State.setTb_fired (k : Nat) (x : Tb) (s : State) : (s.setTb k x).fired = s.fired := rfl
@[simp] theorem State.setTb_reqs (k : Nat) (x : Tb) (s : State) : (s.setTb k x).reqs = s.reqs := rfl
@[simp] theorem State.setTb_posted (k : Nat) (x : Tb) (s : State) : (s.setTb k x).posted = s.posted := rfl
@[simp] theorem State.setTb_pps (k : Nat) (x : Tb) (s : State) : (s.setTb k x).pps = s.pps := rfl
@[simp] theorem State.setTb_queues (k : Nat) (x : Tb) (s : State) : (s.setTb k x).queues = s.queues := rfl
@[simp] theorem State.setTb_xings (k : Nat) (x : Tb) (s : State) : (s.setTb k x).xings = s.xings := rfl
@[simp] theorem State.setTb_grps (k : Nat) (x : Tb) (s : State) : (s.setTb k x).grps = s.grps := rfl
@[simp] theorem State.setTb_chans (k : Nat) (x : Tb) (s : State) : (s.setTb k x).chans = s.chans := rfl
@[simp] theorem State.setTb_comps (k : Nat) (x : Tb) (s : State) : (s.setTb k x).comps = s.comps := rfl
@[simp] theorem State.setTb_encs (k : Nat) (x : Tb) (s : State) : (s.setTb k x).encs = s.encs := rfl
@[simp] theorem State.setTb_trks (k : Nat) (x : Tb) (s : State) : (s.setTb k x).trks = s.trks := rfl
@[simp] theorem State.setTb_evts (k : Nat) (x : Tb) (s : State) : (s.setTb k x).evts = s.evts := rfl
@[simp] theorem State.setTb_evPins (k : Nat) (x : Tb) (s : State) : (s.setTb k x).evPins = s.evPins := rfl
@[simp] theorem State.setTb_gens (k : Nat) (x : Tb) (s : State) : (s.setTb k x).gens = s.gens := rfl
@[simp] theorem State.setTb_banks (k : Nat) (x : Tb) (s : State) : (s.setTb k x).banks = s.banks := rfl
@[simp] theorem State.setTb_dma (k : Nat) (x : Tb) (s : State) : (s.setTb k x).dma = s.dma := rfl
@[simp] theorem State.setTb_dmaTurn (k : Nat) (x : Tb) (s : State) : (s.setTb k x).dmaTurn = s.dmaTurn := rfl
@[simp] theorem State.setTb_host (k : Nat) (x : Tb) (s : State) : (s.setTb k x).host = s.host := rfl
@[simp] theorem State.setTb_links (k : Nat) (x : Tb) (s : State) : (s.setTb k x).links = s.links := rfl
@[simp] theorem State.setTb_qdl (k : Nat) (x : Tb) (s : State) : (s.setTb k x).qdl = s.qdl := rfl
@[simp] theorem State.setTb_pwr (k : Nat) (x : Tb) (s : State) : (s.setTb k x).pwr = s.pwr := rfl
@[simp] theorem State.setTb_pins (k : Nat) (x : Tb) (s : State) : (s.setTb k x).pins = s.pins := rfl
@[simp] theorem State.setTb_jsp (k : Nat) (x : Tb) (s : State) : (s.setTb k x).jsp = s.jsp := rfl
@[simp] theorem State.setTb_start (k : Nat) (x : Tb) (s : State) : (s.setTb k x).start = s.start := rfl
@[simp] theorem State.setTb_contain (k : Nat) (x : Tb) (s : State) : (s.setTb k x).contain = s.contain := rfl
@[simp] theorem State.setTb_raised (k : Nat) (x : Tb) (s : State) : (s.setTb k x).raised = s.raised := rfl
@[simp] theorem State.setTb_saved (k : Nat) (x : Tb) (s : State) : (s.setTb k x).saved = s.saved := rfl
@[simp] theorem State.setTb_scrub (k : Nat) (x : Tb) (s : State) : (s.setTb k x).scrub = s.scrub := rfl
@[simp] theorem State.setTb_program (k : Nat) (x : Tb) (s : State) : (s.setTb k x).program = s.program := rfl
@[simp] theorem State.setTb_sent (k : Nat) (x : Tb) (s : State) : (s.setTb k x).sent = s.sent := rfl
theorem State.modTb_eq (k : Nat) (f : Tb → Tb) (s : State) : s.modTb k f = s.setTb k (f (s.tb k)) := rfl
@[simp] theorem State.setTb_ctx (k : Nat) (x : Tb) (j : Nat) (s : State) : (s.setTb k x).ctx j = s.ctx j := rfl
@[simp] theorem State.setTb_unit (k : Nat) (x : Tb) (j : Nat) (s : State) : (s.setTb k x).unit j = s.unit j := rfl
@[simp] theorem State.setTb_heap (k : Nat) (x : Tb) (j : Nat) (s : State) : (s.setTb k x).heap j = s.heap j := rfl
@[simp] theorem State.setTb_queue (k : Nat) (x : Tb) (j : Nat) (s : State) : (s.setTb k x).queue j = s.queue j := rfl
@[simp] theorem State.setTb_xing (k : Nat) (x : Tb) (j : Nat) (s : State) : (s.setTb k x).xing j = s.xing j := rfl
@[simp] theorem State.setTb_grp (k : Nat) (x : Tb) (j : Nat) (s : State) : (s.setTb k x).grp j = s.grp j := rfl
@[simp] theorem State.setTb_chan (k : Nat) (x : Tb) (j : Nat) (s : State) : (s.setTb k x).chan j = s.chan j := rfl
@[simp] theorem State.setTb_comp (k : Nat) (x : Tb) (j : Nat) (s : State) : (s.setTb k x).comp j = s.comp j := rfl
@[simp] theorem State.setTb_enc (k : Nat) (x : Tb) (j : Nat) (s : State) : (s.setTb k x).enc j = s.enc j := rfl
@[simp] theorem State.setTb_trk (k : Nat) (x : Tb) (j : Nat) (s : State) : (s.setTb k x).trk j = s.trk j := rfl
@[simp] theorem State.setTb_evt (k : Nat) (x : Tb) (j : Nat) (s : State) : (s.setTb k x).evt j = s.evt j := rfl
@[simp] theorem State.setTb_evPin (k : Nat) (x : Tb) (j : Nat) (s : State) : (s.setTb k x).evPin j = s.evPin j := rfl
@[simp] theorem State.setTb_gen (k : Nat) (x : Tb) (j : Nat) (s : State) : (s.setTb k x).gen j = s.gen j := rfl
@[simp] theorem State.setTb_bank (k : Nat) (x : Tb) (j : Nat) (s : State) : (s.setTb k x).bank j = s.bank j := rfl
@[simp] theorem State.setTb_chDma (k : Nat) (x : Tb) (j : Nat) (s : State) : (s.setTb k x).chDma j = s.chDma j := rfl
@[simp] theorem State.setTb_link (k : Nat) (x : Tb) (j : Nat) (s : State) : (s.setTb k x).link j = s.link j := rfl
@[simp] theorem State.setTb_reg (k : Nat) (x : Tb) (j : Nat) (s : State) : (s.setTb k x).reg j = s.reg j := rfl

/-! ### setQueue -/

@[simp] theorem State.setQueue_pending (k : Nat) (x : Queue) (s : State) : (s.setQueue k x).pending = s.pending := rfl
@[simp] theorem State.setQueue_free (k : Nat) (x : Queue) (s : State) : (s.setQueue k x).free = s.free := rfl
@[simp] theorem State.setQueue_order (k : Nat) (x : Queue) (s : State) : (s.setQueue k x).order = s.order := rfl
@[simp] theorem State.setQueue_clock (k : Nat) (x : Queue) (s : State) : (s.setQueue k x).clock = s.clock := rfl
@[simp] theorem State.setQueue_regs (k : Nat) (x : Queue) (s : State) : (s.setQueue k x).regs = s.regs := rfl
@[simp] theorem State.setQueue_mem (k : Nat) (x : Queue) (s : State) : (s.setQueue k x).mem = s.mem := rfl
@[simp] theorem State.setQueue_poison (k : Nat) (x : Queue) (s : State) : (s.setQueue k x).poison = s.poison := rfl
@[simp] theorem State.setQueue_errs (k : Nat) (x : Queue) (s : State) : (s.setQueue k x).errs = s.errs := rfl
@[simp] theorem State.setQueue_ctxs (k : Nat) (x : Queue) (s : State) : (s.setQueue k x).ctxs = s.ctxs := rfl
@[simp] theorem State.setQueue_units (k : Nat) (x : Queue) (s : State) : (s.setQueue k x).units = s.units := rfl
@[simp] theorem State.setQueue_heaps (k : Nat) (x : Queue) (s : State) : (s.setQueue k x).heaps = s.heaps := rfl
@[simp] theorem State.setQueue_fired (k : Nat) (x : Queue) (s : State) : (s.setQueue k x).fired = s.fired := rfl
@[simp] theorem State.setQueue_reqs (k : Nat) (x : Queue) (s : State) : (s.setQueue k x).reqs = s.reqs := rfl
@[simp] theorem State.setQueue_posted (k : Nat) (x : Queue) (s : State) : (s.setQueue k x).posted = s.posted := rfl
@[simp] theorem State.setQueue_tbs (k : Nat) (x : Queue) (s : State) : (s.setQueue k x).tbs = s.tbs := rfl
@[simp] theorem State.setQueue_pps (k : Nat) (x : Queue) (s : State) : (s.setQueue k x).pps = s.pps := rfl
@[simp] theorem State.setQueue_xings (k : Nat) (x : Queue) (s : State) : (s.setQueue k x).xings = s.xings := rfl
@[simp] theorem State.setQueue_grps (k : Nat) (x : Queue) (s : State) : (s.setQueue k x).grps = s.grps := rfl
@[simp] theorem State.setQueue_chans (k : Nat) (x : Queue) (s : State) : (s.setQueue k x).chans = s.chans := rfl
@[simp] theorem State.setQueue_comps (k : Nat) (x : Queue) (s : State) : (s.setQueue k x).comps = s.comps := rfl
@[simp] theorem State.setQueue_encs (k : Nat) (x : Queue) (s : State) : (s.setQueue k x).encs = s.encs := rfl
@[simp] theorem State.setQueue_trks (k : Nat) (x : Queue) (s : State) : (s.setQueue k x).trks = s.trks := rfl
@[simp] theorem State.setQueue_evts (k : Nat) (x : Queue) (s : State) : (s.setQueue k x).evts = s.evts := rfl
@[simp] theorem State.setQueue_evPins (k : Nat) (x : Queue) (s : State) : (s.setQueue k x).evPins = s.evPins := rfl
@[simp] theorem State.setQueue_gens (k : Nat) (x : Queue) (s : State) : (s.setQueue k x).gens = s.gens := rfl
@[simp] theorem State.setQueue_banks (k : Nat) (x : Queue) (s : State) : (s.setQueue k x).banks = s.banks := rfl
@[simp] theorem State.setQueue_dma (k : Nat) (x : Queue) (s : State) : (s.setQueue k x).dma = s.dma := rfl
@[simp] theorem State.setQueue_dmaTurn (k : Nat) (x : Queue) (s : State) : (s.setQueue k x).dmaTurn = s.dmaTurn := rfl
@[simp] theorem State.setQueue_host (k : Nat) (x : Queue) (s : State) : (s.setQueue k x).host = s.host := rfl
@[simp] theorem State.setQueue_links (k : Nat) (x : Queue) (s : State) : (s.setQueue k x).links = s.links := rfl
@[simp] theorem State.setQueue_qdl (k : Nat) (x : Queue) (s : State) : (s.setQueue k x).qdl = s.qdl := rfl
@[simp] theorem State.setQueue_pwr (k : Nat) (x : Queue) (s : State) : (s.setQueue k x).pwr = s.pwr := rfl
@[simp] theorem State.setQueue_pins (k : Nat) (x : Queue) (s : State) : (s.setQueue k x).pins = s.pins := rfl
@[simp] theorem State.setQueue_jsp (k : Nat) (x : Queue) (s : State) : (s.setQueue k x).jsp = s.jsp := rfl
@[simp] theorem State.setQueue_start (k : Nat) (x : Queue) (s : State) : (s.setQueue k x).start = s.start := rfl
@[simp] theorem State.setQueue_contain (k : Nat) (x : Queue) (s : State) : (s.setQueue k x).contain = s.contain := rfl
@[simp] theorem State.setQueue_raised (k : Nat) (x : Queue) (s : State) : (s.setQueue k x).raised = s.raised := rfl
@[simp] theorem State.setQueue_saved (k : Nat) (x : Queue) (s : State) : (s.setQueue k x).saved = s.saved := rfl
@[simp] theorem State.setQueue_scrub (k : Nat) (x : Queue) (s : State) : (s.setQueue k x).scrub = s.scrub := rfl
@[simp] theorem State.setQueue_program (k : Nat) (x : Queue) (s : State) : (s.setQueue k x).program = s.program := rfl
@[simp] theorem State.setQueue_sent (k : Nat) (x : Queue) (s : State) : (s.setQueue k x).sent = s.sent := rfl
theorem State.modQueue_eq (k : Nat) (f : Queue → Queue) (s : State) : s.modQueue k f = s.setQueue k (f (s.queue k)) := rfl
@[simp] theorem State.setQueue_ctx (k : Nat) (x : Queue) (j : Nat) (s : State) : (s.setQueue k x).ctx j = s.ctx j := rfl
@[simp] theorem State.setQueue_unit (k : Nat) (x : Queue) (j : Nat) (s : State) : (s.setQueue k x).unit j = s.unit j := rfl
@[simp] theorem State.setQueue_heap (k : Nat) (x : Queue) (j : Nat) (s : State) : (s.setQueue k x).heap j = s.heap j := rfl
@[simp] theorem State.setQueue_tb (k : Nat) (x : Queue) (j : Nat) (s : State) : (s.setQueue k x).tb j = s.tb j := rfl
@[simp] theorem State.setQueue_xing (k : Nat) (x : Queue) (j : Nat) (s : State) : (s.setQueue k x).xing j = s.xing j := rfl
@[simp] theorem State.setQueue_grp (k : Nat) (x : Queue) (j : Nat) (s : State) : (s.setQueue k x).grp j = s.grp j := rfl
@[simp] theorem State.setQueue_chan (k : Nat) (x : Queue) (j : Nat) (s : State) : (s.setQueue k x).chan j = s.chan j := rfl
@[simp] theorem State.setQueue_comp (k : Nat) (x : Queue) (j : Nat) (s : State) : (s.setQueue k x).comp j = s.comp j := rfl
@[simp] theorem State.setQueue_enc (k : Nat) (x : Queue) (j : Nat) (s : State) : (s.setQueue k x).enc j = s.enc j := rfl
@[simp] theorem State.setQueue_trk (k : Nat) (x : Queue) (j : Nat) (s : State) : (s.setQueue k x).trk j = s.trk j := rfl
@[simp] theorem State.setQueue_evt (k : Nat) (x : Queue) (j : Nat) (s : State) : (s.setQueue k x).evt j = s.evt j := rfl
@[simp] theorem State.setQueue_evPin (k : Nat) (x : Queue) (j : Nat) (s : State) : (s.setQueue k x).evPin j = s.evPin j := rfl
@[simp] theorem State.setQueue_gen (k : Nat) (x : Queue) (j : Nat) (s : State) : (s.setQueue k x).gen j = s.gen j := rfl
@[simp] theorem State.setQueue_bank (k : Nat) (x : Queue) (j : Nat) (s : State) : (s.setQueue k x).bank j = s.bank j := rfl
@[simp] theorem State.setQueue_chDma (k : Nat) (x : Queue) (j : Nat) (s : State) : (s.setQueue k x).chDma j = s.chDma j := rfl
@[simp] theorem State.setQueue_link (k : Nat) (x : Queue) (j : Nat) (s : State) : (s.setQueue k x).link j = s.link j := rfl
@[simp] theorem State.setQueue_reg (k : Nat) (x : Queue) (j : Nat) (s : State) : (s.setQueue k x).reg j = s.reg j := rfl

/-! ### setXing -/

@[simp] theorem State.setXing_pending (k : Nat) (x : Xing) (s : State) : (s.setXing k x).pending = s.pending := rfl
@[simp] theorem State.setXing_free (k : Nat) (x : Xing) (s : State) : (s.setXing k x).free = s.free := rfl
@[simp] theorem State.setXing_order (k : Nat) (x : Xing) (s : State) : (s.setXing k x).order = s.order := rfl
@[simp] theorem State.setXing_clock (k : Nat) (x : Xing) (s : State) : (s.setXing k x).clock = s.clock := rfl
@[simp] theorem State.setXing_regs (k : Nat) (x : Xing) (s : State) : (s.setXing k x).regs = s.regs := rfl
@[simp] theorem State.setXing_mem (k : Nat) (x : Xing) (s : State) : (s.setXing k x).mem = s.mem := rfl
@[simp] theorem State.setXing_poison (k : Nat) (x : Xing) (s : State) : (s.setXing k x).poison = s.poison := rfl
@[simp] theorem State.setXing_errs (k : Nat) (x : Xing) (s : State) : (s.setXing k x).errs = s.errs := rfl
@[simp] theorem State.setXing_ctxs (k : Nat) (x : Xing) (s : State) : (s.setXing k x).ctxs = s.ctxs := rfl
@[simp] theorem State.setXing_units (k : Nat) (x : Xing) (s : State) : (s.setXing k x).units = s.units := rfl
@[simp] theorem State.setXing_heaps (k : Nat) (x : Xing) (s : State) : (s.setXing k x).heaps = s.heaps := rfl
@[simp] theorem State.setXing_fired (k : Nat) (x : Xing) (s : State) : (s.setXing k x).fired = s.fired := rfl
@[simp] theorem State.setXing_reqs (k : Nat) (x : Xing) (s : State) : (s.setXing k x).reqs = s.reqs := rfl
@[simp] theorem State.setXing_posted (k : Nat) (x : Xing) (s : State) : (s.setXing k x).posted = s.posted := rfl
@[simp] theorem State.setXing_tbs (k : Nat) (x : Xing) (s : State) : (s.setXing k x).tbs = s.tbs := rfl
@[simp] theorem State.setXing_pps (k : Nat) (x : Xing) (s : State) : (s.setXing k x).pps = s.pps := rfl
@[simp] theorem State.setXing_queues (k : Nat) (x : Xing) (s : State) : (s.setXing k x).queues = s.queues := rfl
@[simp] theorem State.setXing_grps (k : Nat) (x : Xing) (s : State) : (s.setXing k x).grps = s.grps := rfl
@[simp] theorem State.setXing_chans (k : Nat) (x : Xing) (s : State) : (s.setXing k x).chans = s.chans := rfl
@[simp] theorem State.setXing_comps (k : Nat) (x : Xing) (s : State) : (s.setXing k x).comps = s.comps := rfl
@[simp] theorem State.setXing_encs (k : Nat) (x : Xing) (s : State) : (s.setXing k x).encs = s.encs := rfl
@[simp] theorem State.setXing_trks (k : Nat) (x : Xing) (s : State) : (s.setXing k x).trks = s.trks := rfl
@[simp] theorem State.setXing_evts (k : Nat) (x : Xing) (s : State) : (s.setXing k x).evts = s.evts := rfl
@[simp] theorem State.setXing_evPins (k : Nat) (x : Xing) (s : State) : (s.setXing k x).evPins = s.evPins := rfl
@[simp] theorem State.setXing_gens (k : Nat) (x : Xing) (s : State) : (s.setXing k x).gens = s.gens := rfl
@[simp] theorem State.setXing_banks (k : Nat) (x : Xing) (s : State) : (s.setXing k x).banks = s.banks := rfl
@[simp] theorem State.setXing_dma (k : Nat) (x : Xing) (s : State) : (s.setXing k x).dma = s.dma := rfl
@[simp] theorem State.setXing_dmaTurn (k : Nat) (x : Xing) (s : State) : (s.setXing k x).dmaTurn = s.dmaTurn := rfl
@[simp] theorem State.setXing_host (k : Nat) (x : Xing) (s : State) : (s.setXing k x).host = s.host := rfl
@[simp] theorem State.setXing_links (k : Nat) (x : Xing) (s : State) : (s.setXing k x).links = s.links := rfl
@[simp] theorem State.setXing_qdl (k : Nat) (x : Xing) (s : State) : (s.setXing k x).qdl = s.qdl := rfl
@[simp] theorem State.setXing_pwr (k : Nat) (x : Xing) (s : State) : (s.setXing k x).pwr = s.pwr := rfl
@[simp] theorem State.setXing_pins (k : Nat) (x : Xing) (s : State) : (s.setXing k x).pins = s.pins := rfl
@[simp] theorem State.setXing_jsp (k : Nat) (x : Xing) (s : State) : (s.setXing k x).jsp = s.jsp := rfl
@[simp] theorem State.setXing_start (k : Nat) (x : Xing) (s : State) : (s.setXing k x).start = s.start := rfl
@[simp] theorem State.setXing_contain (k : Nat) (x : Xing) (s : State) : (s.setXing k x).contain = s.contain := rfl
@[simp] theorem State.setXing_raised (k : Nat) (x : Xing) (s : State) : (s.setXing k x).raised = s.raised := rfl
@[simp] theorem State.setXing_saved (k : Nat) (x : Xing) (s : State) : (s.setXing k x).saved = s.saved := rfl
@[simp] theorem State.setXing_scrub (k : Nat) (x : Xing) (s : State) : (s.setXing k x).scrub = s.scrub := rfl
@[simp] theorem State.setXing_program (k : Nat) (x : Xing) (s : State) : (s.setXing k x).program = s.program := rfl
@[simp] theorem State.setXing_sent (k : Nat) (x : Xing) (s : State) : (s.setXing k x).sent = s.sent := rfl
theorem State.modXing_eq (k : Nat) (f : Xing → Xing) (s : State) : s.modXing k f = s.setXing k (f (s.xing k)) := rfl
@[simp] theorem State.setXing_ctx (k : Nat) (x : Xing) (j : Nat) (s : State) : (s.setXing k x).ctx j = s.ctx j := rfl
@[simp] theorem State.setXing_unit (k : Nat) (x : Xing) (j : Nat) (s : State) : (s.setXing k x).unit j = s.unit j := rfl
@[simp] theorem State.setXing_heap (k : Nat) (x : Xing) (j : Nat) (s : State) : (s.setXing k x).heap j = s.heap j := rfl
@[simp] theorem State.setXing_tb (k : Nat) (x : Xing) (j : Nat) (s : State) : (s.setXing k x).tb j = s.tb j := rfl
@[simp] theorem State.setXing_queue (k : Nat) (x : Xing) (j : Nat) (s : State) : (s.setXing k x).queue j = s.queue j := rfl
@[simp] theorem State.setXing_grp (k : Nat) (x : Xing) (j : Nat) (s : State) : (s.setXing k x).grp j = s.grp j := rfl
@[simp] theorem State.setXing_chan (k : Nat) (x : Xing) (j : Nat) (s : State) : (s.setXing k x).chan j = s.chan j := rfl
@[simp] theorem State.setXing_comp (k : Nat) (x : Xing) (j : Nat) (s : State) : (s.setXing k x).comp j = s.comp j := rfl
@[simp] theorem State.setXing_enc (k : Nat) (x : Xing) (j : Nat) (s : State) : (s.setXing k x).enc j = s.enc j := rfl
@[simp] theorem State.setXing_trk (k : Nat) (x : Xing) (j : Nat) (s : State) : (s.setXing k x).trk j = s.trk j := rfl
@[simp] theorem State.setXing_evt (k : Nat) (x : Xing) (j : Nat) (s : State) : (s.setXing k x).evt j = s.evt j := rfl
@[simp] theorem State.setXing_evPin (k : Nat) (x : Xing) (j : Nat) (s : State) : (s.setXing k x).evPin j = s.evPin j := rfl
@[simp] theorem State.setXing_gen (k : Nat) (x : Xing) (j : Nat) (s : State) : (s.setXing k x).gen j = s.gen j := rfl
@[simp] theorem State.setXing_bank (k : Nat) (x : Xing) (j : Nat) (s : State) : (s.setXing k x).bank j = s.bank j := rfl
@[simp] theorem State.setXing_chDma (k : Nat) (x : Xing) (j : Nat) (s : State) : (s.setXing k x).chDma j = s.chDma j := rfl
@[simp] theorem State.setXing_link (k : Nat) (x : Xing) (j : Nat) (s : State) : (s.setXing k x).link j = s.link j := rfl
@[simp] theorem State.setXing_reg (k : Nat) (x : Xing) (j : Nat) (s : State) : (s.setXing k x).reg j = s.reg j := rfl

/-! ### setGrp -/

@[simp] theorem State.setGrp_pending (k : Nat) (x : Grp) (s : State) : (s.setGrp k x).pending = s.pending := rfl
@[simp] theorem State.setGrp_free (k : Nat) (x : Grp) (s : State) : (s.setGrp k x).free = s.free := rfl
@[simp] theorem State.setGrp_order (k : Nat) (x : Grp) (s : State) : (s.setGrp k x).order = s.order := rfl
@[simp] theorem State.setGrp_clock (k : Nat) (x : Grp) (s : State) : (s.setGrp k x).clock = s.clock := rfl
@[simp] theorem State.setGrp_regs (k : Nat) (x : Grp) (s : State) : (s.setGrp k x).regs = s.regs := rfl
@[simp] theorem State.setGrp_mem (k : Nat) (x : Grp) (s : State) : (s.setGrp k x).mem = s.mem := rfl
@[simp] theorem State.setGrp_poison (k : Nat) (x : Grp) (s : State) : (s.setGrp k x).poison = s.poison := rfl
@[simp] theorem State.setGrp_errs (k : Nat) (x : Grp) (s : State) : (s.setGrp k x).errs = s.errs := rfl
@[simp] theorem State.setGrp_ctxs (k : Nat) (x : Grp) (s : State) : (s.setGrp k x).ctxs = s.ctxs := rfl
@[simp] theorem State.setGrp_units (k : Nat) (x : Grp) (s : State) : (s.setGrp k x).units = s.units := rfl
@[simp] theorem State.setGrp_heaps (k : Nat) (x : Grp) (s : State) : (s.setGrp k x).heaps = s.heaps := rfl
@[simp] theorem State.setGrp_fired (k : Nat) (x : Grp) (s : State) : (s.setGrp k x).fired = s.fired := rfl
@[simp] theorem State.setGrp_reqs (k : Nat) (x : Grp) (s : State) : (s.setGrp k x).reqs = s.reqs := rfl
@[simp] theorem State.setGrp_posted (k : Nat) (x : Grp) (s : State) : (s.setGrp k x).posted = s.posted := rfl
@[simp] theorem State.setGrp_tbs (k : Nat) (x : Grp) (s : State) : (s.setGrp k x).tbs = s.tbs := rfl
@[simp] theorem State.setGrp_pps (k : Nat) (x : Grp) (s : State) : (s.setGrp k x).pps = s.pps := rfl
@[simp] theorem State.setGrp_queues (k : Nat) (x : Grp) (s : State) : (s.setGrp k x).queues = s.queues := rfl
@[simp] theorem State.setGrp_xings (k : Nat) (x : Grp) (s : State) : (s.setGrp k x).xings = s.xings := rfl
@[simp] theorem State.setGrp_chans (k : Nat) (x : Grp) (s : State) : (s.setGrp k x).chans = s.chans := rfl
@[simp] theorem State.setGrp_comps (k : Nat) (x : Grp) (s : State) : (s.setGrp k x).comps = s.comps := rfl
@[simp] theorem State.setGrp_encs (k : Nat) (x : Grp) (s : State) : (s.setGrp k x).encs = s.encs := rfl
@[simp] theorem State.setGrp_trks (k : Nat) (x : Grp) (s : State) : (s.setGrp k x).trks = s.trks := rfl
@[simp] theorem State.setGrp_evts (k : Nat) (x : Grp) (s : State) : (s.setGrp k x).evts = s.evts := rfl
@[simp] theorem State.setGrp_evPins (k : Nat) (x : Grp) (s : State) : (s.setGrp k x).evPins = s.evPins := rfl
@[simp] theorem State.setGrp_gens (k : Nat) (x : Grp) (s : State) : (s.setGrp k x).gens = s.gens := rfl
@[simp] theorem State.setGrp_banks (k : Nat) (x : Grp) (s : State) : (s.setGrp k x).banks = s.banks := rfl
@[simp] theorem State.setGrp_dma (k : Nat) (x : Grp) (s : State) : (s.setGrp k x).dma = s.dma := rfl
@[simp] theorem State.setGrp_dmaTurn (k : Nat) (x : Grp) (s : State) : (s.setGrp k x).dmaTurn = s.dmaTurn := rfl
@[simp] theorem State.setGrp_host (k : Nat) (x : Grp) (s : State) : (s.setGrp k x).host = s.host := rfl
@[simp] theorem State.setGrp_links (k : Nat) (x : Grp) (s : State) : (s.setGrp k x).links = s.links := rfl
@[simp] theorem State.setGrp_qdl (k : Nat) (x : Grp) (s : State) : (s.setGrp k x).qdl = s.qdl := rfl
@[simp] theorem State.setGrp_pwr (k : Nat) (x : Grp) (s : State) : (s.setGrp k x).pwr = s.pwr := rfl
@[simp] theorem State.setGrp_pins (k : Nat) (x : Grp) (s : State) : (s.setGrp k x).pins = s.pins := rfl
@[simp] theorem State.setGrp_jsp (k : Nat) (x : Grp) (s : State) : (s.setGrp k x).jsp = s.jsp := rfl
@[simp] theorem State.setGrp_start (k : Nat) (x : Grp) (s : State) : (s.setGrp k x).start = s.start := rfl
@[simp] theorem State.setGrp_contain (k : Nat) (x : Grp) (s : State) : (s.setGrp k x).contain = s.contain := rfl
@[simp] theorem State.setGrp_raised (k : Nat) (x : Grp) (s : State) : (s.setGrp k x).raised = s.raised := rfl
@[simp] theorem State.setGrp_saved (k : Nat) (x : Grp) (s : State) : (s.setGrp k x).saved = s.saved := rfl
@[simp] theorem State.setGrp_scrub (k : Nat) (x : Grp) (s : State) : (s.setGrp k x).scrub = s.scrub := rfl
@[simp] theorem State.setGrp_program (k : Nat) (x : Grp) (s : State) : (s.setGrp k x).program = s.program := rfl
@[simp] theorem State.setGrp_sent (k : Nat) (x : Grp) (s : State) : (s.setGrp k x).sent = s.sent := rfl
theorem State.modGrp_eq (k : Nat) (f : Grp → Grp) (s : State) : s.modGrp k f = s.setGrp k (f (s.grp k)) := rfl
@[simp] theorem State.setGrp_ctx (k : Nat) (x : Grp) (j : Nat) (s : State) : (s.setGrp k x).ctx j = s.ctx j := rfl
@[simp] theorem State.setGrp_unit (k : Nat) (x : Grp) (j : Nat) (s : State) : (s.setGrp k x).unit j = s.unit j := rfl
@[simp] theorem State.setGrp_heap (k : Nat) (x : Grp) (j : Nat) (s : State) : (s.setGrp k x).heap j = s.heap j := rfl
@[simp] theorem State.setGrp_tb (k : Nat) (x : Grp) (j : Nat) (s : State) : (s.setGrp k x).tb j = s.tb j := rfl
@[simp] theorem State.setGrp_queue (k : Nat) (x : Grp) (j : Nat) (s : State) : (s.setGrp k x).queue j = s.queue j := rfl
@[simp] theorem State.setGrp_xing (k : Nat) (x : Grp) (j : Nat) (s : State) : (s.setGrp k x).xing j = s.xing j := rfl
@[simp] theorem State.setGrp_chan (k : Nat) (x : Grp) (j : Nat) (s : State) : (s.setGrp k x).chan j = s.chan j := rfl
@[simp] theorem State.setGrp_comp (k : Nat) (x : Grp) (j : Nat) (s : State) : (s.setGrp k x).comp j = s.comp j := rfl
@[simp] theorem State.setGrp_enc (k : Nat) (x : Grp) (j : Nat) (s : State) : (s.setGrp k x).enc j = s.enc j := rfl
@[simp] theorem State.setGrp_trk (k : Nat) (x : Grp) (j : Nat) (s : State) : (s.setGrp k x).trk j = s.trk j := rfl
@[simp] theorem State.setGrp_evt (k : Nat) (x : Grp) (j : Nat) (s : State) : (s.setGrp k x).evt j = s.evt j := rfl
@[simp] theorem State.setGrp_evPin (k : Nat) (x : Grp) (j : Nat) (s : State) : (s.setGrp k x).evPin j = s.evPin j := rfl
@[simp] theorem State.setGrp_gen (k : Nat) (x : Grp) (j : Nat) (s : State) : (s.setGrp k x).gen j = s.gen j := rfl
@[simp] theorem State.setGrp_bank (k : Nat) (x : Grp) (j : Nat) (s : State) : (s.setGrp k x).bank j = s.bank j := rfl
@[simp] theorem State.setGrp_chDma (k : Nat) (x : Grp) (j : Nat) (s : State) : (s.setGrp k x).chDma j = s.chDma j := rfl
@[simp] theorem State.setGrp_link (k : Nat) (x : Grp) (j : Nat) (s : State) : (s.setGrp k x).link j = s.link j := rfl
@[simp] theorem State.setGrp_reg (k : Nat) (x : Grp) (j : Nat) (s : State) : (s.setGrp k x).reg j = s.reg j := rfl

/-! ### setChan -/

@[simp] theorem State.setChan_pending (k : Nat) (x : Chan) (s : State) : (s.setChan k x).pending = s.pending := rfl
@[simp] theorem State.setChan_free (k : Nat) (x : Chan) (s : State) : (s.setChan k x).free = s.free := rfl
@[simp] theorem State.setChan_order (k : Nat) (x : Chan) (s : State) : (s.setChan k x).order = s.order := rfl
@[simp] theorem State.setChan_clock (k : Nat) (x : Chan) (s : State) : (s.setChan k x).clock = s.clock := rfl
@[simp] theorem State.setChan_regs (k : Nat) (x : Chan) (s : State) : (s.setChan k x).regs = s.regs := rfl
@[simp] theorem State.setChan_mem (k : Nat) (x : Chan) (s : State) : (s.setChan k x).mem = s.mem := rfl
@[simp] theorem State.setChan_poison (k : Nat) (x : Chan) (s : State) : (s.setChan k x).poison = s.poison := rfl
@[simp] theorem State.setChan_errs (k : Nat) (x : Chan) (s : State) : (s.setChan k x).errs = s.errs := rfl
@[simp] theorem State.setChan_ctxs (k : Nat) (x : Chan) (s : State) : (s.setChan k x).ctxs = s.ctxs := rfl
@[simp] theorem State.setChan_units (k : Nat) (x : Chan) (s : State) : (s.setChan k x).units = s.units := rfl
@[simp] theorem State.setChan_heaps (k : Nat) (x : Chan) (s : State) : (s.setChan k x).heaps = s.heaps := rfl
@[simp] theorem State.setChan_fired (k : Nat) (x : Chan) (s : State) : (s.setChan k x).fired = s.fired := rfl
@[simp] theorem State.setChan_reqs (k : Nat) (x : Chan) (s : State) : (s.setChan k x).reqs = s.reqs := rfl
@[simp] theorem State.setChan_posted (k : Nat) (x : Chan) (s : State) : (s.setChan k x).posted = s.posted := rfl
@[simp] theorem State.setChan_tbs (k : Nat) (x : Chan) (s : State) : (s.setChan k x).tbs = s.tbs := rfl
@[simp] theorem State.setChan_pps (k : Nat) (x : Chan) (s : State) : (s.setChan k x).pps = s.pps := rfl
@[simp] theorem State.setChan_queues (k : Nat) (x : Chan) (s : State) : (s.setChan k x).queues = s.queues := rfl
@[simp] theorem State.setChan_xings (k : Nat) (x : Chan) (s : State) : (s.setChan k x).xings = s.xings := rfl
@[simp] theorem State.setChan_grps (k : Nat) (x : Chan) (s : State) : (s.setChan k x).grps = s.grps := rfl
@[simp] theorem State.setChan_comps (k : Nat) (x : Chan) (s : State) : (s.setChan k x).comps = s.comps := rfl
@[simp] theorem State.setChan_encs (k : Nat) (x : Chan) (s : State) : (s.setChan k x).encs = s.encs := rfl
@[simp] theorem State.setChan_trks (k : Nat) (x : Chan) (s : State) : (s.setChan k x).trks = s.trks := rfl
@[simp] theorem State.setChan_evts (k : Nat) (x : Chan) (s : State) : (s.setChan k x).evts = s.evts := rfl
@[simp] theorem State.setChan_evPins (k : Nat) (x : Chan) (s : State) : (s.setChan k x).evPins = s.evPins := rfl
@[simp] theorem State.setChan_gens (k : Nat) (x : Chan) (s : State) : (s.setChan k x).gens = s.gens := rfl
@[simp] theorem State.setChan_banks (k : Nat) (x : Chan) (s : State) : (s.setChan k x).banks = s.banks := rfl
@[simp] theorem State.setChan_dma (k : Nat) (x : Chan) (s : State) : (s.setChan k x).dma = s.dma := rfl
@[simp] theorem State.setChan_dmaTurn (k : Nat) (x : Chan) (s : State) : (s.setChan k x).dmaTurn = s.dmaTurn := rfl
@[simp] theorem State.setChan_host (k : Nat) (x : Chan) (s : State) : (s.setChan k x).host = s.host := rfl
@[simp] theorem State.setChan_links (k : Nat) (x : Chan) (s : State) : (s.setChan k x).links = s.links := rfl
@[simp] theorem State.setChan_qdl (k : Nat) (x : Chan) (s : State) : (s.setChan k x).qdl = s.qdl := rfl
@[simp] theorem State.setChan_pwr (k : Nat) (x : Chan) (s : State) : (s.setChan k x).pwr = s.pwr := rfl
@[simp] theorem State.setChan_pins (k : Nat) (x : Chan) (s : State) : (s.setChan k x).pins = s.pins := rfl
@[simp] theorem State.setChan_jsp (k : Nat) (x : Chan) (s : State) : (s.setChan k x).jsp = s.jsp := rfl
@[simp] theorem State.setChan_start (k : Nat) (x : Chan) (s : State) : (s.setChan k x).start = s.start := rfl
@[simp] theorem State.setChan_contain (k : Nat) (x : Chan) (s : State) : (s.setChan k x).contain = s.contain := rfl
@[simp] theorem State.setChan_raised (k : Nat) (x : Chan) (s : State) : (s.setChan k x).raised = s.raised := rfl
@[simp] theorem State.setChan_saved (k : Nat) (x : Chan) (s : State) : (s.setChan k x).saved = s.saved := rfl
@[simp] theorem State.setChan_scrub (k : Nat) (x : Chan) (s : State) : (s.setChan k x).scrub = s.scrub := rfl
@[simp] theorem State.setChan_program (k : Nat) (x : Chan) (s : State) : (s.setChan k x).program = s.program := rfl
@[simp] theorem State.setChan_sent (k : Nat) (x : Chan) (s : State) : (s.setChan k x).sent = s.sent := rfl
theorem State.modChan_eq (k : Nat) (f : Chan → Chan) (s : State) : s.modChan k f = s.setChan k (f (s.chan k)) := rfl
@[simp] theorem State.setChan_ctx (k : Nat) (x : Chan) (j : Nat) (s : State) : (s.setChan k x).ctx j = s.ctx j := rfl
@[simp] theorem State.setChan_unit (k : Nat) (x : Chan) (j : Nat) (s : State) : (s.setChan k x).unit j = s.unit j := rfl
@[simp] theorem State.setChan_heap (k : Nat) (x : Chan) (j : Nat) (s : State) : (s.setChan k x).heap j = s.heap j := rfl
@[simp] theorem State.setChan_tb (k : Nat) (x : Chan) (j : Nat) (s : State) : (s.setChan k x).tb j = s.tb j := rfl
@[simp] theorem State.setChan_queue (k : Nat) (x : Chan) (j : Nat) (s : State) : (s.setChan k x).queue j = s.queue j := rfl
@[simp] theorem State.setChan_xing (k : Nat) (x : Chan) (j : Nat) (s : State) : (s.setChan k x).xing j = s.xing j := rfl
@[simp] theorem State.setChan_grp (k : Nat) (x : Chan) (j : Nat) (s : State) : (s.setChan k x).grp j = s.grp j := rfl
@[simp] theorem State.setChan_comp (k : Nat) (x : Chan) (j : Nat) (s : State) : (s.setChan k x).comp j = s.comp j := rfl
@[simp] theorem State.setChan_enc (k : Nat) (x : Chan) (j : Nat) (s : State) : (s.setChan k x).enc j = s.enc j := rfl
@[simp] theorem State.setChan_trk (k : Nat) (x : Chan) (j : Nat) (s : State) : (s.setChan k x).trk j = s.trk j := rfl
@[simp] theorem State.setChan_evt (k : Nat) (x : Chan) (j : Nat) (s : State) : (s.setChan k x).evt j = s.evt j := rfl
@[simp] theorem State.setChan_evPin (k : Nat) (x : Chan) (j : Nat) (s : State) : (s.setChan k x).evPin j = s.evPin j := rfl
@[simp] theorem State.setChan_gen (k : Nat) (x : Chan) (j : Nat) (s : State) : (s.setChan k x).gen j = s.gen j := rfl
@[simp] theorem State.setChan_bank (k : Nat) (x : Chan) (j : Nat) (s : State) : (s.setChan k x).bank j = s.bank j := rfl
@[simp] theorem State.setChan_chDma (k : Nat) (x : Chan) (j : Nat) (s : State) : (s.setChan k x).chDma j = s.chDma j := rfl
@[simp] theorem State.setChan_link (k : Nat) (x : Chan) (j : Nat) (s : State) : (s.setChan k x).link j = s.link j := rfl
@[simp] theorem State.setChan_reg (k : Nat) (x : Chan) (j : Nat) (s : State) : (s.setChan k x).reg j = s.reg j := rfl

/-! ### setComp -/

@[simp] theorem State.setComp_pending (k : Nat) (x : Comp) (s : State) : (s.setComp k x).pending = s.pending := rfl
@[simp] theorem State.setComp_free (k : Nat) (x : Comp) (s : State) : (s.setComp k x).free = s.free := rfl
@[simp] theorem State.setComp_order (k : Nat) (x : Comp) (s : State) : (s.setComp k x).order = s.order := rfl
@[simp] theorem State.setComp_clock (k : Nat) (x : Comp) (s : State) : (s.setComp k x).clock = s.clock := rfl
@[simp] theorem State.setComp_regs (k : Nat) (x : Comp) (s : State) : (s.setComp k x).regs = s.regs := rfl
@[simp] theorem State.setComp_mem (k : Nat) (x : Comp) (s : State) : (s.setComp k x).mem = s.mem := rfl
@[simp] theorem State.setComp_poison (k : Nat) (x : Comp) (s : State) : (s.setComp k x).poison = s.poison := rfl
@[simp] theorem State.setComp_errs (k : Nat) (x : Comp) (s : State) : (s.setComp k x).errs = s.errs := rfl
@[simp] theorem State.setComp_ctxs (k : Nat) (x : Comp) (s : State) : (s.setComp k x).ctxs = s.ctxs := rfl
@[simp] theorem State.setComp_units (k : Nat) (x : Comp) (s : State) : (s.setComp k x).units = s.units := rfl
@[simp] theorem State.setComp_heaps (k : Nat) (x : Comp) (s : State) : (s.setComp k x).heaps = s.heaps := rfl
@[simp] theorem State.setComp_fired (k : Nat) (x : Comp) (s : State) : (s.setComp k x).fired = s.fired := rfl
@[simp] theorem State.setComp_reqs (k : Nat) (x : Comp) (s : State) : (s.setComp k x).reqs = s.reqs := rfl
@[simp] theorem State.setComp_posted (k : Nat) (x : Comp) (s : State) : (s.setComp k x).posted = s.posted := rfl
@[simp] theorem State.setComp_tbs (k : Nat) (x : Comp) (s : State) : (s.setComp k x).tbs = s.tbs := rfl
@[simp] theorem State.setComp_pps (k : Nat) (x : Comp) (s : State) : (s.setComp k x).pps = s.pps := rfl
@[simp] theorem State.setComp_queues (k : Nat) (x : Comp) (s : State) : (s.setComp k x).queues = s.queues := rfl
@[simp] theorem State.setComp_xings (k : Nat) (x : Comp) (s : State) : (s.setComp k x).xings = s.xings := rfl
@[simp] theorem State.setComp_grps (k : Nat) (x : Comp) (s : State) : (s.setComp k x).grps = s.grps := rfl
@[simp] theorem State.setComp_chans (k : Nat) (x : Comp) (s : State) : (s.setComp k x).chans = s.chans := rfl
@[simp] theorem State.setComp_encs (k : Nat) (x : Comp) (s : State) : (s.setComp k x).encs = s.encs := rfl
@[simp] theorem State.setComp_trks (k : Nat) (x : Comp) (s : State) : (s.setComp k x).trks = s.trks := rfl
@[simp] theorem State.setComp_evts (k : Nat) (x : Comp) (s : State) : (s.setComp k x).evts = s.evts := rfl
@[simp] theorem State.setComp_evPins (k : Nat) (x : Comp) (s : State) : (s.setComp k x).evPins = s.evPins := rfl
@[simp] theorem State.setComp_gens (k : Nat) (x : Comp) (s : State) : (s.setComp k x).gens = s.gens := rfl
@[simp] theorem State.setComp_banks (k : Nat) (x : Comp) (s : State) : (s.setComp k x).banks = s.banks := rfl
@[simp] theorem State.setComp_dma (k : Nat) (x : Comp) (s : State) : (s.setComp k x).dma = s.dma := rfl
@[simp] theorem State.setComp_dmaTurn (k : Nat) (x : Comp) (s : State) : (s.setComp k x).dmaTurn = s.dmaTurn := rfl
@[simp] theorem State.setComp_host (k : Nat) (x : Comp) (s : State) : (s.setComp k x).host = s.host := rfl
@[simp] theorem State.setComp_links (k : Nat) (x : Comp) (s : State) : (s.setComp k x).links = s.links := rfl
@[simp] theorem State.setComp_qdl (k : Nat) (x : Comp) (s : State) : (s.setComp k x).qdl = s.qdl := rfl
@[simp] theorem State.setComp_pwr (k : Nat) (x : Comp) (s : State) : (s.setComp k x).pwr = s.pwr := rfl
@[simp] theorem State.setComp_pins (k : Nat) (x : Comp) (s : State) : (s.setComp k x).pins = s.pins := rfl
@[simp] theorem State.setComp_jsp (k : Nat) (x : Comp) (s : State) : (s.setComp k x).jsp = s.jsp := rfl
@[simp] theorem State.setComp_start (k : Nat) (x : Comp) (s : State) : (s.setComp k x).start = s.start := rfl
@[simp] theorem State.setComp_contain (k : Nat) (x : Comp) (s : State) : (s.setComp k x).contain = s.contain := rfl
@[simp] theorem State.setComp_raised (k : Nat) (x : Comp) (s : State) : (s.setComp k x).raised = s.raised := rfl
@[simp] theorem State.setComp_saved (k : Nat) (x : Comp) (s : State) : (s.setComp k x).saved = s.saved := rfl
@[simp] theorem State.setComp_scrub (k : Nat) (x : Comp) (s : State) : (s.setComp k x).scrub = s.scrub := rfl
@[simp] theorem State.setComp_program (k : Nat) (x : Comp) (s : State) : (s.setComp k x).program = s.program := rfl
@[simp] theorem State.setComp_sent (k : Nat) (x : Comp) (s : State) : (s.setComp k x).sent = s.sent := rfl
theorem State.modComp_eq (k : Nat) (f : Comp → Comp) (s : State) : s.modComp k f = s.setComp k (f (s.comp k)) := rfl
@[simp] theorem State.setComp_ctx (k : Nat) (x : Comp) (j : Nat) (s : State) : (s.setComp k x).ctx j = s.ctx j := rfl
@[simp] theorem State.setComp_unit (k : Nat) (x : Comp) (j : Nat) (s : State) : (s.setComp k x).unit j = s.unit j := rfl
@[simp] theorem State.setComp_heap (k : Nat) (x : Comp) (j : Nat) (s : State) : (s.setComp k x).heap j = s.heap j := rfl
@[simp] theorem State.setComp_tb (k : Nat) (x : Comp) (j : Nat) (s : State) : (s.setComp k x).tb j = s.tb j := rfl
@[simp] theorem State.setComp_queue (k : Nat) (x : Comp) (j : Nat) (s : State) : (s.setComp k x).queue j = s.queue j := rfl
@[simp] theorem State.setComp_xing (k : Nat) (x : Comp) (j : Nat) (s : State) : (s.setComp k x).xing j = s.xing j := rfl
@[simp] theorem State.setComp_grp (k : Nat) (x : Comp) (j : Nat) (s : State) : (s.setComp k x).grp j = s.grp j := rfl
@[simp] theorem State.setComp_chan (k : Nat) (x : Comp) (j : Nat) (s : State) : (s.setComp k x).chan j = s.chan j := rfl
@[simp] theorem State.setComp_enc (k : Nat) (x : Comp) (j : Nat) (s : State) : (s.setComp k x).enc j = s.enc j := rfl
@[simp] theorem State.setComp_trk (k : Nat) (x : Comp) (j : Nat) (s : State) : (s.setComp k x).trk j = s.trk j := rfl
@[simp] theorem State.setComp_evt (k : Nat) (x : Comp) (j : Nat) (s : State) : (s.setComp k x).evt j = s.evt j := rfl
@[simp] theorem State.setComp_evPin (k : Nat) (x : Comp) (j : Nat) (s : State) : (s.setComp k x).evPin j = s.evPin j := rfl
@[simp] theorem State.setComp_gen (k : Nat) (x : Comp) (j : Nat) (s : State) : (s.setComp k x).gen j = s.gen j := rfl
@[simp] theorem State.setComp_bank (k : Nat) (x : Comp) (j : Nat) (s : State) : (s.setComp k x).bank j = s.bank j := rfl
@[simp] theorem State.setComp_chDma (k : Nat) (x : Comp) (j : Nat) (s : State) : (s.setComp k x).chDma j = s.chDma j := rfl
@[simp] theorem State.setComp_link (k : Nat) (x : Comp) (j : Nat) (s : State) : (s.setComp k x).link j = s.link j := rfl
@[simp] theorem State.setComp_reg (k : Nat) (x : Comp) (j : Nat) (s : State) : (s.setComp k x).reg j = s.reg j := rfl

/-! ### setEnc -/

@[simp] theorem State.setEnc_pending (k : Nat) (x : Enc) (s : State) : (s.setEnc k x).pending = s.pending := rfl
@[simp] theorem State.setEnc_free (k : Nat) (x : Enc) (s : State) : (s.setEnc k x).free = s.free := rfl
@[simp] theorem State.setEnc_order (k : Nat) (x : Enc) (s : State) : (s.setEnc k x).order = s.order := rfl
@[simp] theorem State.setEnc_clock (k : Nat) (x : Enc) (s : State) : (s.setEnc k x).clock = s.clock := rfl
@[simp] theorem State.setEnc_regs (k : Nat) (x : Enc) (s : State) : (s.setEnc k x).regs = s.regs := rfl
@[simp] theorem State.setEnc_mem (k : Nat) (x : Enc) (s : State) : (s.setEnc k x).mem = s.mem := rfl
@[simp] theorem State.setEnc_poison (k : Nat) (x : Enc) (s : State) : (s.setEnc k x).poison = s.poison := rfl
@[simp] theorem State.setEnc_errs (k : Nat) (x : Enc) (s : State) : (s.setEnc k x).errs = s.errs := rfl
@[simp] theorem State.setEnc_ctxs (k : Nat) (x : Enc) (s : State) : (s.setEnc k x).ctxs = s.ctxs := rfl
@[simp] theorem State.setEnc_units (k : Nat) (x : Enc) (s : State) : (s.setEnc k x).units = s.units := rfl
@[simp] theorem State.setEnc_heaps (k : Nat) (x : Enc) (s : State) : (s.setEnc k x).heaps = s.heaps := rfl
@[simp] theorem State.setEnc_fired (k : Nat) (x : Enc) (s : State) : (s.setEnc k x).fired = s.fired := rfl
@[simp] theorem State.setEnc_reqs (k : Nat) (x : Enc) (s : State) : (s.setEnc k x).reqs = s.reqs := rfl
@[simp] theorem State.setEnc_posted (k : Nat) (x : Enc) (s : State) : (s.setEnc k x).posted = s.posted := rfl
@[simp] theorem State.setEnc_tbs (k : Nat) (x : Enc) (s : State) : (s.setEnc k x).tbs = s.tbs := rfl
@[simp] theorem State.setEnc_pps (k : Nat) (x : Enc) (s : State) : (s.setEnc k x).pps = s.pps := rfl
@[simp] theorem State.setEnc_queues (k : Nat) (x : Enc) (s : State) : (s.setEnc k x).queues = s.queues := rfl
@[simp] theorem State.setEnc_xings (k : Nat) (x : Enc) (s : State) : (s.setEnc k x).xings = s.xings := rfl
@[simp] theorem State.setEnc_grps (k : Nat) (x : Enc) (s : State) : (s.setEnc k x).grps = s.grps := rfl
@[simp] theorem State.setEnc_chans (k : Nat) (x : Enc) (s : State) : (s.setEnc k x).chans = s.chans := rfl
@[simp] theorem State.setEnc_comps (k : Nat) (x : Enc) (s : State) : (s.setEnc k x).comps = s.comps := rfl
@[simp] theorem State.setEnc_trks (k : Nat) (x : Enc) (s : State) : (s.setEnc k x).trks = s.trks := rfl
@[simp] theorem State.setEnc_evts (k : Nat) (x : Enc) (s : State) : (s.setEnc k x).evts = s.evts := rfl
@[simp] theorem State.setEnc_evPins (k : Nat) (x : Enc) (s : State) : (s.setEnc k x).evPins = s.evPins := rfl
@[simp] theorem State.setEnc_gens (k : Nat) (x : Enc) (s : State) : (s.setEnc k x).gens = s.gens := rfl
@[simp] theorem State.setEnc_banks (k : Nat) (x : Enc) (s : State) : (s.setEnc k x).banks = s.banks := rfl
@[simp] theorem State.setEnc_dma (k : Nat) (x : Enc) (s : State) : (s.setEnc k x).dma = s.dma := rfl
@[simp] theorem State.setEnc_dmaTurn (k : Nat) (x : Enc) (s : State) : (s.setEnc k x).dmaTurn = s.dmaTurn := rfl
@[simp] theorem State.setEnc_host (k : Nat) (x : Enc) (s : State) : (s.setEnc k x).host = s.host := rfl
@[simp] theorem State.setEnc_links (k : Nat) (x : Enc) (s : State) : (s.setEnc k x).links = s.links := rfl
@[simp] theorem State.setEnc_qdl (k : Nat) (x : Enc) (s : State) : (s.setEnc k x).qdl = s.qdl := rfl
@[simp] theorem State.setEnc_pwr (k : Nat) (x : Enc) (s : State) : (s.setEnc k x).pwr = s.pwr := rfl
@[simp] theorem State.setEnc_pins (k : Nat) (x : Enc) (s : State) : (s.setEnc k x).pins = s.pins := rfl
@[simp] theorem State.setEnc_jsp (k : Nat) (x : Enc) (s : State) : (s.setEnc k x).jsp = s.jsp := rfl
@[simp] theorem State.setEnc_start (k : Nat) (x : Enc) (s : State) : (s.setEnc k x).start = s.start := rfl
@[simp] theorem State.setEnc_contain (k : Nat) (x : Enc) (s : State) : (s.setEnc k x).contain = s.contain := rfl
@[simp] theorem State.setEnc_raised (k : Nat) (x : Enc) (s : State) : (s.setEnc k x).raised = s.raised := rfl
@[simp] theorem State.setEnc_saved (k : Nat) (x : Enc) (s : State) : (s.setEnc k x).saved = s.saved := rfl
@[simp] theorem State.setEnc_scrub (k : Nat) (x : Enc) (s : State) : (s.setEnc k x).scrub = s.scrub := rfl
@[simp] theorem State.setEnc_program (k : Nat) (x : Enc) (s : State) : (s.setEnc k x).program = s.program := rfl
@[simp] theorem State.setEnc_sent (k : Nat) (x : Enc) (s : State) : (s.setEnc k x).sent = s.sent := rfl
theorem State.modEnc_eq (k : Nat) (f : Enc → Enc) (s : State) : s.modEnc k f = s.setEnc k (f (s.enc k)) := rfl
@[simp] theorem State.setEnc_ctx (k : Nat) (x : Enc) (j : Nat) (s : State) : (s.setEnc k x).ctx j = s.ctx j := rfl
@[simp] theorem State.setEnc_unit (k : Nat) (x : Enc) (j : Nat) (s : State) : (s.setEnc k x).unit j = s.unit j := rfl
@[simp] theorem State.setEnc_heap (k : Nat) (x : Enc) (j : Nat) (s : State) : (s.setEnc k x).heap j = s.heap j := rfl
@[simp] theorem State.setEnc_tb (k : Nat) (x : Enc) (j : Nat) (s : State) : (s.setEnc k x).tb j = s.tb j := rfl
@[simp] theorem State.setEnc_queue (k : Nat) (x : Enc) (j : Nat) (s : State) : (s.setEnc k x).queue j = s.queue j := rfl
@[simp] theorem State.setEnc_xing (k : Nat) (x : Enc) (j : Nat) (s : State) : (s.setEnc k x).xing j = s.xing j := rfl
@[simp] theorem State.setEnc_grp (k : Nat) (x : Enc) (j : Nat) (s : State) : (s.setEnc k x).grp j = s.grp j := rfl
@[simp] theorem State.setEnc_chan (k : Nat) (x : Enc) (j : Nat) (s : State) : (s.setEnc k x).chan j = s.chan j := rfl
@[simp] theorem State.setEnc_comp (k : Nat) (x : Enc) (j : Nat) (s : State) : (s.setEnc k x).comp j = s.comp j := rfl
@[simp] theorem State.setEnc_trk (k : Nat) (x : Enc) (j : Nat) (s : State) : (s.setEnc k x).trk j = s.trk j := rfl
@[simp] theorem State.setEnc_evt (k : Nat) (x : Enc) (j : Nat) (s : State) : (s.setEnc k x).evt j = s.evt j := rfl
@[simp] theorem State.setEnc_evPin (k : Nat) (x : Enc) (j : Nat) (s : State) : (s.setEnc k x).evPin j = s.evPin j := rfl
@[simp] theorem State.setEnc_gen (k : Nat) (x : Enc) (j : Nat) (s : State) : (s.setEnc k x).gen j = s.gen j := rfl
@[simp] theorem State.setEnc_bank (k : Nat) (x : Enc) (j : Nat) (s : State) : (s.setEnc k x).bank j = s.bank j := rfl
@[simp] theorem State.setEnc_chDma (k : Nat) (x : Enc) (j : Nat) (s : State) : (s.setEnc k x).chDma j = s.chDma j := rfl
@[simp] theorem State.setEnc_link (k : Nat) (x : Enc) (j : Nat) (s : State) : (s.setEnc k x).link j = s.link j := rfl
@[simp] theorem State.setEnc_reg (k : Nat) (x : Enc) (j : Nat) (s : State) : (s.setEnc k x).reg j = s.reg j := rfl

/-! ### setTrk -/

@[simp] theorem State.setTrk_pending (k : Nat) (x : Trk) (s : State) : (s.setTrk k x).pending = s.pending := rfl
@[simp] theorem State.setTrk_free (k : Nat) (x : Trk) (s : State) : (s.setTrk k x).free = s.free := rfl
@[simp] theorem State.setTrk_order (k : Nat) (x : Trk) (s : State) : (s.setTrk k x).order = s.order := rfl
@[simp] theorem State.setTrk_clock (k : Nat) (x : Trk) (s : State) : (s.setTrk k x).clock = s.clock := rfl
@[simp] theorem State.setTrk_regs (k : Nat) (x : Trk) (s : State) : (s.setTrk k x).regs = s.regs := rfl
@[simp] theorem State.setTrk_mem (k : Nat) (x : Trk) (s : State) : (s.setTrk k x).mem = s.mem := rfl
@[simp] theorem State.setTrk_poison (k : Nat) (x : Trk) (s : State) : (s.setTrk k x).poison = s.poison := rfl
@[simp] theorem State.setTrk_errs (k : Nat) (x : Trk) (s : State) : (s.setTrk k x).errs = s.errs := rfl
@[simp] theorem State.setTrk_ctxs (k : Nat) (x : Trk) (s : State) : (s.setTrk k x).ctxs = s.ctxs := rfl
@[simp] theorem State.setTrk_units (k : Nat) (x : Trk) (s : State) : (s.setTrk k x).units = s.units := rfl
@[simp] theorem State.setTrk_heaps (k : Nat) (x : Trk) (s : State) : (s.setTrk k x).heaps = s.heaps := rfl
@[simp] theorem State.setTrk_fired (k : Nat) (x : Trk) (s : State) : (s.setTrk k x).fired = s.fired := rfl
@[simp] theorem State.setTrk_reqs (k : Nat) (x : Trk) (s : State) : (s.setTrk k x).reqs = s.reqs := rfl
@[simp] theorem State.setTrk_posted (k : Nat) (x : Trk) (s : State) : (s.setTrk k x).posted = s.posted := rfl
@[simp] theorem State.setTrk_tbs (k : Nat) (x : Trk) (s : State) : (s.setTrk k x).tbs = s.tbs := rfl
@[simp] theorem State.setTrk_pps (k : Nat) (x : Trk) (s : State) : (s.setTrk k x).pps = s.pps := rfl
@[simp] theorem State.setTrk_queues (k : Nat) (x : Trk) (s : State) : (s.setTrk k x).queues = s.queues := rfl
@[simp] theorem State.setTrk_xings (k : Nat) (x : Trk) (s : State) : (s.setTrk k x).xings = s.xings := rfl
@[simp] theorem State.setTrk_grps (k : Nat) (x : Trk) (s : State) : (s.setTrk k x).grps = s.grps := rfl
@[simp] theorem State.setTrk_chans (k : Nat) (x : Trk) (s : State) : (s.setTrk k x).chans = s.chans := rfl
@[simp] theorem State.setTrk_comps (k : Nat) (x : Trk) (s : State) : (s.setTrk k x).comps = s.comps := rfl
@[simp] theorem State.setTrk_encs (k : Nat) (x : Trk) (s : State) : (s.setTrk k x).encs = s.encs := rfl
@[simp] theorem State.setTrk_evts (k : Nat) (x : Trk) (s : State) : (s.setTrk k x).evts = s.evts := rfl
@[simp] theorem State.setTrk_evPins (k : Nat) (x : Trk) (s : State) : (s.setTrk k x).evPins = s.evPins := rfl
@[simp] theorem State.setTrk_gens (k : Nat) (x : Trk) (s : State) : (s.setTrk k x).gens = s.gens := rfl
@[simp] theorem State.setTrk_banks (k : Nat) (x : Trk) (s : State) : (s.setTrk k x).banks = s.banks := rfl
@[simp] theorem State.setTrk_dma (k : Nat) (x : Trk) (s : State) : (s.setTrk k x).dma = s.dma := rfl
@[simp] theorem State.setTrk_dmaTurn (k : Nat) (x : Trk) (s : State) : (s.setTrk k x).dmaTurn = s.dmaTurn := rfl
@[simp] theorem State.setTrk_host (k : Nat) (x : Trk) (s : State) : (s.setTrk k x).host = s.host := rfl
@[simp] theorem State.setTrk_links (k : Nat) (x : Trk) (s : State) : (s.setTrk k x).links = s.links := rfl
@[simp] theorem State.setTrk_qdl (k : Nat) (x : Trk) (s : State) : (s.setTrk k x).qdl = s.qdl := rfl
@[simp] theorem State.setTrk_pwr (k : Nat) (x : Trk) (s : State) : (s.setTrk k x).pwr = s.pwr := rfl
@[simp] theorem State.setTrk_pins (k : Nat) (x : Trk) (s : State) : (s.setTrk k x).pins = s.pins := rfl
@[simp] theorem State.setTrk_jsp (k : Nat) (x : Trk) (s : State) : (s.setTrk k x).jsp = s.jsp := rfl
@[simp] theorem State.setTrk_start (k : Nat) (x : Trk) (s : State) : (s.setTrk k x).start = s.start := rfl
@[simp] theorem State.setTrk_contain (k : Nat) (x : Trk) (s : State) : (s.setTrk k x).contain = s.contain := rfl
@[simp] theorem State.setTrk_raised (k : Nat) (x : Trk) (s : State) : (s.setTrk k x).raised = s.raised := rfl
@[simp] theorem State.setTrk_saved (k : Nat) (x : Trk) (s : State) : (s.setTrk k x).saved = s.saved := rfl
@[simp] theorem State.setTrk_scrub (k : Nat) (x : Trk) (s : State) : (s.setTrk k x).scrub = s.scrub := rfl
@[simp] theorem State.setTrk_program (k : Nat) (x : Trk) (s : State) : (s.setTrk k x).program = s.program := rfl
@[simp] theorem State.setTrk_sent (k : Nat) (x : Trk) (s : State) : (s.setTrk k x).sent = s.sent := rfl
theorem State.modTrk_eq (k : Nat) (f : Trk → Trk) (s : State) : s.modTrk k f = s.setTrk k (f (s.trk k)) := rfl
@[simp] theorem State.setTrk_ctx (k : Nat) (x : Trk) (j : Nat) (s : State) : (s.setTrk k x).ctx j = s.ctx j := rfl
@[simp] theorem State.setTrk_unit (k : Nat) (x : Trk) (j : Nat) (s : State) : (s.setTrk k x).unit j = s.unit j := rfl
@[simp] theorem State.setTrk_heap (k : Nat) (x : Trk) (j : Nat) (s : State) : (s.setTrk k x).heap j = s.heap j := rfl
@[simp] theorem State.setTrk_tb (k : Nat) (x : Trk) (j : Nat) (s : State) : (s.setTrk k x).tb j = s.tb j := rfl
@[simp] theorem State.setTrk_queue (k : Nat) (x : Trk) (j : Nat) (s : State) : (s.setTrk k x).queue j = s.queue j := rfl
@[simp] theorem State.setTrk_xing (k : Nat) (x : Trk) (j : Nat) (s : State) : (s.setTrk k x).xing j = s.xing j := rfl
@[simp] theorem State.setTrk_grp (k : Nat) (x : Trk) (j : Nat) (s : State) : (s.setTrk k x).grp j = s.grp j := rfl
@[simp] theorem State.setTrk_chan (k : Nat) (x : Trk) (j : Nat) (s : State) : (s.setTrk k x).chan j = s.chan j := rfl
@[simp] theorem State.setTrk_comp (k : Nat) (x : Trk) (j : Nat) (s : State) : (s.setTrk k x).comp j = s.comp j := rfl
@[simp] theorem State.setTrk_enc (k : Nat) (x : Trk) (j : Nat) (s : State) : (s.setTrk k x).enc j = s.enc j := rfl
@[simp] theorem State.setTrk_evt (k : Nat) (x : Trk) (j : Nat) (s : State) : (s.setTrk k x).evt j = s.evt j := rfl
@[simp] theorem State.setTrk_evPin (k : Nat) (x : Trk) (j : Nat) (s : State) : (s.setTrk k x).evPin j = s.evPin j := rfl
@[simp] theorem State.setTrk_gen (k : Nat) (x : Trk) (j : Nat) (s : State) : (s.setTrk k x).gen j = s.gen j := rfl
@[simp] theorem State.setTrk_bank (k : Nat) (x : Trk) (j : Nat) (s : State) : (s.setTrk k x).bank j = s.bank j := rfl
@[simp] theorem State.setTrk_chDma (k : Nat) (x : Trk) (j : Nat) (s : State) : (s.setTrk k x).chDma j = s.chDma j := rfl
@[simp] theorem State.setTrk_link (k : Nat) (x : Trk) (j : Nat) (s : State) : (s.setTrk k x).link j = s.link j := rfl
@[simp] theorem State.setTrk_reg (k : Nat) (x : Trk) (j : Nat) (s : State) : (s.setTrk k x).reg j = s.reg j := rfl

/-! ### setEvt -/

@[simp] theorem State.setEvt_pending (k : Nat) (x : EvtSrc) (s : State) : (s.setEvt k x).pending = s.pending := rfl
@[simp] theorem State.setEvt_free (k : Nat) (x : EvtSrc) (s : State) : (s.setEvt k x).free = s.free := rfl
@[simp] theorem State.setEvt_order (k : Nat) (x : EvtSrc) (s : State) : (s.setEvt k x).order = s.order := rfl
@[simp] theorem State.setEvt_clock (k : Nat) (x : EvtSrc) (s : State) : (s.setEvt k x).clock = s.clock := rfl
@[simp] theorem State.setEvt_regs (k : Nat) (x : EvtSrc) (s : State) : (s.setEvt k x).regs = s.regs := rfl
@[simp] theorem State.setEvt_mem (k : Nat) (x : EvtSrc) (s : State) : (s.setEvt k x).mem = s.mem := rfl
@[simp] theorem State.setEvt_poison (k : Nat) (x : EvtSrc) (s : State) : (s.setEvt k x).poison = s.poison := rfl
@[simp] theorem State.setEvt_errs (k : Nat) (x : EvtSrc) (s : State) : (s.setEvt k x).errs = s.errs := rfl
@[simp] theorem State.setEvt_ctxs (k : Nat) (x : EvtSrc) (s : State) : (s.setEvt k x).ctxs = s.ctxs := rfl
@[simp] theorem State.setEvt_units (k : Nat) (x : EvtSrc) (s : State) : (s.setEvt k x).units = s.units := rfl
@[simp] theorem State.setEvt_heaps (k : Nat) (x : EvtSrc) (s : State) : (s.setEvt k x).heaps = s.heaps := rfl
@[simp] theorem State.setEvt_fired (k : Nat) (x : EvtSrc) (s : State) : (s.setEvt k x).fired = s.fired := rfl
@[simp] theorem State.setEvt_reqs (k : Nat) (x : EvtSrc) (s : State) : (s.setEvt k x).reqs = s.reqs := rfl
@[simp] theorem State.setEvt_posted (k : Nat) (x : EvtSrc) (s : State) : (s.setEvt k x).posted = s.posted := rfl
@[simp] theorem State.setEvt_tbs (k : Nat) (x : EvtSrc) (s : State) : (s.setEvt k x).tbs = s.tbs := rfl
@[simp] theorem State.setEvt_pps (k : Nat) (x : EvtSrc) (s : State) : (s.setEvt k x).pps = s.pps := rfl
@[simp] theorem State.setEvt_queues (k : Nat) (x : EvtSrc) (s : State) : (s.setEvt k x).queues = s.queues := rfl
@[simp] theorem State.setEvt_xings (k : Nat) (x : EvtSrc) (s : State) : (s.setEvt k x).xings = s.xings := rfl
@[simp] theorem State.setEvt_grps (k : Nat) (x : EvtSrc) (s : State) : (s.setEvt k x).grps = s.grps := rfl
@[simp] theorem State.setEvt_chans (k : Nat) (x : EvtSrc) (s : State) : (s.setEvt k x).chans = s.chans := rfl
@[simp] theorem State.setEvt_comps (k : Nat) (x : EvtSrc) (s : State) : (s.setEvt k x).comps = s.comps := rfl
@[simp] theorem State.setEvt_encs (k : Nat) (x : EvtSrc) (s : State) : (s.setEvt k x).encs = s.encs := rfl
@[simp] theorem State.setEvt_trks (k : Nat) (x : EvtSrc) (s : State) : (s.setEvt k x).trks = s.trks := rfl
@[simp] theorem State.setEvt_evPins (k : Nat) (x : EvtSrc) (s : State) : (s.setEvt k x).evPins = s.evPins := rfl
@[simp] theorem State.setEvt_gens (k : Nat) (x : EvtSrc) (s : State) : (s.setEvt k x).gens = s.gens := rfl
@[simp] theorem State.setEvt_banks (k : Nat) (x : EvtSrc) (s : State) : (s.setEvt k x).banks = s.banks := rfl
@[simp] theorem State.setEvt_dma (k : Nat) (x : EvtSrc) (s : State) : (s.setEvt k x).dma = s.dma := rfl
@[simp] theorem State.setEvt_dmaTurn (k : Nat) (x : EvtSrc) (s : State) : (s.setEvt k x).dmaTurn = s.dmaTurn := rfl
@[simp] theorem State.setEvt_host (k : Nat) (x : EvtSrc) (s : State) : (s.setEvt k x).host = s.host := rfl
@[simp] theorem State.setEvt_links (k : Nat) (x : EvtSrc) (s : State) : (s.setEvt k x).links = s.links := rfl
@[simp] theorem State.setEvt_qdl (k : Nat) (x : EvtSrc) (s : State) : (s.setEvt k x).qdl = s.qdl := rfl
@[simp] theorem State.setEvt_pwr (k : Nat) (x : EvtSrc) (s : State) : (s.setEvt k x).pwr = s.pwr := rfl
@[simp] theorem State.setEvt_pins (k : Nat) (x : EvtSrc) (s : State) : (s.setEvt k x).pins = s.pins := rfl
@[simp] theorem State.setEvt_jsp (k : Nat) (x : EvtSrc) (s : State) : (s.setEvt k x).jsp = s.jsp := rfl
@[simp] theorem State.setEvt_start (k : Nat) (x : EvtSrc) (s : State) : (s.setEvt k x).start = s.start := rfl
@[simp] theorem State.setEvt_contain (k : Nat) (x : EvtSrc) (s : State) : (s.setEvt k x).contain = s.contain := rfl
@[simp] theorem State.setEvt_raised (k : Nat) (x : EvtSrc) (s : State) : (s.setEvt k x).raised = s.raised := rfl
@[simp] theorem State.setEvt_saved (k : Nat) (x : EvtSrc) (s : State) : (s.setEvt k x).saved = s.saved := rfl
@[simp] theorem State.setEvt_scrub (k : Nat) (x : EvtSrc) (s : State) : (s.setEvt k x).scrub = s.scrub := rfl
@[simp] theorem State.setEvt_program (k : Nat) (x : EvtSrc) (s : State) : (s.setEvt k x).program = s.program := rfl
@[simp] theorem State.setEvt_sent (k : Nat) (x : EvtSrc) (s : State) : (s.setEvt k x).sent = s.sent := rfl
theorem State.modEvt_eq (k : Nat) (f : EvtSrc → EvtSrc) (s : State) : s.modEvt k f = s.setEvt k (f (s.evt k)) := rfl
@[simp] theorem State.setEvt_ctx (k : Nat) (x : EvtSrc) (j : Nat) (s : State) : (s.setEvt k x).ctx j = s.ctx j := rfl
@[simp] theorem State.setEvt_unit (k : Nat) (x : EvtSrc) (j : Nat) (s : State) : (s.setEvt k x).unit j = s.unit j := rfl
@[simp] theorem State.setEvt_heap (k : Nat) (x : EvtSrc) (j : Nat) (s : State) : (s.setEvt k x).heap j = s.heap j := rfl
@[simp] theorem State.setEvt_tb (k : Nat) (x : EvtSrc) (j : Nat) (s : State) : (s.setEvt k x).tb j = s.tb j := rfl
@[simp] theorem State.setEvt_queue (k : Nat) (x : EvtSrc) (j : Nat) (s : State) : (s.setEvt k x).queue j = s.queue j := rfl
@[simp] theorem State.setEvt_xing (k : Nat) (x : EvtSrc) (j : Nat) (s : State) : (s.setEvt k x).xing j = s.xing j := rfl
@[simp] theorem State.setEvt_grp (k : Nat) (x : EvtSrc) (j : Nat) (s : State) : (s.setEvt k x).grp j = s.grp j := rfl
@[simp] theorem State.setEvt_chan (k : Nat) (x : EvtSrc) (j : Nat) (s : State) : (s.setEvt k x).chan j = s.chan j := rfl
@[simp] theorem State.setEvt_comp (k : Nat) (x : EvtSrc) (j : Nat) (s : State) : (s.setEvt k x).comp j = s.comp j := rfl
@[simp] theorem State.setEvt_enc (k : Nat) (x : EvtSrc) (j : Nat) (s : State) : (s.setEvt k x).enc j = s.enc j := rfl
@[simp] theorem State.setEvt_trk (k : Nat) (x : EvtSrc) (j : Nat) (s : State) : (s.setEvt k x).trk j = s.trk j := rfl
@[simp] theorem State.setEvt_evPin (k : Nat) (x : EvtSrc) (j : Nat) (s : State) : (s.setEvt k x).evPin j = s.evPin j := rfl
@[simp] theorem State.setEvt_gen (k : Nat) (x : EvtSrc) (j : Nat) (s : State) : (s.setEvt k x).gen j = s.gen j := rfl
@[simp] theorem State.setEvt_bank (k : Nat) (x : EvtSrc) (j : Nat) (s : State) : (s.setEvt k x).bank j = s.bank j := rfl
@[simp] theorem State.setEvt_chDma (k : Nat) (x : EvtSrc) (j : Nat) (s : State) : (s.setEvt k x).chDma j = s.chDma j := rfl
@[simp] theorem State.setEvt_link (k : Nat) (x : EvtSrc) (j : Nat) (s : State) : (s.setEvt k x).link j = s.link j := rfl
@[simp] theorem State.setEvt_reg (k : Nat) (x : EvtSrc) (j : Nat) (s : State) : (s.setEvt k x).reg j = s.reg j := rfl

/-! ### setEvPin -/

@[simp] theorem State.setEvPin_pending (k : Nat) (x : Pin) (s : State) : (s.setEvPin k x).pending = s.pending := rfl
@[simp] theorem State.setEvPin_free (k : Nat) (x : Pin) (s : State) : (s.setEvPin k x).free = s.free := rfl
@[simp] theorem State.setEvPin_order (k : Nat) (x : Pin) (s : State) : (s.setEvPin k x).order = s.order := rfl
@[simp] theorem State.setEvPin_clock (k : Nat) (x : Pin) (s : State) : (s.setEvPin k x).clock = s.clock := rfl
@[simp] theorem State.setEvPin_regs (k : Nat) (x : Pin) (s : State) : (s.setEvPin k x).regs = s.regs := rfl
@[simp] theorem State.setEvPin_mem (k : Nat) (x : Pin) (s : State) : (s.setEvPin k x).mem = s.mem := rfl
@[simp] theorem State.setEvPin_poison (k : Nat) (x : Pin) (s : State) : (s.setEvPin k x).poison = s.poison := rfl
@[simp] theorem State.setEvPin_errs (k : Nat) (x : Pin) (s : State) : (s.setEvPin k x).errs = s.errs := rfl
@[simp] theorem State.setEvPin_ctxs (k : Nat) (x : Pin) (s : State) : (s.setEvPin k x).ctxs = s.ctxs := rfl
@[simp] theorem State.setEvPin_units (k : Nat) (x : Pin) (s : State) : (s.setEvPin k x).units = s.units := rfl
@[simp] theorem State.setEvPin_heaps (k : Nat) (x : Pin) (s : State) : (s.setEvPin k x).heaps = s.heaps := rfl
@[simp] theorem State.setEvPin_fired (k : Nat) (x : Pin) (s : State) : (s.setEvPin k x).fired = s.fired := rfl
@[simp] theorem State.setEvPin_reqs (k : Nat) (x : Pin) (s : State) : (s.setEvPin k x).reqs = s.reqs := rfl
@[simp] theorem State.setEvPin_posted (k : Nat) (x : Pin) (s : State) : (s.setEvPin k x).posted = s.posted := rfl
@[simp] theorem State.setEvPin_tbs (k : Nat) (x : Pin) (s : State) : (s.setEvPin k x).tbs = s.tbs := rfl
@[simp] theorem State.setEvPin_pps (k : Nat) (x : Pin) (s : State) : (s.setEvPin k x).pps = s.pps := rfl
@[simp] theorem State.setEvPin_queues (k : Nat) (x : Pin) (s : State) : (s.setEvPin k x).queues = s.queues := rfl
@[simp] theorem State.setEvPin_xings (k : Nat) (x : Pin) (s : State) : (s.setEvPin k x).xings = s.xings := rfl
@[simp] theorem State.setEvPin_grps (k : Nat) (x : Pin) (s : State) : (s.setEvPin k x).grps = s.grps := rfl
@[simp] theorem State.setEvPin_chans (k : Nat) (x : Pin) (s : State) : (s.setEvPin k x).chans = s.chans := rfl
@[simp] theorem State.setEvPin_comps (k : Nat) (x : Pin) (s : State) : (s.setEvPin k x).comps = s.comps := rfl
@[simp] theorem State.setEvPin_encs (k : Nat) (x : Pin) (s : State) : (s.setEvPin k x).encs = s.encs := rfl
@[simp] theorem State.setEvPin_trks (k : Nat) (x : Pin) (s : State) : (s.setEvPin k x).trks = s.trks := rfl
@[simp] theorem State.setEvPin_evts (k : Nat) (x : Pin) (s : State) : (s.setEvPin k x).evts = s.evts := rfl
@[simp] theorem State.setEvPin_gens (k : Nat) (x : Pin) (s : State) : (s.setEvPin k x).gens = s.gens := rfl
@[simp] theorem State.setEvPin_banks (k : Nat) (x : Pin) (s : State) : (s.setEvPin k x).banks = s.banks := rfl
@[simp] theorem State.setEvPin_dma (k : Nat) (x : Pin) (s : State) : (s.setEvPin k x).dma = s.dma := rfl
@[simp] theorem State.setEvPin_dmaTurn (k : Nat) (x : Pin) (s : State) : (s.setEvPin k x).dmaTurn = s.dmaTurn := rfl
@[simp] theorem State.setEvPin_host (k : Nat) (x : Pin) (s : State) : (s.setEvPin k x).host = s.host := rfl
@[simp] theorem State.setEvPin_links (k : Nat) (x : Pin) (s : State) : (s.setEvPin k x).links = s.links := rfl
@[simp] theorem State.setEvPin_qdl (k : Nat) (x : Pin) (s : State) : (s.setEvPin k x).qdl = s.qdl := rfl
@[simp] theorem State.setEvPin_pwr (k : Nat) (x : Pin) (s : State) : (s.setEvPin k x).pwr = s.pwr := rfl
@[simp] theorem State.setEvPin_pins (k : Nat) (x : Pin) (s : State) : (s.setEvPin k x).pins = s.pins := rfl
@[simp] theorem State.setEvPin_jsp (k : Nat) (x : Pin) (s : State) : (s.setEvPin k x).jsp = s.jsp := rfl
@[simp] theorem State.setEvPin_start (k : Nat) (x : Pin) (s : State) : (s.setEvPin k x).start = s.start := rfl
@[simp] theorem State.setEvPin_contain (k : Nat) (x : Pin) (s : State) : (s.setEvPin k x).contain = s.contain := rfl
@[simp] theorem State.setEvPin_raised (k : Nat) (x : Pin) (s : State) : (s.setEvPin k x).raised = s.raised := rfl
@[simp] theorem State.setEvPin_saved (k : Nat) (x : Pin) (s : State) : (s.setEvPin k x).saved = s.saved := rfl
@[simp] theorem State.setEvPin_scrub (k : Nat) (x : Pin) (s : State) : (s.setEvPin k x).scrub = s.scrub := rfl
@[simp] theorem State.setEvPin_program (k : Nat) (x : Pin) (s : State) : (s.setEvPin k x).program = s.program := rfl
@[simp] theorem State.setEvPin_sent (k : Nat) (x : Pin) (s : State) : (s.setEvPin k x).sent = s.sent := rfl
theorem State.modEvPin_eq (k : Nat) (f : Pin → Pin) (s : State) : s.modEvPin k f = s.setEvPin k (f (s.evPin k)) := rfl
@[simp] theorem State.setEvPin_ctx (k : Nat) (x : Pin) (j : Nat) (s : State) : (s.setEvPin k x).ctx j = s.ctx j := rfl
@[simp] theorem State.setEvPin_unit (k : Nat) (x : Pin) (j : Nat) (s : State) : (s.setEvPin k x).unit j = s.unit j := rfl
@[simp] theorem State.setEvPin_heap (k : Nat) (x : Pin) (j : Nat) (s : State) : (s.setEvPin k x).heap j = s.heap j := rfl
@[simp] theorem State.setEvPin_tb (k : Nat) (x : Pin) (j : Nat) (s : State) : (s.setEvPin k x).tb j = s.tb j := rfl
@[simp] theorem State.setEvPin_queue (k : Nat) (x : Pin) (j : Nat) (s : State) : (s.setEvPin k x).queue j = s.queue j := rfl
@[simp] theorem State.setEvPin_xing (k : Nat) (x : Pin) (j : Nat) (s : State) : (s.setEvPin k x).xing j = s.xing j := rfl
@[simp] theorem State.setEvPin_grp (k : Nat) (x : Pin) (j : Nat) (s : State) : (s.setEvPin k x).grp j = s.grp j := rfl
@[simp] theorem State.setEvPin_chan (k : Nat) (x : Pin) (j : Nat) (s : State) : (s.setEvPin k x).chan j = s.chan j := rfl
@[simp] theorem State.setEvPin_comp (k : Nat) (x : Pin) (j : Nat) (s : State) : (s.setEvPin k x).comp j = s.comp j := rfl
@[simp] theorem State.setEvPin_enc (k : Nat) (x : Pin) (j : Nat) (s : State) : (s.setEvPin k x).enc j = s.enc j := rfl
@[simp] theorem State.setEvPin_trk (k : Nat) (x : Pin) (j : Nat) (s : State) : (s.setEvPin k x).trk j = s.trk j := rfl
@[simp] theorem State.setEvPin_evt (k : Nat) (x : Pin) (j : Nat) (s : State) : (s.setEvPin k x).evt j = s.evt j := rfl
@[simp] theorem State.setEvPin_gen (k : Nat) (x : Pin) (j : Nat) (s : State) : (s.setEvPin k x).gen j = s.gen j := rfl
@[simp] theorem State.setEvPin_bank (k : Nat) (x : Pin) (j : Nat) (s : State) : (s.setEvPin k x).bank j = s.bank j := rfl
@[simp] theorem State.setEvPin_chDma (k : Nat) (x : Pin) (j : Nat) (s : State) : (s.setEvPin k x).chDma j = s.chDma j := rfl
@[simp] theorem State.setEvPin_link (k : Nat) (x : Pin) (j : Nat) (s : State) : (s.setEvPin k x).link j = s.link j := rfl
@[simp] theorem State.setEvPin_reg (k : Nat) (x : Pin) (j : Nat) (s : State) : (s.setEvPin k x).reg j = s.reg j := rfl

/-! ### setGen -/

@[simp] theorem State.setGen_pending (k : Nat) (x : Gen) (s : State) : (s.setGen k x).pending = s.pending := rfl
@[simp] theorem State.setGen_free (k : Nat) (x : Gen) (s : State) : (s.setGen k x).free = s.free := rfl
@[simp] theorem State.setGen_order (k : Nat) (x : Gen) (s : State) : (s.setGen k x).order = s.order := rfl
@[simp] theorem State.setGen_clock (k : Nat) (x : Gen) (s : State) : (s.setGen k x).clock = s.clock := rfl
@[simp] theorem State.setGen_regs (k : Nat) (x : Gen) (s : State) : (s.setGen k x).regs = s.regs := rfl
@[simp] theorem State.setGen_mem (k : Nat) (x : Gen) (s : State) : (s.setGen k x).mem = s.mem := rfl
@[simp] theorem State.setGen_poison (k : Nat) (x : Gen) (s : State) : (s.setGen k x).poison = s.poison := rfl
@[simp] theorem State.setGen_errs (k : Nat) (x : Gen) (s : State) : (s.setGen k x).errs = s.errs := rfl
@[simp] theorem State.setGen_ctxs (k : Nat) (x : Gen) (s : State) : (s.setGen k x).ctxs = s.ctxs := rfl
@[simp] theorem State.setGen_units (k : Nat) (x : Gen) (s : State) : (s.setGen k x).units = s.units := rfl
@[simp] theorem State.setGen_heaps (k : Nat) (x : Gen) (s : State) : (s.setGen k x).heaps = s.heaps := rfl
@[simp] theorem State.setGen_fired (k : Nat) (x : Gen) (s : State) : (s.setGen k x).fired = s.fired := rfl
@[simp] theorem State.setGen_reqs (k : Nat) (x : Gen) (s : State) : (s.setGen k x).reqs = s.reqs := rfl
@[simp] theorem State.setGen_posted (k : Nat) (x : Gen) (s : State) : (s.setGen k x).posted = s.posted := rfl
@[simp] theorem State.setGen_tbs (k : Nat) (x : Gen) (s : State) : (s.setGen k x).tbs = s.tbs := rfl
@[simp] theorem State.setGen_pps (k : Nat) (x : Gen) (s : State) : (s.setGen k x).pps = s.pps := rfl
@[simp] theorem State.setGen_queues (k : Nat) (x : Gen) (s : State) : (s.setGen k x).queues = s.queues := rfl
@[simp] theorem State.setGen_xings (k : Nat) (x : Gen) (s : State) : (s.setGen k x).xings = s.xings := rfl
@[simp] theorem State.setGen_grps (k : Nat) (x : Gen) (s : State) : (s.setGen k x).grps = s.grps := rfl
@[simp] theorem State.setGen_chans (k : Nat) (x : Gen) (s : State) : (s.setGen k x).chans = s.chans := rfl
@[simp] theorem State.setGen_comps (k : Nat) (x : Gen) (s : State) : (s.setGen k x).comps = s.comps := rfl
@[simp] theorem State.setGen_encs (k : Nat) (x : Gen) (s : State) : (s.setGen k x).encs = s.encs := rfl
@[simp] theorem State.setGen_trks (k : Nat) (x : Gen) (s : State) : (s.setGen k x).trks = s.trks := rfl
@[simp] theorem State.setGen_evts (k : Nat) (x : Gen) (s : State) : (s.setGen k x).evts = s.evts := rfl
@[simp] theorem State.setGen_evPins (k : Nat) (x : Gen) (s : State) : (s.setGen k x).evPins = s.evPins := rfl
@[simp] theorem State.setGen_banks (k : Nat) (x : Gen) (s : State) : (s.setGen k x).banks = s.banks := rfl
@[simp] theorem State.setGen_dma (k : Nat) (x : Gen) (s : State) : (s.setGen k x).dma = s.dma := rfl
@[simp] theorem State.setGen_dmaTurn (k : Nat) (x : Gen) (s : State) : (s.setGen k x).dmaTurn = s.dmaTurn := rfl
@[simp] theorem State.setGen_host (k : Nat) (x : Gen) (s : State) : (s.setGen k x).host = s.host := rfl
@[simp] theorem State.setGen_links (k : Nat) (x : Gen) (s : State) : (s.setGen k x).links = s.links := rfl
@[simp] theorem State.setGen_qdl (k : Nat) (x : Gen) (s : State) : (s.setGen k x).qdl = s.qdl := rfl
@[simp] theorem State.setGen_pwr (k : Nat) (x : Gen) (s : State) : (s.setGen k x).pwr = s.pwr := rfl
@[simp] theorem State.setGen_pins (k : Nat) (x : Gen) (s : State) : (s.setGen k x).pins = s.pins := rfl
@[simp] theorem State.setGen_jsp (k : Nat) (x : Gen) (s : State) : (s.setGen k x).jsp = s.jsp := rfl
@[simp] theorem State.setGen_start (k : Nat) (x : Gen) (s : State) : (s.setGen k x).start = s.start := rfl
@[simp] theorem State.setGen_contain (k : Nat) (x : Gen) (s : State) : (s.setGen k x).contain = s.contain := rfl
@[simp] theorem State.setGen_raised (k : Nat) (x : Gen) (s : State) : (s.setGen k x).raised = s.raised := rfl
@[simp] theorem State.setGen_saved (k : Nat) (x : Gen) (s : State) : (s.setGen k x).saved = s.saved := rfl
@[simp] theorem State.setGen_scrub (k : Nat) (x : Gen) (s : State) : (s.setGen k x).scrub = s.scrub := rfl
@[simp] theorem State.setGen_program (k : Nat) (x : Gen) (s : State) : (s.setGen k x).program = s.program := rfl
@[simp] theorem State.setGen_sent (k : Nat) (x : Gen) (s : State) : (s.setGen k x).sent = s.sent := rfl
theorem State.modGen_eq (k : Nat) (f : Gen → Gen) (s : State) : s.modGen k f = s.setGen k (f (s.gen k)) := rfl
@[simp] theorem State.setGen_ctx (k : Nat) (x : Gen) (j : Nat) (s : State) : (s.setGen k x).ctx j = s.ctx j := rfl
@[simp] theorem State.setGen_unit (k : Nat) (x : Gen) (j : Nat) (s : State) : (s.setGen k x).unit j = s.unit j := rfl
@[simp] theorem State.setGen_heap (k : Nat) (x : Gen) (j : Nat) (s : State) : (s.setGen k x).heap j = s.heap j := rfl
@[simp] theorem State.setGen_tb (k : Nat) (x : Gen) (j : Nat) (s : State) : (s.setGen k x).tb j = s.tb j := rfl
@[simp] theorem State.setGen_queue (k : Nat) (x : Gen) (j : Nat) (s : State) : (s.setGen k x).queue j = s.queue j := rfl
@[simp] theorem State.setGen_xing (k : Nat) (x : Gen) (j : Nat) (s : State) : (s.setGen k x).xing j = s.xing j := rfl
@[simp] theorem State.setGen_grp (k : Nat) (x : Gen) (j : Nat) (s : State) : (s.setGen k x).grp j = s.grp j := rfl
@[simp] theorem State.setGen_chan (k : Nat) (x : Gen) (j : Nat) (s : State) : (s.setGen k x).chan j = s.chan j := rfl
@[simp] theorem State.setGen_comp (k : Nat) (x : Gen) (j : Nat) (s : State) : (s.setGen k x).comp j = s.comp j := rfl
@[simp] theorem State.setGen_enc (k : Nat) (x : Gen) (j : Nat) (s : State) : (s.setGen k x).enc j = s.enc j := rfl
@[simp] theorem State.setGen_trk (k : Nat) (x : Gen) (j : Nat) (s : State) : (s.setGen k x).trk j = s.trk j := rfl
@[simp] theorem State.setGen_evt (k : Nat) (x : Gen) (j : Nat) (s : State) : (s.setGen k x).evt j = s.evt j := rfl
@[simp] theorem State.setGen_evPin (k : Nat) (x : Gen) (j : Nat) (s : State) : (s.setGen k x).evPin j = s.evPin j := rfl
@[simp] theorem State.setGen_bank (k : Nat) (x : Gen) (j : Nat) (s : State) : (s.setGen k x).bank j = s.bank j := rfl
@[simp] theorem State.setGen_chDma (k : Nat) (x : Gen) (j : Nat) (s : State) : (s.setGen k x).chDma j = s.chDma j := rfl
@[simp] theorem State.setGen_link (k : Nat) (x : Gen) (j : Nat) (s : State) : (s.setGen k x).link j = s.link j := rfl
@[simp] theorem State.setGen_reg (k : Nat) (x : Gen) (j : Nat) (s : State) : (s.setGen k x).reg j = s.reg j := rfl

/-! ### setBank -/

@[simp] theorem State.setBank_pending (k : Nat) (x : Bank) (s : State) : (s.setBank k x).pending = s.pending := rfl
@[simp] theorem State.setBank_free (k : Nat) (x : Bank) (s : State) : (s.setBank k x).free = s.free := rfl
@[simp] theorem State.setBank_order (k : Nat) (x : Bank) (s : State) : (s.setBank k x).order = s.order := rfl
@[simp] theorem State.setBank_clock (k : Nat) (x : Bank) (s : State) : (s.setBank k x).clock = s.clock := rfl
@[simp] theorem State.setBank_regs (k : Nat) (x : Bank) (s : State) : (s.setBank k x).regs = s.regs := rfl
@[simp] theorem State.setBank_mem (k : Nat) (x : Bank) (s : State) : (s.setBank k x).mem = s.mem := rfl
@[simp] theorem State.setBank_poison (k : Nat) (x : Bank) (s : State) : (s.setBank k x).poison = s.poison := rfl
@[simp] theorem State.setBank_errs (k : Nat) (x : Bank) (s : State) : (s.setBank k x).errs = s.errs := rfl
@[simp] theorem State.setBank_ctxs (k : Nat) (x : Bank) (s : State) : (s.setBank k x).ctxs = s.ctxs := rfl
@[simp] theorem State.setBank_units (k : Nat) (x : Bank) (s : State) : (s.setBank k x).units = s.units := rfl
@[simp] theorem State.setBank_heaps (k : Nat) (x : Bank) (s : State) : (s.setBank k x).heaps = s.heaps := rfl
@[simp] theorem State.setBank_fired (k : Nat) (x : Bank) (s : State) : (s.setBank k x).fired = s.fired := rfl
@[simp] theorem State.setBank_reqs (k : Nat) (x : Bank) (s : State) : (s.setBank k x).reqs = s.reqs := rfl
@[simp] theorem State.setBank_posted (k : Nat) (x : Bank) (s : State) : (s.setBank k x).posted = s.posted := rfl
@[simp] theorem State.setBank_tbs (k : Nat) (x : Bank) (s : State) : (s.setBank k x).tbs = s.tbs := rfl
@[simp] theorem State.setBank_pps (k : Nat) (x : Bank) (s : State) : (s.setBank k x).pps = s.pps := rfl
@[simp] theorem State.setBank_queues (k : Nat) (x : Bank) (s : State) : (s.setBank k x).queues = s.queues := rfl
@[simp] theorem State.setBank_xings (k : Nat) (x : Bank) (s : State) : (s.setBank k x).xings = s.xings := rfl
@[simp] theorem State.setBank_grps (k : Nat) (x : Bank) (s : State) : (s.setBank k x).grps = s.grps := rfl
@[simp] theorem State.setBank_chans (k : Nat) (x : Bank) (s : State) : (s.setBank k x).chans = s.chans := rfl
@[simp] theorem State.setBank_comps (k : Nat) (x : Bank) (s : State) : (s.setBank k x).comps = s.comps := rfl
@[simp] theorem State.setBank_encs (k : Nat) (x : Bank) (s : State) : (s.setBank k x).encs = s.encs := rfl
@[simp] theorem State.setBank_trks (k : Nat) (x : Bank) (s : State) : (s.setBank k x).trks = s.trks := rfl
@[simp] theorem State.setBank_evts (k : Nat) (x : Bank) (s : State) : (s.setBank k x).evts = s.evts := rfl
@[simp] theorem State.setBank_evPins (k : Nat) (x : Bank) (s : State) : (s.setBank k x).evPins = s.evPins := rfl
@[simp] theorem State.setBank_gens (k : Nat) (x : Bank) (s : State) : (s.setBank k x).gens = s.gens := rfl
@[simp] theorem State.setBank_dma (k : Nat) (x : Bank) (s : State) : (s.setBank k x).dma = s.dma := rfl
@[simp] theorem State.setBank_dmaTurn (k : Nat) (x : Bank) (s : State) : (s.setBank k x).dmaTurn = s.dmaTurn := rfl
@[simp] theorem State.setBank_host (k : Nat) (x : Bank) (s : State) : (s.setBank k x).host = s.host := rfl
@[simp] theorem State.setBank_links (k : Nat) (x : Bank) (s : State) : (s.setBank k x).links = s.links := rfl
@[simp] theorem State.setBank_qdl (k : Nat) (x : Bank) (s : State) : (s.setBank k x).qdl = s.qdl := rfl
@[simp] theorem State.setBank_pwr (k : Nat) (x : Bank) (s : State) : (s.setBank k x).pwr = s.pwr := rfl
@[simp] theorem State.setBank_pins (k : Nat) (x : Bank) (s : State) : (s.setBank k x).pins = s.pins := rfl
@[simp] theorem State.setBank_jsp (k : Nat) (x : Bank) (s : State) : (s.setBank k x).jsp = s.jsp := rfl
@[simp] theorem State.setBank_start (k : Nat) (x : Bank) (s : State) : (s.setBank k x).start = s.start := rfl
@[simp] theorem State.setBank_contain (k : Nat) (x : Bank) (s : State) : (s.setBank k x).contain = s.contain := rfl
@[simp] theorem State.setBank_raised (k : Nat) (x : Bank) (s : State) : (s.setBank k x).raised = s.raised := rfl
@[simp] theorem State.setBank_saved (k : Nat) (x : Bank) (s : State) : (s.setBank k x).saved = s.saved := rfl
@[simp] theorem State.setBank_scrub (k : Nat) (x : Bank) (s : State) : (s.setBank k x).scrub = s.scrub := rfl
@[simp] theorem State.setBank_program (k : Nat) (x : Bank) (s : State) : (s.setBank k x).program = s.program := rfl
@[simp] theorem State.setBank_sent (k : Nat) (x : Bank) (s : State) : (s.setBank k x).sent = s.sent := rfl
theorem State.modBank_eq (k : Nat) (f : Bank → Bank) (s : State) : s.modBank k f = s.setBank k (f (s.bank k)) := rfl
@[simp] theorem State.setBank_ctx (k : Nat) (x : Bank) (j : Nat) (s : State) : (s.setBank k x).ctx j = s.ctx j := rfl
@[simp] theorem State.setBank_unit (k : Nat) (x : Bank) (j : Nat) (s : State) : (s.setBank k x).unit j = s.unit j := rfl
@[simp] theorem State.setBank_heap (k : Nat) (x : Bank) (j : Nat) (s : State) : (s.setBank k x).heap j = s.heap j := rfl
@[simp] theorem State.setBank_tb (k : Nat) (x : Bank) (j : Nat) (s : State) : (s.setBank k x).tb j = s.tb j := rfl
@[simp] theorem State.setBank_queue (k : Nat) (x : Bank) (j : Nat) (s : State) : (s.setBank k x).queue j = s.queue j := rfl
@[simp] theorem State.setBank_xing (k : Nat) (x : Bank) (j : Nat) (s : State) : (s.setBank k x).xing j = s.xing j := rfl
@[simp] theorem State.setBank_grp (k : Nat) (x : Bank) (j : Nat) (s : State) : (s.setBank k x).grp j = s.grp j := rfl
@[simp] theorem State.setBank_chan (k : Nat) (x : Bank) (j : Nat) (s : State) : (s.setBank k x).chan j = s.chan j := rfl
@[simp] theorem State.setBank_comp (k : Nat) (x : Bank) (j : Nat) (s : State) : (s.setBank k x).comp j = s.comp j := rfl
@[simp] theorem State.setBank_enc (k : Nat) (x : Bank) (j : Nat) (s : State) : (s.setBank k x).enc j = s.enc j := rfl
@[simp] theorem State.setBank_trk (k : Nat) (x : Bank) (j : Nat) (s : State) : (s.setBank k x).trk j = s.trk j := rfl
@[simp] theorem State.setBank_evt (k : Nat) (x : Bank) (j : Nat) (s : State) : (s.setBank k x).evt j = s.evt j := rfl
@[simp] theorem State.setBank_evPin (k : Nat) (x : Bank) (j : Nat) (s : State) : (s.setBank k x).evPin j = s.evPin j := rfl
@[simp] theorem State.setBank_gen (k : Nat) (x : Bank) (j : Nat) (s : State) : (s.setBank k x).gen j = s.gen j := rfl
@[simp] theorem State.setBank_chDma (k : Nat) (x : Bank) (j : Nat) (s : State) : (s.setBank k x).chDma j = s.chDma j := rfl
@[simp] theorem State.setBank_link (k : Nat) (x : Bank) (j : Nat) (s : State) : (s.setBank k x).link j = s.link j := rfl
@[simp] theorem State.setBank_reg (k : Nat) (x : Bank) (j : Nat) (s : State) : (s.setBank k x).reg j = s.reg j := rfl

/-! ### setChDma -/

@[simp] theorem State.setChDma_pending (k : Nat) (x : Dma) (s : State) : (s.setChDma k x).pending = s.pending := rfl
@[simp] theorem State.setChDma_free (k : Nat) (x : Dma) (s : State) : (s.setChDma k x).free = s.free := rfl
@[simp] theorem State.setChDma_order (k : Nat) (x : Dma) (s : State) : (s.setChDma k x).order = s.order := rfl
@[simp] theorem State.setChDma_clock (k : Nat) (x : Dma) (s : State) : (s.setChDma k x).clock = s.clock := rfl
@[simp] theorem State.setChDma_regs (k : Nat) (x : Dma) (s : State) : (s.setChDma k x).regs = s.regs := rfl
@[simp] theorem State.setChDma_mem (k : Nat) (x : Dma) (s : State) : (s.setChDma k x).mem = s.mem := rfl
@[simp] theorem State.setChDma_poison (k : Nat) (x : Dma) (s : State) : (s.setChDma k x).poison = s.poison := rfl
@[simp] theorem State.setChDma_errs (k : Nat) (x : Dma) (s : State) : (s.setChDma k x).errs = s.errs := rfl
@[simp] theorem State.setChDma_ctxs (k : Nat) (x : Dma) (s : State) : (s.setChDma k x).ctxs = s.ctxs := rfl
@[simp] theorem State.setChDma_units (k : Nat) (x : Dma) (s : State) : (s.setChDma k x).units = s.units := rfl
@[simp] theorem State.setChDma_heaps (k : Nat) (x : Dma) (s : State) : (s.setChDma k x).heaps = s.heaps := rfl
@[simp] theorem State.setChDma_fired (k : Nat) (x : Dma) (s : State) : (s.setChDma k x).fired = s.fired := rfl
@[simp] theorem State.setChDma_reqs (k : Nat) (x : Dma) (s : State) : (s.setChDma k x).reqs = s.reqs := rfl
@[simp] theorem State.setChDma_posted (k : Nat) (x : Dma) (s : State) : (s.setChDma k x).posted = s.posted := rfl
@[simp] theorem State.setChDma_tbs (k : Nat) (x : Dma) (s : State) : (s.setChDma k x).tbs = s.tbs := rfl
@[simp] theorem State.setChDma_pps (k : Nat) (x : Dma) (s : State) : (s.setChDma k x).pps = s.pps := rfl
@[simp] theorem State.setChDma_queues (k : Nat) (x : Dma) (s : State) : (s.setChDma k x).queues = s.queues := rfl
@[simp] theorem State.setChDma_xings (k : Nat) (x : Dma) (s : State) : (s.setChDma k x).xings = s.xings := rfl
@[simp] theorem State.setChDma_grps (k : Nat) (x : Dma) (s : State) : (s.setChDma k x).grps = s.grps := rfl
@[simp] theorem State.setChDma_chans (k : Nat) (x : Dma) (s : State) : (s.setChDma k x).chans = s.chans := rfl
@[simp] theorem State.setChDma_comps (k : Nat) (x : Dma) (s : State) : (s.setChDma k x).comps = s.comps := rfl
@[simp] theorem State.setChDma_encs (k : Nat) (x : Dma) (s : State) : (s.setChDma k x).encs = s.encs := rfl
@[simp] theorem State.setChDma_trks (k : Nat) (x : Dma) (s : State) : (s.setChDma k x).trks = s.trks := rfl
@[simp] theorem State.setChDma_evts (k : Nat) (x : Dma) (s : State) : (s.setChDma k x).evts = s.evts := rfl
@[simp] theorem State.setChDma_evPins (k : Nat) (x : Dma) (s : State) : (s.setChDma k x).evPins = s.evPins := rfl
@[simp] theorem State.setChDma_gens (k : Nat) (x : Dma) (s : State) : (s.setChDma k x).gens = s.gens := rfl
@[simp] theorem State.setChDma_banks (k : Nat) (x : Dma) (s : State) : (s.setChDma k x).banks = s.banks := rfl
@[simp] theorem State.setChDma_dmaTurn (k : Nat) (x : Dma) (s : State) : (s.setChDma k x).dmaTurn = s.dmaTurn := rfl
@[simp] theorem State.setChDma_host (k : Nat) (x : Dma) (s : State) : (s.setChDma k x).host = s.host := rfl
@[simp] theorem State.setChDma_links (k : Nat) (x : Dma) (s : State) : (s.setChDma k x).links = s.links := rfl
@[simp] theorem State.setChDma_qdl (k : Nat) (x : Dma) (s : State) : (s.setChDma k x).qdl = s.qdl := rfl
@[simp] theorem State.setChDma_pwr (k : Nat) (x : Dma) (s : State) : (s.setChDma k x).pwr = s.pwr := rfl
@[simp] theorem State.setChDma_pins (k : Nat) (x : Dma) (s : State) : (s.setChDma k x).pins = s.pins := rfl
@[simp] theorem State.setChDma_jsp (k : Nat) (x : Dma) (s : State) : (s.setChDma k x).jsp = s.jsp := rfl
@[simp] theorem State.setChDma_start (k : Nat) (x : Dma) (s : State) : (s.setChDma k x).start = s.start := rfl
@[simp] theorem State.setChDma_contain (k : Nat) (x : Dma) (s : State) : (s.setChDma k x).contain = s.contain := rfl
@[simp] theorem State.setChDma_raised (k : Nat) (x : Dma) (s : State) : (s.setChDma k x).raised = s.raised := rfl
@[simp] theorem State.setChDma_saved (k : Nat) (x : Dma) (s : State) : (s.setChDma k x).saved = s.saved := rfl
@[simp] theorem State.setChDma_scrub (k : Nat) (x : Dma) (s : State) : (s.setChDma k x).scrub = s.scrub := rfl
@[simp] theorem State.setChDma_program (k : Nat) (x : Dma) (s : State) : (s.setChDma k x).program = s.program := rfl
@[simp] theorem State.setChDma_sent (k : Nat) (x : Dma) (s : State) : (s.setChDma k x).sent = s.sent := rfl
theorem State.modChDma_eq (k : Nat) (f : Dma → Dma) (s : State) : s.modChDma k f = s.setChDma k (f (s.chDma k)) := rfl
@[simp] theorem State.setChDma_ctx (k : Nat) (x : Dma) (j : Nat) (s : State) : (s.setChDma k x).ctx j = s.ctx j := rfl
@[simp] theorem State.setChDma_unit (k : Nat) (x : Dma) (j : Nat) (s : State) : (s.setChDma k x).unit j = s.unit j := rfl
@[simp] theorem State.setChDma_heap (k : Nat) (x : Dma) (j : Nat) (s : State) : (s.setChDma k x).heap j = s.heap j := rfl
@[simp] theorem State.setChDma_tb (k : Nat) (x : Dma) (j : Nat) (s : State) : (s.setChDma k x).tb j = s.tb j := rfl
@[simp] theorem State.setChDma_queue (k : Nat) (x : Dma) (j : Nat) (s : State) : (s.setChDma k x).queue j = s.queue j := rfl
@[simp] theorem State.setChDma_xing (k : Nat) (x : Dma) (j : Nat) (s : State) : (s.setChDma k x).xing j = s.xing j := rfl
@[simp] theorem State.setChDma_grp (k : Nat) (x : Dma) (j : Nat) (s : State) : (s.setChDma k x).grp j = s.grp j := rfl
@[simp] theorem State.setChDma_chan (k : Nat) (x : Dma) (j : Nat) (s : State) : (s.setChDma k x).chan j = s.chan j := rfl
@[simp] theorem State.setChDma_comp (k : Nat) (x : Dma) (j : Nat) (s : State) : (s.setChDma k x).comp j = s.comp j := rfl
@[simp] theorem State.setChDma_enc (k : Nat) (x : Dma) (j : Nat) (s : State) : (s.setChDma k x).enc j = s.enc j := rfl
@[simp] theorem State.setChDma_trk (k : Nat) (x : Dma) (j : Nat) (s : State) : (s.setChDma k x).trk j = s.trk j := rfl
@[simp] theorem State.setChDma_evt (k : Nat) (x : Dma) (j : Nat) (s : State) : (s.setChDma k x).evt j = s.evt j := rfl
@[simp] theorem State.setChDma_evPin (k : Nat) (x : Dma) (j : Nat) (s : State) : (s.setChDma k x).evPin j = s.evPin j := rfl
@[simp] theorem State.setChDma_gen (k : Nat) (x : Dma) (j : Nat) (s : State) : (s.setChDma k x).gen j = s.gen j := rfl
@[simp] theorem State.setChDma_bank (k : Nat) (x : Dma) (j : Nat) (s : State) : (s.setChDma k x).bank j = s.bank j := rfl
@[simp] theorem State.setChDma_link (k : Nat) (x : Dma) (j : Nat) (s : State) : (s.setChDma k x).link j = s.link j := rfl
@[simp] theorem State.setChDma_reg (k : Nat) (x : Dma) (j : Nat) (s : State) : (s.setChDma k x).reg j = s.reg j := rfl

/-! ### setLink -/

@[simp] theorem State.setLink_pending (k : Nat) (x : Link) (s : State) : (s.setLink k x).pending = s.pending := rfl
@[simp] theorem State.setLink_free (k : Nat) (x : Link) (s : State) : (s.setLink k x).free = s.free := rfl
@[simp] theorem State.setLink_order (k : Nat) (x : Link) (s : State) : (s.setLink k x).order = s.order := rfl
@[simp] theorem State.setLink_clock (k : Nat) (x : Link) (s : State) : (s.setLink k x).clock = s.clock := rfl
@[simp] theorem State.setLink_regs (k : Nat) (x : Link) (s : State) : (s.setLink k x).regs = s.regs := rfl
@[simp] theorem State.setLink_mem (k : Nat) (x : Link) (s : State) : (s.setLink k x).mem = s.mem := rfl
@[simp] theorem State.setLink_poison (k : Nat) (x : Link) (s : State) : (s.setLink k x).poison = s.poison := rfl
@[simp] theorem State.setLink_errs (k : Nat) (x : Link) (s : State) : (s.setLink k x).errs = s.errs := rfl
@[simp] theorem State.setLink_ctxs (k : Nat) (x : Link) (s : State) : (s.setLink k x).ctxs = s.ctxs := rfl
@[simp] theorem State.setLink_units (k : Nat) (x : Link) (s : State) : (s.setLink k x).units = s.units := rfl
@[simp] theorem State.setLink_heaps (k : Nat) (x : Link) (s : State) : (s.setLink k x).heaps = s.heaps := rfl
@[simp] theorem State.setLink_fired (k : Nat) (x : Link) (s : State) : (s.setLink k x).fired = s.fired := rfl
@[simp] theorem State.setLink_reqs (k : Nat) (x : Link) (s : State) : (s.setLink k x).reqs = s.reqs := rfl
@[simp] theorem State.setLink_posted (k : Nat) (x : Link) (s : State) : (s.setLink k x).posted = s.posted := rfl
@[simp] theorem State.setLink_tbs (k : Nat) (x : Link) (s : State) : (s.setLink k x).tbs = s.tbs := rfl
@[simp] theorem State.setLink_pps (k : Nat) (x : Link) (s : State) : (s.setLink k x).pps = s.pps := rfl
@[simp] theorem State.setLink_queues (k : Nat) (x : Link) (s : State) : (s.setLink k x).queues = s.queues := rfl
@[simp] theorem State.setLink_xings (k : Nat) (x : Link) (s : State) : (s.setLink k x).xings = s.xings := rfl
@[simp] theorem State.setLink_grps (k : Nat) (x : Link) (s : State) : (s.setLink k x).grps = s.grps := rfl
@[simp] theorem State.setLink_chans (k : Nat) (x : Link) (s : State) : (s.setLink k x).chans = s.chans := rfl
@[simp] theorem State.setLink_comps (k : Nat) (x : Link) (s : State) : (s.setLink k x).comps = s.comps := rfl
@[simp] theorem State.setLink_encs (k : Nat) (x : Link) (s : State) : (s.setLink k x).encs = s.encs := rfl
@[simp] theorem State.setLink_trks (k : Nat) (x : Link) (s : State) : (s.setLink k x).trks = s.trks := rfl
@[simp] theorem State.setLink_evts (k : Nat) (x : Link) (s : State) : (s.setLink k x).evts = s.evts := rfl
@[simp] theorem State.setLink_evPins (k : Nat) (x : Link) (s : State) : (s.setLink k x).evPins = s.evPins := rfl
@[simp] theorem State.setLink_gens (k : Nat) (x : Link) (s : State) : (s.setLink k x).gens = s.gens := rfl
@[simp] theorem State.setLink_banks (k : Nat) (x : Link) (s : State) : (s.setLink k x).banks = s.banks := rfl
@[simp] theorem State.setLink_dma (k : Nat) (x : Link) (s : State) : (s.setLink k x).dma = s.dma := rfl
@[simp] theorem State.setLink_dmaTurn (k : Nat) (x : Link) (s : State) : (s.setLink k x).dmaTurn = s.dmaTurn := rfl
@[simp] theorem State.setLink_host (k : Nat) (x : Link) (s : State) : (s.setLink k x).host = s.host := rfl
@[simp] theorem State.setLink_qdl (k : Nat) (x : Link) (s : State) : (s.setLink k x).qdl = s.qdl := rfl
@[simp] theorem State.setLink_pwr (k : Nat) (x : Link) (s : State) : (s.setLink k x).pwr = s.pwr := rfl
@[simp] theorem State.setLink_pins (k : Nat) (x : Link) (s : State) : (s.setLink k x).pins = s.pins := rfl
@[simp] theorem State.setLink_jsp (k : Nat) (x : Link) (s : State) : (s.setLink k x).jsp = s.jsp := rfl
@[simp] theorem State.setLink_start (k : Nat) (x : Link) (s : State) : (s.setLink k x).start = s.start := rfl
@[simp] theorem State.setLink_contain (k : Nat) (x : Link) (s : State) : (s.setLink k x).contain = s.contain := rfl
@[simp] theorem State.setLink_raised (k : Nat) (x : Link) (s : State) : (s.setLink k x).raised = s.raised := rfl
@[simp] theorem State.setLink_saved (k : Nat) (x : Link) (s : State) : (s.setLink k x).saved = s.saved := rfl
@[simp] theorem State.setLink_scrub (k : Nat) (x : Link) (s : State) : (s.setLink k x).scrub = s.scrub := rfl
@[simp] theorem State.setLink_program (k : Nat) (x : Link) (s : State) : (s.setLink k x).program = s.program := rfl
@[simp] theorem State.setLink_sent (k : Nat) (x : Link) (s : State) : (s.setLink k x).sent = s.sent := rfl
theorem State.modLink_eq (k : Nat) (f : Link → Link) (s : State) : s.modLink k f = s.setLink k (f (s.link k)) := rfl
@[simp] theorem State.setLink_ctx (k : Nat) (x : Link) (j : Nat) (s : State) : (s.setLink k x).ctx j = s.ctx j := rfl
@[simp] theorem State.setLink_unit (k : Nat) (x : Link) (j : Nat) (s : State) : (s.setLink k x).unit j = s.unit j := rfl
@[simp] theorem State.setLink_heap (k : Nat) (x : Link) (j : Nat) (s : State) : (s.setLink k x).heap j = s.heap j := rfl
@[simp] theorem State.setLink_tb (k : Nat) (x : Link) (j : Nat) (s : State) : (s.setLink k x).tb j = s.tb j := rfl
@[simp] theorem State.setLink_queue (k : Nat) (x : Link) (j : Nat) (s : State) : (s.setLink k x).queue j = s.queue j := rfl
@[simp] theorem State.setLink_xing (k : Nat) (x : Link) (j : Nat) (s : State) : (s.setLink k x).xing j = s.xing j := rfl
@[simp] theorem State.setLink_grp (k : Nat) (x : Link) (j : Nat) (s : State) : (s.setLink k x).grp j = s.grp j := rfl
@[simp] theorem State.setLink_chan (k : Nat) (x : Link) (j : Nat) (s : State) : (s.setLink k x).chan j = s.chan j := rfl
@[simp] theorem State.setLink_comp (k : Nat) (x : Link) (j : Nat) (s : State) : (s.setLink k x).comp j = s.comp j := rfl
@[simp] theorem State.setLink_enc (k : Nat) (x : Link) (j : Nat) (s : State) : (s.setLink k x).enc j = s.enc j := rfl
@[simp] theorem State.setLink_trk (k : Nat) (x : Link) (j : Nat) (s : State) : (s.setLink k x).trk j = s.trk j := rfl
@[simp] theorem State.setLink_evt (k : Nat) (x : Link) (j : Nat) (s : State) : (s.setLink k x).evt j = s.evt j := rfl
@[simp] theorem State.setLink_evPin (k : Nat) (x : Link) (j : Nat) (s : State) : (s.setLink k x).evPin j = s.evPin j := rfl
@[simp] theorem State.setLink_gen (k : Nat) (x : Link) (j : Nat) (s : State) : (s.setLink k x).gen j = s.gen j := rfl
@[simp] theorem State.setLink_bank (k : Nat) (x : Link) (j : Nat) (s : State) : (s.setLink k x).bank j = s.bank j := rfl
@[simp] theorem State.setLink_chDma (k : Nat) (x : Link) (j : Nat) (s : State) : (s.setLink k x).chDma j = s.chDma j := rfl
@[simp] theorem State.setLink_reg (k : Nat) (x : Link) (j : Nat) (s : State) : (s.setLink k x).reg j = s.reg j := rfl

/-! ### setReg -/

@[simp] theorem State.setReg_pending (k : Nat) (v : Word) (s : State) : (s.setReg k v).pending = s.pending := rfl
@[simp] theorem State.setReg_free (k : Nat) (v : Word) (s : State) : (s.setReg k v).free = s.free := rfl
@[simp] theorem State.setReg_order (k : Nat) (v : Word) (s : State) : (s.setReg k v).order = s.order := rfl
@[simp] theorem State.setReg_clock (k : Nat) (v : Word) (s : State) : (s.setReg k v).clock = s.clock := rfl
@[simp] theorem State.setReg_mem (k : Nat) (v : Word) (s : State) : (s.setReg k v).mem = s.mem := rfl
@[simp] theorem State.setReg_poison (k : Nat) (v : Word) (s : State) : (s.setReg k v).poison = s.poison := rfl
@[simp] theorem State.setReg_errs (k : Nat) (v : Word) (s : State) : (s.setReg k v).errs = s.errs := rfl
@[simp] theorem State.setReg_ctxs (k : Nat) (v : Word) (s : State) : (s.setReg k v).ctxs = s.ctxs := rfl
@[simp] theorem State.setReg_units (k : Nat) (v : Word) (s : State) : (s.setReg k v).units = s.units := rfl
@[simp] theorem State.setReg_heaps (k : Nat) (v : Word) (s : State) : (s.setReg k v).heaps = s.heaps := rfl
@[simp] theorem State.setReg_fired (k : Nat) (v : Word) (s : State) : (s.setReg k v).fired = s.fired := rfl
@[simp] theorem State.setReg_reqs (k : Nat) (v : Word) (s : State) : (s.setReg k v).reqs = s.reqs := rfl
@[simp] theorem State.setReg_posted (k : Nat) (v : Word) (s : State) : (s.setReg k v).posted = s.posted := rfl
@[simp] theorem State.setReg_tbs (k : Nat) (v : Word) (s : State) : (s.setReg k v).tbs = s.tbs := rfl
@[simp] theorem State.setReg_pps (k : Nat) (v : Word) (s : State) : (s.setReg k v).pps = s.pps := rfl
@[simp] theorem State.setReg_queues (k : Nat) (v : Word) (s : State) : (s.setReg k v).queues = s.queues := rfl
@[simp] theorem State.setReg_xings (k : Nat) (v : Word) (s : State) : (s.setReg k v).xings = s.xings := rfl
@[simp] theorem State.setReg_grps (k : Nat) (v : Word) (s : State) : (s.setReg k v).grps = s.grps := rfl
@[simp] theorem State.setReg_chans (k : Nat) (v : Word) (s : State) : (s.setReg k v).chans = s.chans := rfl
@[simp] theorem State.setReg_comps (k : Nat) (v : Word) (s : State) : (s.setReg k v).comps = s.comps := rfl
@[simp] theorem State.setReg_encs (k : Nat) (v : Word) (s : State) : (s.setReg k v).encs = s.encs := rfl
@[simp] theorem State.setReg_trks (k : Nat) (v : Word) (s : State) : (s.setReg k v).trks = s.trks := rfl
@[simp] theorem State.setReg_evts (k : Nat) (v : Word) (s : State) : (s.setReg k v).evts = s.evts := rfl
@[simp] theorem State.setReg_evPins (k : Nat) (v : Word) (s : State) : (s.setReg k v).evPins = s.evPins := rfl
@[simp] theorem State.setReg_gens (k : Nat) (v : Word) (s : State) : (s.setReg k v).gens = s.gens := rfl
@[simp] theorem State.setReg_banks (k : Nat) (v : Word) (s : State) : (s.setReg k v).banks = s.banks := rfl
@[simp] theorem State.setReg_dma (k : Nat) (v : Word) (s : State) : (s.setReg k v).dma = s.dma := rfl
@[simp] theorem State.setReg_dmaTurn (k : Nat) (v : Word) (s : State) : (s.setReg k v).dmaTurn = s.dmaTurn := rfl
@[simp] theorem State.setReg_host (k : Nat) (v : Word) (s : State) : (s.setReg k v).host = s.host := rfl
@[simp] theorem State.setReg_links (k : Nat) (v : Word) (s : State) : (s.setReg k v).links = s.links := rfl
@[simp] theorem State.setReg_qdl (k : Nat) (v : Word) (s : State) : (s.setReg k v).qdl = s.qdl := rfl
@[simp] theorem State.setReg_pwr (k : Nat) (v : Word) (s : State) : (s.setReg k v).pwr = s.pwr := rfl
@[simp] theorem State.setReg_pins (k : Nat) (v : Word) (s : State) : (s.setReg k v).pins = s.pins := rfl
@[simp] theorem State.setReg_jsp (k : Nat) (v : Word) (s : State) : (s.setReg k v).jsp = s.jsp := rfl
@[simp] theorem State.setReg_start (k : Nat) (v : Word) (s : State) : (s.setReg k v).start = s.start := rfl
@[simp] theorem State.setReg_contain (k : Nat) (v : Word) (s : State) : (s.setReg k v).contain = s.contain := rfl
@[simp] theorem State.setReg_raised (k : Nat) (v : Word) (s : State) : (s.setReg k v).raised = s.raised := rfl
@[simp] theorem State.setReg_saved (k : Nat) (v : Word) (s : State) : (s.setReg k v).saved = s.saved := rfl
@[simp] theorem State.setReg_scrub (k : Nat) (v : Word) (s : State) : (s.setReg k v).scrub = s.scrub := rfl
@[simp] theorem State.setReg_program (k : Nat) (v : Word) (s : State) : (s.setReg k v).program = s.program := rfl
@[simp] theorem State.setReg_sent (k : Nat) (v : Word) (s : State) : (s.setReg k v).sent = s.sent := rfl
@[simp] theorem State.setReg_ctx (k : Nat) (v : Word) (j : Nat) (s : State) : (s.setReg k v).ctx j = s.ctx j := rfl
@[simp] theorem State.setReg_unit (k : Nat) (v : Word) (j : Nat) (s : State) : (s.setReg k v).unit j = s.unit j := rfl
@[simp] theorem State.setReg_heap (k : Nat) (v : Word) (j : Nat) (s : State) : (s.setReg k v).heap j = s.heap j := rfl
@[simp] theorem State.setReg_tb (k : Nat) (v : Word) (j : Nat) (s : State) : (s.setReg k v).tb j = s.tb j := rfl
@[simp] theorem State.setReg_queue (k : Nat) (v : Word) (j : Nat) (s : State) : (s.setReg k v).queue j = s.queue j := rfl
@[simp] theorem State.setReg_xing (k : Nat) (v : Word) (j : Nat) (s : State) : (s.setReg k v).xing j = s.xing j := rfl
@[simp] theorem State.setReg_grp (k : Nat) (v : Word) (j : Nat) (s : State) : (s.setReg k v).grp j = s.grp j := rfl
@[simp] theorem State.setReg_chan (k : Nat) (v : Word) (j : Nat) (s : State) : (s.setReg k v).chan j = s.chan j := rfl
@[simp] theorem State.setReg_comp (k : Nat) (v : Word) (j : Nat) (s : State) : (s.setReg k v).comp j = s.comp j := rfl
@[simp] theorem State.setReg_enc (k : Nat) (v : Word) (j : Nat) (s : State) : (s.setReg k v).enc j = s.enc j := rfl
@[simp] theorem State.setReg_trk (k : Nat) (v : Word) (j : Nat) (s : State) : (s.setReg k v).trk j = s.trk j := rfl
@[simp] theorem State.setReg_evt (k : Nat) (v : Word) (j : Nat) (s : State) : (s.setReg k v).evt j = s.evt j := rfl
@[simp] theorem State.setReg_evPin (k : Nat) (v : Word) (j : Nat) (s : State) : (s.setReg k v).evPin j = s.evPin j := rfl
@[simp] theorem State.setReg_gen (k : Nat) (v : Word) (j : Nat) (s : State) : (s.setReg k v).gen j = s.gen j := rfl
@[simp] theorem State.setReg_bank (k : Nat) (v : Word) (j : Nat) (s : State) : (s.setReg k v).bank j = s.bank j := rfl
@[simp] theorem State.setReg_chDma (k : Nat) (v : Word) (j : Nat) (s : State) : (s.setReg k v).chDma j = s.chDma j := rfl
@[simp] theorem State.setReg_link (k : Nat) (v : Word) (j : Nat) (s : State) : (s.setReg k v).link j = s.link j := rfl

/-! ### setByte -/

@[simp] theorem State.setByte_pending (a : Nat) (v : BitVec 8) (s : State) : (s.setByte a v).pending = s.pending := rfl
@[simp] theorem State.setByte_free (a : Nat) (v : BitVec 8) (s : State) : (s.setByte a v).free = s.free := rfl
@[simp] theorem State.setByte_order (a : Nat) (v : BitVec 8) (s : State) : (s.setByte a v).order = s.order := rfl
@[simp] theorem State.setByte_clock (a : Nat) (v : BitVec 8) (s : State) : (s.setByte a v).clock = s.clock := rfl
@[simp] theorem State.setByte_regs (a : Nat) (v : BitVec 8) (s : State) : (s.setByte a v).regs = s.regs := rfl
@[simp] theorem State.setByte_poison (a : Nat) (v : BitVec 8) (s : State) : (s.setByte a v).poison = s.poison := rfl
@[simp] theorem State.setByte_errs (a : Nat) (v : BitVec 8) (s : State) : (s.setByte a v).errs = s.errs := rfl
@[simp] theorem State.setByte_ctxs (a : Nat) (v : BitVec 8) (s : State) : (s.setByte a v).ctxs = s.ctxs := rfl
@[simp] theorem State.setByte_units (a : Nat) (v : BitVec 8) (s : State) : (s.setByte a v).units = s.units := rfl
@[simp] theorem State.setByte_heaps (a : Nat) (v : BitVec 8) (s : State) : (s.setByte a v).heaps = s.heaps := rfl
@[simp] theorem State.setByte_fired (a : Nat) (v : BitVec 8) (s : State) : (s.setByte a v).fired = s.fired := rfl
@[simp] theorem State.setByte_reqs (a : Nat) (v : BitVec 8) (s : State) : (s.setByte a v).reqs = s.reqs := rfl
@[simp] theorem State.setByte_posted (a : Nat) (v : BitVec 8) (s : State) : (s.setByte a v).posted = s.posted := rfl
@[simp] theorem State.setByte_tbs (a : Nat) (v : BitVec 8) (s : State) : (s.setByte a v).tbs = s.tbs := rfl
@[simp] theorem State.setByte_pps (a : Nat) (v : BitVec 8) (s : State) : (s.setByte a v).pps = s.pps := rfl
@[simp] theorem State.setByte_queues (a : Nat) (v : BitVec 8) (s : State) : (s.setByte a v).queues = s.queues := rfl
@[simp] theorem State.setByte_xings (a : Nat) (v : BitVec 8) (s : State) : (s.setByte a v).xings = s.xings := rfl
@[simp] theorem State.setByte_grps (a : Nat) (v : BitVec 8) (s : State) : (s.setByte a v).grps = s.grps := rfl
@[simp] theorem State.setByte_chans (a : Nat) (v : BitVec 8) (s : State) : (s.setByte a v).chans = s.chans := rfl
@[simp] theorem State.setByte_comps (a : Nat) (v : BitVec 8) (s : State) : (s.setByte a v).comps = s.comps := rfl
@[simp] theorem State.setByte_encs (a : Nat) (v : BitVec 8) (s : State) : (s.setByte a v).encs = s.encs := rfl
@[simp] theorem State.setByte_trks (a : Nat) (v : BitVec 8) (s : State) : (s.setByte a v).trks = s.trks := rfl
@[simp] theorem State.setByte_evts (a : Nat) (v : BitVec 8) (s : State) : (s.setByte a v).evts = s.evts := rfl
@[simp] theorem State.setByte_evPins (a : Nat) (v : BitVec 8) (s : State) : (s.setByte a v).evPins = s.evPins := rfl
@[simp] theorem State.setByte_gens (a : Nat) (v : BitVec 8) (s : State) : (s.setByte a v).gens = s.gens := rfl
@[simp] theorem State.setByte_banks (a : Nat) (v : BitVec 8) (s : State) : (s.setByte a v).banks = s.banks := rfl
@[simp] theorem State.setByte_dma (a : Nat) (v : BitVec 8) (s : State) : (s.setByte a v).dma = s.dma := rfl
@[simp] theorem State.setByte_dmaTurn (a : Nat) (v : BitVec 8) (s : State) : (s.setByte a v).dmaTurn = s.dmaTurn := rfl
@[simp] theorem State.setByte_host (a : Nat) (v : BitVec 8) (s : State) : (s.setByte a v).host = s.host := rfl
@[simp] theorem State.setByte_links (a : Nat) (v : BitVec 8) (s : State) : (s.setByte a v).links = s.links := rfl
@[simp] theorem State.setByte_qdl (a : Nat) (v : BitVec 8) (s : State) : (s.setByte a v).qdl = s.qdl := rfl
@[simp] theorem State.setByte_pwr (a : Nat) (v : BitVec 8) (s : State) : (s.setByte a v).pwr = s.pwr := rfl
@[simp] theorem State.setByte_pins (a : Nat) (v : BitVec 8) (s : State) : (s.setByte a v).pins = s.pins := rfl
@[simp] theorem State.setByte_jsp (a : Nat) (v : BitVec 8) (s : State) : (s.setByte a v).jsp = s.jsp := rfl
@[simp] theorem State.setByte_start (a : Nat) (v : BitVec 8) (s : State) : (s.setByte a v).start = s.start := rfl
@[simp] theorem State.setByte_contain (a : Nat) (v : BitVec 8) (s : State) : (s.setByte a v).contain = s.contain := rfl
@[simp] theorem State.setByte_raised (a : Nat) (v : BitVec 8) (s : State) : (s.setByte a v).raised = s.raised := rfl
@[simp] theorem State.setByte_saved (a : Nat) (v : BitVec 8) (s : State) : (s.setByte a v).saved = s.saved := rfl
@[simp] theorem State.setByte_scrub (a : Nat) (v : BitVec 8) (s : State) : (s.setByte a v).scrub = s.scrub := rfl
@[simp] theorem State.setByte_program (a : Nat) (v : BitVec 8) (s : State) : (s.setByte a v).program = s.program := rfl
@[simp] theorem State.setByte_sent (a : Nat) (v : BitVec 8) (s : State) : (s.setByte a v).sent = s.sent := rfl
@[simp] theorem State.setByte_ctx (a : Nat) (v : BitVec 8) (j : Nat) (s : State) : (s.setByte a v).ctx j = s.ctx j := rfl
@[simp] theorem State.setByte_unit (a : Nat) (v : BitVec 8) (j : Nat) (s : State) : (s.setByte a v).unit j = s.unit j := rfl
@[simp] theorem State.setByte_heap (a : Nat) (v : BitVec 8) (j : Nat) (s : State) : (s.setByte a v).heap j = s.heap j := rfl
@[simp] theorem State.setByte_tb (a : Nat) (v : BitVec 8) (j : Nat) (s : State) : (s.setByte a v).tb j = s.tb j := rfl
@[simp] theorem State.setByte_queue (a : Nat) (v : BitVec 8) (j : Nat) (s : State) : (s.setByte a v).queue j = s.queue j := rfl
@[simp] theorem State.setByte_xing (a : Nat) (v : BitVec 8) (j : Nat) (s : State) : (s.setByte a v).xing j = s.xing j := rfl
@[simp] theorem State.setByte_grp (a : Nat) (v : BitVec 8) (j : Nat) (s : State) : (s.setByte a v).grp j = s.grp j := rfl
@[simp] theorem State.setByte_chan (a : Nat) (v : BitVec 8) (j : Nat) (s : State) : (s.setByte a v).chan j = s.chan j := rfl
@[simp] theorem State.setByte_comp (a : Nat) (v : BitVec 8) (j : Nat) (s : State) : (s.setByte a v).comp j = s.comp j := rfl
@[simp] theorem State.setByte_enc (a : Nat) (v : BitVec 8) (j : Nat) (s : State) : (s.setByte a v).enc j = s.enc j := rfl
@[simp] theorem State.setByte_trk (a : Nat) (v : BitVec 8) (j : Nat) (s : State) : (s.setByte a v).trk j = s.trk j := rfl
@[simp] theorem State.setByte_evt (a : Nat) (v : BitVec 8) (j : Nat) (s : State) : (s.setByte a v).evt j = s.evt j := rfl
@[simp] theorem State.setByte_evPin (a : Nat) (v : BitVec 8) (j : Nat) (s : State) : (s.setByte a v).evPin j = s.evPin j := rfl
@[simp] theorem State.setByte_gen (a : Nat) (v : BitVec 8) (j : Nat) (s : State) : (s.setByte a v).gen j = s.gen j := rfl
@[simp] theorem State.setByte_bank (a : Nat) (v : BitVec 8) (j : Nat) (s : State) : (s.setByte a v).bank j = s.bank j := rfl
@[simp] theorem State.setByte_chDma (a : Nat) (v : BitVec 8) (j : Nat) (s : State) : (s.setByte a v).chDma j = s.chDma j := rfl
@[simp] theorem State.setByte_link (a : Nat) (v : BitVec 8) (j : Nat) (s : State) : (s.setByte a v).link j = s.link j := rfl
@[simp] theorem State.setByte_reg (a : Nat) (v : BitVec 8) (j : Nat) (s : State) : (s.setByte a v).reg j = s.reg j := rfl

/-! ### setPb -/

@[simp] theorem State.setPb_pending (g : Nat) (v : Bool) (s : State) : (s.setPb g v).pending = s.pending := rfl
@[simp] theorem State.setPb_free (g : Nat) (v : Bool) (s : State) : (s.setPb g v).free = s.free := rfl
@[simp] theorem State.setPb_order (g : Nat) (v : Bool) (s : State) : (s.setPb g v).order = s.order := rfl
@[simp] theorem State.setPb_clock (g : Nat) (v : Bool) (s : State) : (s.setPb g v).clock = s.clock := rfl
@[simp] theorem State.setPb_regs (g : Nat) (v : Bool) (s : State) : (s.setPb g v).regs = s.regs := rfl
@[simp] theorem State.setPb_mem (g : Nat) (v : Bool) (s : State) : (s.setPb g v).mem = s.mem := rfl
@[simp] theorem State.setPb_errs (g : Nat) (v : Bool) (s : State) : (s.setPb g v).errs = s.errs := rfl
@[simp] theorem State.setPb_ctxs (g : Nat) (v : Bool) (s : State) : (s.setPb g v).ctxs = s.ctxs := rfl
@[simp] theorem State.setPb_units (g : Nat) (v : Bool) (s : State) : (s.setPb g v).units = s.units := rfl
@[simp] theorem State.setPb_heaps (g : Nat) (v : Bool) (s : State) : (s.setPb g v).heaps = s.heaps := rfl
@[simp] theorem State.setPb_fired (g : Nat) (v : Bool) (s : State) : (s.setPb g v).fired = s.fired := rfl
@[simp] theorem State.setPb_reqs (g : Nat) (v : Bool) (s : State) : (s.setPb g v).reqs = s.reqs := rfl
@[simp] theorem State.setPb_posted (g : Nat) (v : Bool) (s : State) : (s.setPb g v).posted = s.posted := rfl
@[simp] theorem State.setPb_tbs (g : Nat) (v : Bool) (s : State) : (s.setPb g v).tbs = s.tbs := rfl
@[simp] theorem State.setPb_pps (g : Nat) (v : Bool) (s : State) : (s.setPb g v).pps = s.pps := rfl
@[simp] theorem State.setPb_queues (g : Nat) (v : Bool) (s : State) : (s.setPb g v).queues = s.queues := rfl
@[simp] theorem State.setPb_xings (g : Nat) (v : Bool) (s : State) : (s.setPb g v).xings = s.xings := rfl
@[simp] theorem State.setPb_grps (g : Nat) (v : Bool) (s : State) : (s.setPb g v).grps = s.grps := rfl
@[simp] theorem State.setPb_chans (g : Nat) (v : Bool) (s : State) : (s.setPb g v).chans = s.chans := rfl
@[simp] theorem State.setPb_comps (g : Nat) (v : Bool) (s : State) : (s.setPb g v).comps = s.comps := rfl
@[simp] theorem State.setPb_encs (g : Nat) (v : Bool) (s : State) : (s.setPb g v).encs = s.encs := rfl
@[simp] theorem State.setPb_trks (g : Nat) (v : Bool) (s : State) : (s.setPb g v).trks = s.trks := rfl
@[simp] theorem State.setPb_evts (g : Nat) (v : Bool) (s : State) : (s.setPb g v).evts = s.evts := rfl
@[simp] theorem State.setPb_evPins (g : Nat) (v : Bool) (s : State) : (s.setPb g v).evPins = s.evPins := rfl
@[simp] theorem State.setPb_gens (g : Nat) (v : Bool) (s : State) : (s.setPb g v).gens = s.gens := rfl
@[simp] theorem State.setPb_banks (g : Nat) (v : Bool) (s : State) : (s.setPb g v).banks = s.banks := rfl
@[simp] theorem State.setPb_dma (g : Nat) (v : Bool) (s : State) : (s.setPb g v).dma = s.dma := rfl
@[simp] theorem State.setPb_dmaTurn (g : Nat) (v : Bool) (s : State) : (s.setPb g v).dmaTurn = s.dmaTurn := rfl
@[simp] theorem State.setPb_host (g : Nat) (v : Bool) (s : State) : (s.setPb g v).host = s.host := rfl
@[simp] theorem State.setPb_links (g : Nat) (v : Bool) (s : State) : (s.setPb g v).links = s.links := rfl
@[simp] theorem State.setPb_qdl (g : Nat) (v : Bool) (s : State) : (s.setPb g v).qdl = s.qdl := rfl
@[simp] theorem State.setPb_pwr (g : Nat) (v : Bool) (s : State) : (s.setPb g v).pwr = s.pwr := rfl
@[simp] theorem State.setPb_pins (g : Nat) (v : Bool) (s : State) : (s.setPb g v).pins = s.pins := rfl
@[simp] theorem State.setPb_jsp (g : Nat) (v : Bool) (s : State) : (s.setPb g v).jsp = s.jsp := rfl
@[simp] theorem State.setPb_start (g : Nat) (v : Bool) (s : State) : (s.setPb g v).start = s.start := rfl
@[simp] theorem State.setPb_contain (g : Nat) (v : Bool) (s : State) : (s.setPb g v).contain = s.contain := rfl
@[simp] theorem State.setPb_raised (g : Nat) (v : Bool) (s : State) : (s.setPb g v).raised = s.raised := rfl
@[simp] theorem State.setPb_saved (g : Nat) (v : Bool) (s : State) : (s.setPb g v).saved = s.saved := rfl
@[simp] theorem State.setPb_scrub (g : Nat) (v : Bool) (s : State) : (s.setPb g v).scrub = s.scrub := rfl
@[simp] theorem State.setPb_program (g : Nat) (v : Bool) (s : State) : (s.setPb g v).program = s.program := rfl
@[simp] theorem State.setPb_sent (g : Nat) (v : Bool) (s : State) : (s.setPb g v).sent = s.sent := rfl
@[simp] theorem State.setPb_ctx (g : Nat) (v : Bool) (j : Nat) (s : State) : (s.setPb g v).ctx j = s.ctx j := rfl
@[simp] theorem State.setPb_unit (g : Nat) (v : Bool) (j : Nat) (s : State) : (s.setPb g v).unit j = s.unit j := rfl
@[simp] theorem State.setPb_heap (g : Nat) (v : Bool) (j : Nat) (s : State) : (s.setPb g v).heap j = s.heap j := rfl
@[simp] theorem State.setPb_tb (g : Nat) (v : Bool) (j : Nat) (s : State) : (s.setPb g v).tb j = s.tb j := rfl
@[simp] theorem State.setPb_queue (g : Nat) (v : Bool) (j : Nat) (s : State) : (s.setPb g v).queue j = s.queue j := rfl
@[simp] theorem State.setPb_xing (g : Nat) (v : Bool) (j : Nat) (s : State) : (s.setPb g v).xing j = s.xing j := rfl
@[simp] theorem State.setPb_grp (g : Nat) (v : Bool) (j : Nat) (s : State) : (s.setPb g v).grp j = s.grp j := rfl
@[simp] theorem State.setPb_chan (g : Nat) (v : Bool) (j : Nat) (s : State) : (s.setPb g v).chan j = s.chan j := rfl
@[simp] theorem State.setPb_comp (g : Nat) (v : Bool) (j : Nat) (s : State) : (s.setPb g v).comp j = s.comp j := rfl
@[simp] theorem State.setPb_enc (g : Nat) (v : Bool) (j : Nat) (s : State) : (s.setPb g v).enc j = s.enc j := rfl
@[simp] theorem State.setPb_trk (g : Nat) (v : Bool) (j : Nat) (s : State) : (s.setPb g v).trk j = s.trk j := rfl
@[simp] theorem State.setPb_evt (g : Nat) (v : Bool) (j : Nat) (s : State) : (s.setPb g v).evt j = s.evt j := rfl
@[simp] theorem State.setPb_evPin (g : Nat) (v : Bool) (j : Nat) (s : State) : (s.setPb g v).evPin j = s.evPin j := rfl
@[simp] theorem State.setPb_gen (g : Nat) (v : Bool) (j : Nat) (s : State) : (s.setPb g v).gen j = s.gen j := rfl
@[simp] theorem State.setPb_bank (g : Nat) (v : Bool) (j : Nat) (s : State) : (s.setPb g v).bank j = s.bank j := rfl
@[simp] theorem State.setPb_chDma (g : Nat) (v : Bool) (j : Nat) (s : State) : (s.setPb g v).chDma j = s.chDma j := rfl
@[simp] theorem State.setPb_link (g : Nat) (v : Bool) (j : Nat) (s : State) : (s.setPb g v).link j = s.link j := rfl
@[simp] theorem State.setPb_reg (g : Nat) (v : Bool) (j : Nat) (s : State) : (s.setPb g v).reg j = s.reg j := rfl

/-! ### setErr -/

@[simp] theorem State.setErr_pending (g m : Nat) (s : State) : (s.setErr g m).pending = s.pending := rfl
@[simp] theorem State.setErr_free (g m : Nat) (s : State) : (s.setErr g m).free = s.free := rfl
@[simp] theorem State.setErr_order (g m : Nat) (s : State) : (s.setErr g m).order = s.order := rfl
@[simp] theorem State.setErr_clock (g m : Nat) (s : State) : (s.setErr g m).clock = s.clock := rfl
@[simp] theorem State.setErr_regs (g m : Nat) (s : State) : (s.setErr g m).regs = s.regs := rfl
@[simp] theorem State.setErr_mem (g m : Nat) (s : State) : (s.setErr g m).mem = s.mem := rfl
@[simp] theorem State.setErr_poison (g m : Nat) (s : State) : (s.setErr g m).poison = s.poison := rfl
@[simp] theorem State.setErr_ctxs (g m : Nat) (s : State) : (s.setErr g m).ctxs = s.ctxs := rfl
@[simp] theorem State.setErr_units (g m : Nat) (s : State) : (s.setErr g m).units = s.units := rfl
@[simp] theorem State.setErr_heaps (g m : Nat) (s : State) : (s.setErr g m).heaps = s.heaps := rfl
@[simp] theorem State.setErr_fired (g m : Nat) (s : State) : (s.setErr g m).fired = s.fired := rfl
@[simp] theorem State.setErr_reqs (g m : Nat) (s : State) : (s.setErr g m).reqs = s.reqs := rfl
@[simp] theorem State.setErr_posted (g m : Nat) (s : State) : (s.setErr g m).posted = s.posted := rfl
@[simp] theorem State.setErr_tbs (g m : Nat) (s : State) : (s.setErr g m).tbs = s.tbs := rfl
@[simp] theorem State.setErr_pps (g m : Nat) (s : State) : (s.setErr g m).pps = s.pps := rfl
@[simp] theorem State.setErr_queues (g m : Nat) (s : State) : (s.setErr g m).queues = s.queues := rfl
@[simp] theorem State.setErr_xings (g m : Nat) (s : State) : (s.setErr g m).xings = s.xings := rfl
@[simp] theorem State.setErr_grps (g m : Nat) (s : State) : (s.setErr g m).grps = s.grps := rfl
@[simp] theorem State.setErr_chans (g m : Nat) (s : State) : (s.setErr g m).chans = s.chans := rfl
@[simp] theorem State.setErr_comps (g m : Nat) (s : State) : (s.setErr g m).comps = s.comps := rfl
@[simp] theorem State.setErr_encs (g m : Nat) (s : State) : (s.setErr g m).encs = s.encs := rfl
@[simp] theorem State.setErr_trks (g m : Nat) (s : State) : (s.setErr g m).trks = s.trks := rfl
@[simp] theorem State.setErr_evts (g m : Nat) (s : State) : (s.setErr g m).evts = s.evts := rfl
@[simp] theorem State.setErr_evPins (g m : Nat) (s : State) : (s.setErr g m).evPins = s.evPins := rfl
@[simp] theorem State.setErr_gens (g m : Nat) (s : State) : (s.setErr g m).gens = s.gens := rfl
@[simp] theorem State.setErr_banks (g m : Nat) (s : State) : (s.setErr g m).banks = s.banks := rfl
@[simp] theorem State.setErr_dma (g m : Nat) (s : State) : (s.setErr g m).dma = s.dma := rfl
@[simp] theorem State.setErr_dmaTurn (g m : Nat) (s : State) : (s.setErr g m).dmaTurn = s.dmaTurn := rfl
@[simp] theorem State.setErr_host (g m : Nat) (s : State) : (s.setErr g m).host = s.host := rfl
@[simp] theorem State.setErr_links (g m : Nat) (s : State) : (s.setErr g m).links = s.links := rfl
@[simp] theorem State.setErr_qdl (g m : Nat) (s : State) : (s.setErr g m).qdl = s.qdl := rfl
@[simp] theorem State.setErr_pwr (g m : Nat) (s : State) : (s.setErr g m).pwr = s.pwr := rfl
@[simp] theorem State.setErr_pins (g m : Nat) (s : State) : (s.setErr g m).pins = s.pins := rfl
@[simp] theorem State.setErr_jsp (g m : Nat) (s : State) : (s.setErr g m).jsp = s.jsp := rfl
@[simp] theorem State.setErr_start (g m : Nat) (s : State) : (s.setErr g m).start = s.start := rfl
@[simp] theorem State.setErr_contain (g m : Nat) (s : State) : (s.setErr g m).contain = s.contain := rfl
@[simp] theorem State.setErr_raised (g m : Nat) (s : State) : (s.setErr g m).raised = s.raised := rfl
@[simp] theorem State.setErr_saved (g m : Nat) (s : State) : (s.setErr g m).saved = s.saved := rfl
@[simp] theorem State.setErr_scrub (g m : Nat) (s : State) : (s.setErr g m).scrub = s.scrub := rfl
@[simp] theorem State.setErr_program (g m : Nat) (s : State) : (s.setErr g m).program = s.program := rfl
@[simp] theorem State.setErr_sent (g m : Nat) (s : State) : (s.setErr g m).sent = s.sent := rfl
@[simp] theorem State.setErr_ctx (g m : Nat) (j : Nat) (s : State) : (s.setErr g m).ctx j = s.ctx j := rfl
@[simp] theorem State.setErr_unit (g m : Nat) (j : Nat) (s : State) : (s.setErr g m).unit j = s.unit j := rfl
@[simp] theorem State.setErr_heap (g m : Nat) (j : Nat) (s : State) : (s.setErr g m).heap j = s.heap j := rfl
@[simp] theorem State.setErr_tb (g m : Nat) (j : Nat) (s : State) : (s.setErr g m).tb j = s.tb j := rfl
@[simp] theorem State.setErr_queue (g m : Nat) (j : Nat) (s : State) : (s.setErr g m).queue j = s.queue j := rfl
@[simp] theorem State.setErr_xing (g m : Nat) (j : Nat) (s : State) : (s.setErr g m).xing j = s.xing j := rfl
@[simp] theorem State.setErr_grp (g m : Nat) (j : Nat) (s : State) : (s.setErr g m).grp j = s.grp j := rfl
@[simp] theorem State.setErr_chan (g m : Nat) (j : Nat) (s : State) : (s.setErr g m).chan j = s.chan j := rfl
@[simp] theorem State.setErr_comp (g m : Nat) (j : Nat) (s : State) : (s.setErr g m).comp j = s.comp j := rfl
@[simp] theorem State.setErr_enc (g m : Nat) (j : Nat) (s : State) : (s.setErr g m).enc j = s.enc j := rfl
@[simp] theorem State.setErr_trk (g m : Nat) (j : Nat) (s : State) : (s.setErr g m).trk j = s.trk j := rfl
@[simp] theorem State.setErr_evt (g m : Nat) (j : Nat) (s : State) : (s.setErr g m).evt j = s.evt j := rfl
@[simp] theorem State.setErr_evPin (g m : Nat) (j : Nat) (s : State) : (s.setErr g m).evPin j = s.evPin j := rfl
@[simp] theorem State.setErr_gen (g m : Nat) (j : Nat) (s : State) : (s.setErr g m).gen j = s.gen j := rfl
@[simp] theorem State.setErr_bank (g m : Nat) (j : Nat) (s : State) : (s.setErr g m).bank j = s.bank j := rfl
@[simp] theorem State.setErr_chDma (g m : Nat) (j : Nat) (s : State) : (s.setErr g m).chDma j = s.chDma j := rfl
@[simp] theorem State.setErr_link (g m : Nat) (j : Nat) (s : State) : (s.setErr g m).link j = s.link j := rfl
@[simp] theorem State.setErr_reg (g m : Nat) (j : Nat) (s : State) : (s.setErr g m).reg j = s.reg j := rfl

end Sys2Proof.Machine
end

