-- ==== Sys2Proof/Laws/Sparse.lean ====
section
/-! SUPPORT. Sparse lists: a read after a write, and the canonical form. -/

set_option Elab.async false

namespace Sys2Proof.Machine

variable {α : Type} [DecidableEq α]

/-- A write leaves every other key alone. -/
theorem Sparse.get_put_ne (d0 d : α) {j k : Nat} (h : j ≠ k) (v : α) (l : List (Nat × α)) :
    Sparse.get d0 j (Sparse.put d k v l) = Sparse.get d0 j l := by
  induction l with
  | nil => by_cases hv : v = d <;> simp [Sparse.put, Sparse.get, hv, Ne.symm h]
  | cons e l ih =>
    obtain ⟨i, w⟩ := e
    unfold Sparse.put
    split
    · split
      · rfl
      · simp [Sparse.get, Ne.symm h]
    · split
      · rename_i _ hk
        subst hk
        split <;> simp [Sparse.get, Ne.symm h]
      · simp [Sparse.get, ih]

/-- A read of the key just written with a value that is no default. -/
theorem Sparse.get_put_self (d : α) (k : Nat) {v : α} (hv : v ≠ d) (l : List (Nat × α)) :
    Sparse.get d k (Sparse.put d k v l) = v := by
  induction l with
  | nil => simp [Sparse.put, Sparse.get, hv]
  | cons e l ih =>
    obtain ⟨i, w⟩ := e
    unfold Sparse.put
    split
    · simp [Sparse.get]
    · split
      · simp [Sparse.get]
      · rename_i _ hk
        simp [Sparse.get, Ne.symm hk, ih]

/-- The canonical form from a higher key on is the canonical form from a lower one. -/
theorem Sparse.wf_mono {d : Nat → α} {a b : Nat} (h : a ≤ b) : ∀ {l : List (Nat × α)}, Sparse.wf d b l = true → Sparse.wf d a l = true
  | [], _ => rfl
  | (_, _) :: _, hl => by
    simp only [Sparse.wf, Bool.and_eq_true, decide_eq_true_eq] at hl ⊢
    exact ⟨⟨by omega, hl.1.2⟩, hl.2⟩

/-- In the canonical form a key below the bound has its default. -/
theorem Sparse.get_below {d : Nat → α} (k : Nat) : ∀ {l : List (Nat × α)} {a : Nat}, k < a → Sparse.wf d a l = true → Sparse.get (d k) k l = d k
  | [], _, _, _ => rfl
  | (j, _) :: _, a, h, hl => by
    simp only [Sparse.wf, Bool.and_eq_true, decide_eq_true_eq] at hl
    have hj : j ≠ k := by omega
    simp only [Sparse.get, hj, if_false]
    exact Sparse.get_below k (by omega) hl.2

/-- A read of the key just written, in the canonical form. -/
theorem Sparse.get_put_wf {d : Nat → α} (k : Nat) (v : α) : ∀ {l : List (Nat × α)} {a : Nat}, Sparse.wf d a l = true →
    Sparse.get (d k) k (Sparse.put (d k) k v l) = v
  | [], _, _ => by by_cases hv : v = d k <;> simp [Sparse.put, Sparse.get, hv]
  | (j, w) :: l, a, hl => by
    simp only [Sparse.wf, Bool.and_eq_true, decide_eq_true_eq] at hl
    unfold Sparse.put
    split
    · rename_i hk
      split
      · rename_i hv
        have hj : j ≠ k := by omega
        simp only [Sparse.get, hj, if_false, hv]
        exact Sparse.get_below k (by omega) hl.2
      · simp [Sparse.get]
    · split
      · rename_i _ hk
        subst hk
        split
        · rename_i hv
          rw [hv]
          exact Sparse.get_below _ (Nat.lt_succ_self _) hl.2
        · simp [Sparse.get]
      · rename_i _ hk
        simp only [Sparse.get, Ne.symm hk, if_false]
        exact Sparse.get_put_wf k v hl.2

/-- A write keeps the canonical form. -/
theorem Sparse.put_wf {d : Nat → α} (k : Nat) (v : α) : ∀ {l : List (Nat × α)} {a : Nat}, a ≤ k → Sparse.wf d a l = true →
    Sparse.wf d a (Sparse.put (d k) k v l) = true
  | [], a, hk, _ => by by_cases hv : v = d k <;> simp [Sparse.put, Sparse.wf, hv, hk]
  | (j, w) :: l, a, hk, hl => by
    have hl0 := hl
    simp only [Sparse.wf, Bool.and_eq_true, decide_eq_true_eq] at hl
    unfold Sparse.put
    split
    · rename_i hkj
      split
      · exact hl0
      · rename_i hv
        simp only [Sparse.wf, Bool.and_eq_true, decide_eq_true_eq]
        exact ⟨⟨hk, hv⟩, ⟨by omega, hl.1.2⟩, hl.2⟩
    · split
      · rename_i _ hkj
        subst hkj
        split
        · exact Sparse.wf_mono (by omega) hl.2
        · rename_i hv
          simp only [Sparse.wf, Bool.and_eq_true, decide_eq_true_eq]
          exact ⟨⟨hk, hv⟩, hl.2⟩
      · rename_i h1 h2
        simp only [Sparse.wf, Bool.and_eq_true, decide_eq_true_eq]
        exact ⟨hl.1, Sparse.put_wf k v (by omega) hl.2⟩

/-! ### One byte of memory -/

/-- A byte written reads as another byte did. -/
theorem State.byte_setByte_ne {a b : Nat} (h : a ≠ b) (v : BitVec 8) (s : State) : (s.setByte b v).byte a = s.byte a :=
  Sparse.get_put_ne _ _ h v s.mem

/-- In canonical memory the byte written reads back. -/
theorem State.byte_setByte (a : Nat) (v : BitVec 8) {s : State} (h : Memory.wf s.mem = true) : (s.setByte a v).byte a = v :=
  Sparse.get_put_wf (d := fun _ => memDefault) a v h

/-- A write of one byte keeps the canonical form. -/
theorem State.setByte_wf (a : Nat) (v : BitVec 8) {s : State} (h : Memory.wf s.mem = true) : Memory.wf (s.setByte a v).mem = true :=
  Sparse.put_wf (d := fun _ => memDefault) a v (Nat.zero_le a) h

/-- The store of a granule's bits keeps the canonical form. -/
theorem State.setGranBits_wf (g : Nat) (v : Granule) {s : State} (h : Memory.wf s.mem = true) : Memory.wf (s.setGranBits g v).mem = true := by
  unfold State.setGranBits forN
  generalize List.range 32 = l
  induction l generalizing s with
  | nil => exact h
  | cons b l ih => exact ih (State.setByte_wf _ _ h)

/-- The store of a granule's bits changes memory alone. -/
theorem State.setGranBits_eq (g : Nat) (v : Granule) (s : State) : s.setGranBits g v = { s with mem := (s.setGranBits g v).mem } := by
  unfold State.setGranBits forN
  generalize List.range 32 = l
  induction l generalizing s with
  | nil => rfl
  | cons b l ih => simpa [State.setByte] using ih (s.setByte (32 * g + b) (BitVec.ofNat 8 (v.toNat / 256 ^ b)))

/-- A codeword stored whole keeps the canonical form. -/
theorem State.setCode_wf (g : Nat) (v : Granule) (pb : Bool) {s : State} (h : Memory.wf s.mem = true) : Memory.wf (s.setCode g v pb).mem = true := by
  simp only [State.setCode, State.setErr_mem, State.setPb_mem]
  exact State.setGranBits_wf g v h

/-- Bytes of granule `g` stored one by one leave every other granule's bytes. -/
theorem State.byte_foldBytes (g : Nat) (f : Nat → BitVec 8) {a : Nat} (h : a / 32 ≠ g) (l : List Nat) (hl : ∀ b ∈ l, b < 32) (s : State) :
    (l.foldl (fun s b => s.setByte (32 * g + b) (f b)) s).byte a = s.byte a := by
  induction l generalizing s with
  | nil => rfl
  | cons b l ih =>
    have hb : b < 32 := hl b (by simp)
    have hne : a ≠ 32 * g + b := by omega
    rw [List.foldl_cons, ih (fun c hc => hl c (by simp [hc])), State.byte_setByte_ne hne]

/-- The bytes of every other granule stay when a granule is stored. -/
theorem State.byte_setGranBits_ne (g : Nat) (v : Granule) {a : Nat} (h : a / 32 ≠ g) (s : State) : (s.setGranBits g v).byte a = s.byte a := by
  unfold State.setGranBits forN
  exact State.byte_foldBytes g (fun b => BitVec.ofNat 8 (v.toNat / 256 ^ b)) h (List.range 32) (fun b hb => by simpa using hb) s

end Sys2Proof.Machine
end

