-- ==== Sys2Proof/Laws/Order.lean ====
section
/-! SUPPORT. Lists in order: what is put is got, a second put replaces the first, and the order stays. -/

set_option Elab.async false

namespace Sys2Proof.Machine

/-- A key below all those listed has the default. -/
theorem Sparse.get_lt_rising {α : Type} (d : α) {k : Nat} : ∀ {l : List (Nat × α)}, (∀ e ∈ l, k < e.1) → Sparse.get d k l = d
  | [], _ => rfl
  | (j, w) :: l, h => by
    have hj : j ≠ k := by have := h (j, w) (by simp); simp at this; omega
    simp only [Sparse.get, hj, if_false]
    exact Sparse.get_lt_rising d (fun e he => h e (by simp [he]))

/-- In a list in order the value put at a key is got there. -/
theorem Sparse.get_put_rising {α : Type} [DecidableEq α] (d : α) (k : Nat) (v : α) : ∀ {l : List (Nat × α)}, Rising l → Sparse.get d k (Sparse.put d k v l) = v
  | [], _ => by by_cases hv : v = d <;> simp [Sparse.put, Sparse.get, hv]
  | (j, w) :: l, h => by
    obtain ⟨hj, hl⟩ := List.pairwise_cons.mp h
    unfold Sparse.put
    by_cases h1 : k < j
    · by_cases hv : v = d
      · rw [if_pos h1, if_pos hv, hv]
        refine Sparse.get_lt_rising d (fun e he => ?_)
        rcases List.mem_cons.mp he with rfl | he
        · exact h1
        · exact Nat.lt_trans h1 (hj e he)
      · simp [h1, hv, Sparse.get]
    · by_cases h2 : k = j
      · subst h2
        by_cases hv : v = d
        · simp only [Nat.lt_irrefl, if_false, if_true, hv]
          exact Sparse.get_lt_rising d hj
        · simp [hv, Sparse.get]
      · simp only [h1, h2, if_false, Sparse.get, Ne.symm h2]
        exact Sparse.get_put_rising d k v hl

/-- What a list holds after a put: the key put, or what it held. -/
theorem Sparse.mem_put {α : Type} [DecidableEq α] {d : α} {k : Nat} {v : α} : ∀ {l : List (Nat × α)} {e : Nat × α}, e ∈ Sparse.put d k v l → e.1 = k ∨ e ∈ l
  | [], e, h => by
    unfold Sparse.put at h; split at h
    · simp at h
    · simp only [List.mem_singleton] at h; exact .inl (by rw [h])
  | (j, w) :: l, e, h => by
    unfold Sparse.put at h
    split at h
    · split at h
      · exact .inr h
      · rcases List.mem_cons.mp h with rfl | h
        · exact .inl rfl
        · exact .inr h
    · split at h
      · split at h
        · exact .inr (List.mem_cons_of_mem _ h)
        · rcases List.mem_cons.mp h with rfl | h
          · exact .inl rfl
          · exact .inr (List.mem_cons_of_mem _ h)
      · rcases List.mem_cons.mp h with rfl | h
        · exact .inr (List.mem_cons_self ..)
        · rcases Sparse.mem_put h with h | h
          · exact .inl h
          · exact .inr (List.mem_cons_of_mem _ h)

/-- A put keeps a list in order. -/
theorem Sparse.put_rising {α : Type} [DecidableEq α] (d : α) (k : Nat) (v : α) : ∀ {l : List (Nat × α)}, Rising l → Rising (Sparse.put d k v l)
  | [], _ => by unfold Sparse.put; split <;> simp [Rising]
  | (j, w) :: l, h => by
    obtain ⟨hj, hl⟩ := List.pairwise_cons.mp h
    unfold Sparse.put
    split
    · rename_i h1
      split
      · exact h
      · refine List.pairwise_cons.mpr ⟨fun e he => ?_, h⟩
        rcases List.mem_cons.mp he with rfl | he
        · exact h1
        · exact Nat.lt_trans h1 (hj e he)
    · rename_i h1
      split
      · rename_i h2
        subst h2
        split
        · exact hl
        · exact List.pairwise_cons.mpr ⟨hj, hl⟩
      · rename_i h2
        refine List.pairwise_cons.mpr ⟨fun e he => ?_, Sparse.put_rising d k v hl⟩
        rcases Sparse.mem_put he with he | he
        · simp only [he]; omega
        · exact hj e he

/-- In a list in order a second put at a key replaces the first. -/
theorem Sparse.put_put_rising {α : Type} [DecidableEq α] (d : α) (k : Nat) (v w : α) : ∀ {l : List (Nat × α)}, Rising l →
    Sparse.put d k v (Sparse.put d k w l) = Sparse.put d k v l
  | [], _ => by by_cases hw : w = d <;> by_cases hv : v = d <;> simp [Sparse.put, hw, hv]
  | (j, x) :: l, h => by
    obtain ⟨hj, hl⟩ := List.pairwise_cons.mp h
    by_cases h1 : k < j
    · by_cases hw : w = d <;> by_cases hv : v = d <;> simp [Sparse.put, h1, hw, hv]
    · by_cases h2 : k = j
      · subst h2
        by_cases hw : w = d
        · have : Sparse.put d k v l = if v = d then l else (k, v) :: l := by
            cases l with
            | nil => simp [Sparse.put]
            | cons e l => have := hj e (by simp); simp only at this; obtain ⟨a, b⟩ := e; simp only at this; simp [Sparse.put, this]
          simp [Sparse.put, hw, this]
        · simp [Sparse.put, hw]
      · simp only [Sparse.put, h1, h2, if_false]
        rw [Sparse.put_put_rising d k v w hl]

/-! ### Instances -/

theorem State.ctx_setCtx_self {s : State} (h : Rising s.ctxs) (k : Nat) (x : Ctx) : (s.setCtx k x).ctx k = x :=
  Sparse.get_put_rising _ _ _ h

@[simp] theorem State.ctx_setCtx_ne (s : State) {j k : Nat} (h : j ≠ k) (x : Ctx) : (s.setCtx k x).ctx j = s.ctx j :=
  Sparse.get_put_ne _ _ h _ _

theorem State.setCtx_setCtx {s : State} (h : Rising s.ctxs) (k : Nat) (x y : Ctx) : (s.setCtx k x).setCtx k y = s.setCtx k y := by
  unfold State.setCtx; simp only [Sparse.put_put_rising _ _ _ _ h]

theorem State.setCtx_rising {s : State} (h : Rising s.ctxs) (k : Nat) (x : Ctx) : Rising (s.setCtx k x).ctxs := Sparse.put_rising _ _ _ h

theorem State.unit_setUnit_self {s : State} (h : Rising s.units) (k : Nat) (x : UnitSt) : (s.setUnit k x).unit k = x :=
  Sparse.get_put_rising _ _ _ h

@[simp] theorem State.unit_setUnit_ne (s : State) {j k : Nat} (h : j ≠ k) (x : UnitSt) : (s.setUnit k x).unit j = s.unit j :=
  Sparse.get_put_ne _ _ h _ _

theorem State.setUnit_setUnit {s : State} (h : Rising s.units) (k : Nat) (x y : UnitSt) : (s.setUnit k x).setUnit k y = s.setUnit k y := by
  unfold State.setUnit; simp only [Sparse.put_put_rising _ _ _ _ h]

theorem State.setUnit_rising {s : State} (h : Rising s.units) (k : Nat) (x : UnitSt) : Rising (s.setUnit k x).units := Sparse.put_rising _ _ _ h

theorem State.heap_setHeap_self {s : State} (h : Rising s.heaps) (k : Nat) (x : Heap) : (s.setHeap k x).heap k = x :=
  Sparse.get_put_rising _ _ _ h

@[simp] theorem State.heap_setHeap_ne (s : State) {j k : Nat} (h : j ≠ k) (x : Heap) : (s.setHeap k x).heap j = s.heap j :=
  Sparse.get_put_ne _ _ h _ _

theorem State.setHeap_setHeap {s : State} (h : Rising s.heaps) (k : Nat) (x y : Heap) : (s.setHeap k x).setHeap k y = s.setHeap k y := by
  unfold State.setHeap; simp only [Sparse.put_put_rising _ _ _ _ h]

theorem State.setHeap_rising {s : State} (h : Rising s.heaps) (k : Nat) (x : Heap) : Rising (s.setHeap k x).heaps := Sparse.put_rising _ _ _ h

theorem State.tb_setTb_self {s : State} (h : Rising s.tbs) (k : Nat) (x : Tb) : (s.setTb k x).tb k = x :=
  Sparse.get_put_rising _ _ _ h

@[simp] theorem State.tb_setTb_ne (s : State) {j k : Nat} (h : j ≠ k) (x : Tb) : (s.setTb k x).tb j = s.tb j :=
  Sparse.get_put_ne _ _ h _ _

theorem State.setTb_setTb {s : State} (h : Rising s.tbs) (k : Nat) (x y : Tb) : (s.setTb k x).setTb k y = s.setTb k y := by
  unfold State.setTb; simp only [Sparse.put_put_rising _ _ _ _ h]

theorem State.setTb_rising {s : State} (h : Rising s.tbs) (k : Nat) (x : Tb) : Rising (s.setTb k x).tbs := Sparse.put_rising _ _ _ h

theorem State.queue_setQueue_self {s : State} (h : Rising s.queues) (k : Nat) (x : Queue) : (s.setQueue k x).queue k = x :=
  Sparse.get_put_rising _ _ _ h

@[simp] theorem State.queue_setQueue_ne (s : State) {j k : Nat} (h : j ≠ k) (x : Queue) : (s.setQueue k x).queue j = s.queue j :=
  Sparse.get_put_ne _ _ h _ _

theorem State.setQueue_setQueue {s : State} (h : Rising s.queues) (k : Nat) (x y : Queue) : (s.setQueue k x).setQueue k y = s.setQueue k y := by
  unfold State.setQueue; simp only [Sparse.put_put_rising _ _ _ _ h]

theorem State.setQueue_rising {s : State} (h : Rising s.queues) (k : Nat) (x : Queue) : Rising (s.setQueue k x).queues := Sparse.put_rising _ _ _ h

theorem State.xing_setXing_self {s : State} (h : Rising s.xings) (k : Nat) (x : Xing) : (s.setXing k x).xing k = x :=
  Sparse.get_put_rising _ _ _ h

@[simp] theorem State.xing_setXing_ne (s : State) {j k : Nat} (h : j ≠ k) (x : Xing) : (s.setXing k x).xing j = s.xing j :=
  Sparse.get_put_ne _ _ h _ _

theorem State.setXing_setXing {s : State} (h : Rising s.xings) (k : Nat) (x y : Xing) : (s.setXing k x).setXing k y = s.setXing k y := by
  unfold State.setXing; simp only [Sparse.put_put_rising _ _ _ _ h]

theorem State.setXing_rising {s : State} (h : Rising s.xings) (k : Nat) (x : Xing) : Rising (s.setXing k x).xings := Sparse.put_rising _ _ _ h

theorem State.grp_setGrp_self {s : State} (h : Rising s.grps) (k : Nat) (x : Grp) : (s.setGrp k x).grp k = x :=
  Sparse.get_put_rising _ _ _ h

@[simp] theorem State.grp_setGrp_ne (s : State) {j k : Nat} (h : j ≠ k) (x : Grp) : (s.setGrp k x).grp j = s.grp j :=
  Sparse.get_put_ne _ _ h _ _

theorem State.setGrp_setGrp {s : State} (h : Rising s.grps) (k : Nat) (x y : Grp) : (s.setGrp k x).setGrp k y = s.setGrp k y := by
  unfold State.setGrp; simp only [Sparse.put_put_rising _ _ _ _ h]

theorem State.setGrp_rising {s : State} (h : Rising s.grps) (k : Nat) (x : Grp) : Rising (s.setGrp k x).grps := Sparse.put_rising _ _ _ h

theorem State.chan_setChan_self {s : State} (h : Rising s.chans) (k : Nat) (x : Chan) : (s.setChan k x).chan k = x :=
  Sparse.get_put_rising _ _ _ h

@[simp] theorem State.chan_setChan_ne (s : State) {j k : Nat} (h : j ≠ k) (x : Chan) : (s.setChan k x).chan j = s.chan j :=
  Sparse.get_put_ne _ _ h _ _

theorem State.setChan_setChan {s : State} (h : Rising s.chans) (k : Nat) (x y : Chan) : (s.setChan k x).setChan k y = s.setChan k y := by
  unfold State.setChan; simp only [Sparse.put_put_rising _ _ _ _ h]

theorem State.setChan_rising {s : State} (h : Rising s.chans) (k : Nat) (x : Chan) : Rising (s.setChan k x).chans := Sparse.put_rising _ _ _ h

theorem State.comp_setComp_self {s : State} (h : Rising s.comps) (k : Nat) (x : Comp) : (s.setComp k x).comp k = x :=
  Sparse.get_put_rising _ _ _ h

@[simp] theorem State.comp_setComp_ne (s : State) {j k : Nat} (h : j ≠ k) (x : Comp) : (s.setComp k x).comp j = s.comp j :=
  Sparse.get_put_ne _ _ h _ _

theorem State.setComp_setComp {s : State} (h : Rising s.comps) (k : Nat) (x y : Comp) : (s.setComp k x).setComp k y = s.setComp k y := by
  unfold State.setComp; simp only [Sparse.put_put_rising _ _ _ _ h]

theorem State.setComp_rising {s : State} (h : Rising s.comps) (k : Nat) (x : Comp) : Rising (s.setComp k x).comps := Sparse.put_rising _ _ _ h

theorem State.enc_setEnc_self {s : State} (h : Rising s.encs) (k : Nat) (x : Enc) : (s.setEnc k x).enc k = x :=
  Sparse.get_put_rising _ _ _ h

@[simp] theorem State.enc_setEnc_ne (s : State) {j k : Nat} (h : j ≠ k) (x : Enc) : (s.setEnc k x).enc j = s.enc j :=
  Sparse.get_put_ne _ _ h _ _

theorem State.setEnc_setEnc {s : State} (h : Rising s.encs) (k : Nat) (x y : Enc) : (s.setEnc k x).setEnc k y = s.setEnc k y := by
  unfold State.setEnc; simp only [Sparse.put_put_rising _ _ _ _ h]

theorem State.setEnc_rising {s : State} (h : Rising s.encs) (k : Nat) (x : Enc) : Rising (s.setEnc k x).encs := Sparse.put_rising _ _ _ h

theorem State.trk_setTrk_self {s : State} (h : Rising s.trks) (k : Nat) (x : Trk) : (s.setTrk k x).trk k = x :=
  Sparse.get_put_rising _ _ _ h

@[simp] theorem State.trk_setTrk_ne (s : State) {j k : Nat} (h : j ≠ k) (x : Trk) : (s.setTrk k x).trk j = s.trk j :=
  Sparse.get_put_ne _ _ h _ _

theorem State.setTrk_setTrk {s : State} (h : Rising s.trks) (k : Nat) (x y : Trk) : (s.setTrk k x).setTrk k y = s.setTrk k y := by
  unfold State.setTrk; simp only [Sparse.put_put_rising _ _ _ _ h]

theorem State.setTrk_rising {s : State} (h : Rising s.trks) (k : Nat) (x : Trk) : Rising (s.setTrk k x).trks := Sparse.put_rising _ _ _ h

theorem State.evt_setEvt_self {s : State} (h : Rising s.evts) (k : Nat) (x : EvtSrc) : (s.setEvt k x).evt k = x :=
  Sparse.get_put_rising _ _ _ h

@[simp] theorem State.evt_setEvt_ne (s : State) {j k : Nat} (h : j ≠ k) (x : EvtSrc) : (s.setEvt k x).evt j = s.evt j :=
  Sparse.get_put_ne _ _ h _ _

theorem State.setEvt_setEvt {s : State} (h : Rising s.evts) (k : Nat) (x y : EvtSrc) : (s.setEvt k x).setEvt k y = s.setEvt k y := by
  unfold State.setEvt; simp only [Sparse.put_put_rising _ _ _ _ h]

theorem State.setEvt_rising {s : State} (h : Rising s.evts) (k : Nat) (x : EvtSrc) : Rising (s.setEvt k x).evts := Sparse.put_rising _ _ _ h

theorem State.evPin_setEvPin_self {s : State} (h : Rising s.evPins) (k : Nat) (x : Pin) : (s.setEvPin k x).evPin k = x :=
  Sparse.get_put_rising _ _ _ h

@[simp] theorem State.evPin_setEvPin_ne (s : State) {j k : Nat} (h : j ≠ k) (x : Pin) : (s.setEvPin k x).evPin j = s.evPin j :=
  Sparse.get_put_ne _ _ h _ _

theorem State.setEvPin_setEvPin {s : State} (h : Rising s.evPins) (k : Nat) (x y : Pin) : (s.setEvPin k x).setEvPin k y = s.setEvPin k y := by
  unfold State.setEvPin; simp only [Sparse.put_put_rising _ _ _ _ h]

theorem State.setEvPin_rising {s : State} (h : Rising s.evPins) (k : Nat) (x : Pin) : Rising (s.setEvPin k x).evPins := Sparse.put_rising _ _ _ h

theorem State.gen_setGen_self {s : State} (h : Rising s.gens) (k : Nat) (x : Gen) : (s.setGen k x).gen k = x :=
  Sparse.get_put_rising _ _ _ h

@[simp] theorem State.gen_setGen_ne (s : State) {j k : Nat} (h : j ≠ k) (x : Gen) : (s.setGen k x).gen j = s.gen j :=
  Sparse.get_put_ne _ _ h _ _

theorem State.setGen_setGen {s : State} (h : Rising s.gens) (k : Nat) (x y : Gen) : (s.setGen k x).setGen k y = s.setGen k y := by
  unfold State.setGen; simp only [Sparse.put_put_rising _ _ _ _ h]

theorem State.setGen_rising {s : State} (h : Rising s.gens) (k : Nat) (x : Gen) : Rising (s.setGen k x).gens := Sparse.put_rising _ _ _ h

theorem State.bank_setBank_self {s : State} (h : Rising s.banks) (k : Nat) (x : Bank) : (s.setBank k x).bank k = x :=
  Sparse.get_put_rising _ _ _ h

@[simp] theorem State.bank_setBank_ne (s : State) {j k : Nat} (h : j ≠ k) (x : Bank) : (s.setBank k x).bank j = s.bank j :=
  Sparse.get_put_ne _ _ h _ _

theorem State.setBank_setBank {s : State} (h : Rising s.banks) (k : Nat) (x y : Bank) : (s.setBank k x).setBank k y = s.setBank k y := by
  unfold State.setBank; simp only [Sparse.put_put_rising _ _ _ _ h]

theorem State.setBank_rising {s : State} (h : Rising s.banks) (k : Nat) (x : Bank) : Rising (s.setBank k x).banks := Sparse.put_rising _ _ _ h

theorem State.chDma_setChDma_self {s : State} (h : Rising s.dma) (k : Nat) (x : Dma) : (s.setChDma k x).chDma k = x :=
  Sparse.get_put_rising _ _ _ h

@[simp] theorem State.chDma_setChDma_ne (s : State) {j k : Nat} (h : j ≠ k) (x : Dma) : (s.setChDma k x).chDma j = s.chDma j :=
  Sparse.get_put_ne _ _ h _ _

theorem State.setChDma_setChDma {s : State} (h : Rising s.dma) (k : Nat) (x y : Dma) : (s.setChDma k x).setChDma k y = s.setChDma k y := by
  unfold State.setChDma; simp only [Sparse.put_put_rising _ _ _ _ h]

theorem State.setChDma_rising {s : State} (h : Rising s.dma) (k : Nat) (x : Dma) : Rising (s.setChDma k x).dma := Sparse.put_rising _ _ _ h

theorem State.link_setLink_self {s : State} (h : Rising s.links) (k : Nat) (x : Link) : (s.setLink k x).link k = x :=
  Sparse.get_put_rising _ _ _ h

@[simp] theorem State.link_setLink_ne (s : State) {j k : Nat} (h : j ≠ k) (x : Link) : (s.setLink k x).link j = s.link j :=
  Sparse.get_put_ne _ _ h _ _

theorem State.setLink_setLink {s : State} (h : Rising s.links) (k : Nat) (x y : Link) : (s.setLink k x).setLink k y = s.setLink k y := by
  unfold State.setLink; simp only [Sparse.put_put_rising _ _ _ _ h]

theorem State.setLink_rising {s : State} (h : Rising s.links) (k : Nat) (x : Link) : Rising (s.setLink k x).links := Sparse.put_rising _ _ _ h

theorem State.reg_setReg_self {s : State} (h : Rising s.regs) (k : Nat) (v : Word) : (s.setReg k v).reg k = v :=
  Sparse.get_put_rising _ _ _ h

@[simp] theorem State.reg_setReg_ne (s : State) {j k : Nat} (h : j ≠ k) (v : Word) : (s.setReg k v).reg j = s.reg j :=
  Sparse.get_put_ne _ _ h _ _

theorem State.setReg_rising {s : State} (h : Rising s.regs) (k : Nat) (v : Word) : Rising (s.setReg k v).regs := Sparse.put_rising _ _ _ h

end Sys2Proof.Machine
end

