-- ==== Sys2Proof/Laws/Regs.lean ====
section
/-! SUPPORT. Registers: where each lies. -/

set_option Elab.async false

namespace Sys2Proof.Machine

theorem locate_pwr {o : Nat} (ho : o < 8192) : locate (keyOf .pwr 0 o) = some (.pwr, 0, o) := by
  generalize hk : keyOf .pwr 0 o = k
  unfold keyOf at hk
  dsimp only at hk
  unfold locate inRange
  repeat (first | rw [if_pos (by first | omega | (apply decide_eq_true; omega))] | rw [if_neg (by first | omega | (rw [decide_eq_true_eq]; omega))])
  rw [Option.some.injEq, Prod.mk.injEq, Prod.mk.injEq]
  refine ⟨rfl, ?_, ?_⟩ <;> omega

theorem locate_jsp {o : Nat} (ho : o < 8192) : locate (keyOf .jsp 0 o) = some (.jsp, 0, o) := by
  generalize hk : keyOf .jsp 0 o = k
  unfold keyOf at hk
  dsimp only at hk
  unfold locate inRange
  repeat (first | rw [if_pos (by first | omega | (apply decide_eq_true; omega))] | rw [if_neg (by first | omega | (rw [decide_eq_true_eq]; omega))])
  rw [Option.some.injEq, Prod.mk.injEq, Prod.mk.injEq]
  refine ⟨rfl, ?_, ?_⟩ <;> omega

theorem locate_tbu {o : Nat} (ho : o < 512) : locate (keyOf .tbu 0 o) = some (.tbu, 0, o) := by
  generalize hk : keyOf .tbu 0 o = k
  unfold keyOf at hk
  dsimp only at hk
  unfold locate inRange
  repeat (first | rw [if_pos (by first | omega | (apply decide_eq_true; omega))] | rw [if_neg (by first | omega | (rw [decide_eq_true_eq]; omega))])
  rw [Option.some.injEq, Prod.mk.injEq, Prod.mk.injEq]
  refine ⟨rfl, ?_, ?_⟩ <;> omega

theorem locate_tb {i o : Nat} (hi : i < 64) (ho : o < 16) : locate (keyOf .tb i o) = some (.tb, i, o) := by
  generalize hk : keyOf .tb i o = k
  unfold keyOf at hk
  dsimp only at hk
  unfold locate inRange
  repeat (first | rw [if_pos (by first | omega | (apply decide_eq_true; omega))] | rw [if_neg (by first | omega | (rw [decide_eq_true_eq]; omega))])
  rw [Option.some.injEq, Prod.mk.injEq, Prod.mk.injEq]
  refine ⟨rfl, ?_, ?_⟩ <;> omega

theorem locate_mfr {o : Nat} (ho : o < 512) : locate (keyOf .mfr 0 o) = some (.mfr, 0, o) := by
  generalize hk : keyOf .mfr 0 o = k
  unfold keyOf at hk
  dsimp only at hk
  unfold locate inRange
  repeat (first | rw [if_pos (by first | omega | (apply decide_eq_true; omega))] | rw [if_neg (by first | omega | (rw [decide_eq_true_eq]; omega))])
  rw [Option.some.injEq, Prod.mk.injEq, Prod.mk.injEq]
  refine ⟨rfl, ?_, ?_⟩ <;> omega

theorem locate_grp {i o : Nat} (hi : i < 12) (ho : o < 8) : locate (keyOf .grp i o) = some (.grp, i, o) := by
  generalize hk : keyOf .grp i o = k
  unfold keyOf at hk
  dsimp only at hk
  unfold locate inRange
  repeat (first | rw [if_pos (by first | omega | (apply decide_eq_true; omega))] | rw [if_neg (by first | omega | (rw [decide_eq_true_eq]; omega))])
  rw [Option.some.injEq, Prod.mk.injEq, Prod.mk.injEq]
  refine ⟨rfl, ?_, ?_⟩ <;> omega

theorem locate_chan {i o : Nat} (hi : i < 96) (ho : o < 8) : locate (keyOf .chan i o) = some (.chan, i, o) := by
  generalize hk : keyOf .chan i o = k
  unfold keyOf at hk
  dsimp only at hk
  unfold locate inRange
  repeat (first | rw [if_pos (by first | omega | (apply decide_eq_true; omega))] | rw [if_neg (by first | omega | (rw [decide_eq_true_eq]; omega))])
  rw [Option.some.injEq, Prod.mk.injEq, Prod.mk.injEq]
  refine ⟨rfl, ?_, ?_⟩ <;> omega

theorem locate_comp {i o : Nat} (hi : i < 48) (ho : o < 4) : locate (keyOf .comp i o) = some (.comp, i, o) := by
  generalize hk : keyOf .comp i o = k
  unfold keyOf at hk
  dsimp only at hk
  unfold locate inRange
  repeat (first | rw [if_pos (by first | omega | (apply decide_eq_true; omega))] | rw [if_neg (by first | omega | (rw [decide_eq_true_eq]; omega))])
  rw [Option.some.injEq, Prod.mk.injEq, Prod.mk.injEq]
  refine ⟨rfl, ?_, ?_⟩ <;> omega

theorem locate_enc {i o : Nat} (hi : i < 16) (ho : o < 8) : locate (keyOf .enc i o) = some (.enc, i, o) := by
  generalize hk : keyOf .enc i o = k
  unfold keyOf at hk
  dsimp only at hk
  unfold locate inRange
  repeat (first | rw [if_pos (by first | omega | (apply decide_eq_true; omega))] | rw [if_neg (by first | omega | (rw [decide_eq_true_eq]; omega))])
  rw [Option.some.injEq, Prod.mk.injEq, Prod.mk.injEq]
  refine ⟨rfl, ?_, ?_⟩ <;> omega

theorem locate_rt {i o : Nat} (hi : i < 8) (ho : o < 8) : locate (keyOf .rt i o) = some (.rt, i, o) := by
  generalize hk : keyOf .rt i o = k
  unfold keyOf at hk
  dsimp only at hk
  unfold locate inRange
  repeat (first | rw [if_pos (by first | omega | (apply decide_eq_true; omega))] | rw [if_neg (by first | omega | (rw [decide_eq_true_eq]; omega))])
  rw [Option.some.injEq, Prod.mk.injEq, Prod.mk.injEq]
  refine ⟨rfl, ?_, ?_⟩ <;> omega

theorem locate_gt {i o : Nat} (hi : i < 8) (ho : o < 8) : locate (keyOf .gt i o) = some (.gt, i, o) := by
  generalize hk : keyOf .gt i o = k
  unfold keyOf at hk
  dsimp only at hk
  unfold locate inRange
  repeat (first | rw [if_pos (by first | omega | (apply decide_eq_true; omega))] | rw [if_neg (by first | omega | (rw [decide_eq_true_eq]; omega))])
  rw [Option.some.injEq, Prod.mk.injEq, Prod.mk.injEq]
  refine ⟨rfl, ?_, ?_⟩ <;> omega

theorem locate_evo {o : Nat} (ho : o < 128) : locate (keyOf .evo 0 o) = some (.evo, 0, o) := by
  generalize hk : keyOf .evo 0 o = k
  unfold keyOf at hk
  dsimp only at hk
  unfold locate inRange
  repeat (first | rw [if_pos (by first | omega | (apply decide_eq_true; omega))] | rw [if_neg (by first | omega | (rw [decide_eq_true_eq]; omega))])
  rw [Option.some.injEq, Prod.mk.injEq, Prod.mk.injEq]
  refine ⟨rfl, ?_, ?_⟩ <;> omega

theorem locate_bank {i o : Nat} (hi : i < 4) (ho : o < 32) : locate (keyOf .bank i o) = some (.bank, i, o) := by
  generalize hk : keyOf .bank i o = k
  unfold keyOf at hk
  dsimp only at hk
  unfold locate inRange
  repeat (first | rw [if_pos (by first | omega | (apply decide_eq_true; omega))] | rw [if_neg (by first | omega | (rw [decide_eq_true_eq]; omega))])
  rw [Option.some.injEq, Prod.mk.injEq, Prod.mk.injEq]
  refine ⟨rfl, ?_, ?_⟩ <;> omega

theorem locate_gen {i o : Nat} (hi : i < 64) (ho : o < 8) : locate (keyOf .gen i o) = some (.gen, i, o) := by
  generalize hk : keyOf .gen i o = k
  unfold keyOf at hk
  dsimp only at hk
  unfold locate inRange
  repeat (first | rw [if_pos (by first | omega | (apply decide_eq_true; omega))] | rw [if_neg (by first | omega | (rw [decide_eq_true_eq]; omega))])
  rw [Option.some.injEq, Prod.mk.injEq, Prod.mk.injEq]
  refine ⟨rfl, ?_, ?_⟩ <;> omega

theorem locate_pin {i o : Nat} (hi : i < 128) (ho : o < 8) : locate (keyOf .pin i o) = some (.pin, i, o) := by
  generalize hk : keyOf .pin i o = k
  unfold keyOf at hk
  dsimp only at hk
  unfold locate inRange
  repeat (first | rw [if_pos (by first | omega | (apply decide_eq_true; omega))] | rw [if_neg (by first | omega | (rw [decide_eq_true_eq]; omega))])
  rw [Option.some.injEq, Prod.mk.injEq, Prod.mk.injEq]
  refine ⟨rfl, ?_, ?_⟩ <;> omega

theorem locate_dma {o : Nat} (ho : o < 32) : locate (keyOf .dma 0 o) = some (.dma, 0, o) := by
  generalize hk : keyOf .dma 0 o = k
  unfold keyOf at hk
  dsimp only at hk
  unfold locate inRange
  repeat (first | rw [if_pos (by first | omega | (apply decide_eq_true; omega))] | rw [if_neg (by first | omega | (rw [decide_eq_true_eq]; omega))])
  rw [Option.some.injEq, Prod.mk.injEq, Prod.mk.injEq]
  refine ⟨rfl, ?_, ?_⟩ <;> omega

theorem locate_cq {i o : Nat} (hi : i < 8) (ho : o < 4) : locate (keyOf .cq i o) = some (.cq, i, o) := by
  generalize hk : keyOf .cq i o = k
  unfold keyOf at hk
  dsimp only at hk
  unfold locate inRange
  repeat (first | rw [if_pos (by first | omega | (apply decide_eq_true; omega))] | rw [if_neg (by first | omega | (rw [decide_eq_true_eq]; omega))])
  rw [Option.some.injEq, Prod.mk.injEq, Prod.mk.injEq]
  refine ⟨rfl, ?_, ?_⟩ <;> omega

theorem locate_ch {i o : Nat} (hi : i < 64) (ho : o < 8) : locate (keyOf .ch i o) = some (.ch, i, o) := by
  generalize hk : keyOf .ch i o = k
  unfold keyOf at hk
  dsimp only at hk
  unfold locate inRange
  repeat (first | rw [if_pos (by first | omega | (apply decide_eq_true; omega))] | rw [if_neg (by first | omega | (rw [decide_eq_true_eq]; omega))])
  rw [Option.some.injEq, Prod.mk.injEq, Prod.mk.injEq]
  refine ⟨rfl, ?_, ?_⟩ <;> omega

theorem locate_hst {o : Nat} (ho : o < 128) : locate (keyOf .hst 0 o) = some (.hst, 0, o) := by
  generalize hk : keyOf .hst 0 o = k
  unfold keyOf at hk
  dsimp only at hk
  unfold locate inRange
  repeat (first | rw [if_pos (by first | omega | (apply decide_eq_true; omega))] | rw [if_neg (by first | omega | (rw [decide_eq_true_eq]; omega))])
  rw [Option.some.injEq, Prod.mk.injEq, Prod.mk.injEq]
  refine ⟨rfl, ?_, ?_⟩ <;> omega

theorem locate_ring {i o : Nat} (hi : i < 8) (ho : o < 8) : locate (keyOf .ring i o) = some (.ring, i, o) := by
  generalize hk : keyOf .ring i o = k
  unfold keyOf at hk
  dsimp only at hk
  unfold locate inRange
  repeat (first | rw [if_pos (by first | omega | (apply decide_eq_true; omega))] | rw [if_neg (by first | omega | (rw [decide_eq_true_eq]; omega))])
  rw [Option.some.injEq, Prod.mk.injEq, Prod.mk.injEq]
  refine ⟨rfl, ?_, ?_⟩ <;> omega

theorem locate_qdl {o : Nat} (ho : o < 128) : locate (keyOf .qdl 0 o) = some (.qdl, 0, o) := by
  generalize hk : keyOf .qdl 0 o = k
  unfold keyOf at hk
  dsimp only at hk
  unfold locate inRange
  repeat (first | rw [if_pos (by first | omega | (apply decide_eq_true; omega))] | rw [if_neg (by first | omega | (rw [decide_eq_true_eq]; omega))])
  rw [Option.some.injEq, Prod.mk.injEq, Prod.mk.injEq]
  refine ⟨rfl, ?_, ?_⟩ <;> omega

theorem locate_link {i o : Nat} (hi : i < 6) (ho : o < 32) : locate (keyOf .link i o) = some (.link, i, o) := by
  generalize hk : keyOf .link i o = k
  unfold keyOf at hk
  dsimp only at hk
  unfold locate inRange
  repeat (first | rw [if_pos (by first | omega | (apply decide_eq_true; omega))] | rw [if_neg (by first | omega | (rw [decide_eq_true_eq]; omega))])
  rw [Option.some.injEq, Prod.mk.injEq, Prod.mk.injEq]
  refine ⟨rfl, ?_, ?_⟩ <;> omega

theorem locate_sch {i o : Nat} (hi : i < 8) (ho : o < 512) : locate (keyOf .sch i o) = some (.sch, i, o) := by
  generalize hk : keyOf .sch i o = k
  unfold keyOf at hk
  dsimp only at hk
  unfold locate inRange
  repeat (first | rw [if_pos (by first | omega | (apply decide_eq_true; omega))] | rw [if_neg (by first | omega | (rw [decide_eq_true_eq]; omega))])
  rw [Option.some.injEq, Prod.mk.injEq, Prod.mk.injEq]
  refine ⟨rfl, ?_, ?_⟩ <;> omega

theorem locate_sctx {i o : Nat} (hi : i < 4096) (ho : o < 10) : locate (keyOf .sctx i o) = some (.sctx, i, o) := by
  generalize hk : keyOf .sctx i o = k
  unfold keyOf at hk
  dsimp only at hk
  have hq : (k - 0x10000) / 0x2000 = i / 512 := by omega
  have hr : (k - 0x10000) % 0x2000 = 10 * (i % 512) + o + 0x200 := by omega
  unfold locate inRange
  rw [if_neg (by omega), if_neg (by omega), if_neg (by omega), if_neg (by omega), if_neg (by omega), if_neg (by omega), if_neg (by omega),
    if_neg (by omega), if_pos (by omega)]
  simp only [hq, hr]
  rw [if_pos (by rw [decide_eq_true_eq]; omega)]
  have h0 : 10 * (i % 512) + o + 0x200 - 0x200 = 10 * (i % 512) + o := Nat.add_sub_cancel _ _
  have h1 : 512 * (i / 512) + (10 * (i % 512) + o) / 10 = i := by omega
  have h2 : (10 * (i % 512) + o) % 10 = o := by omega
  rw [h0, h1, h2]

theorem locate_qpl {i o : Nat} (hi : i < 2) (ho : o < 32768) : locate (keyOf .qpl i o) = some (.qpl, i, o) := by
  generalize hk : keyOf .qpl i o = k
  unfold keyOf at hk
  dsimp only at hk
  unfold locate inRange
  repeat (first | rw [if_pos (by first | omega | (apply decide_eq_true; omega))] | rw [if_neg (by first | omega | (rw [decide_eq_true_eq]; omega))])
  rw [Option.some.injEq, Prod.mk.injEq, Prod.mk.injEq]
  refine ⟨rfl, ?_, ?_⟩ <;> omega

set_option maxRecDepth 4000 in
theorem locate_desc {i o : Nat} (hi : i < 8192) (ho : o < 8) : locate (keyOf .desc i o) = some (.desc, i, o) := by
  generalize hk : keyOf .desc i o = k
  unfold keyOf at hk
  dsimp only at hk
  unfold locate inRange
  repeat (first | rw [if_pos (by first | omega | (apply decide_eq_true; omega))] | rw [if_neg (by first | omega | (rw [decide_eq_true_eq]; omega))])
  rw [Option.some.injEq, Prod.mk.injEq, Prod.mk.injEq]
  refine ⟨rfl, ?_, ?_⟩ <;> omega

theorem locate_clu {i o : Nat} (hi : i < 32) (ho : o < 512) : locate (keyOf .clu i o) = some (.clu, i, o) := by
  generalize hk : keyOf .clu i o = k
  unfold keyOf at hk
  dsimp only at hk
  unfold locate inRange
  repeat (first | rw [if_pos (by first | omega | (apply decide_eq_true; omega))] | rw [if_neg (by first | omega | (rw [decide_eq_true_eq]; omega))])
  rw [Option.some.injEq, Prod.mk.injEq, Prod.mk.injEq]
  refine ⟨rfl, ?_, ?_⟩ <;> omega

end Sys2Proof.Machine
end

