-- ==== Sys2Proof/Laws/Words.lean ====
section
/-! SUPPORT. The issue of a word: each row is the issue of its mnemonic, and a word that may issue is run. -/

set_option Elab.async false

namespace Sys2Proof.Machine

/-- The row of a mnemonic is the issue of that mnemonic; YIELD, SLEEP and TRAP reach other agents at once. -/
theorem exec_wordRow (m : Mn) (u : Nat) (w : Word) (s : State) :
    exec (wordRow m u w) s =
      if m = .yield ∨ m = .sleep ∨ m = .trap then answer (u < 256) (issue u m w s) else answerWord (u < 256) (issue u m w s) := by
  cases m <;> rfl

/-- A quiet state has nothing to settle. -/
theorem settleFaults_quiet {s : State} (h : Quiet s) : settleFaults s = s := by
  obtain ⟨h1, h2⟩ := h
  unfold settleFaults handleAll settleSafe
  simp [h1, h2]

/-- The unit issues for the context that it runs. -/
theorem issuing_of_atWord {u k : Nat} {w : Word} {f : Fj} {s : State} (h : AtWord u k w f s) : issuing u s = some (16 * u + k) := by
  have hw := h.wait
  unfold issuing
  simp only [h.run, h.nodisp]
  unfold issueHeld
  revert hw
  cases (s.ctx (16 * u + k)).wait <;> simp [Wait.atIssue]

/-- A word that stands at issue goes to `issueReady`. -/
theorem issue_of_atWord {u k : Nat} {w : Word} {f : Fj} {s : State} {m : Mn} (h : AtWord u k w f s) (hm : f.holds m = true) :
    issue u m w s = issueReady (16 * u + k) (nextStep (16 * u + k) s) w f none s := by
  have hk : (16 * u + k) % 16 = k := by have := h.ctx; omega
  have hs : takeSplit (16 * u + k) s = s := by
    have hw := h.wait
    unfold takeSplit
    revert hw
    cases (s.ctx (16 * u + k)).wait <;> simp [Wait.atIssue]
  have hd : ∀ n b, dueTrap (s.ctx (16 * u + k)) n b = none := by intro n b; simp [dueTrap, h.notraps]
  unfold issue
  simp [issuing_of_atWord h, hs, h.next, hk, h.decoded, hm, afterTraps, hd, nextStep]

/-- A word that stands at issue and is ready is run. -/
theorem issue_go {u k : Nat} {w : Word} {f : Fj} {s : State} {m : Mn} (h : AtWord u k w f s) (hm : f.holds m = true)
    (hr : wordReady (16 * u + k) w (runningSlots f ((opened (16 * u + k) s).reads (16 * u + k)))
      ((opened (16 * u + k) s).reads (16 * u + k)) (opened (16 * u + k) s) = .go) :
    issue u m w s = runWord (16 * u + k) (nextStep (16 * u + k) s) w f (opened (16 * u + k) s) := by
  rw [issue_of_atWord h hm]
  unfold issueReady
  unfold opened at hr
  simp only [hr]
  rfl

/-! ### What the parts of a step leave as they are -/

theorem quiet_setSticky {cid sets : Nat} {s : State} : Quiet (setSticky cid sets s) ↔ Quiet s := by
  unfold setSticky Quiet
  split <;> simp [State.modCtx_eq]

theorem quiet_produce {cid d due : Nat} {v : Word} {s : State} : Quiet (produce cid d due v s) ↔ Quiet s := by
  unfold produce claim Quiet
  split <;> simp [State.modCtx_eq, State.modUnit_eq]

theorem quiet_stepped {cid : Nat} {s : State} : Quiet (stepped cid s) ↔ Quiet s := by
  unfold stepped advancePc countStep Quiet
  dsimp only
  split <;> simp [State.modCtx_eq, State.modUnit_eq]

theorem quiet_lopWrite {l : Lop} {s : State} : Quiet (lopWrite l s) ↔ Quiet s := by
  unfold lopWrite Quiet
  split <;> simp [State.modCtx_eq]

/-- A fold of steps each of which leaves a property as it is. -/
theorem fold_iff {α β : Type} (P : α → Prop) (f : α → β → α) (h : ∀ x b, P (f x b) ↔ P x) (l : List β) : ∀ x, P (l.foldl f x) ↔ P x := by
  induction l with
  | nil => exact fun _ => Iff.rfl
  | cons b l ih => exact fun x => (ih (f x b)).trans (h x b)

theorem quiet_openStep {cid n : Nat} {s : State} : Quiet (openStep cid n s) ↔ Quiet s := by
  unfold openStep earlyWrites
  refine (fold_iff Quiet _ (fun x l => ?_) _ _).trans (by simp [Quiet, State.modCtx_eq])
  dsimp only
  split
  · rfl
  · by_cases hb : Config.freeBool x.free = true <;> simp [State.anyBool, hb, State.modUnit_eq, Quiet]

theorem quiet_opened {cid : Nat} {s : State} : Quiet (opened cid s) ↔ Quiet s := quiet_openStep

/-! ### The run of a word -/

/-- A single word whose condition fails only takes its step (R79). -/
theorem runWord_skip {cid n c : Nat} {w : Word} {o : Op} {s : State} (h : condHolds c (s.reads cid) = false) :
    runWord cid n w (.one c o) s = stepped cid s := by
  unfold runWord
  simp only [runningSlots, h]
  rfl

/-- A single word other than MFC whose condition holds takes its step, and then its operation acts. -/
theorem runWord_one {cid n c : Nat} {w : Word} {o : Op} {s : State} (h : condHolds c (s.reads cid) = true) (hm : o.mn ≠ .mfc) :
    runWord cid n w (.one c o) s =
      (let q := opEffect cid n (s.ctx cid).pc w 0 o o.rd (s.reads cid) 0 (stepped cid s)
       statusTrap cid [(0, o, q.2)] (setSticky cid q.2 q.1)) := by
  unfold runWord
  simp only [runningSlots, h, if_true, hm, if_false]
  rfl

/-- An operation that sets no bit that traps leaves the word without a STATUS trap. -/
theorem statusTrap_none {cid : Nat} {l : List (Nat × Op × Nat)} {s : State} (h : ∀ e ∈ l, ∀ en, statusCode e.2.2 en = 0) :
    statusTrap cid l s = s := by
  unfold statusTrap
  have : l.find? (fun e => statusCode e.2.2 (if (s.ctx cid).st = .running then (s.ctx cid).trapEn else 0) != 0) = none := by
    rw [List.find?_eq_none]
    intro e he
    simp [h e he]
  simp only [this]

/-- The row of a single word that is ready: its step, then its operation. -/
theorem exec_one {u k c : Nat} {w : Word} {o : Op} {s : State} (h : AtWord u k w (.one c o) s)
    (hc : condHolds c ((opened (16 * u + k) s).reads (16 * u + k)) = true) (hm : o.mn ≠ .mfc)
    (hr : opReady (16 * u + k) w 0 o ((opened (16 * u + k) s).reads (16 * u + k)) (opened (16 * u + k) s) = .go) :
    exec (wordRow o.mn u w) s =
      (let so := opened (16 * u + k) s
       let q := opEffect (16 * u + k) (nextStep (16 * u + k) s) (so.ctx (16 * u + k)).pc w 0 o o.rd (so.reads (16 * u + k)) 0
         (stepped (16 * u + k) so)
       let t := statusTrap (16 * u + k) [(0, o, q.2)] (setSticky (16 * u + k) q.2 q.1)
       .next (if o.mn = .yield ∨ o.mn = .sleep ∨ o.mn = .trap then finish t else settleFaults t)) := by
  have hh : (Fj.one c o).holds o.mn = true := by simp [Fj.holds]
  have hw : wordReady (16 * u + k) w (runningSlots (.one c o) ((opened (16 * u + k) s).reads (16 * u + k)))
      ((opened (16 * u + k) s).reads (16 * u + k)) (opened (16 * u + k) s) = .go := by
    simp [wordReady, runningSlots, hc, hr]
  rw [exec_wordRow, issue_go h hh hw, runWord_one hc hm]
  simp only [answer, answerWord, h.unit, decide_true, if_true]
  split <;> rfl

end Sys2Proof.Machine
end

