-- ==== Sys2Proof/Tests/Slice0.lean ====
section
/-! SUPPORT. The author's own tests: the checks of well-formedness, words written out bit by bit from the tables of chapter 03, small steps whose
results are computed by hand from the spec, and, for each statement, states and operands that meet its hypotheses. -/

set_option Elab.async false

namespace Sys2Proof.Tests

open Sys2Proof Sys2Proof.Machine

/-- Every sparse list in order, as a Boolean. -/
def rising {α : Type} (l : List (Nat × α)) : Bool := decide ((l.map (·.1)).Pairwise (· < ·))

/-- `InOrder` as a Boolean, for states without a saved part. -/
def ordered (s : State) : Bool :=
  Memory.wf s.mem && rising s.regs && rising s.errs && rising s.ctxs && rising s.units && rising s.heaps && rising s.tbs && rising s.queues &&
  rising s.xings && rising s.grps && rising s.chans && rising s.comps && rising s.encs && rising s.trks && rising s.evts && rising s.evPins &&
  rising s.gens && rising s.banks && rising s.dma && rising s.links && s.saved.isNone

theorem rising_of {α : Type} {l : List (Nat × α)} (h : rising l = true) : Rising l :=
  List.pairwise_map.mp (of_decide_eq_true h)

theorem inOrder_of {s : State} (h : ordered s = true) : InOrder s := by
  simp only [ordered, Bool.and_eq_true] at h
  obtain ⟨⟨⟨⟨⟨⟨⟨⟨⟨⟨⟨⟨⟨⟨⟨⟨⟨⟨⟨⟨h1, h2⟩, h3⟩, h4⟩, h5⟩, h6⟩, h7⟩, h8⟩, h9⟩, h10⟩, h11⟩, h12⟩, h13⟩, h14⟩, h15⟩, h16⟩, h17⟩, h18⟩, h19⟩, h20⟩, h21⟩ := h
  refine ⟨h1, rising_of h2, rising_of h3, rising_of h4, rising_of h5, rising_of h6, rising_of h7, rising_of h8, rising_of h9, rising_of h10, rising_of h11,
    rising_of h12, rising_of h13, rising_of h14, rising_of h15, rising_of h16, rising_of h17, rising_of h18, rising_of h19, rising_of h20, ?_⟩
  intro v hv
  rw [hv] at h21
  exact absurd h21 (by simp)

/-- `AtWord` as a Boolean. -/
def stands (u k : Nat) (w : Word) (f : Fj) (s : State) : Bool :=
  decide (u < 256) && decide (k < 16) && (s.unit u).run == some k && (s.unit u).disp.isNone && decide ((s.ctx (16 * u + k)).st = .running) &&
  (s.ctx (16 * u + k)).wait.atIssue && (s.ctx (16 * u + k)).traps.isEmpty &&
  (match nextWord (16 * u + k) s with | .word v none => v == w | _ => false) &&
  (match decodeFj w k with | .ok f' => f' == f | .error _ => false) && s.raised.isEmpty && !s.contain.entered

theorem atWord_of {u k : Nat} {w : Word} {f : Fj} {s : State} (h : stands u k w f s = true) : AtWord u k w f s := by
  simp only [stands, Bool.and_eq_true, decide_eq_true_eq, beq_iff_eq, List.isEmpty_iff, Option.isNone_iff_eq_none, Bool.not_eq_true'] at h
  obtain ⟨⟨⟨⟨⟨⟨⟨⟨⟨⟨h1, h2⟩, h3⟩, h4⟩, h5⟩, h6⟩, h7⟩, h8⟩, h9⟩, h10⟩, h11⟩ := h
  refine ⟨h1, h2, h3, h4, h5, h6, h7, ?_, ?_, h10, h11⟩
  · revert h8; cases nextWord (16 * u + k) s with
    | word v e => cases e <;> simp
    | _ => simp
  · revert h9; cases decodeFj w k <;> simp

/-- A device in RUN with every domain on and its clock running. -/
def up : State :=
  wrAll 0 [(F.pwr_MODE, 4), (F.pwr_DOM_ON_LO, 2 ^ 36 - 1), (F.pwr_DOM_ON_HI_ON, 2 ^ 14 - 1)]
    { State.reset with
      clock := { State.reset.clock with run := true }
      pins := { State.reset.pins with resetN := true, mainPg := true, mainEn := true, refclk := true, safeN := 0 } }

/-- Unit 5 of cluster 0 runs its context 3, at the first word of its store, which is `w`; its registers hold `g`. -/
def at_ (w : Word) (g : List (Nat × Word)) : State :=
  (up.setUnit 5 { UnitSt.init with run := some 3, fbuf := [{ g := 0, data := granOf [w] 1, bad := 0 }] }).setCtx 83
    { Ctx.init with st := .running, pc := BitVec.ofNat 32 (codeBase 0), g := g, entry := some 0x100 }

theorem up_inOrder : InOrder up := inOrder_of (by decide)

/-! ### Words of FJ36 -/

/-- The single word of an opcode and its low 24 bits, with the condition that always holds. -/
def word (op low : Nat) : Word := BitVec.ofNat 36 (op * 2 ^ 24 + low)

/-- The fields rd, rs1 and rs2 of a single word. -/
def fields (rd rs1 rs2 : Nat) : Nat := rd * 2 ^ 19 + rs1 * 2 ^ 14 + rs2 * 2 ^ 9

/-- The operation of a single word. -/
def opOf (w : Word) : Op := match decodeFj w 3 with | .ok (.one _ o) => o | _ => longOf 127 0

/-- The word stands at issue, its condition holds, and a further condition is met. -/
def ready (w : Word) (s : State) (p : Op → (Nat → Word) → Bool) : Bool :=
  stands 5 3 w (.one 0 (opOf w)) s && condHolds 0 ((opened 83 s).reads 83) && p (opOf w) ((opened 83 s).reads 83)

/-- Two registers, 5 and −3. -/
def two : List (Nat × Word) := [(2, 5), (3, BitVec.ofInt 36 (-3))]

/-- The step of the word of `at_`. -/
def after (_ : Word) (s : State) : State := stepped 83 (opened 83 s)

theorem witness_ResultWord : ∀ e ∈ [(word 0 (fields 1 2 3), 2), (word 2 (fields 1 2 3), 2), (word 0o24 (fields 0 2 3), 2), (word 0o20 (fields 1 2 2), 2),
    (word 0o140 (fields 31 2 3), 3)], (ready e.1 (at_ e.1 two) (fun o g => ((tableResult o (o.argA g) (o.argB g) (g o.rd)).map (·.2.1)) == some e.2)
      && ordered (at_ e.1 two)) = true := by
  decide +kernel

/-- A word with the condition C = 1000, which fails, and a pair with it. -/
theorem witness_ConditionalWord :
    stands 5 3 (0x400000000 + word 0 (fields 1 2 3)) (.one 8 (longOf 0 (fields 1 2 3))) (at_ (0x400000000 + word 0 (fields 1 2 3)) two) = true ∧
    stands 5 3 0xC400F83FF (.two 8 true (shortOf 0x1F) (shortOf 0x3FF)) (at_ 0xC400F83FF two) = true ∧
    condHolds 8 ((opened 83 (at_ 0xC400F83FF two)).reads 83) = false ∧ (0 : Nat) < 8 ∧ 7 < 8 := by
  decide +kernel

/-- Queue 7 with room: its producer is port 1 of context 83; queue 9, a D-queue, has that context's port 2 for its consumer. -/
def withQueues (w : Word) (x : Queue) : State :=
  (wrAll 9 [(F.desc_CAP, 4), (F.desc_CONS, 2 ^ 17 + 32 * 83 + 2), (F.desc_CFG_CLASS, 1)]
    (wrAll 7 [(F.desc_CAP, 4), (F.desc_PROD_KIND, 1), (F.desc_PROD_INST, 32 * 83 + 1)] (at_ w two))).setQueue 9 x

/-- A queue of one cell of two words. -/
def full : Queue := { Queue.init with cells := [{ ws := [11, 12], e := true, closed := true, pb := false, err := 0, checked := true, orig := none }] }

/-- A pair of which slot B, a NOP, executes alone; and a pair with a PUSH to port 1 that may go. -/
theorem witness_PairWord :
    stands 5 3 0xC00007C00 (.two 8 false (shortOf 0) (shortOf 0x7C00)) (at_ 0xC00007C00 two) = true ∧ (shortOf 0x7C00).mn = .nop ∧
    (shortOf 0x7022).mn = .push ∧
    stands 5 3 (0x800000000 + 0x7022 * 2 ^ 15 + 0x42) (.two 0 false (shortOf 0x7022) (shortOf 0x42))
      (withQueues (0x800000000 + 0x7022 * 2 ^ 15 + 0x42) full) = true ∧
    (match opReady 83 0 0 (shortOf 0x7022) (fun _ => 0) (withQueues 0 full) with | .go => true | _ => false) = true := by
  decide +kernel

theorem witness_AccumulatorWord : [word 0o144 (fields 0 2 3), word 0o144 (fields 0 2 3 + 15), word 0o146 (fields 0 2 0 + 2 * 44 + 1)].all (fun w =>
    ready w (at_ w two) (fun o _ => (o.mn == .mac || o.mn == .msuz || o.mn == .mta) && (((after w (at_ w two)).ctx 83).trapEn % 2 == 0))) = true := by
  decide +kernel

theorem witness_MfaWord : [word 0o145 (fields 1 0 0), word 0o145 (fields 1 0 0 + 256 + 2 * 44)].all (fun w => ready w (at_ w two) (fun o _ => o.mn == .mfa)) = true := by
  decide +kernel

theorem witness_LongResults : (7 : Word) ≠ 0 ∧ ¬ ((2 ^ 35 : Word).toInt = -2 ^ 35 ∧ (7 : Word).toInt = -1) ∧ (-1 : Word).toInt < 0 ∧ 0 ≤ (0 : Word).toInt ∧
    0 < (1 : Word).toInt := by
  decide +kernel

/-- A long operation of context 83 in slot `i`, whose destination is written. -/
def lop (i : Nat) : Lop :=
  { slot := i, cid := 83, w := 0, a := 6, b := 2, lo := 3, hi := 0, rd := 4, pair := true, dueLo := true, dueHi := true, sets := 0, written := true, step := 1 }

theorem witness_LongOperation :
    (let w := word 0o150 (fields 4 2 3)
     let busy := (at_ w two).modUnit 5 (fun x => { x with lops := [lop 0, lop 1, lop 2, lop 3] })
     ready w (at_ w two) (fun o _ => o.mn.isLong && decide (lopsOf 83 (opened 83 (at_ w two)) < 4)) = true ∧
     ready w busy (fun o _ => o.mn.isLong && decide (4 ≤ lopsOf 83 (opened 83 busy))) = true ∧
     (busy.unit 5).lops.find? (fun l => l.slot == 3) = some (lop 3) ∧ statusCode 0 (busy.ctx 83).trapEn = 0 ∧ (lop 3).written = true ∧
     busy.raised = [] ∧ busy.contain.entered = false ∧
     (let t := (at_ w two).modUnit 5 (fun x => { x with lops := [{ lop 2 with sets := 2 }] })
      (t.unit 5).lops.find? (fun l => l.slot == 2) = some { lop 2 with sets := 2 } ∧ statusCode 2 7 ≠ 0 ∧
      issueHeld 5 { t.ctx 83 with trapEn := 7 } t = false ∧ t.raised = [] ∧ t.contain.entered = false)) := by
  decide +kernel

/-- A word in granule `g` of the memories, at place `i` of it. -/
def isMem (p : Place) (g i : Nat) : Bool := match p with | .mem g' i' => g' == g && i' == i | _ => false

theorem witness_LocalAccess : ∀ e ∈ [(0o100, 5), (0o101, 4 * 5 + 3), (0o102, 4 * 5), (0o104, 5), (0o103, 1), (0o103, 0), (0o110, 5), (0o111, 4 * 5 + 3), (0o112, 1), (0o112, 0)],
    (let w := word e.1 (fields 4 2 0 + e.2)
     let o := opOf w
     ready w (at_ w two) (fun o g => match placeOf 0 (o.ea g) with | .mem gr i => gr / 32768 == 0 && decide (i < 7) | _ => false) = true ∧
     (o.mn.isLoad = true ∨ o.mn.isStore = true)) := by
  decide +kernel

theorem witness_LocalAccess_pairs : isMem (placeOf 0 6) 0 6 = true ∧ isLocal 0 7 = true ∧ isMem (placeOf 0 5) 0 5 = true ∧ isMem (placeOf 0 (5 + 1)) 0 6 = true ∧
    isMem (placeOf 0 7) 1 0 = true := by
  decide +kernel

/-- A load of and a store to a word of cluster 1, and their arrivals. -/
theorem witness_RemoteAccess :
    (let g : List (Nat × Word) := [(2, 0x01040000)]
     let r : RLoad := { ea := 0x01040007, rd := 4, how := 0, n := 0, op := 64, errs := 0 }
     let p : Posted := { cid := 83, ea := 0x01040007, val := 5, nib := 4, step := 1, pb := false }
     let s := (at_ 0 []).modCtx 83 (fun x => { x with rload := some r, wait := .remoteLoad })
     ([word 0o100 (fields 4 2 0), word 0o110 (fields 4 2 0)].all (fun w =>
       ready w (at_ w g) (fun o f => !isLocal 0 (o.ea f) && (accessFault 0 o.mn (o.ea f)).isNone)) = true) ∧
     (s.ctx 83).rload = some r ∧ s.posted = [] ∧ r.rd ≠ 0 ∧ r.errs = 0 ∧ p.pb = false ∧ placeOpen 83 (.mem 32769 0) s = true ∧ bankBusy 32769 s = false ∧ isMem (placeOf 0 r.ea) 32769 0 = true ∧ granOn 32769 s = true ∧
     (readGran 32769 (s.modCtx 83 (fun x => { x with rload := none, wait := .none }))).pb = false ∧ imemTarget p = none ∧
     isMem (placeOf 0 p.ea) 32769 0 = true) := by
  decide +kernel

theorem witness_BranchWord : [word 0o120 16, word 0o121 (2 ^ 24 - 1), word 0o122 (fields 0 2 0), word 0o123 (fields 0 2 0), word 0o124 0, word 0o125 (fields 2 0 0)].all (fun w =>
    ready w (at_ w two) (fun o _ => o.mn == .br || o.mn == .call || o.mn == .jr || o.mn == .callr || o.mn == .ret || o.mn == .dbnz)) = true := by
  decide +kernel

theorem witness_StepOfAWord :
    (let s := at_ 0 []
     let t := s.modCtx 83 (fun x => { x with targets := [(1, 0x200), (2, 0x300)] })
     (s.ctx 83).st = .running ∧ (s.unit (unitOf 83)).run = some (83 % 16) ∧ (t.ctx 83).targets = [(1, 0x200), (2, 0x300)] ∧ (s.ctx 83).targets = []) := by
  decide +kernel

theorem witness_RegistersAndDistance : (31 : Nat) ≠ 0 ∧ ({ Ctx.init with pend := [{ dst := .g 31, val := 5, due := 7 }] } : Ctx).pend = [{ dst := .g 31, val := 5, due := 7 }] := by
  decide +kernel

/-- ARM and ARMI of a timebase that stands; DLINE; DISARM of a deadline and of a held trigger. -/
theorem witness_TriggerWord :
    ([word 0o126 (fields 4 2 0), word 0o127 (fields 4 2 0), word 0o130 (fields 4 2 0)].all (fun w =>
      ready w (at_ w two) (fun _ _ => !((after w (at_ w two)).heap 83).bad && ((after w (at_ w two)).heap 83).ang == .disarmed &&
        classOf 0 (distance 0 5 (after w (at_ w two))) (after w (at_ w two)) != .passed)) = true) ∧
    (let w := word 0o131 2
     let s := (at_ w two).setHeap 83 { Heap.init with dl := some 9 }
     ready w s (fun o _ => o.imm % 4 == 2 && ((after w s).heap 83).dl.isSome) = true) ∧
    (let w := word 0o131 1
     let s := (at_ w two).setHeap 83 { Heap.init with ang := .held }
     ready w s (fun o _ => o.imm % 4 == 1 && ((after w s).heap 83).ang == .held) = true) := by
  decide +kernel

/-- The queue operations on a queue with words, on an empty one, and on one with a mark. -/
theorem witness_QueueWord :
    (∀ e ∈ [(word 0o160 (fields 0 2 0 + 1), 7, true), (word 0o160 (fields 0 2 0 + 33), 7, true), (word 0o161 (fields 4 0 0 + 2), 9, false), (word 0o162 (fields 4 0 0 + 2), 9, false),
        (word 0o163 (fields 4 0 0 + 1), 7, true), (word 0o163 (fields 4 0 0 + 2), 9, false), (word 0o164 1, 7, true), (word 0o164 2, 9, false), (word 0o165 2, 9, false),
        (word 0o166 (fields 4 0 0 + 2), 9, false)],
      ∀ x ∈ [full, Queue.init, { full with rdw := 1, mark := some 0 }], (let s := withQueues e.1 x
        ready e.1 s (fun o _ => (match portQueue 83 o (opened 83 s) with | .ok (q, p) => q == e.2.1 && p == e.2.2 | .error _ => false) &&
          !((after e.1 s).queue e.2.1).copyBad && canPushWord (opened 83 s) 7 && ((after e.1 s).queue 7).mark.isNone && !((after e.1 s).queue 7).cut) = true)) ∧
    full.front = some 11 ∧ Queue.init.front = none ∧
    (let s := (withQueues 0 full).modCtx 83 (fun x => { x with wait := .popw 0 0 9 4 })
     (s.unit (unitOf 83)).run = some (83 % 16) ∧ (s.unit (unitOf 83)).disp = none ∧ (s.ctx 83).wait = .popw 0 0 9 4 ∧ (s.queue 9).copyBad = false ∧
     (s.queue 9).front = some 11 ∧ s.raised = [] ∧ s.contain.entered = false) := by
  decide +kernel

theorem witness_OwnControlRegisters : [word 0o170 (fields 4 0 0), word 0o170 (fields 4 0 0 + 14), word 0o171 (fields 0 2 0 + 1), word 0o171 (fields 0 2 0 + 14)].all (fun w =>
    ready w (at_ w two) (fun o _ => decide (o.imm < 16) && (o.mn == .mfc || o.mn == .mtc))) = true := by
  decide +kernel

theorem witness_OrderingWord : [word 0o172 0, word 0o172 1, word 0o172 2, word 0o172 3].all (fun w =>
    ready w (at_ w two) (fun o _ => o.mn == .sync || o.mn == .syncI || o.mn == .fence || o.mn == .waitl)) = true := by
  decide +kernel

theorem witness_EndingWord :
    (let w := word 0o172 4
     let t := after w (at_ w two)
     ready w (at_ w two) (fun o _ => o.mn == .yield) = true ∧ lopsOf 83 (opened 83 (at_ w two)) = 0 ∧ (t.ctx 83).handlerHeld = false ∧ (t.heap 83).bad = false ∧
     (t.heap 83).dl = none ∧ (t.heap 83).deferred = false ∧ (t.ctx 83).entry.isSome = true) ∧
    (let w := word 0o173 (fields 4 2 0 + 1)
     ready w (at_ w two) (fun o _ => o.mn == .sleep) = true) ∧
    (let w := word 0o174 5
     ready w (at_ w two) (fun o _ => o.mn == .trap) = true ∧ isHeld (opened 83 (at_ w two)) 83 = false ∧ rdB F.sctx_CFG_HV 83 (opened 83 (at_ w two)) = false) := by
  decide +kernel

/-- Opcode 31 is undefined; a load of a word that no memory holds; a running context that nothing holds. -/
theorem witness_PreciseTraps :
    (let w := word 31 0
     let s := at_ w two
     decodeFj w 3 = .error { reason := 1, slot := 0, detail := 31 } ∧ (match nextWord 83 s with | .word v none => v == w | _ => false) = true ∧
     (s.unit 5).run = some 3 ∧ (s.unit 5).disp = none ∧ (s.ctx 83).wait.atIssue = true ∧ (s.ctx 83).traps = [] ∧ isHeld s 83 = false ∧
     (s.unit (unitOf 83)).run = some (83 % 16) ∧ (s.ctx 83).st = .running ∧ rdB F.sctx_CFG_HV 83 s = false) ∧
    (let w := word 0o100 (fields 4 2 0)
     let s := at_ w [(2, 0x04000000)]
     ready w s (fun o g => o.mn.isLoad && (accessFault 0 o.mn (o.ea g) == some (1, 0x04000000))) = true) := by
  decide +kernel

/-! ### Words written out bit by bit: K4 or P, C, opcode, rd, rs1, rs2, func (Tables EN-7 to EN-14) -/

theorem test_decode_add : decodeFj 0b0_0000_0000000_00001_00010_00011_000000000 3 =
    .ok (.one 0 { mn := .add, short := false, code := 0, rd := 1, rs1 := 2, rs2 := 3, func := 0, imm := 1536 }) := by decide +kernel

theorem test_decode_sraq : decodeFj 0b1_1011_1_10100_00111_10101_11111_00000_00000 3 =
    .ok (.two 11 true { mn := .sraq, short := true, code := 20, rd := 7, rs1 := 7, rs2 := 21, func := 0, imm := 21 }
      { mn := .nop, short := true, code := 31, rd := 0, rs1 := 0, rs2 := 0, func := 0, imm := 0 }) := by decide +kernel

theorem test_decode_mac : decodeFj 0b0_0000_1100100_00000_00010_00011_000001101 3 =
    .ok (.one 0 { mn := .macz, short := false, code := 100, rd := 0, rs1 := 2, rs2 := 3, func := 13, imm := 1549 }) := by decide +kernel

theorem test_decode_div : decodeFj 0b0_0000_1101000_00100_00010_00011_000000000 3 =
    .ok (.one 0 { mn := .div, short := false, code := 104, rd := 4, rs1 := 2, rs2 := 3, func := 0, imm := 1536 }) := by decide +kernel

theorem test_decode_div_odd : decodeFj 0b0_0000_1101000_00101_00010_00011_000000000 3 = .error { reason := 5, slot := 0, detail := 104 } := by decide +kernel

theorem test_decode_ld : decodeFj 0b0_0000_1000000_00100_00010_11111111111111 3 =
    .ok (.one 0 { mn := .ld, short := false, code := 64, rd := 4, rs1 := 2, rs2 := 31, func := 511, imm := 16383 }) := by decide +kernel

theorem test_decode_br : decodeFj 0b0_0000_1010000_111111111111111111111111 3 =
    .ok (.one 0 { mn := .br, short := false, code := 80, rd := 31, rs1 := 31, rs2 := 31, func := 511, imm := 16777215 }) := by decide +kernel

theorem test_decode_arm : decodeFj 0b0_0000_1010110_00100_00010_00000000000101 3 =
    .ok (.one 0 { mn := .arm, short := false, code := 86, rd := 4, rs1 := 2, rs2 := 0, func := 5, imm := 5 }) := by decide +kernel

theorem test_decode_push : decodeFj 0b0_0000_1110000_00000_00010_00000000_1_00011 3 =
    .ok (.one 0 { mn := .push, short := false, code := 112, rd := 0, rs1 := 2, rs2 := 0, func := 35, imm := 35 }) := by decide +kernel

theorem test_decode_yield : decodeFj 0b0_0000_1111010_00000_00000_00000_000000100 3 =
    .ok (.one 0 { mn := .yield, short := false, code := 122, rd := 0, rs1 := 0, rs2 := 0, func := 4, imm := 4 }) := by decide +kernel

/-- Two queue operations in one pair (reason 7); short opcode o36 (reason 2); SLEEP of mode 4 (reason 3). -/
theorem test_decode_refused : decodeFj 0b1_0000_1_11100_00000_00001_11101_00010_00000 3 = .error { reason := 7, slot := 0, detail := 28 } ∧
    decodeFj 0b1_0000_1_00000_00000_00000_11110_00000_00000 3 = .error { reason := 2, slot := 1, detail := 30 } ∧
    decodeFj 0b0_0000_1111011_00100_00000_00000000000100 3 = .error { reason := 3, slot := 0, detail := 123 } := by decide +kernel

/-- No row of the table has bits. -/
theorem test_no_table_word : decodeTableWord 36 0 = none ∧ (up.withFetchWord 36 0).pending = [] := by decide +kernel

/-! ### Well-formedness: one ill-formed command for each check -/

theorem test_wf : [Instr.add 256 0, .btbFlush 256, .longOpComplete 0 4, .remoteLoadComplete 4096, .fetchGranuleArrive 0 65536, .dispatchAccept 0 7,
    .containHalt 1 32 0, .containHalt 1 0 4, .containResume 3 2, .recoveryWindowExpire 0 4096, .tripleApply 64, .timeFRead 4097, .strobe 12 1, .stuck 96 [],
    .groupRestart 0x6201 0, .comparatorCrossing 48 0, .encoderIndex 16, .memRd 8, .edgeT 8192, .edgePlace 128, .handover 64, .fltNFall 8, .tripClear 4,
    .scrubRead 65, .tagWr 32 0, .crossingAcknowledge 1 9, .dmaGo 64 0, .dmaCqHeadWrite 8 0, .qPushTimeout 9, .linkFlitSend 6, .queuePacket 0 4 [],
    .peerFenceRelease 32 0, .agentGrant 50, .avsTimeout 2 0, .tempSensorUpdate 11 0, .tempSensorUpdate 0 4096, .routerFault 8, .clusterPower 0 3, .resetNRise 8,
    .jasperConversion 4096, .jasperRuleWrite 64 false 0, .registerWrite 0x200000 0, .bridgeFault 2, .bitError 0 3162112 1, .bitError 6 64 1, .bitError 10 0 1,
    .barAccessViolation 1].all (fun i => !i.wf) = true := by decide +kernel

/-- The same at the edges of the ranges, which are well formed. -/
theorem test_wf_edges : [Instr.add 255 0, .longOpComplete 255 3, .dispatchAccept 0 6, .containHalt 3 1 3, .recoveryWindowExpire 0 4095, .timeFRead 4096, .groupRestart 0x6258 0,
    .groupRestart 0x66F8 0, .crossingAcknowledge 0 9, .qPushTimeout 8, .clusterPower 31 2, .registerWrite 0x1FFFFF 0, .bitError 0 3162111 1,
    .barAccessViolation 2].all (fun i => i.wf) = true := by decide +kernel

/-- An ill-formed command is a fault, by name. -/
theorem test_ill_formed : (match exec (.add 256 0) up with | .fault .noSuchInstance => true | _ => false) = true := by decide +kernel

/-! ### Small steps, with results computed by hand -/

/-- What a single word leaves in register `r` of context 83 once it is committed, and its sticky bits. -/
def result (w : Word) (r : Nat) (s : State) : Option (Word × Nat) :=
  match exec (wordRow (opOf w).mn 5 w) s with
  | .next t => some (((t.ctx 83).commit 99).getG r, (t.ctx 83).sticky)
  | _ => none

/-- 5 − (−3) = 8; the largest number plus 5, wrapped and clipped, the latter with SAT. -/
theorem test_add : result (word 1 (fields 1 2 3)) 1 (at_ (word 1 (fields 1 2 3)) two) = some (8, 0) ∧
    result (word 0 (fields 1 2 3)) 1 (at_ (word 0 (fields 1 2 3)) [(2, 5), (3, 2 ^ 35 - 1)]) = some (2 ^ 35 + 4, 0) ∧
    result (word 2 (fields 1 2 3)) 1 (at_ (word 2 (fields 1 2 3)) [(2, 5), (3, 2 ^ 35 - 1)]) = some (2 ^ 35 - 1, 4) := by decide +kernel

/-- A source that is also the destination; a write of g0. -/
theorem test_same_register : result (word 0 (fields 2 2 2)) 2 (at_ (word 0 (fields 2 2 2)) two) = some (10, 0) ∧
    result (word 0 (fields 0 2 2)) 0 (at_ (word 0 (fields 0 2 2)) two) = some (0, 0) := by decide +kernel

/-- −3 < 5 signed, not unsigned. -/
theorem test_compare : result (word 0o26 (fields 1 3 2)) 1 (at_ (word 0o26 (fields 1 3 2)) two) = some (1, 0) ∧
    result (word 0o30 (fields 1 3 2)) 1 (at_ (word 0o30 (fields 1 3 2)) two) = some (0, 0) := by decide +kernel

/-- −3 shifted right by 1: −2 arithmetically; by 127: −1, and 0 logically. -/
theorem test_shift : result (word 0o51 (fields 1 3 0 + 1)) 1 (at_ (word 0o51 (fields 1 3 0 + 1)) two) = some (BitVec.ofInt 36 (-2), 0) ∧
    result (word 0o51 (fields 1 3 0 + 127)) 1 (at_ (word 0o51 (fields 1 3 0 + 127)) two) = some (-1, 0) ∧
    result (word 0o50 (fields 1 3 0 + 127)) 1 (at_ (word 0o50 (fields 1 3 0 + 127)) two) = some (0, 0) := by decide +kernel

/-- MULQ of −1 by −1 (in 1.35 format) clips. -/
theorem test_mulq : result (word 0o143 (fields 1 2 2)) 1 (at_ (word 0o143 (fields 1 2 2)) [(2, 2 ^ 35)]) = some (2 ^ 35 - 1, 4) := by decide +kernel

/-- √0.25 = 0.5; 1/√… of 0; −7 / 2 = −3 with remainder −1 (Table OP-6). -/
theorem test_long : longResult .sqrt (2 ^ 33) 0 = { lo := 2 ^ 34, hi := 0, sets := 0 } ∧ longResult .rsqrt 0 0 = { lo := -1, hi := 0, sets := 2 } ∧
    longResult .div (BitVec.ofInt 36 (-7)) 2 = { lo := BitVec.ofInt 36 (-3), hi := -1, sets := 0 } := by decide +kernel

/-- A store to word 5 and what it leaves of the granule; the step goes to the next word. -/
theorem test_store : (match exec (.st 5 (word 0o110 (fields 3 0 0 + 5))) (at_ (word 0o110 (fields 3 0 0 + 5)) two) with
    | .next t => granWord (t.granBits 0) 5 == BitVec.ofInt 36 (-3) && granWord (t.granBits 0) 4 == 0 && (t.ctx 83).pc == BitVec.ofNat 32 (codeBase 0) + 1
    | _ => false) = true := by decide +kernel

/-- A trap: the context is HALTED at the word, with cause 5, PREC, the count 1 and its operand in FRC. -/
theorem test_trap : (match exec (.trap 5 (word 0o174 9)) (at_ (word 0o174 9) two) with
    | .next t => decide ((t.ctx 83).st = .halted) && (t.ctx 83).frc == 5 * 2 ^ 28 + 2 ^ 27 + 2 ^ 24 + 9 && (t.unit 5).run.isNone
    | _ => false) = true := by decide +kernel

/-- The code: one flipped bit is corrected. -/
theorem test_code : decodeCode 7 false (2 ^ 19) = (.one, 7, false, 1) := by decide +kernel

/-! ### Units, contexts, containment and the scheduler -/

theorem witness_UnitControl :
    (let s := ((at_ 0 []).modUnit 5 (fun x => { x with freq := [(2, none, 0)] })).modCtx 84 (fun x => { x with st := .halted })
     domOn (5 / 8) s = true ∧ s.posted = [] ∧ s.program = [] ∧ (∀ v, v < 8 → v ≠ 5 → (s.unit v).freq = []) ∧ (s.unit 5).freq = [(2, none, 0)] ∧ (s.unit 5).btbWait = [] ∧ (s.unit 5).disp = none ∧ (s.unit 5).run = some 3 ∧
     (s.ctx 83).targets = [] ∧ codeGran (5 / 8) (s.ctx 83).pc = some 0 ∧ domOn (clusterOf 84) s = true ∧ (0xFFFFFFF : Word).toNat / 2 ^ 28 = 0 ∧
     (s.ctx 84).st = .halted ∧ isHeld s 84 = false ∧ (s.ctx 84).handlerHeld = false ∧ (s.ctx 85).st = .idle ∧
     codeGran (clusterOf 85) ((BitVec.ofNat 36 (codeBase 0 + 0x6FFFF)).setWidth 32) = some 65535 ∧
     queuesWith s 1 (fun kind inst => kind = 1 ∧ inst / 32 = 85) = []) := by
  decide +kernel

/-- Of three contexts that wait, the one of the higher priority; of two equal ones the older. -/
def waiting : State :=
  (((up.setCtx 80 { Ctx.init with st := .ready, pri := 1, age := 5 }).setCtx 81 { Ctx.init with st := .preempted, pri := 1, age := 4 }).setCtx 95
    { Ctx.init with st := .ready, pri := 0, age := 1 })

theorem witness_SelectionOrder : selectCtx 5 waiting = some 81 ∧ selectCtx 6 waiting = none := by decide +kernel

theorem witness_DispatchRows :
    (let r := reqOf 83 1 up
     let s : State := { up with reqs := [r] }
     let t := up.setCtx 83 { Ctx.init with st := .ready, req := some r }
     r.cid < 4096 ∧ dispatchHeld (clusterOf r.cid) s = false ∧ s.reqs = r :: [] ∧ (s.ctx r.cid).st = .idle ∧ dispatchHeld (5 / 8) t = false ∧
     (t.unit 5).run = none ∧ (t.unit 5).disp = none ∧ selectCtx 5 t = some (16 * 5 + 3) ∧ (t.ctx (16 * 5 + 3)).req = some r) := by
  decide +kernel

/-- A cluster, a region and a die; a context within and one outside. -/
theorem witness_ContainmentHalts : (∀ e ∈ [(1, 31), (2, 7), (3, 1)], containAt e.1 e.2 = true ∧ blkOn (containBlk e.1) e.2 up = true) ∧ modeOf up ≠ 0 ∧
    (({ lvl := 1, i := 0 } : Scope).covers 83 = true) ∧ (({ lvl := 1, i := 0 } : Scope).covers 128 = false) ∧ ((at_ 0 []).ctx 83).st ≠ .unbound := by
  decide +kernel

/-- A fault of a context, of a cluster and of a region. -/
theorem witness_FaultRecords : [(0, 4095), (1, 31), (2, 7)].all (fun e =>
    let r : Raised := { scope := { lvl := e.1, i := e.2 }, cause := 17, notice := false, reason := 0, prec := false, slot := 0, detail := 5, pc := 0, addr := 0, word := 0 }
    !heldAbove r.scope up && !r.notice && !up.contain.windows.contains r.scope && decide (frqCount up < 32) && decide (r.scope.lvl ≤ 2) &&
      (decide (r.scope.lvl = 0) || containAt r.scope.lvl r.scope.i) && ordered up) = true := by
  decide +kernel

/-- Cluster 0 is held, with its window open and its context 83 HALTED. -/
def heldCluster : State :=
  { up with contain := { up.contain with held := [{ lvl := 1, i := 0 }], windows := [{ lvl := 1, i := 0 }] }, ctxs := [(83, { Ctx.init with st := .halted })] }

theorem witness_ContainmentReleases : containAt 1 0 = true ∧ blkOn (containBlk 1) 0 heldCluster = true ∧ modeOf heldCluster ≠ 0 ∧ ordered heldCluster = true ∧
    inSafe heldCluster = false ∧ heldCluster.contain.held = [{ lvl := 1, i := 0 }] ∧ (∀ d ∈ ({ lvl := 1, i := 0 } : Scope).clusters, domOn d heldCluster = true) ∧
    (∀ e ∈ heldCluster.heaps, e.2.reachedAt = none) ∧ ({ lvl := 1, i := 0 } : Scope).covers 83 = true ∧ (heldCluster.ctx 83).st = .halted ∧
    heldCluster.contain.windows.contains { lvl := 1, i := 0 } = true := by
  decide +kernel

theorem witness_ContainmentReleases_contexts (j : Nat) : (heldCluster.ctx j).restartDue = false ∧ (heldCluster.ctx j).handlerHeld = false := by
  unfold State.ctx heldCluster Sparse.get
  simp only [Sparse.get]
  split <;> decide

/-- Context 83's trigger of timebase 0 is at its target; its deadline is armed. -/
def armed : State :=
  State.setHeap 83 { Heap.init with ang := .predicted, dl := some 7 } { up with clock := { up.clock with dev := 2 ^ 33 } }

theorem witness_SchedulerRows : ordered armed = true ∧ (armed.ctx 83).st = .idle ∧
    (armed.reqs ++ (armed.xing (regionXing (regionOf 83))).held).any (fun r => r.cid = 83) = false ∧ (armed.xing (regionXing (regionOf 83))).reset = false ∧
    (armed.xing (regionXing (regionOf 83))).phase.contains 83 = false ∧ (armed.heap 83).bad = false ∧ (armed.heap 83).ang = .predicted ∧
    (armed.heap 83).reachedAt = none ∧ (armed.heap 83).revFlag = false ∧ (armed.heap 83).pred ≤ armed.clock.tick ∧ reached (armed.heap 83) armed = true ∧
    heapQuiet (regionOf 83) armed = false ∧ (∀ e ∈ armed.heaps, e.1 = 83 ∨ e.2.ang ≠ .predicted) ∧ blkOn .sctx 83 armed = true ∧ modeOf armed ≠ 0 ∧
    (armed.heap 83).dl = some 7 ∧ 7 ≤ armed.dev72 ∧ takenNow (regionOf 83) armed < 2 ∧ rd F.pwr_MODE 0 armed ≠ 1 ∧
    (let t := armed.setCtx 83 { Ctx.init with st := .preempted }
     (t.heap 83).bad = false ∧ (t.heap 83).dl = some 7 ∧ rd F.pwr_MODE 0 t ≠ 1 ∧ (t.ctx 83).st = .preempted) := by
  decide +kernel

/-! ### Timebases and device time -/

/-- `TbAlone` as a Boolean. -/
def alone (n : Nat) (s : State) : Bool :=
  (followers n s).isEmpty && !published n s && s.heaps.all (fun e => e.2.ang == .disarmed) && s.evPins.all (fun e => e.2.edges.isEmpty) && s.gens.isEmpty &&
  !rdB F.tb_CTL_NOBACK n s

theorem tbAlone_of {n : Nat} {s : State} (h : alone n s = true) : TbAlone n s := by
  simp only [alone, Bool.and_eq_true, List.isEmpty_iff, Bool.not_eq_true', List.all_eq_true, beq_iff_eq] at h
  obtain ⟨⟨⟨⟨⟨h1, h2⟩, h3⟩, h4⟩, h5⟩, h6⟩ := h
  exact ⟨h1, h2, h3, h4, h5, h6⟩

/-- Timebase `n` of kind `k`, enabled, in the given state. -/
def withTb (n k : Nat) (x : Tb) : State := State.setTb n x (wrAll n [(F.tb_SRC_KIND, k), (F.tb_CTL_EN, 1), (F.tb_SCALE, 4096)] { up with clock := { up.clock with tick := 50 } })

theorem witness_TimebaseUpdates :
    (let s := withTb 31 1 { Tb.init with st := .acquire, edges := 1, edgeCount := 3 }
     domOn 48 s = true ∧ ordered s = true ∧ tbKind 31 s = 1 ∧ (s.tb 31).st = .acquire ∧ (s.tb 31).edges ≠ 0 ∧ (s.tb 31).idx = none ∧ (s.tb 31).upd = none) ∧
    (let s := withTb 5 5 { Tb.init with st := .acquire }
     modeOf s ≠ 0 ∧ tbKind 5 s = 5 ∧ (s.tb 5).st = .acquire ∧ (s.tb 5).updT = none ∧ (s.tb 5).upd = none) ∧
    (∀ b : Bool, let q : Upd := { m := 2 ^ 30, t := 9, dev := 0, jump := 0, ord := 0 }
      let s := withTb 31 1 { Tb.init with st := .track, first := b, vset := true, tu := 8, upd := some q }
      ordered s = true ∧ alone 31 s = true ∧ (s.tb 31).upd = some q ∧ updateDue 31 q s = true ∧ q.jump = 0 ∧ (s.tb 31).first = b ∧ (s.tb 31).vset = true ∧ (s.tb 31).tu < q.t) := by
  decide +kernel

theorem witness_TimebaseChanges :
    (let s := withTb 31 1 { Tb.init with st := .track, v := -1000000000 }
     ordered s = true ∧ alone 31 s = true ∧ tbKind 31 s = 1 ∧ (s.tb 31).st = .track ∧ (s.tb 31).v ≠ 0 ∧ 0 < (s.clock.tick : Int) - (s.tb 31).edgeTick ∧
     3 * rd F.tb_SCALE 31 s * 1000000000 < 2 * 2 ^ 24 * (s.tb 31).v.natAbs * ((s.clock.tick : Int) - (s.tb 31).edgeTick).toNat ∧
     rd F.tb_CTL_LOSS_ACT 31 s = 0 ∧ rd F.tb_CTL_LOSS_ACT 31 (wr F.tb_CTL_LOSS_ACT 31 1 s) = 1 ∧ modeOf s ≠ 0 ∧ rdB F.tb_CTL_EN 31 s = true ∧
     kindAllowed 31 ((0x13 : Word).toNat % 16) ((0x13 : Word).toNat / 16 % 64) = true ∧ (0x13 : Word).toNat % 16 ≠ 0 ∧ (0x13 : Word).toNat % 16 ≠ 4) ∧
    (∀ x ∈ [TbState.track, .acquire, .stale], let s := withTb 31 1 { Tb.init with st := x }
     ordered s = true ∧ alone 31 s = true ∧ tbKind 31 s = 1 ∧ (s.tb 31).st = x) ∧
    rdB F.tb_CTL_EN 63 up = false := by
  decide +kernel

/-- PPS_IN enabled; a LOCKED unit; SET_NOW of the present source; PPS_OUT; a link of the time tree that is UP. -/
theorem witness_DeviceTimeRows :
    (let s := wrAll 0 [(F.tbu_PPS_CTL_IN_EN, 1), (F.tbu_PPS_CTL_OUT_EN, 1), (F.tbu_TIME_STAT_STATE, 2), (F.tbu_TIME_CTL_SRC, 1)] up
     domOn 48 s = true ∧ ordered s = true ∧ rdB F.tbu_PPS_CTL_IN_EN 0 s = true ∧ s.pps.lastEdge = none ∧ rd F.tbu_TIME_STAT_STATE 0 s = 2 ∧ modeOf s ≠ 0 ∧
     (9 : Word).toNat / 8 % 2 = 1 ∧ (9 : Word).toNat % 4 = rd F.tbu_TIME_CTL_SRC 0 s ∧ s.tbs = [] ∧ s.heaps = [] ∧ s.evPins = [] ∧
     rdB F.tbu_PPS_CTL_OUT_EN 0 s = true ∧ ((s.clock.dev % 2 ^ 65 : Nat) : Int) < rd F.tbu_TIME_INC 0 s + rdZ F.tbu_TIME_SLEW 0 s ∧
     0 ≤ s.devSince 0) ∧
    (let s := wr F.link_LINK_STAT_STATE 5 4 (wrAll 0 [(F.tbu_PUB_LO_MASK, 2 ^ 31), (F.qdl_DEV_ID_ASSIGNED, 1), (F.tbu_TIME_STAT_STATE, 2)]
       { up with qdl := { up.qdl with timeCfg := 2 ^ 9, sampleDue := true }, tbs := [(31, { Tb.init with held := true })] })
     published 31 s = true ∧ assigned s = true ∧ treeLinks s = [5] ∧ linkUp 5 s = true ∧ ordered s = true ∧ (s.tb 31).held = true ∧
     (s.tb 31).sentAt = none ∧ s.qdl.sampleDue = true ∧ s.timeF * 1000000 ≤ 2 ^ 36 ∧
     (∀ j, j < 6 → (s.qdl.timeCfg.toNat / 2 ^ (4 + j) % 2 = 1 ↔ j = 5)) ∧ rd F.tbu_TIME_CTL_SRC 0 s ≠ 2 ∧ rd F.tbu_TIME_STAT_STATE 0 s = 2) := by
  decide +kernel

/-! ### The measurement front -/

/-- `PlainGroup` and `OnlyChecks` as Booleans. -/
def plain (g : Nat) (s : State) : Bool :=
  decide (g < 12) && clocksOn s && grpRuns g s && ordered s && (s.grp g).held.isEmpty && (List.range 4).all (fun i => rd (streamF F.grp_STREAM_MODE i) g s == 0) &&
  rd F.mfr_EVT_CTL_EN 0 s == 0

theorem plainGroup_of {g : Nat} {s : State} (h : plain g s = true) : PlainGroup g s := by
  simp only [plain, Bool.and_eq_true, decide_eq_true_eq, List.isEmpty_iff, List.all_eq_true, List.mem_range, beq_iff_eq] at h
  obtain ⟨⟨⟨⟨⟨⟨h1, h2⟩, h3⟩, h4⟩, h5⟩, h6⟩, h7⟩ := h
  exact ⟨h1, h2, h3, inOrder_of h4, h5, h6, h7⟩

def checksOnly (g i j : Nat) (s : State) : Bool :=
  (List.range 8).all (fun k => (k == i || rd F.chan_CFG_STUCK (8 * g + k) s == 0) && (k == j || rd F.chan_CFG_FORDER (8 * g + k) s == 0))

theorem onlyChecks_of {g i j : Nat} {s : State} (h : checksOnly g i j s = true) : OnlyChecks g i j s := by
  simp only [checksOnly, List.all_eq_true, List.mem_range, Bool.and_eq_true, Bool.or_eq_true, beq_iff_eq] at h
  intro k hk
  obtain ⟨h1, h2⟩ := h k hk
  exact ⟨fun n => h1.resolve_left n, fun n => h2.resolve_left n⟩

/-- Group 11 runs with decimation by `m`, of order 1 in its channel 7, with the clock in its own mode or, with `c`, taken from outside. -/
def running (m : Nat) (c : Bool) (x : Grp) : State :=
  State.setGrp 11 x (wr F.chan_CFG_ORDER 95 1 (wrAll 11 [(F.grp_CTL_EN, 1), (F.grp_CTL_DEC, m), (F.grp_CTL_CLKMODE, if c then 1 else 0)] up))

theorem witness_FilterEdges :
    (let s := running 2 false { Grp.init with edges := 1 }
     plain 11 s = true ∧ checksOnly 11 8 8 s = true ∧ rdB F.grp_CTL_CLKMODE 11 s = false ∧ (s.grp 11).lost = false ∧ (s.grp 11).strobe = none ∧
     (∀ r, r < 8 → trkReads (8 + r) 11 s = false ∧ (s.trk r).due = none) ∧ rd F.grp_CTL_DEC 11 s ≠ 0 ∧ ((s.grp 11).edges + 1) % rd F.grp_CTL_DEC 11 s = 0 ∧
     (s.grp 11).edges < grpWarm 11 s ∧ grpWarm 11 s ≤ (s.grp 11).edges + 1 ∧ rd F.chan_CFG_ORDER 95 s ≠ 0) ∧
    (let s := running 2 false { Grp.init with edges := 2, strobe := some 0 }
     plain 11 s = true ∧ checksOnly 11 8 8 s = true ∧ (s.grp 11).strobe = some 0 ∧ 0 ≤ s.clock.tick ∧ (∀ r, r < 8 → (s.trk r).due = none) ∧ (s.grp 11).lateStrobe = false ∧
     ((s.grp 11).edges + 1) % rd F.grp_CTL_DEC 11 s ≠ 0 ∧ grpWarm 11 s < (s.grp 11).edges + 1) ∧
    (1 * 2 ≤ [(1 : Int), 1].length ∧ ∀ x ∈ [(1 : Int), 1], x = 1) := by
  decide +kernel

theorem witness_GroupStates :
    (let s := State.setChan 95 { Chan.init with run := 16, bit := true } (wr F.chan_CFG_STUCK 95 1 (running 2 false { Grp.init with edges := 2 }))
     plain 11 s = true ∧ checksOnly 11 7 8 s = true ∧ ((s.grp 11).edges + 1) % rd F.grp_CTL_DEC 11 s ≠ 0 ∧ rd F.chan_CFG_STUCK 95 s = 1 ∧ s.trks = [] ∧
     (s.chan 95).run = 1 * 16 ∧ (s.chan 95).bit = (0x80 : BitVec 8).getLsbD 7 ∧ (s.chan 95).told = false) ∧
    (let s := wrAll 95 [(F.chan_CFG_FORDER, 1), (F.chan_CFG_FDEC, 1), (F.chan_CFG_QUAL, 1)] (running 2 false { Grp.init with edges := 2 })
     plain 11 s = true ∧ checksOnly 11 8 7 s = true ∧ rd F.chan_CFG_FORDER 95 s ≠ 0 ∧ s.trks = [] ∧ (s.chan 95).out = 0 ∧ qualOf 95 s ≤ min ((s.chan 95).qual + 1) 16 ∧
     grpWarm 11 s ≤ (s.grp 11).edges + 1 ∧ (∀ k, k < 4 → srcEnabled k 3 95 s = false) ∧ rdZ F.chan_WIN_HI 95 s < sincRaw 1 1 [1]) ∧
    (let s := running 2 true Grp.init
     plain 11 s = true ∧ rdB F.grp_CTL_CLKMODE 11 s = true ∧ (s.grp 11).lost = false) ∧
    (let s := running 2 true { Grp.init with lost := true }
     plain 11 s = true ∧ rdB F.grp_CTL_CLKMODE 11 s = true ∧ s.trks = [] ∧ (s.grp 11).lost = true ∧ (s.grp 11).strobe = none ∧ checksOnly 11 8 8 s = true ∧ rd F.grp_CTL_DEC 11 s ≠ 1) ∧
    (domOn (grpDomain 11) up = true ∧ modeOf up ≠ 0 ∧ rdB F.grp_CTL_EN 11 up = false ∧ (1 : Word).toNat % 2 = 1) := by
  decide +kernel

theorem witness_Strobes :
    (let s := wrAll 11 [(F.grp_STRB_CTL_EN, 1), (F.grp_STRB_CTL_PER, 9)] (running 2 false { Grp.init with at_ := some (BitVec.ofInt 36 (-9)) })
     clocksOn s = true ∧ grpRuns 11 s = true ∧ rdB F.grp_STRB_CTL_EN 11 s = true ∧ rd F.grp_STRB_CTL_PER 11 s ≠ 0 ∧ (s.grp 11).quiet = none ∧
     (s.grp 11).at_ = some (BitVec.ofInt 36 (-9)) ∧ tbPub (rd F.grp_STRB_PH_TB 11 s) s = 0 ∧
     ((List.range 9).countP (fun j => (((BitVec.ofInt 36 (-9) : Word).toNat : Int) + ((j : Int) + 1) - rd F.grp_STRB_PH_PHASE 11 s) % 2 ^ 24
       % rd F.grp_STRB_CTL_PER 11 s = 0)) = 2 ∧
     (let t : State := { s with clock := { s.clock with tick := 1 } }.setGrp 11 { s.grp 11 with quiet := some (0, none) }
      (t.grp 11).quiet = some (0, none) ∧ 0 + 1 = t.clock.tick) ∧
     (s.grp 11).strobe = none ∧ domOn 48 s = true ∧ modeOf s ≠ 0 ∧ domOn (grpDomain 11) s = true ∧
     ((s.setGrp 11 { Grp.init with strobe := some 3 }).grp 11).strobe.isSome = true) ∧
    (let s := wrAll 11 [(F.grp_STREAM_MODE, 1), (F.grp_STREAM_CHMASK, 128), (F.grp_STREAM_STAMP, 1)]
       (wrAll 7 [(F.desc_CAP, 4), (F.desc_PROD_KIND, 2), (F.desc_PROD_INST, 44)] (running 2 false { Grp.init with edges := 2 }))
     ordered s = true ∧ grpRuns 11 s = true ∧ (s.grp 11).lost = false ∧ grpWarm 11 s ≤ (s.grp 11).edges ∧ (s.grp 11).held = [] ∧ (s.grp 11).skip = [] ∧
     (s.grp 11).repl = [] ∧ streamQueue 11 0 s = some 7 ∧ rdB (streamF F.grp_STREAM_STAMP 0) 11 s = true ∧ rdB (streamF F.grp_STREAM_STATUS 0) 11 s = false ∧
     canPushItem 7 2 s = true) := by
  decide +kernel

theorem witness_ComparatorsAndEncoders :
    (let s := wrAll 47 [(F.comp_CTL_EN_HI, 1), (F.comp_CTL_HI, 3)] up
     domOn (compDomain 47) s = true ∧ rd F.mfr_EVT_CTL_EN 0 s = 0 ∧ (∀ b, b < 4 → srcEnabled b 1 47 s = false) ∧ rdB F.comp_CTL_EN_HI 47 s = true ∧
     rdB F.comp_CTL_EN_LO 47 s = false ∧ (s.comp 47).hi = false ∧ (s.comp 47).lo = false ∧ ordered s = true ∧
     ((rd F.comp_CTL_HI 47 s : Int) + 1) * 1890000000 / 1024 + 5000000 < 1000 * (1800000 : Nat) ∧ modeOf s ≠ 0 ∧ (5 : Word).toNat / 2 ^ 22 % 4 = 0) ∧
    (let s := wrAll 15 [(F.enc_CTL_MODE, 1), (F.enc_CTL_FILT, 4)] up
     clocksOn s = true ∧ modeOf s ≠ 0 ∧ domOn (encDomain 15) s = true ∧ rd F.mfr_EVT_CTL_EN 0 s = 0 ∧ s.tbs = [] ∧ rd F.enc_CTL_MODE 15 s = 1 ∧
     rdB F.enc_CTL_SWAP 15 s = false ∧ rdB F.enc_CTL_IDXQ 15 s = false ∧ rd F.enc_CTL_FILT 15 s ≠ 0 ∧ (s.enc 15).a = false ∧ (s.enc 15).b = false) := by
  decide +kernel

theorem witness_ResolverTracker :
    (let s := State.setTrk 7 { seen := true, pos := none, due := some (0, true) } (State.setGen 63 { Gen.init with run := true } (wrAll 7 [(F.rt_CTL_EN, 1), (F.rt_CTL_GROUP, 11), (F.rt_CTL_EXC_CG, 63)]
       (running 2 false { Grp.init with edges := 2 })))
     plain 11 s = true ∧ checksOnly 11 8 8 s = true ∧ trkReads 7 11 s = true ∧ ((s.grp 11).edges + 1) % rd F.grp_CTL_DEC 11 s ≠ 0 ∧
     grpWarm 11 s ≤ (s.grp 11).edges + 1 ∧ s.tbs = [] ∧ (s.gen (rd F.rt_CTL_EXC_CG 7 s)).run = true ∧ (s.gen (rd F.rt_CTL_EXC_CG 7 s)).wait = false ∧
     rdB F.grp_CTL_CLKMODE 11 s = false ∧ (s.grp 11).lost = false ∧ (s.grp 11).strobe = none ∧ (s.trk 7).due = some (0, true) ∧ 0 ≤ s.clock.tick ∧
     (∀ k, k < 8 → k ≠ 7 → (s.trk k).due = none) ∧
     (s.trk 7).seen = true) := by
  decide +kernel

/-! ### Event outputs and Reel -/

/-- A command queue of die W whose head is one item. -/
def withItem (ws : List Word) (s : State) : State :=
  State.setQueue 8191 { Queue.init with cells := [{ ws := ws, e := true, closed := true, pb := false, err := 0, checked := true, orig := none }] }
    (wrAll 8191 [(F.desc_CAP, 4), (F.desc_CONS, 4 * 2 ^ 17)] s)

/-- Pin 127, an EDGE pin or a CARRIER pin; timebase 63 moves. -/
def pin127 (mode : Nat) : State :=
  State.setTb 63 { Tb.init with st := .track, v := 1000, d := 17, vset := true } (wr F.pin_PIN_CTL_MODE 127 mode (wr F.gen_PER_SH_VAL 63 600 up))

theorem witness_CommandItems :
    (let h : Word := BitVec.ofNat 36 (2 ^ 32 + 127 * 2 ^ 25 + 2 ^ 22)
     let s (t : Word) := withItem [h, 0, t] (pin127 2)
     let e (t : Word) : Edge := { at_ := 0, den := 1, dev := some t.toNat, ang := none, level := 1, lock := false, held := false }
     [3, 2 ^ 30].all (fun t => isCommandQueue 8191 (s t) && clocksOn (s t) && consPath (s t) 8191 && !((s t).queue 8191).copyBad &&
       (headItem 8191 (s t) == some [h, 0, t]) && edgeItemOk 8191 h 3 (s t) && decide (((s t).evPin 127).edges.length < 8) &&
       (let popped := (popItem 8191 3 (s t)).2
        (lastEdge 127 popped).isNone && (t == 3) == decide ((edgeTime (e t) popped).1 < (popped.now8 + 128) * (edgeTime (e t) popped).2) &&
        !rdB F.pin_PIN_CTL_EDGE_LATE 127 (bump F.pin_PIN_STAT_LATE 127 popped) &&
        rdB F.pin_PIN_CTL_EDGE_LATE 127 (bump F.pin_PIN_STAT_LATE 127 (popItem 8191 3 (wr F.pin_PIN_CTL_EDGE_LATE 127 1 (s t))).2))) = true) ∧
    (let h : Word := BitVec.ofNat 36 (2 * 2 ^ 32 + 127 * 2 ^ 25 + 63 * 2 ^ 16)
     let s := withItem [h, 9] (pin127 2)
     headItem 8191 s = some [h, 9] ∧ edgeItemOk 8191 h 2 s = true ∧ (s.tb 63).v > 0 ∧ 0 < (s.tb 63).d ∧ 0 < ((9 : Word) - tbPub 63 s).toInt ∧
     (let popped := (popItem 8191 2 s).2
      (popped.tb 63).v > 0 ∧ 0 < (popped.tb 63).d ∧ 0 < ((9 : Word) - tbPub 63 popped).toInt ∧
      0 < signedMod 60 (((9 : Word).toNat : Int) * 2 ^ 24 - tbPos 63 popped) ∧ lastEdge 127 popped = none)) ∧
    (let h : Word := BitVec.ofNat 36 (3 * 2 ^ 32 + 127 * 2 ^ 25 + 2 ^ 24)
     headItem 8191 (withItem [h, 2 ^ 24] (pin127 3)) = some [h, 2 ^ 24] ∧ cmpItemOk 8191 [h, 2 ^ 24] (withItem [h, 2 ^ 24] (pin127 3)) = true) ∧
    (let h : Word := BitVec.ofNat 36 (4 * 2 ^ 32 + 63 * 2 ^ 25)
     headItem 8191 (withItem [h, 512] (pin127 3)) = some [h, 512] ∧ cgsetItemOk 8191 [h, 512] (withItem [h, 512] (pin127 3)) = true ∧
     domOn (bankDomain (63 / 16)) (popItem 8191 2 (withItem [h, 512] (pin127 3))).2 = true) ∧
    headItem 8191 (withItem [5 * 2 ^ 32] up) = some [5 * 2 ^ 32] := by
  decide +kernel

theorem witness_PinRows :
    (let e : Edge := { at_ := 0, den := 1, dev := none, ang := none, level := 2, lock := true, held := false }
     let s := (pin127 2).setEvPin 127 { Pin.init with edges := [e] }
     ordered s = true ∧ clocksOn s = true ∧ domOn (bankDomain (127 / 32)) s = true ∧ oddOfPair 127 s = false ∧ evenOfPair 127 s = false ∧
     edgeAt e s ≤ s.now8 + 7 ∧ rd F.pin_PIN_CTL_MODE 127 s = 2 ∧ (s.evPin 127).safe = false ∧ (s.evPin 127).delay = none ∧ edgeAt e s ≤ s.now8 + 512 ∧
     ({ e with ang := some (63, 9, 9) } : Edge).ang.isSome = true) ∧
    (let s := (pin127 3).setEvPin 127 { Pin.init with follow := true, locks := [(7, true)] }
     rd F.pin_PIN_CTL_MODE 127 s = 3 ∧ (s.evPin 127).follow = true ∧ (s.evPin 127).locks = [(7, true)] ∧ 7 ≤ s.now8 + 7 ∧ (s.evPin 127).delay = none) ∧
    (modeOf up ≠ 0 ∧ rd F.pin_PIN_CTL_MODE 127 up ≤ 1 ∧ (0x10000001 : Word).toNat % 8 = 1 ∧ (0x10000001 : Word).toNat / 2 ^ 11 % 2 = 0 ∧
      (up.evPin 127).safe = false ∧ (up.evPin 128).safe = false) ∧
    (let s := (wrAll 126 [(F.pin_PIN_CTL_PAIR, 1), (F.pin_PIN_CTL_DT, 40)] up).setEvPin 126 { Pin.init with delay := some 7 }
     ordered s = true ∧ (s.evPin 126).delay = some 7 ∧ 7 ≤ s.now8 + 7 ∧ evenOfPair 126 s = true ∧ pinDt 126 s ≠ 0 ∧ (s.evPin 126).under = !true ∧
     pinDt 125 s = 0 ∧ (s.evPin 125).under = !true ∧ ((s.setEvPin 125 { Pin.init with under := true }).evPin 125).under = !false) := by
  decide +kernel

theorem witness_GeneratorRows :
    (let s := wr F.gen_PER_SH_VAL 63 512 up
     domOn (bankDomain (63 / 16)) s = true ∧ modeOf s ≠ 0 ∧ ordered s = true ∧ rdB F.gen_CG_CTL_EN 63 s = false ∧ (1 : Word).toNat % 4 = 1 ∧ 512 ≤ rd F.gen_PER_SH_VAL 63 s ∧
     rd F.gen_PER_SH_VAL 62 s < 512 ∧ (s.gen 63).run = false) ∧
    (let s := wr F.gen_CG_CTL_EN 63 1 up
     rdB F.gen_CG_CTL_EN 63 s = true ∧ (0 : Word).toNat % 2 = 0 ∧ genPins 63 (storeReg .gen 63 0 0 s) = []) ∧
    (∀ z ∈ [0, 4], let s := (wr F.gen_COMMIT_PENDING 63 1 { up with clock := { up.clock with tick := 4 } }).setGen 63 { Gen.init with run := true, setAt := z, lock := some (7, 1) }
     clocksOn s = true ∧ ordered s = true ∧ genPins 63 s = [] ∧ (s.gen 63).shWas = none ∧ s.evPins = [] ∧ rdB F.gen_CG_CTL_SRC 63 s = false ∧ rdB F.gen_COMMIT_PENDING 63 s = true ∧
     (s.gen 63).lock = some (7, 1) ∧ (7 : Int) ≤ s.now8 + 7 ∧ ((s.gen 63).setAt + 4 ≤ s.clock.tick ↔ z = 0)) ∧
    (0 : Int) ≤ 3 ∧ (3 : Int) < 4 := by
  decide +kernel

theorem witness_ReelRows :
    (ordered up = true ∧ domOn (bankDomain 3) up = true ∧ rdB F.bank_TRIP_LATCHED 3 (wr F.bank_TRIP_LATCHED 3 0 up) = false ∧
     evtQueue (2 + 3 / 2) up = none ∧ modeOf up ≠ 0) ∧
    (let s := wr F.bank_SRC1_FLT 3 128 { up with pins := { up.pins with fltLow := 0 } }
     s.pins.fltLow.testBit 7 = false ∧ (rd F.bank_SRC1_FLT 3 s).testBit 7 = true ∧ (∀ b, b < 3 → (rd F.bank_SRC1_FLT b s).testBit 7 = false) ∧
     (∀ b, b < 4 → (rd F.bank_SRC1_FLT b s).testBit 6 = false) ∧ clearBlocked 3 s = false ∧ clearBlocked 3 { s with pins := { s.pins with fltLow := 128 } } = true) ∧
    (let s := State.setBank 3 { all := false, swAt := none } (wrAll 3 [(F.bank_TRIP_LATCHED, 1), (F.bank_COVER_MASK, 1)] (wr F.pin_PIN_CTL_MODE 127 1 up))
     domOn (bankDomain 3) s = true ∧ clearBlocked 3 s = false ∧ rdB F.bank_TRIP_LATCHED 3 s = true ∧ rdB F.bank_BANK_CTL_RELEASE 3 s = false ∧ activeSources 3 (storeReg .bank 3 6 0xFFFFFF s) = [] ∧
     (s.bank (127 / 32)).all = false ∧ (rd F.bank_COVER_MASK (96 / 32) s).testBit (96 % 32) = true ∧ (rd F.bank_COVER_MASK (127 / 32) s).testBit (127 % 32) = false ∧
     pinMode 127 s ≠ 0 ∧ (s.evPin 127).safe = false) := by
  decide +kernel

theorem witness_EventPosting :
    (let s := wr F.mfr_EVT_CTL_EN 0 1 up
     rd F.mfr_EVT_CTL_EN 0 s ≠ 0 ∧ (s.evt 1).held = none ∧ (s.evt 1).groups = [] ∧ evtQueue 1 s = none) ∧
    (let s (c : Nat) := wrAll 7 [(F.desc_CAP, c), (F.desc_PROD_KIND, 5), (F.desc_PROD_INST, 1)] up
     evtQueue 3 (s 1) = some 7 ∧ canPushWord (s 1) 7 = true ∧ ordered (s 1) = true ∧
     (let t := (s 1).setQueue 7 { Queue.init with back := 1 }
      evtQueue 3 t = some 7 ∧ canPushWord t 7 = false ∧ ordered t = true)) ∧
    (let s := up.setEvt 3 { held := none, groups := [(9 * 65536 + 127 * 256 + 1, 0)] }
     (9 * 65536 + 127 * 256 + 1, 0) ∈ (s.evt 3).groups ∧ s.clock.tick < 0 + 1000) := by
  decide +kernel

/-! ### Memories, queues and crossings -/

theorem witness_CodeCorrects : (0 : Nat) < 274 ∧ 274 < 275 ∧ 275 < 276 := by decide

theorem witness_GranuleStores : (6 : Nat) < 7 ∧ (0 : Nat) < 7 ∧ (0 : Nat) ≠ 6 ∧ ordered up = true ∧ (1 : Nat) ≠ 0 ∧ 31 / 32 ≠ 1 := by decide +kernel

theorem witness_MemoryRows :
    (let s := { wr F.clu_SCRUB_CTL_DMEM_PER 31 5 up with scrub := [(31, 32767)] }
     scrubOn 31 s = true ∧ rd F.clu_SCRUB_CTL_DMEM_PER 31 s ≠ 0 ∧ (readGran (dmemG 31 0 + Sparse.get 0 31 s.scrub) s).out ≠ .bad ∧
     Sparse.get 0 31 s.scrub + 1 = 32768 ∧ Sparse.get 0 31 up.scrub + 1 < 32768) ∧
    (domOn 31 up = true ∧ modeOf up ≠ 0 ∧ (0x7FFF5 : Word).toNat / 2 ^ 21 % 2 = 0 ∧ (0x7FFF5 : Word).toNat / 16 % 65536 < 32768 ∧
      (0x200005 : Word).toNat / 2 ^ 21 % 2 = 1) ∧
    (let s : State := { up with program := [{ g := imemG 31 65535, n := 2, by_ := 0 }] }
     let t : State := { up with program := [{ g := imemG 31 0, n := 3, by_ := 0 }] }
     oldestProgram 31 s = some { g := imemG 31 65535, n := 2, by_ := 0 } ∧ s.host.cmds = [] ∧ 2 < 3 ∧ oldestProgram 31 t = some { g := imemG 31 0, n := 3, by_ := 0 } ∧ 3 ≤ 3 ∧ t.start.step < 4) ∧
    (let s := wr F.desc_CAP 8191 4 up
     0 < 2 ^ 275 ∧ 2 ^ 275 < 2 ^ 276 ∧ keepG 16383 < keepG 16384 ∧ qCap s 8191 ≠ 0 ∧ qIsD s 8191 = false ∧ strikeAt 6 63 (2 ^ 275) = true ∧ strikeAt 8 4095 (2 ^ 275) = true) := by
  decide +kernel

/-- Queue 8191 with room, that nothing of the device itself uses. -/
def lone (d : Nat) (x : Queue) : State := State.setQueue 8191 x (wrAll 8191 [(F.desc_CAP, 4), (F.desc_CFG_CLASS, d)] (wr ⟨.pwr, 10, 4, 1⟩ 0 0 up))

/-- A queue of one cell that is still open. -/
def openCell : Queue := { Queue.init with cells := [{ ws := [11, 12], e := false, closed := false, pb := false, err := 0, checked := false, orig := none }], open_ := true }

theorem witness_QueueRows :
    (∀ x ∈ [{ openCell with transit := [.word 5 true false true] }, { full with transit := [.word 5 false true true] }, { full with transit := [.gran (granOf [1, 2] 7) false true] }],
      let s := lone 0 x
      ordered s = true ∧ s.host.cmds = [] ∧ domOn 40 s = false ∧ prodPath s 8191 = true ∧ (∀ e, e < 4 → evtQueue e s ≠ some 8191) ∧ (∀ k, k < 48 → streamQueue (k / 4) (k % 4) s ≠ some 8191) ∧
      (s.queue 8191).copyBad = false ∧ (s.queue 8191).discard = false ∧ (s.queue 8191).skip = false ∧ (s.queue 8191).resetting = false ∧ cellFree s 8191 = true) ∧
    (openCell.cells.getLast?.map (·.closed) = some false ∧ full.cells.getLast?.map (·.closed) = some true ∧ granTag (granOf [1, 2] 7) % 8 ≠ 0) ∧
    (let s := lone 1 { full with back := 1, resetting := true }
     0 < (s.queue 8191).back ∧ (s.queue 8191).resetting = true ∧ domOn (48 + 8191 / 4096) s = true ∧ modeOf s ≠ 0 ∧ qCap s 8191 ≠ 0 ∧ qIsD s 8191 = true ∧
     (s.queue 8191).copyBad = false) := by
  decide +kernel

theorem witness_QueueWords :
    (∀ w ∈ [0, 1], let x := { full with rdw := w }
      let s := lone 0 x
      (s.queue 8191).copyBad = false ∧ (s.queue 8191).resetting = false ∧ (s.queue 8191).cells ≠ [] ∧ x.rdc < x.cells.length ∧ ordered s = true ∧
      (x.cells.all (fun c => c.closed && c.checked && (c.err == 0) && (c.ws[w]?).isSome && c.ws.length == 2)) = true ∧ x.mark = none) ∧
    ((lone 0 full).queue 8191).fill = 0 ∧ ((lone 0 full).queue 8191).cut = false ∧
    ((lone 0 { full with mark := some 0, rdw := 1 }).queue 8191).mark = some 0 := by
  decide +kernel

theorem witness_CrossingRows :
    (let r := reqOf 83 1 up
     let s := up.setXing 19 { phase := [], held := [], reset := true, near := false, far := true }
     let t := up.setXing 9 { phase := [83], held := [r], reset := false, near := false, far := false }
     let near := up.setXing 18 { phase := [83], held := [r], reset := false, near := true, far := false }
     let far := up.setXing 18 { phase := [83], held := [r], reset := false, near := false, far := true }
     (near.xing 18).reset = false ∧ (near.xing 18).near = true ∧ (far.xing 18).reset = false ∧ (far.xing 18).near = false ∧ (far.xing 18).far = true ∧
     queuesWith far 1 (behindCrossing 1 8) = [] ∧ farHeld 1 9 s = false ∧ farHeld 1 8 (wr F.link_LINK_STAT_STATE 5 5 up) = true ∧
     crossingAt 1 8 = true ∧ crossingAt 0 9 = true ∧ (up.xing 18).reset = false ∧ queuesWith up 1 (behindCrossing 1 8) = [] ∧ (s.xing 19).reset = true ∧
     (t.xing 9).phase = [83] ∧ t.reqs = [] ∧ (t.xing 9).held = [r] ∧ r.cid = 83 ∧ (up.xing 9).held = []) := by
  decide +kernel

/-! ### DMA -/

/-- A COPY of two granules from granule 1 to granule 256 of cluster 0, with completion queue 7. -/
def copy : Granule := granOf [7 * 2 ^ 21, 0x01000007, 0x01000700, 2] 0

/-- Channel 63 in state `st`, with its descriptor in granule 0 of cluster 0, a ring of 16 records in granule 512 on, and a transfer `x`. -/
def dmaIn (st : Nat) (g : Granule) (x : Dma) : State :=
  State.setChDma 63 x (writeGran (dmemG 0 0) g false
    (wrAll 7 [(F.cq_CQ_BASE_ADDR, 0x01000E00), (F.cq_CQ_CFG_SIZE_LOG, 4), (F.cq_CQ_TAIL_TAIL, 31)]
      (wrAll 63 [(F.ch_CH_STAT_STATE, st), (F.ch_CH_CUR_ADDR, 0x01000000), (F.ch_CH_HEAD_ADDR, 0x01000000), (F.ch_CH_CTL_EN, 1), (F.ch_CH_CTL_MAX_OUT, 8)] up)))

theorem witness_DmaRows :
    (let s := dmaIn 0 copy Dma.init
     domOn 40 s = true ∧ clocksOn s = true ∧ modeOf s ≠ 0 ∧ ordered s = true ∧ (3 : Word).toNat % 4 = 3 ∧ chState 63 s = 0 ∧ (∀ d, d < 41 → heldStill d s = false) ∧
     (∀ d, d < 64 → chState d s ≠ 6)) ∧
    (let s := dmaIn 1 copy Dma.init
     ordered s = true ∧ chState 63 s = 1 ∧ rd F.ch_CH_CUR_ADDR 63 s = 0x01000000 ∧ granAt 0x01000000 = some 0 ∧ granOver 0x01000000 = some 0 ∧ isImem 0 = false ∧
     granOn 0 s = true ∧ dmaReaches 0 s = true ∧ (readGran 0 s).pb = false ∧ checkDesc 63 (readGran 0 s).data (countDma 0x01000000 (readGran 0 s).out (readGran 0 s).st) = 0) ∧
    (let s := dmaIn 1 (granOf [2 ^ 20] 0) Dma.init
     dfield (readGran 0 s).data 0 20 1 = 1 ∧ ringOn (dCq (readGran 0 s).data) s = true ∧ dmaReaches 0 s = true ∧ (readGran 0 s).pb = false) := by
  decide +kernel

theorem witness_DmaRows_transfers :
    (let s := dmaIn 2 copy { Dma.init with desc := copy, known := true }
     let x := s.chDma 63
     dOp x.desc = 0 ∧ dSrcQ x.desc = false ∧ dDstQ x.desc = false ∧ chState 63 s = 2 ∧ x.stop = false ∧ x.buf = [] ∧ x.out = [] ∧ x.errs = 0 ∧ x.asked = 0 ∧ mayRead 63 s = true ∧
     (List.range 63).all (fun d => !mayRead d s) = true ∧ dmaReaches 1 s = true ∧
     granAt (dSrcAddr x.desc x.reads) = some 1 ∧ granOn 1 s = true ∧ dfield x.desc 0 18 1 = 0 ∧ dfield x.desc 0 12 2 = 0 ∧ (readGran 1 s).pb = false) ∧
    (let s := dmaIn 2 copy { Dma.init with desc := copy, known := true, reads := 1, issued := [(1, granOf [5] 7, true)] }
     let x := s.chDma 63
     x.issued = [(1, granOf [5] 7, true)] ∧ x.limit = none ∧ granAt (dDstAddr x.desc 1) = some 257 ∧ granOn 257 s = true ∧ dmaReaches 257 s = true ∧ ringOn (dCq x.desc) s = true ∧ chState 63 s = 2 ∧ (4 : Word).toNat % 4 = 0) ∧
    (let s := dmaIn 5 copy { Dma.init with desc := copy, known := true }
     chState 63 s = 5 ∧ (s.chDma 63).known = true ∧ dCq (s.chDma 63).desc = 7 ∧ rd F.cq_CQ_CFG_NOTIFY 7 s = 0 ∧
     granAt (rd F.cq_CQ_BASE_ADDR 7 s + 7 * (rd F.cq_CQ_TAIL_TAIL 7 s % 2 ^ rd F.cq_CQ_CFG_SIZE_LOG 7 s)) = some 527 ∧ granOn 527 s = true ∧ isImem 527 = false ∧ dmaReaches 527 s = true ∧ ringOn 7 s = true) := by
  decide +kernel

/-! ### Host port -/

/-- Ring 7 is enabled with 16 slots each way. -/
def ringUp : State := wrAll 7 [(F.ring_RING_CTL_EN, 1), (F.ring_RING_CTL_SQ_LOG, 4), (F.ring_RING_CTL_CQ_LOG, 4), (F.ring_RING_STAT_STATE, 1)] up

/-- The header of a command. -/
def hdr (op len seq a : Nat) : Granule := granOf [BitVec.ofNat 36 (op * 2 ^ 32 + len * 2 ^ 24 + seq), 0, BitVec.ofNat 36 a] 12

/-- A command of ring 7 at its head, with its result held. -/
def withCmd (op len a : Nat) (data : List Granule) (s : State) : State :=
  { s with host := { s.host with
    cmds := [{ ring := 7, hdr := hdr op len 65535 a, data := data, bad := [], done := 0, fwd := false, src := 0, begun := false, dead := false }]
    res := [{ ring := 7, seq := 65535, op := op, dest := 0, user := 0, rsv := 2, recd := [], wrote := none }] } }

theorem witness_HostRings :
    (let s := ringUp
     domOn 41 s = true ∧ modeOf s ≠ 0 ∧ ordered s = true ∧ rdB F.ring_RING_CTL_EN 7 s = true ∧ (16 : Nat) < 2 * sqSize 7 s ∧
     (16 + 2 * sqSize 7 s - rd F.ring_SQ_PTR_HEAD 7 s) % (2 * sqSize 7 s) ≤ sqSize 7 s ∧ (0 : Nat) < 2 * cqSize 7 s ∧ rd F.ring_CQ_PTR_HEAD 7 s < 2 * cqSize 7 s ∧
     (0 + 2 * cqSize 7 s - rd F.ring_CQ_PTR_HEAD 7 s) % (2 * cqSize 7 s) ≤ cqCount 7 s ∧ s.host.waiting = [] ∧ s.host.stalled = [] ∧ (0 : Word).toNat % 2 = 0 ∧
     rdB F.ring_RING_CTL_EN 6 s = false ∧ (1 : Word).toNat % 2 = 1) ∧
    (let s := wr F.ring_SQ_PTR_TAIL 7 16 ringUp
     let h := hdr 4 1 65535 0x01000000
     let data := [granOf [5] 7]
     rd F.ring_RING_STAT_STATE 7 s ≠ 4 ∧ granTag h = 12 ∧ cOp h < 7 ∧ data.length = cData h ∧ 1 + data.length ≤ sqCount 7 s ∧ packetViolation 7 h data s = 0 ∧
     resRoom (1 + cResult h) s = true ∧ executing s < 64 ∧ cDest h = devId s ∧ sqCount 7 s ≠ 0) := by
  decide +kernel

theorem witness_HostCommands :
    (∀ e ∈ [(0, 0, 0), (1, 1, 0x0807FFFF), (2, 1, 0x08000000), (3, 1, 0x01000000), (4, 1, 0x01000000), (5, 1, 30), (6, 1, 31)],
      let s := withCmd e.1 e.2.1 e.2.2 [granOf [5] 7] ringUp
      domOn 41 s = true ∧ modeOf s ≠ 0 ∧ ordered s = true ∧
      (match s.host.cmds.find? (fun c => !c.fwd && c.ring == 7) with
       | some c => (!c.begun && cOp c.hdr == e.1 && cLen c.hdr == e.2.1 && cAddr c.hdr == e.2.2 && cSeq c.hdr == 65535 && c.data.length == 1 && c.done == 0 && !c.dead && c.bad.isEmpty && cmdOpen c s)
       | none => false) = true ∧ (s.host.res.all (fun x => x.ring == 7 && x.seq == 65535 && x.recd.isEmpty)) = true) ∧
    (granAt 0x01000000 = some 0 ∧ granOver 0x01000000 = some 0 ∧ granAddr 0 = 0x01000000 ∧ granOn 0 ringUp = true ∧ (readGran 0 ringUp).out ≠ .bad ∧
      (readGran 0 ringUp).pb = false ∧ isImem 0 = false ∧ granSoft 0 = true ∧
      (writeReg 4096 0 5 (withCmd 2 1 0x08000000 [] ringUp)).host = (withCmd 2 1 0x08000000 [] ringUp).host) ∧
    (let s := wrAll 9 [(F.desc_CAP, 4), (F.desc_CONS, 7 * 2 ^ 17 + 31)] (wrAll 8 [(F.desc_CAP, 4), (F.desc_PROD_KIND, 7), (F.desc_PROD_INST, 30)] ringUp)
     let t := s.setQueue 9 full
     producerQueue s 7 (30 % 32) = some 8 ∧ 30 % 32 ≠ 31 ∧ canPushGran s 8 = true ∧ (s.queue 8).mark = none ∧ (s.xing 9).reset = false ∧ consPath t 9 = true ∧ consumerQueue t 7 (31 % 32) = some 9 ∧
     (t.queue 9).copyBad = false ∧ (t.queue 9).hasGran = true ∧ (t.queue 9).cells.head?.map (·.pb) = some false) ∧
    (let y : HRes := { ring := 3, seq := 9, op := 0, dest := 0, user := 0, rsv := 1, recd := [granOf [0] 13], wrote := none }
     let c : HCmd := { ring := 7, hdr := granOf [7 * 2 ^ 32, 0, BitVec.ofNat 36 (3 * 2 ^ 16 + 9)] 12, data := [], bad := [], done := 0, fwd := false, src := 0, begun := false, dead := false }
     let s : State := { ringUp with host := { ringUp.host with cmds := [c], res := [y] } }
     s.host.cmds.find? (fun c => !c.fwd && c.ring == 7) = some c ∧ cOp c.hdr = 7 ∧
     s.host.res.find? (fun x => x.ring == gbits c.hdr 2 16 4 && x.seq == gbits c.hdr 2 0 16) = some y) ∧
    (let c : HCmd := { ring := 8, hdr := hdr 5 1 9 30, data := [granOf [5] 7], bad := [], done := 0, fwd := false, src := 0, begun := true, dead := false }
     [c].find? (fun c => c.ring == 8 && c.begun && cOp c.hdr == 5) = some c ∧ cSeq c.hdr = 9) ∧
    (let x : HRes := { ring := 7, seq := 9, op := 1, dest := 5, user := 0, rsv := 2, recd := [], wrote := none }
     let h := granOf [BitVec.ofNat 36 (2 ^ 25 + 9), 5] 13
     let s : State := { ringUp with host := { ringUp.host with res := [x] }, qdl := { ringUp.qdl with results := [[h]] } }
     s.qdl.results.contains [h] = true ∧ x.dest ≠ devId s ∧ s.host.cmds = [] ∧
     s.host.res.find? (fun x => x.recd = [] ∧ x.dest = gbits h 1 0 16 ∧ x.seq = gbits h 0 0 16 ∧ x.op = gbits h 0 25 4 ∧ x.dest ≠ devId s) = some x ∧
     s.host.res.find? (fun y => y.ring = 7 ∧ y.seq = x.seq ∧ y.recd = [] ∧ y.dest ≠ devId s) = some x) ∧
    (ringUp.host.waiting = [] ∧ cqCount 7 ringUp + (1 + 15) ≤ cqSize 7 ringUp) := by
  decide +kernel

/-! ### Links and packets -/

/-- Link 5 in state `st`, with a transmitter and receiver `x`. -/
def linkIn (st : Nat) (x : Link) : State := State.setLink 5 x (wr F.link_LINK_STAT_STATE 5 st up)

/-- The granule of a LINK flit. -/
def flit (code : Nat) (ws : List Nat) : Granule := granOf (([code * 2 ^ 32] ++ ws).map (BitVec.ofNat 36)) 0

theorem witness_LinkRows :
    (∀ st ∈ [0, 1, 2, 3, 4, 5, 6, 7], let s := linkIn st { Link.init with helloTx := true, probes := 16 }
      linkOn 5 s = true ∧ modeOf s ≠ 0 ∧ ordered s = true ∧ linkState 5 s = st ∧ rdB F.link_LINK_CTL_PROXY 5 s = false ∧ (s.link 5).crcAt.length < 63 ∧
      (s.link 5).helloTx = true ∧ 16 ≤ (s.link 5).probes ∧ 4 ≤ 4 / 2 ^ rd F.link_LINK_CTL_MAX_WIDTH 5 s ∧ (s.link 5).acked < 4096 ∧ (s.link 5).naks < 8) ∧
    ((33 : Word).toNat % 2 = 1 ∧ (33 : Word).toNat / 32 % 2 = 1 ∧ (0 : Word).toNat % 2 = 0) ∧
    ([flit 0 [], flit 1 [7 * 2 ^ 0], flit 2 [9], flit 3 [9, 1, 2], flit 4 [5], flit 5 [3], flit 6 []].all (fun m => !linkBad m)) = true ∧
    (let s := linkIn 5 { Link.init with t1 := some 9 }
     (s.link 5).t1 = some (gbits (flit 3 [9, 1, 2]) 1 0 36) ∧ linkState 5 s ≠ 4) ∧
    (let m := granOf [0, 0, 0, 0, 0, 1, 3] 0
     let s := linkIn 4 { Link.init with replay := [(0, 0), (1, 0)] }
     linkBad m = false ∧ gbits m 0 32 4 = 0 ∧ gbits m 5 12 1 = 0 ∧ (gbits m 5 0 12 + 4096 - (s.link 5).acked) % 4096 ≤ (s.link 5).replay.length ∧
     ∀ v, v < 4 → Sparse.get 0 v (s.link 5).seen < 512) ∧
    (let p : RxPkt := { head := granOf [2 ^ 32 + 2 * 2 ^ 23] 7, body := [], need := 2, moved := false, out := none, drop := false, old := false }
     let s := linkIn 3 { Link.init with rx := [(3, [p])] }
     gbits (flit 5 [3]) 1 0 2 = 3 ∧ rxOf 5 3 s = [p] ∧ p.need ≠ 0 ∧ p.moved = false ∧ p.old = false ∧ rising (s.link 5).freed = true ∧ rising (s.link 5).rx = true) := by
  decide +kernel

/-- `Arrives` as a Boolean. -/
def arrives (l vc : Nat) (g : Granule) (body : List Granule) (s : State) : Bool :=
  decide (l < 6) && decide (vc < 4) && linkOn l s && linkUp l s && !linkWork s && ordered s && (s.link l).errs.isEmpty && kindVc (hKind g) vc && !headReserved g &&
  hLen g == body.length && granTag g == headTag g && decide (hHops g < 31) && body.all (fun b => granTag b % 8 != 0) && decide (Sparse.get 0 vc (s.link l).freed < 512) &&
  decide ((Sparse.get 0 vc (s.link l).filled + 512 - Sparse.get 0 vc (s.link l).freed) % 512 + body.length < vcSlots vc)

theorem arrives_of {l vc : Nat} {g : Granule} {body : List Granule} {s : State} (h : arrives l vc g body s = true) : Arrives l vc g body s := by
  simp only [arrives, Bool.and_eq_true, decide_eq_true_eq, Bool.not_eq_true', List.isEmpty_iff, beq_iff_eq, List.all_eq_true, bne_iff_ne] at h
  obtain ⟨⟨⟨⟨⟨⟨⟨⟨⟨⟨⟨⟨⟨⟨h1, h2⟩, h3⟩, h4⟩, h5⟩, h6⟩, h7⟩, h8⟩, h9⟩, h10⟩, h11⟩, h12⟩, h13⟩, h14⟩, h15⟩ := h
  exact ⟨h1, h2, h3, h4, h5, inOrder_of h6, h7, h8, h9, h10, h11, h12, h13, h14, h15⟩

/-- A head of this device's own for itself. -/
def head (kind len : Nat) (ws : List Nat) : Granule := granOf (([kind * 2 ^ 32 + len * 2 ^ 23 + 30 * 2 ^ 18, 7] ++ ws).map (BitVec.ofNat 36)) (if len = 0 then 15 else 7)

/-- Links 5 and 4 are UP, and the device has its identifier, 0. -/
def linked : State := wr F.qdl_DEV_ID_ASSIGNED 0 1 (wr F.link_LINK_STAT_STATE 4 4 (linkIn 4 Link.init))

theorem witness_PacketRows :
    (let g := granOf [BitVec.ofNat 36 (2 ^ 32 + 7 * 2 ^ 15), 7] 15
     let s := wrAll 8 [(F.desc_CAP, 4), (F.desc_PROD_KIND, 8), (F.desc_PROD_INST, 29)] linked
     arrives 5 1 g [] s = true ∧ hKind g = 1 ∧ routeOf (hDest g) s = .here ∧ inSafe s = false ∧ ejectQueue (hPort g) 1 s = some 8 ∧ canPushGran s 8 = true ∧
     (s.queue 8).mark = none ∧ (s.xing (linkXing (hPort g))).reset = false) ∧
    (∀ k ∈ [2, 3], arrives 5 0 (head k 1 []) [granOf [5] 7] linked = true ∧ hKind (head k 1 []) = k ∧ routeOf (hDest (head k 1 [])) linked = .here) ∧
    (let g := head 4 0 [1, 2, 2 ^ 33 + 7, 0, 0]
     let s := wr F.tbu_TIME_CTL_SRC 0 2 { linked with qdl := { linked.qdl with timeCfg := 8 + 5 } }
     arrives 5 2 g [] s = true ∧ hKind g = 4 ∧ rd F.tbu_TIME_CTL_SRC 0 s = 2 ∧ bits s.qdl.timeCfg 0 3 = 5 ∧ gbits g 4 33 3 = 1) := by
  decide +kernel

/-- A MIRROR packet of timebase 63 of device 7, one hop away, on a tree of links 4 and 5, and on a leaf with a mirror of it. -/
theorem witness_PacketRows_mirror :
    (let g := granOf ([5 * 2 ^ 32, 7, 9, 63 * 2 ^ 30 + 3, 1000, 0, 0].map (BitVec.ofNat 36)) 15
     let s : State := { linked with qdl := { linked.qdl with timeCfg := 2 ^ 8 + 2 ^ 9 } }
     let t : State := State.setTb 63 { Tb.init with st := .track } (wrAll 63 [(F.tb_SRC_KIND, 7), (F.tb_SRC_RDEV, 7), (F.tb_SRC_RTB, 63)]
       { linked with qdl := { linked.qdl with timeCfg := 2 ^ 9 } })
     arrives 5 2 g [] s = true ∧ hKind g = 5 ∧ gbits g 3 24 3 + (hHops g + 1) < 7 ∧ treeLinks s = [4, 5] ∧ linkUp 4 s = true ∧
     mirrorsOf (hSrc g) (gbits g 3 30 6) s = [] ∧ arrives 5 2 g [] t = true ∧ treeLinks t = [5] ∧ mirrorsOf (hSrc g) (gbits g 3 30 6) t = [63] ∧ alone 63 t = true) := by
  decide +kernel

/-- MGMT packets that go on, that end here, and that answer a request; broadcasts. -/
theorem witness_PacketRows_mgmt :
    (let route (mt len hop : Nat) (body : Nat) : Granule := head 6 body [mt * 2 ^ 32, len * 2 ^ 32 + hop * 2 ^ 28 + 4, if mt = 3 then 5 else 0]
     (∀ mt ∈ [1, 2, 3, 4], arrives 5 3 (route mt 1 0 0) [] linked = true ∧ gbits (route mt 1 0 0) 2 32 4 = mt ∧ digit (gbits (route mt 1 0 0) 3 0 24) 0 < 6 ∧
       arrives 5 3 (route mt 8 8 0) [] linked = true ∧ gbits (route mt 8 8 0) 3 28 4 = 8) ∧
     (let b := [granOf [0xF, 0, 1] 7]
      let s : State := { linked with qdl := { linked.qdl with asked := some (1, 1, 5, 2) } }
      arrives 5 3 (route 2 1 1 1) b s = true ∧ s.qdl.asked = some (1, 1, 5, 2) ∧ s.qdl.found = []) ∧
     (let s : State := { linked with qdl := { linked.qdl with asked := some (3, 1, 5, 2) } }
      s.qdl.asked = some (3, 1, 5, 2) ∧ s.qdl.walk = [] ∧ s.qdl.mseq < 65536) ∧
     (let g := head 6 0 [5 * 2 ^ 32 + 9, 0, 8]
      let s := wr F.qdl_MGMT_CTL_PEER_ACT 0 1 linked
      arrives 5 3 g [] s = true ∧ gbits g 2 32 4 = 5 ∧ s.qdl.seen = [] ∧ gbits g 4 0 16 ≠ devId s ∧ rd F.qdl_MGMT_CTL_PEER_ACT 0 s = 1 ∧
      rdB (F.qdl_PEER_FENCE_V.nth 31) 0 s = false) ∧
     (let s : State := { up with qdl := { up.qdl with asked := some (1, 1, 5, 2), tries := 3 } }
      domOn 48 s = true ∧ s.qdl.asked = some (1, 1, 5, 2) ∧ 3 ≤ s.qdl.tries ∧ s.qdl.walk = [] ∧ ordered s = true ∧ up.qdl.tries < 3 ∧ (0 : Word).toNat / 2 ^ 17 % 2 = 0)) := by
  decide +kernel

/-! ### Power, rails, Jasper and starts -/

/-- The device in mode `m`, with a wake timer. -/
def inMode (m : Nat) : State := wrAll 0 [(F.pwr_MODE, m), (F.pwr_WAKE_TIMER_MS, 5), (F.pwr_WAKE_EN_PERST_N, 1)] up

/-- A request in progress for a domain, with its agent's place. -/
def asked (goal : Nat) (w d g : List Nat) (s : State) : State :=
  { s with pwr := { s.pwr with trans := some { goal := goal, force := false, asker := none, waiting := w, deferred := d, granted := g, step := 1, from_ := 4, wake := none } } }

theorem witness_PowerRows :
    (∀ m ∈ [1, 4, 5], let s := inMode m
      ordered s = true ∧ inSafe s = false ∧ rdB F.pwr_MODE_SAFE_BOOT 0 s = false ∧ s.start.step = 0 ∧ s.start.failed = false ∧ s.start.due = 0 ∧ modeOf s = m ∧
      s.pwr.trans = none ∧ rd F.pwr_WAKE_TIMER_MS 0 s ≠ 0 ∧ s.pwr.thermLock = false ∧ rdB (railFail 0) 0 s = false ∧ rdB (railFail 1) 0 s = false ∧ s.pins.resetN = true ∧
      rdB F.pwr_WAKE_EN_PERST_N 0 s = true ∧ s.pwr.bankBad = [] ∧ s.pins.mainPg = true ∧ domOn 31 s = true) ∧
    (let s := inMode 4
     let r := wr F.ring_RING_CTL_EN 7 1 s
     let b : State := { s with host := { s.host with cmds := [{ ring := 7, hdr := 0, data := [], bad := [], done := 0, fwd := false, src := 0, begun := false, dead := false }] } }
     refuseReason 0 s = none ∧ deferReason 0 none s = none ∧ refuseReason 41 b = none ∧ deferReason 41 none b = some 6 ∧ refuseReason 41 r = some 5 ∧
     (asked 51 [41] [] [] b).pwr.trans.map (·.goal) = some (10 + 41) ∧ (asked 51 [] [41] [] b).pwr.trans.map (·.deferred) = some [41] ∧
     (asked 57 [] [] [47] s).pwr.trans.map (fun q => q.granted.contains 47) = some true ∧ (asked 127 [] [] [] s).pwr.trans.map (·.goal) = some (80 + 47) ∧
     refuseReason 41 (asked 51 [41] [] [] b) = none ∧ deferReason 41 none (asked 51 [] [41] [] b) = some 6 ∧ deferReason 0 none (asked 10 [] [0] [] s) = none) := by
  decide +kernel

/-- A rail that ramps; a sensor of the die that is on; BOOST with a region that is too hot; the rails up and REFCLK gone. -/
theorem witness_RailRows :
    (let s := wr (railRamp 1) 0 1 up
     ordered s = true ∧ s.pins.mainPg = true ∧ rdB (railRamp 1) 0 s = true ∧ s.pwr.trans = none ∧ rdB (railFail 1) 0 s = false ∧ railAsked 1 s = railTarget 1 s ∧
     (let t : State := { s with pwr := { s.pwr with targetW := 180 } }
      railAsked 1 t ≠ railTarget 1 t)) ∧
    (∀ i, i < 11 → sensorOn i up = true) ∧ modeOf up = 4 ∧ asleep up = false ∧ up.pins.refclk = true ∧ up.pins.mainEn = true ∧
    (let s : State := { inMode 5 with pwr := { up.pwr with hot := [7] } }
     modeOf s = 5 ∧ s.pwr.hot.contains 7 = true ∧ s.pwr.trans = none) ∧
    (let s : State := { up with pins := { up.pins with refclk := false }, start := { up.start with step := 1, kind := 1 } }
     s.pins.mainPg = true ∧ s.pins.refclk = false ∧ s.start.step = 1 ∧ s.start.domains = [] ∧ s.start.kind = 1 ∧ up.start.step ≠ 1) := by
  decide +kernel

/-- A reading at the critical level of grade I. No reading reaches that of grade E: the largest is 2047 (127.9 °C), and R60 puts it at 130 °C. -/
theorem witness_RailRows_critical (h : Config.gradeE = false) : criticalLevel ≤ signedOf 12 1840 := by
  unfold criticalLevel
  rw [h]
  decide

/-- A reading below the critical level of either grade. -/
theorem witness_RailRows_cool : signedOf 12 1839 < criticalLevel := by
  unfold criticalLevel
  split <;> decide

theorem witness_JasperRows :
    (let s := wr F.jsp_ADC_CTL_EN 0 128 up
     ordered s = true ∧ modeOf s ≠ 0 ∧ nextChannel s = some 7 ∧ rd (F.jsp_AIN_FILT_MED.nth 7) 0 s = 0 ∧ rd (F.jsp_AIN_FILT_IIR_SH.nth 7) 0 s = 0 ∧
     rdB (F.jsp_DIN_CNT_LEVEL.nth 15) 0 s ≠ true ∧ rd (F.jsp_DIN_WIN.nth 15) 0 (wr (F.jsp_DIN_WIN.nth 15) 0 9 s) ≠ 0 ∧ rising s.jsp.hold = true) := by
  decide +kernel

/-- A start in step `n` of kind `k`. -/
def startIn (n k : Nat) : State := { up with start := { up.start with step := n, kind := k } }

theorem witness_StartRows :
    (ordered up = true ∧ modeOf up ≠ 0 ∧ up.pins.resetN = true ∧ State.reset.pins.resetN = false ∧ modeOf State.reset ≠ 0 ∧ ordered State.reset = true ∧ up.start.step = 0 ∧
      starting up = false ∧ rdB F.pwr_MODE_SAFE_BOOT 0 up = false ∧ up.start.due = 0) ∧
    (let s := wr F.pwr_MODE 0 0 State.reset
     ordered s = true ∧ modeOf s = 0 ∧ s.pins.resetN = false) ∧
    (let h := granOf [0] 13
     let s := startIn 4 1
     let x : Section := { hdr := h, body := [] }
     ordered s = true ∧ s.start.step = 4 ∧ s.start.skipTry = false ∧ x.typ ≠ 1 ∧ sectionCheck [h] x s.start.loading s ≠ [] ∧ bootSource s = some 0 ∧
     s.start.tried + 1 < (bootSources s.pins.bootSel).length ∧
     (let t : State := { s with pins := { s.pins with bootSel := 2 } }
      bootSource t = some 2)) ∧
    (let s := startIn 6 2
     s.start.step = 6 ∧ s.start.skipTry = false ∧ rdB F.qdl_ID_CFG_ROOT 0 s = false ∧ hasId (wr F.qdl_ID_CFG_MODE 0 1 s) = false ∧ s.start.kind = 2 ∧ 3 ≤ s.start.step) ∧
    (let s : State := { startIn 1 1 with pins := { up.pins with mainPg := false } }
     s.start.step = 1 ∧ s.pins.mainPg = false) ∧
    (let s : State := { up with start := { up.start with failed := true } }
     s.start.failed = true ∧ s.start.retryWarm = false) ∧
    (let s := wr F.pwr_MODE_SAFE_BOOT 0 1 up
     modeOf s ≠ 0 ∧ rdB F.pwr_MODE_SAFE_BOOT 0 s = true ∧ s.start.keySet = false ∧ (3 : Word).toNat % 2 = 1) := by
  decide +kernel

/-! ### Registers, and the model as a whole -/

theorem witness_RegisterRows :
    (locate (keyOf .desc 8191 6) = some (.desc, 8191, 6) ∧ keyOf .desc 8191 6 < 0x60000 ∧ (fieldsAt .desc 6).isEmpty = false ∧ blkOn .desc 8191 up = true ∧
      blkOn .desc 8191 State.reset = false ∧ modeOf up ≠ 0) ∧
    (locate 0x5FFFF = none ∧ (0x80000 : Nat) < 0x200000) ∧
    (let s := up.setCtx 4095 { Ctx.init with st := .unbound }
     locate (keyOf .sctx 4095 0) = some (.sctx, 4095, 0) ∧ keyOf .sctx 4095 0 < 0x60000 ∧ (fieldsAt .sctx 0).isEmpty = false ∧ blkOn .sctx 4095 s = true ∧
      (s.ctx 4095).st = .unbound ∧ (s.ctx 4094).st ≠ .unbound) ∧
    (let f : Fld := { lo := 0, w := 32, acc := .rw, rst := 0, img := false }
     (fieldsAt .cq 0).map (fun f => (f.lo, f.w, f.acc)) = [(f.lo, f.w, f.acc)] ∧ bits (7 : Word) 0 32 = 7) ∧
    (domOn (42 + 5) up = true) := by
  decide +kernel

theorem witness_IdleTick : up.pending = [] ∧ up.raised = [] ∧ up.contain.entered = false ∧ up.start.due = 0 ∧ up.start.step ≠ 6 ∧ up.host.cmds = [] ∧ linkWork up = false ∧
    up.heaps = [] ∧ up.tbs = [] ∧ (∀ g, g < 12 → grpRuns g up = false) ∧ (∀ r, r < 8 → rdB (trkF r 0 0 1) r up = false) ∧
    up.pwr.trans = none ∧ State.reset.clock.run = false ∧ up.clock.run = true ∧ domOn 48 up = true ∧ rd F.tbu_TIME_STAT_STATE 0 up ≠ 3 ∧
    ((((up.clock.dev : Int) + rd F.tbu_TIME_INC 0 up + rdZ F.tbu_TIME_SLEW 0 up) % 2 ^ 101).toNat) / 2 ^ 65 = up.clock.dev / 2 ^ 65 ∧
    (let s : State := asked 3 [] [] (List.range 50) { up with clock := { up.clock with run := false } }
     ordered s = true ∧ s.clock.run = false ∧ s.pwr.trans.map (·.goal) = some 3) := by
  decide +kernel

theorem witness_StepRunsFront : ({ up with pending := [.mainPgFall, .mainPgRise] } : State).pending = .mainPgFall :: [.mainPgRise] := by
  decide +kernel

theorem witness_OrderKept : InOrder State.reset ∧ (match step State.reset with | .next t => ordered t | _ => false) = true :=
  ⟨inOrder_of (by decide +kernel), by decide +kernel⟩

theorem witness_WordRoundTrip : longReason 0o172 4 3 = none ∧ shortReason 0x7C00 = none ∧ shortReason 0x7022 = none ∧ (isShortQueue 0x7022 && isShortQueue 0x7C00) = false ∧
    (match decodeFj 0xC00007C00 3 with | .ok f => encodeFj f == 0xC00007C00 | .error _ => false) = true := by
  decide +kernel

end Sys2Proof.Tests
end

section
/-! The statements O40 and O54: what a store into a granule changes and what it leaves, and the writes and reads of registers. -/

namespace Sys2Proof.Machine

/-! ### A field of a number replaced

`setBits` and `granPut` are one operation on numbers: its bits are those of the new value within the field, and the old ones outside it. -/

/-- A number with a field replaced, as its three parts. -/
theorem replaceField_eq (v lo n y : Nat) :
    v - v / 2 ^ lo % 2 ^ n * 2 ^ lo + y * 2 ^ lo = 2 ^ lo * (2 ^ n * (v / 2 ^ (lo + n)) + y) + v % 2 ^ lo := by
  have hlow : 2 ^ lo * (v / 2 ^ lo) + v % 2 ^ lo = v := Nat.div_add_mod ..
  have hhigh : 2 ^ n * (v / 2 ^ (lo + n)) + v / 2 ^ lo % 2 ^ n = v / 2 ^ lo := by
    rw [pow_add, ← Nat.div_div_eq_div_mul]; exact Nat.div_add_mod ..
  have hparts : v = 2 ^ lo * (2 ^ n * (v / 2 ^ (lo + n))) + v / 2 ^ lo % 2 ^ n * 2 ^ lo + v % 2 ^ lo := by
    rw [Nat.mul_comm (_ % _), ← Nat.mul_add, hhigh, hlow]
  rw [Nat.mul_add, Nat.mul_comm y]
  omega

theorem testBit_replaceField (v lo n x j : Nat) :
    (v - v / 2 ^ lo % 2 ^ n * 2 ^ lo + x % 2 ^ n * 2 ^ lo).testBit j =
      if lo ≤ j ∧ j < lo + n then x.testBit (j - lo) else v.testBit j := by
  rw [replaceField_eq, Nat.testBit_two_pow_mul_add _ (Nat.mod_lt _ (by positivity)),
    Nat.testBit_two_pow_mul_add _ (Nat.mod_lt _ (by positivity)), Nat.testBit_mod_two_pow, Nat.testBit_mod_two_pow, Nat.testBit_div_two_pow]
  by_cases hlo : j < lo
  · rw [if_pos hlo, if_neg (by omega)]; simp [hlo]
  · by_cases hhi : j - lo < n
    · rw [if_neg hlo, if_pos hhi, if_pos (by omega)]; simp [hhi]
    · rw [if_neg hlo, if_neg hhi, if_neg (by omega)]
      congr 1; omega

/-! ### Words and tags of a granule (R4, R325) -/

theorem getLsbD_granSetWord (v : Granule) {i : Nat} (hi : i < 7) (w : Word) (j : Nat) :
    (granSetWord v i w).getLsbD j = if 36 * i ≤ j ∧ j < 36 * i + 36 then w.getLsbD (j - 36 * i) else v.getLsbD j := by
  unfold granSetWord granPut
  rw [BitVec.getLsbD_ofNat, testBit_replaceField]
  split
  · rw [decide_eq_true (by omega), Bool.true_and]; rfl
  · by_cases hj : j < 256
    · simp only [hj, decide_true, Bool.true_and]; rfl
    · rw [decide_eq_false hj, Bool.false_and, BitVec.getLsbD_of_ge v j (by omega)]

theorem getLsbD_granWord (v : Granule) (i j : Nat) : (granWord v i).getLsbD j = (decide (j < 36) && v.getLsbD (36 * i + j)) := by
  unfold granWord
  rw [BitVec.getLsbD_ofNat, Nat.testBit_div_two_pow, Nat.add_comm]; rfl

theorem testBit_granTag (v : Granule) (j : Nat) : (granTag v).testBit j = v.getLsbD (252 + j) := by
  unfold granTag
  rw [Nat.testBit_div_two_pow, Nat.add_comm]; rfl

theorem granWord_granSetWord_same (v : Granule) {i : Nat} (hi : i < 7) (w : Word) : granWord (granSetWord v i w) i = w := by
  refine BitVec.eq_of_getLsbD_eq fun j hj => ?_
  rw [getLsbD_granWord, getLsbD_granSetWord v hi, if_pos (by omega), Nat.add_sub_cancel_left]
  simp [hj]

theorem granWord_granSetWord_ne (v : Granule) {i j : Nat} (hi : i < 7) (h : j ≠ i) (w : Word) :
    granWord (granSetWord v i w) j = granWord v j := by
  refine BitVec.eq_of_getLsbD_eq fun b hb => ?_
  rw [getLsbD_granWord, getLsbD_granWord, getLsbD_granSetWord v hi, if_neg (by omega)]

theorem granTag_granSetWord (v : Granule) {i : Nat} (hi : i < 7) (w : Word) : granTag (granSetWord v i w) = granTag v := by
  refine Nat.eq_of_testBit_eq fun j => ?_
  rw [testBit_granTag, testBit_granTag, getLsbD_granSetWord v hi, if_neg (by omega)]

/-! ### A granule's data bits, byte by byte -/

theorem forN_succ {α : Type} (n : Nat) (f : Nat → α → α) (x : α) : forN (n + 1) f x = f n (forN n f x) := by
  unfold forN
  rw [List.range_succ, List.foldl_append]; rfl

/-- The bytes that have been stored from a granule's first byte on read back, and memory stays canonical. -/
theorem byte_forN_setByte (g : Nat) (f : Nat → BitVec 8) {s : State} (h : Memory.wf s.mem = true) (n : Nat) :
    let t := forN n (fun b s => s.setByte (32 * g + b) (f b)) s
    Memory.wf t.mem = true ∧ ∀ b, b < n → t.byte (32 * g + b) = f b := by
  induction n with
  | zero => exact ⟨h, fun b hb => absurd hb (Nat.not_lt_zero b)⟩
  | succ n ih =>
    obtain ⟨hwf, hbytes⟩ := ih
    rw [forN_succ]
    refine ⟨State.setByte_wf _ _ hwf, fun b hb => ?_⟩
    by_cases hbn : b = n
    · rw [hbn, State.byte_setByte _ _ hwf]
    · rw [State.byte_setByte_ne (by omega), hbytes b (by omega)]

theorem State.byte_setGranBits (g : Nat) (v : Granule) {s : State} (h : Memory.wf s.mem = true) {b : Nat} (hb : b < 32) :
    (s.setGranBits g v).byte (32 * g + b) = BitVec.ofNat 8 (v.toNat / 256 ^ b) :=
  (byte_forN_setByte g (fun b => BitVec.ofNat 8 (v.toNat / 256 ^ b)) h 32).2 b hb

/-- The lowest `n` bytes of a number give its remainder by 256ⁿ. -/
theorem foldl_bytes (v n : Nat) :
    (List.range n).foldl (fun acc b => acc + (BitVec.ofNat 8 (v / 256 ^ b)).toNat * 256 ^ b) 0 = v % 256 ^ n := by
  induction n with
  | zero => simp [Nat.mod_one]
  | succ n ih =>
    rw [List.range_succ, List.foldl_append, ih, Nat.mod_pow_succ, Nat.mul_comm (256 ^ n)]
    rfl

/-- The data bits of a granule are given by its 32 bytes. -/
theorem State.granBits_of_bytes {s : State} {g : Nat} {f : Nat → BitVec 8} (h : ∀ b, b < 32 → s.byte (32 * g + b) = f b) :
    s.granBits g = BitVec.ofNat 256 ((List.range 32).foldl (fun acc b => acc + (f b).toNat * 256 ^ b) 0) := by
  unfold State.granBits
  congr 1
  exact List.foldl_ext _ _ _ fun acc b hb => by rw [h b (List.mem_range.mp hb)]

theorem State.granBits_setGranBits_same (g : Nat) (v : Granule) {s : State} (h : Memory.wf s.mem = true) : (s.setGranBits g v).granBits g = v := by
  rw [State.granBits_of_bytes fun b hb => State.byte_setGranBits g v h hb, foldl_bytes]
  rw [show (256 : Nat) ^ 32 = 2 ^ 256 by norm_num, Nat.mod_eq_of_lt v.isLt, BitVec.ofNat_toNat, BitVec.setWidth_eq]

theorem State.granBits_setGranBits_ne {g j : Nat} (h : j ≠ g) (v : Granule) (s : State) : (s.setGranBits g v).granBits j = s.granBits j :=
  State.granBits_of_bytes fun b _ => State.byte_setGranBits_ne g v (by omega) s

/-! ### PB and the error mask -/

theorem mem_insertNat (j k : Nat) : ∀ l : List Nat, j ∈ insertNat k l ↔ j = k ∨ j ∈ l
  | [] => by simp [insertNat]
  | i :: l => by
    unfold insertNat
    split
    · exact List.mem_cons
    · split
      · rename_i hk
        simp [hk]
      · rw [List.mem_cons, mem_insertNat j k l, List.mem_cons]
        tauto

theorem State.pb_setPb_same (g : Nat) (v : Bool) (s : State) : (s.setPb g v).pb g = v := by
  unfold State.pb State.setPb
  cases v with
  | true => simp [mem_insertNat]
  | false => simp

theorem State.pb_setPb_ne {g j : Nat} (h : j ≠ g) (v : Bool) (s : State) : (s.setPb g v).pb j = s.pb j := by
  unfold State.pb State.setPb
  cases v with
  | true => rw [Bool.eq_iff_iff]; simp [mem_insertNat, h]
  | false => rw [Bool.eq_iff_iff]; simp [h]

theorem State.err_setErr_same {s : State} (h : Rising s.errs) (g m : Nat) : (s.setErr g m).err g = m := Sparse.get_put_rising _ _ _ h

theorem State.err_setErr_ne {g j : Nat} (h : j ≠ g) (m : Nat) (s : State) : (s.setErr g m).err j = s.err j := Sparse.get_put_ne _ _ h _ _

/-! ### A codeword stored whole -/

@[simp] theorem State.setGranBits_poison (g : Nat) (v : Granule) (s : State) : (s.setGranBits g v).poison = s.poison := by
  rw [State.setGranBits_eq]

@[simp] theorem State.setGranBits_errs (g : Nat) (v : Granule) (s : State) : (s.setGranBits g v).errs = s.errs := by
  rw [State.setGranBits_eq]

@[simp] theorem State.setGranBits_pb (g : Nat) (v : Granule) (j : Nat) (s : State) : (s.setGranBits g v).pb j = s.pb j :=
  congrArg (List.contains · j) (State.setGranBits_poison g v s)

@[simp] theorem State.setGranBits_err (g : Nat) (v : Granule) (j : Nat) (s : State) : (s.setGranBits g v).err j = s.err j :=
  congrArg (Sparse.get 0 j) (State.setGranBits_errs g v s)

@[simp] theorem State.setErr_pb (g m j : Nat) (s : State) : (s.setErr g m).pb j = s.pb j := rfl

@[simp] theorem State.setPb_err (g : Nat) (v : Bool) (j : Nat) (s : State) : (s.setPb g v).err j = s.err j := rfl

theorem State.byte_setCode (g : Nat) (v : Granule) (pb : Bool) (a : Nat) (s : State) : (s.setCode g v pb).byte a = (s.setGranBits g v).byte a := by
  unfold State.byte State.setCode
  rw [State.setErr_mem, State.setPb_mem]

theorem State.granBits_setCode (g : Nat) (v : Granule) (pb : Bool) (j : Nat) (s : State) :
    (s.setCode g v pb).granBits j = (s.setGranBits g v).granBits j := by
  unfold State.granBits
  simp only [State.byte_setCode]

/-- A codeword stored whole reads back, valid. -/
theorem State.setCode_same {s : State} (h : InOrder s) (g : Nat) (v : Granule) (pb : Bool) :
    (s.setCode g v pb).granBits g = v ∧ (s.setCode g v pb).pb g = pb ∧ (s.setCode g v pb).err g = 0 := by
  refine ⟨?_, ?_, ?_⟩
  · rw [State.granBits_setCode, State.granBits_setGranBits_same g v h.mem]
  · rw [State.setCode, State.setErr_pb, State.pb_setPb_same]
  · rw [State.setCode, State.err_setErr_same]
    rw [State.setPb_errs, State.setGranBits_errs]
    exact h.errs

/-- A codeword stored whole leaves the codewords of all other granules. -/
theorem State.setCode_ne {g j : Nat} (h : j ≠ g) (v : Granule) (pb : Bool) (s : State) :
    (s.setCode g v pb).granBits j = s.granBits j ∧ (s.setCode g v pb).pb j = s.pb j ∧ (s.setCode g v pb).err j = s.err j := by
  refine ⟨?_, ?_, ?_⟩
  · rw [State.granBits_setCode, State.granBits_setGranBits_ne h]
  · rw [State.setCode, State.setErr_pb, State.pb_setPb_ne h, State.setGranBits_pb]
  · rw [State.setCode, State.err_setErr_ne h, State.setPb_err, State.setGranBits_err]

theorem State.byte_setCode_ne {g a : Nat} (h : a / 32 ≠ g) (v : Granule) (pb : Bool) (s : State) : (s.setCode g v pb).byte a = s.byte a := by
  rw [State.byte_setCode, State.byte_setGranBits_ne g v h]

/-! ### A store that merges

The counts of a decode and of a program are registers and lists beside memory: of the steps of a merge, only its stores of the granule change a byte. -/

@[simp] theorem byte_bump (f : FRef) (i a : Nat) (s : State) : (bump f i s).byte a = s.byte a := rfl

@[simp] theorem byte_countProgram (g a : Nat) (s : State) : (countProgram g s).byte a = s.byte a := by
  unfold countProgram
  split <;> rfl

@[simp] theorem byte_countDecode (g : Nat) (d : Decoded) (a : Nat) (s : State) : (countDecode g d s).byte a = s.byte a := by
  unfold countDecode
  cases d with
  | clean | one => rfl
  | two | poisoned | bad => dsimp only; split <;> rfl

theorem byte_readGran_ne {g a : Nat} (h : a / 32 ≠ g) (s : State) : (readGran g s).st.byte a = s.byte a := by
  unfold readGran
  dsimp only
  split
  · rw [byte_countProgram, State.byte_setCode_ne h, byte_countDecode]
  · exact byte_countDecode ..

theorem byte_mergeGran_ne {g a : Nat} (h : a / 32 ≠ g) (f : Granule → Granule) (s : State) : (mergeGran g f s).byte a = s.byte a := by
  unfold mergeGran
  rw [byte_countProgram, State.byte_setCode_ne h, byte_readGran_ne h]

/-- Settles O40, part by part: the words of a granule bit by bit, a codeword stored whole, and a store that merges. -/
theorem granuleStores : Obligations.GranuleStores := by
  unfold Obligations.GranuleStores
  refine ⟨fun v i j w hi _ => ⟨granWord_granSetWord_same v hi w, fun h => granWord_granSetWord_ne v hi h w, granTag_granSetWord v hi w⟩,
    fun g v pb s hs => ?_, fun g a f s h => byte_mergeGran_ne h f s⟩
  obtain ⟨hbits, hpb, herr⟩ := State.setCode_same hs g v pb
  exact ⟨hbits, hpb, herr, fun j hj => State.setCode_ne hj v pb s⟩

/-! ### A field of a register (R8, R10) -/

theorem testBit_bits (w : Word) (lo n j : Nat) : (bits w lo n).testBit j = (decide (j < n) && w.getLsbD (lo + j)) := by
  unfold bits
  rw [Nat.testBit_mod_two_pow, Nat.testBit_div_two_pow, Nat.add_comm]; rfl

theorem bits_lt (w : Word) (lo n : Nat) : bits w lo n < 2 ^ n := Nat.mod_lt _ (by positivity)

theorem getLsbD_setBits (w : Word) (lo n v : Nat) {j : Nat} (hj : j < 36) :
    (setBits w lo n v).getLsbD j = if lo ≤ j ∧ j < lo + n then v.testBit (j - lo) else w.getLsbD j := by
  unfold setBits bits
  rw [BitVec.getLsbD_ofNat, testBit_replaceField, decide_eq_true hj, Bool.true_and]; rfl

/-- A field reads what was put in. -/
theorem bits_setBits_same (w : Word) {lo n : Nat} (h : lo + n ≤ 36) (v : Nat) : bits (setBits w lo n v) lo n = v % 2 ^ n := by
  refine Nat.eq_of_testBit_eq fun j => ?_
  rw [testBit_bits, Nat.testBit_mod_two_pow]
  by_cases hj : j < n
  · rw [getLsbD_setBits w lo n v (by omega), if_pos (by omega), Nat.add_sub_cancel_left]
  · simp [hj]

/-- A field of all 36 bits put in is the word. -/
theorem setBits_whole (w : Word) (v : Nat) : setBits w 0 36 v = BitVec.ofNat 36 v := by
  refine BitVec.eq_of_getLsbD_eq fun j hj => ?_
  rw [getLsbD_setBits w 0 36 v hj, if_pos (by omega), BitVec.getLsbD_ofNat, decide_eq_true hj]; rfl

/-- The bits of a W1C field after a write of the field value `x`: those held whose bit in `x` is 0. -/
theorem testBit_and_clear {n x : Nat} (hx : x < 2 ^ n) (y : Nat) {j : Nat} (hj : j < n) :
    (y &&& (2 ^ n - 1 - x)).testBit j = (y.testBit j && !x.testBit j) := by
  rw [Nat.testBit_and, Nat.sub_sub, Nat.add_comm 1 x, Nat.testBit_two_pow_sub_succ hx, decide_eq_true hj, Bool.true_and]

/-! ### Stores by access code (R8 to R12) -/

/-- A write of a register leaves all others. -/
theorem reg_storeReg_ne {b : Blk} {i o j : Nat} (h : j ≠ keyOf b i o) (v : Word) (s : State) : (storeReg b i o v s).reg j = s.reg j :=
  State.reg_setReg_ne s h _

section
variable {b : Blk} {i o : Nat} {v : Word} {s : State} {f : Fld} (hr : Rising s.regs) (hf : fieldsAt b o = [f])
include hr hf

/-- R12: a field RW takes a value that it defines. -/
theorem bits_storeReg_rw (ha : f.acc = .rw) (hok : fieldOk b i o f.lo (bits v f.lo f.w) v s = true) (hw : f.lo + f.w ≤ 36) :
    bits ((storeReg b i o v s).reg (keyOf b i o)) f.lo f.w = bits v f.lo f.w := by
  unfold storeReg
  rw [State.reg_setReg_self hr, hf]
  simp only [List.foldl_cons, List.foldl_nil, ha, hok, if_true]
  rw [bits_setBits_same _ hw, Nat.mod_eq_of_lt (bits_lt v f.lo f.w)]

/-- A field W1C is cleared by ones. -/
theorem testBit_storeReg_w1c (ha : f.acc = .w1c) (hw : f.lo + f.w ≤ 36) {j : Nat} (hj : j < f.w) :
    (bits ((storeReg b i o v s).reg (keyOf b i o)) f.lo f.w).testBit j =
      ((bits (s.reg (keyOf b i o)) f.lo f.w).testBit j && !(bits v f.lo f.w).testBit j) := by
  unfold storeReg
  rw [State.reg_setReg_self hr, hf]
  simp only [List.foldl_cons, List.foldl_nil, ha]
  rw [bits_setBits_same _ hw, Nat.testBit_mod_two_pow, decide_eq_true hj, Bool.true_and, testBit_and_clear (bits_lt v f.lo f.w) _ hj]

/-- A write leaves a field RO. -/
theorem reg_storeReg_ro (ha : f.acc = .ro) : (storeReg b i o v s).reg (keyOf b i o) = s.reg (keyOf b i o) := by
  unfold storeReg
  rw [State.reg_setReg_self hr, hf]
  simp only [List.foldl_cons, List.foldl_nil, ha]

end

/-! ### The bus: which register a write or a read reaches (R342) -/

theorem exec_registerWrite {k : Nat} (hk : k < 0x200000) (v : BitVec 64) (s : State) :
    exec (.registerWrite k v) s = .next (finish (writeReg 4096 k (v.setWidth 36) s)) := by
  show answer (decide (k < 0x200000)) _ = _
  rw [decide_eq_true hk]; rfl

theorem exec_registerReadClear {k : Nat} (hk : k < 0x200000) (s : State) :
    exec (.registerReadClear k) s =
      .next (finish { (readReg 4096 k s).2 with sent := (readReg 4096 k s).2.sent ++ [.bar k ((readReg 4096 k s).1.setWidth 64)] }) := by
  show answer (decide (k < 0x200000)) _ = _
  rw [decide_eq_true hk]; rfl

/-- No register lies at `k`: it is in none of the windows of Table MM-9. -/
def Unmapped (k : Nat) : Prop := (k < 0x60000 ∧ locate k = none) ∨ 0x80000 ≤ k

theorem writeReg_unmapped {k : Nat} (h : Unmapped k) (req : Nat) (v : Word) (s : State) : writeReg req k v s = s := by
  unfold writeReg
  obtain ⟨hk, hl⟩ | hk := h
  · rw [if_neg (by omega), hl]
  · rw [if_pos (by omega), if_neg (by omega)]

theorem readReg_unmapped {k : Nat} (h : Unmapped k) (req : Nat) (s : State) : readReg req k s = (0, s) := by
  unfold readReg
  obtain ⟨hk, hl⟩ | hk := h
  · rw [if_neg (by omega), hl]
  · rw [if_pos (by omega), if_neg (by omega)]

/-- The registers of the event outputs' own block only store. -/
theorem writeEvo_evo (i o : Nat) (v : Word) (s : State) : writeEvo .evo i o v s = storeReg .evo i o v s := rfl

section
variable {b : Blk} {i o k : Nat} {s : State} (hk : k < 0x60000) (hl : locate k = some (b, i, o))
include hk hl

theorem writeReg_off (hoff : blkOn b i s = false) (req : Nat) (v : Word) : writeReg req k v s = s := by
  unfold writeReg
  rw [if_neg (by omega), hl]
  simp [hoff]

theorem readReg_off (hoff : blkOn b i s = false) (req : Nat) : readReg req k s = (0, s) := by
  unfold readReg
  rw [if_neg (by omega), hl]
  simp [hoff]

/-- R239: a write of the scheduler's block of an UNBOUND context does nothing. -/
theorem writeReg_unbound (hb : b = .sctx) (hu : (s.ctx i).st = .unbound) (req : Nat) (v : Word) : writeReg req k v s = s := by
  subst hb
  unfold writeReg
  rw [if_neg (by omega), hl]
  simp [hu]

/-- A read of a register that is there and on: what it shows, with its RS fields cleared. -/
theorem readReg_on (hf : (fieldsAt b o).isEmpty = false) (hon : blkOn b i s = true) (hm : modeOf s ≠ 0) (req : Nat) :
    readReg req k s = ((shownReg req b i o s).1, clearOnRead k (noteRead b o (shownReg req b i o s).2)) := by
  unfold readReg
  rw [if_neg (by omega), hl]
  simp [hf, hon, hm]

/-- A write of a register that is there and on, of a block whose writes have no other effect, stores its fields. -/
theorem writeReg_stores (hf : (fieldsAt b o).isEmpty = false) (hon : blkOn b i s = true) (hm : modeOf s ≠ 0)
    (hu : b = .sctx → (s.ctx i).st ≠ .unbound)
    (hb : b = .route ∨ b = .qdl ∨ b = .evo ∨ (b = .desc ∧ o ≠ 7) ∨ (b = .sctx ∧ o ≠ 8) ∨ (b = .clu ∧ o ≠ 480 ∧ o ≠ 6))
    (req : Nat) (v : Word) : writeReg req k v s = storeReg b i o v s := by
  unfold writeReg
  rw [if_neg (by omega), hl]
  dsimp only
  rw [if_neg (by simp [hf, hon, hm])]
  obtain rfl | rfl | rfl | ⟨rfl, ho⟩ | ⟨rfl, ho⟩ | ⟨rfl, ho, ho'⟩ := hb <;> dsimp only
  case inr.inr.inl => exact writeEvo_evo i o v s
  case inr.inr.inr.inl => rw [if_neg ho]
  case inr.inr.inr.inr.inl => rw [if_neg (hu rfl), if_neg ho]
  case inr.inr.inr.inr.inr => rw [if_neg ho, if_neg ho']

end

/-! ### The flit counters of a link -/

theorem keyOf_link_lt {l o : Nat} (hl : l < 6) (ho : o < 32) : keyOf .link l o < 0x60000 := by
  show 0xE080 + 0x20 * l + o < 0x60000
  omega

/-- FLITS_TX and FLITS_RX are one RS field of 36 bits each. -/
theorem fieldsAt_linkFlits {o : Nat} (ho : o = 6 ∨ o = 7) : fieldsAt .link o = [⟨0, 36, .rs, 0, false⟩] := by
  obtain rfl | rfl := ho <;> rfl

theorem readReg_linkFlits {l o : Nat} {s : State} (hl : l < 6) (ho : o = 6 ∨ o = 7) (hon : domOn (42 + l) s = true) (hm : modeOf s ≠ 0)
    (req : Nat) : readReg req (keyOf .link l o) s = (s.reg (keyOf .link l o), s.setReg (keyOf .link l o) 0) := by
  have hloc : locate (keyOf .link l o) = some (.link, l, o) := locate_link hl (by omega)
  have hfields : fieldsOf (keyOf .link l o) = [⟨0, 36, .rs, 0, false⟩] := by
    unfold fieldsOf
    rw [hloc]
    exact fieldsAt_linkFlits ho
  have hheld : heldReg (keyOf .link l o) s = s.reg (keyOf .link l o) := by
    unfold heldReg
    rw [hfields]
    rfl
  have hclear : clearOnRead (keyOf .link l o) s = s.setReg (keyOf .link l o) 0 := by
    unfold clearOnRead
    rw [hfields]
    exact congrArg (s.setReg _ ·) (setBits_whole _ 0)
  rw [readReg_on (keyOf_link_lt hl (by omega)) hloc (by rw [fieldsAt_linkFlits ho]; rfl) hon hm]
  exact Prod.ext hheld hclear

/-- Settles O54: where a write or a read goes is said once of `writeReg` and `readReg`, and what is stored once of `storeReg`. -/
theorem registerRows : Obligations.RegisterRows := by
  unfold Obligations.RegisterRows
  refine ⟨fun b i o v s hloc hk => ?_, fun k v s h => ?_, fun b i o v s f hs hf => ?_, fun l o s hl ho hon hm => ?_⟩
  · have hbar : keyOf b i o < 0x200000 := by omega
    refine fun hb => ⟨fun hf hon hm hu => ?_, fun hsctx hu => ?_, fun hoff => ⟨?_, ?_⟩⟩
    · rw [exec_registerWrite hbar, writeReg_stores hk hloc hf hon hm hu hb]
    · rw [exec_registerWrite hbar, writeReg_unbound hk hloc hsctx hu]
    · rw [exec_registerWrite hbar, writeReg_off hk hloc hoff]
    · rw [exec_registerReadClear hbar, readReg_off hk hloc hoff]
  · have hbar : k < 0x200000 := by omega
    have hno : Unmapped k := h.imp_right And.left
    rw [exec_registerWrite hbar, exec_registerReadClear hbar, writeReg_unmapped hno, readReg_unmapped hno]
    exact ⟨rfl, rfl⟩
  · exact ⟨bits_storeReg_rw hs.regs hf, fun ha hw j hj => testBit_storeReg_w1c hs.regs hf ha hw hj, reg_storeReg_ro hs.regs hf,
      fun j hj => reg_storeReg_ne hj v s⟩
  · have hread := readReg_linkFlits hl ho hon hm 4096
    rw [exec_registerReadClear (Nat.lt_trans (keyOf_link_lt hl (by omega)) (by decide)), hread]
    exact ⟨rfl, rfl⟩

end Sys2Proof.Machine
end

section
/-! The statement O37: Reel's latches, their record and their clears, and what a tripped pin shows (R310 to R315). -/

namespace Sys2Proof.Machine

/-! ### Fields written by the device -/

theorem keyOf_right_inj (b : Blk) (i o p : Nat) : keyOf b i o = keyOf b i p ↔ o = p := by
  cases b <;> simp [keyOf]

/-- A field put in leaves what lies beside it. -/
theorem bits_setBits_beside (w : Word) {lo n lo' n' : Nat} (hn : lo' + n' ≤ 36) (h : lo' + n' ≤ lo ∨ lo + n ≤ lo') (v : Nat) :
    bits (setBits w lo n v) lo' n' = bits w lo' n' := by
  refine Nat.eq_of_testBit_eq fun j => ?_
  rw [testBit_bits, testBit_bits]
  by_cases hj : j < n'
  · rw [getLsbD_setBits w lo n v (by omega), if_neg (by omega)]
  · simp [hj]

/-- Two fields of a register block that share no bit. -/
abbrev Apart (f g : FRef) : Prop := f.b = g.b ∧ f.lo + f.w ≤ 36 ∧ (f.o ≠ g.o ∨ f.lo + f.w ≤ g.lo ∨ g.lo + g.w ≤ f.lo)

theorem rd_setReg_ne {f : FRef} {i k : Nat} (h : keyOf f.b i f.o ≠ k) (v : Word) (s : State) : rd f i (s.setReg k v) = rd f i s := by
  unfold rd
  rw [State.reg_setReg_ne s h]

theorem rising_wr {s : State} (h : Rising s.regs) (f : FRef) (i v : Nat) : Rising (wr f i v s).regs := State.setReg_rising h ..

theorem rising_bump {s : State} (h : Rising s.regs) (f : FRef) (i : Nat) : Rising (bump f i s).regs := rising_wr h ..

theorem rd_wr_self {s : State} (h : Rising s.regs) {f : FRef} (hf : f.lo + f.w ≤ 36) (i v : Nat) : rd f i (wr f i v s) = v % 2 ^ f.w := by
  unfold rd wr
  rw [State.reg_setReg_self h, bits_setBits_same _ hf]

theorem rd_wr_apart {s : State} (h : Rising s.regs) {f g : FRef} (ha : Apart f g) (i v : Nat) : rd f i (wr g i v s) = rd f i s := by
  obtain ⟨hb, hf, ho⟩ := ha
  unfold rd wr
  rw [hb]
  by_cases he : f.o = g.o
  · rw [he, State.reg_setReg_self h, bits_setBits_beside _ hf (ho.resolve_left (absurd he))]
  · rw [State.reg_setReg_ne s (by rwa [Ne, keyOf_right_inj])]

theorem rd_bump_self {s : State} (h : Rising s.regs) {f : FRef} (hf : f.lo + f.w ≤ 36) (i : Nat) :
    rd f i (bump f i s) = min (rd f i s + 1) (2 ^ f.w - 1) := by
  have := Nat.two_pow_pos f.w
  unfold bump bumpBy
  rw [rd_wr_self h hf, Nat.mod_eq_of_lt (by omega)]

theorem rd_bump_apart {s : State} (h : Rising s.regs) {f g : FRef} (ha : Apart f g) (i : Nat) : rd f i (bump g i s) = rd f i s :=
  rd_wr_apart h ha ..

/-! ### What a bank's registers do not reach -/

theorem keyOf_pwr_ne_bank {o : Nat} (h : o < 0x2000) (b p : Nat) : keyOf .pwr 0 o ≠ keyOf .bank b p := by
  simp only [keyOf]
  omega

theorem domOn_setReg_bank (d b o : Nat) (v : Word) (s : State) : domOn d (s.setReg (keyOf .bank b o) v) = domOn d s := by
  unfold domOn
  rw [rd_setReg_ne (f := F.pwr_DOM_ON_LO) (keyOf_pwr_ne_bank (by decide) b o), rd_setReg_ne (f := F.pwr_DOM_ON_HI_ON) (keyOf_pwr_ne_bank (by decide) b o)]

/-- A write of one register of a bank leaves the fields of its others. -/
theorem rd_setReg_bank {f : FRef} {o : Nat} (hb : f.b = .bank) (ho : f.o ≠ o) (b : Nat) (v : Word) (s : State) :
    rd f b (s.setReg (keyOf .bank b o) v) = rd f b s := by
  refine rd_setReg_ne ?_ v s
  rwa [hb, Ne, keyOf_right_inj]

theorem inSafe_setReg_bank (b o : Nat) (v : Word) (s : State) : inSafe (s.setReg (keyOf .bank b o) v) = inSafe s := by
  unfold inSafe rdB
  rw [rd_setReg_ne (f := F.pwr_MODE_SAFE) (keyOf_pwr_ne_bank (by decide) b o)]

theorem qCap_setReg_bank {b o : Nat} (hb : b < 4) (ho : o < 32) (v : Word) (s : State) (q : Nat) :
    qCap (s.setReg (keyOf .bank b o) v) q = qCap s q := by
  refine rd_setReg_ne ?_ v s
  simp only [keyOf, F.desc_CAP]
  omega

/-- A search that passes over key `k` finds the same after any put there. -/
theorem Sparse.findSome?_put {α β : Type} [DecidableEq α] (d : α) {k : Nat} (v : α) {f : Nat × α → Option β} (hf : ∀ x, f (k, x) = none) :
    ∀ l : List (Nat × α), (Sparse.put d k v l).findSome? f = l.findSome? f
  | [] => by
    unfold Sparse.put
    split
    · rfl
    · simp [hf]
  | (j, w) :: l => by
    have ih := Sparse.findSome?_put d v hf l
    unfold Sparse.put
    split
    · split <;> simp [List.findSome?_cons, hf]
    · split
      · rename_i hk
        subst hk
        split <;> simp [hf]
      · simp [List.findSome?_cons, ih]

/-- A bank's registers bind no queue. -/
theorem evtQueue_setReg_bank {b o : Nat} (hb : b < 4) (ho : o < 32) (e : Nat) (v : Word) (s : State) :
    evtQueue e (s.setReg (keyOf .bank b o) v) = evtQueue e s := by
  unfold evtQueue producerQueue
  simp only [qCap_setReg_bank hb ho]
  refine Sparse.findSome?_put _ v (fun x => ?_) s.regs
  rw [locate_bank hb ho]

/-! ### The sources of a bank -/

/-- TRIP and the record behind it enable no source. -/
theorem srcEnabled_setReg_trip {o : Nat} (ho : 7 ≤ o) (b kind inst : Nat) (v : Word) (s : State) :
    srcEnabled b kind inst (s.setReg (keyOf .bank b o) v) = srcEnabled b kind inst s := by
  have hrd (f : FRef) (hf : f.b = .bank ∧ f.o < 7) : rd f b (s.setReg (keyOf .bank b o) v) = rd f b s :=
    rd_setReg_bank hf.1 (by omega) b v s
  unfold srcEnabled
  rw [hrd F.bank_SRC0 (by decide), hrd F.bank_SRC1_AC_HI (by decide), hrd F.bank_SRC1_FLT (by decide), hrd F.bank_SRC2 (by decide),
    hrd F.bank_SRC3 (by decide), hrd F.bank_SRC4_WIN (by decide)]

theorem acActive_setReg_bank (n b o : Nat) (v : Word) (s : State) : acActive n (s.setReg (keyOf .bank b o) v) = acActive n s := by
  unfold acActive
  rw [domOn_setReg_bank]
  rfl

theorem winActive_setReg_bank (c b o : Nat) (v : Word) (s : State) : winActive c (s.setReg (keyOf .bank b o) v) = winActive c s := by
  unfold winActive
  rw [domOn_setReg_bank]
  rfl

theorem activeSources_setReg_trip (b : Nat) (v : Word) (s : State) :
    activeSources b (s.setReg (keyOf .bank b 7) v) = activeSources b s := by
  unfold activeSources
  simp only [srcEnabled_setReg_trip (Nat.le_refl 7), acActive_setReg_bank, winActive_setReg_bank]
  rfl

theorem clearBlocked_setReg_trip (b : Nat) (v : Word) (s : State) : clearBlocked b (s.setReg (keyOf .bank b 7) v) = clearBlocked b s := by
  unfold clearBlocked
  rw [activeSources_setReg_trip, inSafe_setReg_bank]
  rfl

theorem covered_setReg_trip (p b : Nat) (v : Word) (s : State) : covered p (s.setReg (keyOf .bank b 7) v) = covered p s := by
  have hkey : keyOf .bank (p / 32) 1 ≠ keyOf .bank b 7 := by
    simp only [keyOf]
    omega
  unfold covered
  rw [rd_setReg_ne (f := F.bank_COVER_MASK) hkey]
  rfl

/-! ### A latch that sets (R310, R314) -/

/-- R314: TRIP_REC and TRIP_T of bank `b` name a source and its time. -/
def recordTrip (b kind inst time : Nat) (s : State) : State :=
  wr F.bank_TRIP_T b time (wr F.bank_TRIP_REC_INST b inst (wr F.bank_TRIP_REC_KIND b kind (bump F.bank_TRIP_REC_COUNT b s)))

/-- The latch of bank `b` set for its own sources, with MORE where another acts with the first. -/
def latchTrip (b : Nat) (others : Bool) (s : State) : State :=
  let s0 := wr F.bank_TRIP_LATCHED b 1 (s.modBank b (fun x => { x with all := false }))
  if others then wr F.bank_TRIP_MORE b 1 s0 else s0

/-- A clear latch of a powered bank sets, records its source, and posts the event of the trip. -/
theorem setLatch_clear {b : Nat} {s : State} (hon : domOn (bankDomain b) s = true) (hl : rdB F.bank_TRIP_LATCHED b s = false) (kind inst : Nat) :
    setLatch b kind inst s = postEvent (2 + b / 2) 8 b kind
      (recordTrip b kind inst s.timeF (latchTrip b ((activeSources b s).any (fun x => x ≠ (kind, inst))) s)) := by
  unfold setLatch
  rw [if_neg (by simp [hon]), if_neg (by simp [hl])]
  rfl

/-- A further source of a set latch leaves all but MORE. -/
theorem setLatch_set {b kind : Nat} {s : State} (hon : domOn (bankDomain b) s = true) (hl : rdB F.bank_TRIP_LATCHED b s = true) (hk : kind ≤ 4)
    (inst : Nat) : setLatch b kind inst s = wr F.bank_TRIP_MORE b 1 s := by
  unfold setLatch
  rw [if_neg (by simp [hon]), if_pos hl, if_pos hk]

section
variable {s : State} (h : Rising s.regs)
include h

theorem rising_latchTrip (b : Nat) (others : Bool) : Rising (latchTrip b others s).regs := by
  have h0 : Rising (wr F.bank_TRIP_LATCHED b 1 (s.modBank b (fun x => { x with all := false }))).regs := rising_wr h ..
  unfold latchTrip
  cases others with
  | true => exact rising_wr h0 ..
  | false => exact h0

theorem rd_latched_latchTrip (b : Nat) (others : Bool) : rd F.bank_TRIP_LATCHED b (latchTrip b others s) = 1 := by
  let s0 := s.modBank b (fun x => { x with all := false })
  have h0 : Rising s0.regs := h
  have hset : rd F.bank_TRIP_LATCHED b (wr F.bank_TRIP_LATCHED b 1 s0) = 1 := rd_wr_self h0 (by decide) ..
  unfold latchTrip
  cases others with
  | true => exact (rd_wr_apart (rising_wr h0 ..) (by decide) ..).trans hset
  | false => exact hset

theorem rd_latchTrip_apart {f : FRef} (hl : Apart f F.bank_TRIP_LATCHED) (hm : Apart f F.bank_TRIP_MORE) (b : Nat) (others : Bool) :
    rd f b (latchTrip b others s) = rd f b s := by
  let s0 := s.modBank b (fun x => { x with all := false })
  have h0 : Rising s0.regs := h
  have hset : rd f b (wr F.bank_TRIP_LATCHED b 1 s0) = rd f b s := rd_wr_apart h0 hl ..
  unfold latchTrip
  cases others with
  | true => exact (rd_wr_apart (rising_wr h0 ..) hm ..).trans hset
  | false => exact hset

/-- What a record of a trip holds. -/
theorem rd_recordTrip (b kind inst time : Nat) :
    let t := recordTrip b kind inst time s
    rd F.bank_TRIP_LATCHED b t = rd F.bank_TRIP_LATCHED b s ∧ rd F.bank_TRIP_REC_KIND b t = kind % 2 ^ 4 ∧
      rd F.bank_TRIP_REC_INST b t = inst % 2 ^ 7 ∧ rd F.bank_TRIP_T b t = time % 2 ^ 36 ∧
      rd F.bank_TRIP_REC_COUNT b t = min (rd F.bank_TRIP_REC_COUNT b s + 1) 511 := by
  have hcount := rising_bump h F.bank_TRIP_REC_COUNT b
  have hkind := rising_wr hcount F.bank_TRIP_REC_KIND b kind
  have hinst := rising_wr hkind F.bank_TRIP_REC_INST b inst
  unfold recordTrip
  refine ⟨?_, ?_, ?_, rd_wr_self hinst (by decide) .., ?_⟩
  · rw [rd_wr_apart hinst (by decide), rd_wr_apart hkind (by decide), rd_wr_apart hcount (by decide), rd_bump_apart h (by decide)]
  · rw [rd_wr_apart hinst (by decide), rd_wr_apart hkind (by decide), rd_wr_self hcount (by decide)]; rfl
  · rw [rd_wr_apart hinst (by decide), rd_wr_self hkind (by decide)]; rfl
  · rw [rd_wr_apart hinst (by decide), rd_wr_apart hkind (by decide), rd_wr_apart hcount (by decide), rd_bump_self h (by decide)]; rfl

end

theorem evtQueue_recordTrip {b : Nat} (hb : b < 4) (e kind inst time : Nat) (s : State) : evtQueue e (recordTrip b kind inst time s) = evtQueue e s := by
  have hwr (f : FRef) (hf : f.b = .bank ∧ f.o < 32) (v : Nat) (u : State) : evtQueue e (wr f b v u) = evtQueue e u := by
    unfold wr
    rw [hf.1, evtQueue_setReg_bank hb hf.2]
  unfold recordTrip bump bumpBy
  rw [hwr F.bank_TRIP_T (by decide), hwr F.bank_TRIP_REC_INST (by decide), hwr F.bank_TRIP_REC_KIND (by decide), hwr F.bank_TRIP_REC_COUNT (by decide)]

theorem evtQueue_latchTrip {b : Nat} (hb : b < 4) (e : Nat) (others : Bool) (s : State) : evtQueue e (latchTrip b others s) = evtQueue e s := by
  have h0 : evtQueue e (wr F.bank_TRIP_LATCHED b 1 (s.modBank b (fun x => { x with all := false }))) = evtQueue e s :=
    evtQueue_setReg_bank hb (by decide) ..
  unfold latchTrip
  cases others with
  | true => exact (evtQueue_setReg_bank hb (o := 7) (by decide) ..).trans h0
  | false => exact h0

/-- An event of the event outputs that no queue takes leaves all registers but EVT_STAT. -/
theorem reg_postEvent_unbound {e : Nat} {s : State} (he : 2 ≤ e) (hq : evtQueue e s = none) {k : Nat} (hk : k ≠ keyOf .evo 0 1)
    (kind inst code : Nat) : (postEvent e kind inst code s).reg k = s.reg k := by
  have hdrop (u : State) : (dropEvent e u).reg k = u.reg k := by
    unfold dropEvent
    rw [if_neg (by omega), if_neg (by omega)]
    split <;> exact State.reg_setReg_ne u hk _
  unfold postEvent
  rw [if_neg (by omega), hq]
  dsimp only
  split
  · rfl
  · exact hdrop _

/-- A bank's register after a trip whose event no queue takes is that of the record. -/
theorem rd_setLatch_clear {b : Nat} {s : State} (hb : b < 4) (hon : domOn (bankDomain b) s = true) (hl : rdB F.bank_TRIP_LATCHED b s = false)
    (hq : evtQueue (2 + b / 2) s = none) (kind inst : Nat) {f : FRef} (hf : f.b = .bank) :
    rd f b (setLatch b kind inst s) =
      rd f b (recordTrip b kind inst s.timeF (latchTrip b ((activeSources b s).any (fun x => x ≠ (kind, inst))) s)) := by
  have hkey : keyOf f.b b f.o ≠ keyOf .evo 0 1 := by
    rw [hf]
    simp only [keyOf]
    omega
  rw [setLatch_clear hon hl]
  unfold rd
  rw [reg_postEvent_unbound (by omega) (by rw [evtQueue_recordTrip hb, evtQueue_latchTrip hb, hq]) hkey]

/-- R310, R314: what the first source leaves in the bank. -/
theorem setLatch_records {b kind inst : Nat} {s : State} (hb : b < 4) (hs : Rising s.regs) (hon : domOn (bankDomain b) s = true)
    (hl : rdB F.bank_TRIP_LATCHED b s = false) (hq : evtQueue (2 + b / 2) s = none) (hi : inst < 128) (hk : kind < 16) :
    let t := setLatch b kind inst s
    rdB F.bank_TRIP_LATCHED b t = true ∧ rd F.bank_TRIP_REC_KIND b t = kind ∧ rd F.bank_TRIP_REC_INST b t = inst ∧ rd F.bank_TRIP_T b t = s.timeF ∧
      rd F.bank_TRIP_REC_COUNT b t = min (rd F.bank_TRIP_REC_COUNT b s + 1) 511 := by
  have htime : s.timeF % 2 ^ 36 = s.timeF := Nat.mod_mod _ _
  obtain ⟨hlatched, hkind, hinst, hT, hcount⟩ :=
    rd_recordTrip (rising_latchTrip hs b ((activeSources b s).any (fun x => x ≠ (kind, inst)))) b kind inst s.timeF
  rw [rd_latched_latchTrip hs] at hlatched
  rw [rd_latchTrip_apart hs (by decide) (by decide)] at hcount
  have hrd {f : FRef} (hf : f.b = .bank) := rd_setLatch_clear hb hon hl hq kind inst hf
  refine ⟨?_, (hrd rfl).trans (hkind.trans (Nat.mod_eq_of_lt hk)), (hrd rfl).trans (hinst.trans (Nat.mod_eq_of_lt hi)),
    (hrd rfl).trans (hT.trans htime), (hrd rfl).trans hcount⟩
  unfold rdB
  rw [hrd rfl, hlatched]
  rfl

/-! ### A clear of the latch (R312, R313) -/

theorem clearTrip_refused {b : Nat} {s : State} (h : clearBlocked b s = true) : clearTrip b s = wr F.bank_TRIP_CLR_FAIL b 1 s := by
  unfold clearTrip
  rw [if_pos h]

/-- The pins of bank `b` that its latch forces. -/
def tripPins (b : Nat) (s : State) : List Nat := ((List.range 32).map (32 * b + ·)).filter (fun p => covered p s)

theorem mem_tripPins (b p : Nat) (s : State) : p ∈ tripPins b s ↔ p / 32 = b ∧ covered p s = true := by
  have hrange : p ∈ (List.range 32).map (32 * b + ·) ↔ p / 32 = b := by
    simp only [List.mem_map, List.mem_range]
    constructor
    · rintro ⟨i, hi, rfl⟩
      omega
    · exact fun h => ⟨p % 32, by omega, by omega⟩
  unfold tripPins
  rw [List.mem_filter, hrange]

/-- A pin let go at once. -/
def Pin.letLoose (x : Pin) : Pin := { x with safe := false }

/-- Pins let go at once, under RELEASE IMMEDIATE. -/
def loosePins (l : List Nat) (s : State) : State := l.foldl (fun s p => s.modEvPin p Pin.letLoose) s

theorem loosePins_cons (p : Nat) (l : List Nat) (s : State) : loosePins (p :: l) s = loosePins l (s.modEvPin p Pin.letLoose) := rfl

theorem rd_loosePins (f : FRef) (i : Nat) (l : List Nat) (s : State) : rd f i (loosePins l s) = rd f i s := by
  induction l generalizing s with
  | nil => rfl
  | cons p l ih => rw [loosePins_cons, ih]; rfl

theorem bank_loosePins (b : Nat) (l : List Nat) (s : State) : (loosePins l s).bank b = s.bank b := by
  induction l generalizing s with
  | nil => rfl
  | cons p l ih => rw [loosePins_cons, ih]; rfl

theorem evPin_loosePins {p : Nat} {l : List Nat} {s : State} (h : Rising s.evPins) :
    (loosePins l s).evPin p = if p ∈ l then (s.evPin p).letLoose else s.evPin p := by
  induction l generalizing s with
  | nil => rfl
  | cons k l ih =>
    rw [loosePins_cons, State.modEvPin_eq, ih (State.setEvPin_rising h ..)]
    by_cases hk : p = k
    · subst hk
      rw [State.evPin_setEvPin_self h, if_pos List.mem_cons_self]
      exact ite_self _
    · rw [State.evPin_setEvPin_ne _ hk]
      simp [hk]

/-- R312, R313: a clear that takes effect under RELEASE IMMEDIATE. -/
theorem clearTrip_done {b : Nat} {s : State} (hs : clearBlocked b s = false) (hl : rdB F.bank_TRIP_LATCHED b s = true)
    (hr : rdB F.bank_BANK_CTL_RELEASE b s = false) :
    clearTrip b s = loosePins (tripPins b s) (wr F.bank_TRIP_LATCHED b 0 (s.modBank b (fun x => { x with all := false }))) := by
  let u := wr F.bank_TRIP_LATCHED b 0 (s.modBank b (fun x => { x with all := false }))
  have hru : rdB F.bank_BANK_CTL_RELEASE b u = false :=
    (congrArg (· == 1) (rd_setReg_bank (f := F.bank_BANK_CTL_RELEASE) rfl (by decide) ..)).trans hr
  unfold clearTrip
  rw [if_neg (by simp [hs]), if_neg (by simp [hl])]
  unfold releasePins
  exact if_neg (by simp [u, hru])

/-! ### Writes of a bank's registers -/

/-- A write of a register of a powered bank. -/
theorem writeWord_bank {b o : Nat} {s : State} (hb : b < 4) (ho : o < 32) (hf : (fieldsAt .bank o).isEmpty = false)
    (hon : domOn (bankDomain b) s = true) (hm : modeOf s ≠ 0) (v : Word) : writeWord .bank b o v s = writeEvo .bank b o v s := by
  have hkey : ¬0x60000 ≤ keyOf .bank b o := by
    simp only [keyOf]
    omega
  have hblk : blkOn .bank b s = true := hon
  unfold writeWord writeReg
  rw [if_neg hkey, locate_bank hb ho]
  dsimp only
  rw [if_neg (by simp [hf, hblk, hm])]

theorem exec_softwareTrip {b : Nat} {s : State} (hb : b < 4) (hon : domOn (bankDomain b) s = true) (hm : modeOf s ≠ 0) :
    exec (.softwareTrip b 1) s =
      .next (finish ((setLatch b 4 b (storeReg .bank b 7 1 s)).modBank b (fun x => { x with swAt := some s.clock.tick }))) := by
  show answer (decide (b < 4)) (writeWord .bank b 7 1 s) = _
  rw [decide_eq_true hb, writeWord_bank hb (by decide) rfl hon hm]
  rfl

theorem exec_tripClear {b : Nat} {s : State} (hb : b < 4) (hon : domOn (bankDomain b) s = true) (hm : modeOf s ≠ 0) :
    exec (.tripClear b) s = .next (finish (clearTrip b (storeReg .bank b 7 2 s))) := by
  show answer (decide (b < 4)) (writeWord .bank b 7 2 s) = _
  rw [decide_eq_true hb, writeWord_bank hb (by decide) rfl hon hm]
  rfl

theorem writeEvo_source {r : Nat} (hr : r < 5) (b : Nat) (v : Word) (s : State) : writeEvo .bank b (2 + r) v s = writeSource b (2 + r) v s := by
  obtain rfl | rfl | rfl | rfl | rfl : r = 0 ∨ r = 1 ∨ r = 2 ∨ r = 3 ∨ r = 4 := by omega
  all_goals rfl

theorem sourceFields_isEmpty {r : Nat} (hr : r < 5) : (fieldsAt .bank (2 + r)).isEmpty = false := by
  obtain rfl | rfl | rfl | rfl | rfl : r = 0 ∨ r = 1 ∨ r = 2 ∨ r = 3 ∨ r = 4 := by omega
  all_goals rfl

/-- R310: a write that leaves no enabled source active sets no latch. -/
theorem writeSource_quiet {b o : Nat} {v : Word} {s : State} (h : activeSources b (storeReg .bank b o v s) = []) :
    writeSource b o v s = storeReg .bank b o v s := by
  unfold writeSource
  dsimp only
  rw [h]
  rfl

theorem exec_reelSourceWrite {b r : Nat} {v : Word} {s : State} (hb : b < 4) (hr : r < 5) (hon : domOn (bankDomain b) s = true) (hm : modeOf s ≠ 0)
    (h : activeSources b (storeReg .bank b (2 + r) v s) = []) :
    exec (.reelSourceWrite b r v) s = .next (finish (storeReg .bank b (2 + r) v s)) := by
  show answer (decide (b < 4)) (if r < 5 then writeWord .bank b (2 + r) v s else s) = _
  rw [decide_eq_true hb, if_pos hr, writeWord_bank hb (by omega) (sourceFields_isEmpty hr) hon hm, writeEvo_source hr, writeSource_quiet h]
  rfl

/-- A write of TRIP does not store LATCHED. -/
theorem rd_latched_storeTrip {b : Nat} {s : State} (h : Rising s.regs) (v : Word) :
    rd F.bank_TRIP_LATCHED b (storeReg .bank b 7 v s) = rd F.bank_TRIP_LATCHED b s := by
  show bits ((s.setReg (keyOf .bank b 7) _).reg (keyOf .bank b 7)) 2 1 = _
  rw [State.reg_setReg_self h]
  show bits (setBits (setBits (s.reg (keyOf .bank b 7)) 4 1 _) 3 1 _) 2 1 = _
  rw [bits_setBits_beside _ (by decide) (by decide), bits_setBits_beside _ (by decide) (by decide)]
  rfl

/-- R312: a clear that is blocked sets CLR_FAIL and changes nothing else of the bank. -/
theorem exec_tripClear_refused {b : Nat} {s : State} (hb : b < 4) (hon : domOn (bankDomain b) s = true) (hm : modeOf s ≠ 0) (hs : Rising s.regs)
    (h : clearBlocked b s = true) : ∃ t, exec (.tripClear b) s = .next (finish t) ∧ rdB F.bank_TRIP_CLR_FAIL b t = true ∧
      rd F.bank_TRIP_LATCHED b t = rd F.bank_TRIP_LATCHED b s ∧ t.banks = s.banks ∧ t.evPins = s.evPins := by
  have hrise : Rising (storeReg .bank b 7 2 s).regs := State.setReg_rising hs ..
  have hblocked : clearBlocked b (storeReg .bank b 7 2 s) = true := (clearBlocked_setReg_trip ..).trans h
  refine ⟨wr F.bank_TRIP_CLR_FAIL b 1 (storeReg .bank b 7 2 s), ?_, ?_, ?_, rfl, rfl⟩
  · rw [exec_tripClear hb hon hm, clearTrip_refused hblocked]
  · unfold rdB
    rw [rd_wr_self hrise (by decide)]
    rfl
  · rw [rd_wr_apart hrise (by decide), rd_latched_storeTrip hs]

/-- R312, R313: a clear that nothing blocks. -/
theorem exec_tripClear_done {b : Nat} {s : State} (hb : b < 4) (hon : domOn (bankDomain b) s = true) (hm : modeOf s ≠ 0) (hs : InOrder s)
    (h : clearBlocked b s = false) (hl : rdB F.bank_TRIP_LATCHED b s = true) (hr : rdB F.bank_BANK_CTL_RELEASE b s = false) :
    ∃ t, exec (.tripClear b) s = .next (finish t) ∧ rdB F.bank_TRIP_LATCHED b t = false ∧ (t.bank b).all = false ∧
      ∀ p, t.evPin p = if p / 32 = b ∧ covered p s = true then { s.evPin p with safe := false } else s.evPin p := by
  let s1 := storeReg .bank b 7 2 s
  let s2 := s1.modBank b (fun x => { x with all := false })
  let s3 := wr F.bank_TRIP_LATCHED b 0 s2
  have hrise : Rising s2.regs := State.setReg_rising hs.regs ..
  have hfree : clearBlocked b s1 = false := (clearBlocked_setReg_trip ..).trans h
  have hlatched : rdB F.bank_TRIP_LATCHED b s1 = true := (congrArg (· == 1) (rd_latched_storeTrip hs.regs 2)).trans hl
  have hrelease : rdB F.bank_BANK_CTL_RELEASE b s1 = false :=
    (congrArg (· == 1) (rd_setReg_bank (f := F.bank_BANK_CTL_RELEASE) rfl (by decide) ..)).trans hr
  have hcovered (p : Nat) : covered p s1 = covered p s := covered_setReg_trip ..
  refine ⟨loosePins (tripPins b s1) s3, ?_, ?_, ?_, fun p => ?_⟩
  · rw [exec_tripClear hb hon hm, clearTrip_done hfree hlatched hrelease]
  · unfold rdB
    rw [rd_loosePins, rd_wr_self hrise (by decide)]
    rfl
  · have hbank : s3.bank b = { s1.bank b with all := false } := State.bank_setBank_self hs.banks ..
    rw [bank_loosePins, hbank]
  · rw [evPin_loosePins (s := s3) hs.evPins]
    simp only [mem_tripPins, hcovered]
    rfl

/-! ### What a pad shows (R293, R309, R311) -/

section
variable {p : Nat} {s : State} (hon : domOn (bankDomain (p / 32)) s = true)
include hon

/-- R311: a pin that a set latch covers shows its SAFE level. -/
theorem padLevel_tripped (hl : rdB F.bank_TRIP_LATCHED (p / 32) s = true) (hc : covered p s = true) :
    padLevel p s = if rd F.pin_PIN_CTL_SAFE p s = 0 then some false else if rd F.pin_PIN_CTL_SAFE p s = 1 then some true else none := by
  have hforced : forced p s = true := by simp [forced, hl, hc]
  unfold padLevel
  rw [if_neg (by simp [hon]), if_pos hforced]
  split
  · next h0 => rw [if_pos h0]
  · next h1 => rw [if_neg (by omega), if_pos h1]
  · next h0 h1 => rw [if_neg h0, if_neg h1]

/-- R293, R311: a pin that no trip covers and that is not held safe shows its own level. -/
theorem padLevel_uncovered (hc : covered p s = false) (hm : pinMode p s ≠ 0) (hs : (s.evPin p).safe = false) :
    padLevel p s = some ((s.evPin p).out != rdB F.pin_PIN_CTL_ACTIVE p s) := by
  have hfree : forced p s = false := by simp [forced, hc, hm, hs]
  unfold padLevel
  rw [if_neg (by simp [hon]), if_neg (by simp [hfree])]

end

theorem covered_of_not_all {p : Nat} {s : State} (h : (s.bank (p / 32)).all = false) :
    covered p s = (rd F.bank_COVER_MASK (p / 32) s).testBit (p % 32) := by
  unfold covered
  rw [h, Bool.false_or]

/-! ### The FLT pins (R310) -/

/-- An FLT pin that falls is a source of all banks, in turn. -/
theorem exec_fltNFall {n : Nat} {s : State} (hn : n < 8) (hf : s.pins.fltLow.testBit n = false) :
    exec (.fltNFall n) s = .next (finish (sourceActive 2 n { s with pins := { s.pins with fltLow := s.pins.fltLow ||| 2 ^ n } })) := by
  have hinactive : fltActive n s = false := hf
  show answer (decide (n < 8)) (setFlt n true s) = _
  unfold setFlt
  rw [decide_eq_true hn, hinactive]
  rfl

theorem exec_fltNRise {n : Nat} (hn : n < 8) (s : State) :
    exec (.fltNRise n) s = .next (finish { s with pins := { s.pins with fltLow := s.pins.fltLow &&& (255 - 2 ^ n) } }) := by
  show answer (decide (n < 8)) (setFlt n false s) = _
  rw [decide_eq_true hn]
  rfl

/-- Settles O37, part by part: a latch that sets and its record, the FLT pins, a software trip, MORE, a clear, a write of a source register, and the
pads of a tripped bank. -/
theorem reelRows : Obligations.ReelRows := by
  unfold Obligations.ReelRows
  refine ⟨fun b kind inst s hb hs hon hl hq hi hk => setLatch_records hb hs.regs hon hl hq hi hk,
    fun n s hn hf => ⟨exec_fltNFall hn hf, fun b _ => rfl⟩,
    fun n s hn => exec_fltNRise hn s,
    fun b s hb hon hm => exec_softwareTrip hb hon hm,
    fun b kind inst s hon hl hk => setLatch_set hon hl hk inst,
    fun b s hb hon hm hs => ⟨exec_tripClear_refused hb hon hm hs.regs, fun h hl hr => ?_⟩,
    fun b r v s hb hr hon hm h => exec_reelSourceWrite hb hr hon hm h,
    fun p s hon hl hall => ⟨fun hc => ?_, fun hc hm hs => ?_⟩⟩
  · obtain ⟨t, hexec, hlatched, hbank, hpins⟩ := exec_tripClear_done hb hon hm hs h hl hr
    exact ⟨t, hexec, hlatched, hbank, fun p _ => hpins p⟩
  · exact padLevel_tripped hon hl ((covered_of_not_all hall).trans hc)
  · exact padLevel_uncovered hon ((covered_of_not_all hall).trans hc) hm hs

end Sys2Proof.Machine
end

section
/-! The statements O50, O51 and O53: the always-on domain (chapters 2, 16 and 17). First, the registers of PWR, which lie below all others, and what
a change elsewhere keeps of that domain. -/

namespace Sys2Proof.Machine

/-- What a filter by key leaves of a sparse list. -/
theorem Sparse.get_filter {α : Type} (d : α) (p : Nat → Bool) (k : Nat) (l : List (Nat × α)) :
    Sparse.get d k (l.filter (fun e => p e.1)) = if p k then Sparse.get d k l else d := by
  induction l with
  | nil => simp [Sparse.get]
  | cons e l ih =>
    obtain ⟨j, w⟩ := e
    by_cases hj : j = k
    · subst hj
      cases hp : p j <;> simp [Sparse.get, hp, ih]
    · cases hp : p j <;> simp [Sparse.get, hp, hj, ih]

/-- A put at a key that a filter drops is not seen behind the filter. -/
theorem Sparse.filter_put {α : Type} [DecidableEq α] (d : α) {p : Nat → Bool} {k : Nat} (hk : p k = false) (v : α) (l : List (Nat × α)) :
    (Sparse.put d k v l).filter (fun e => p e.1) = l.filter (fun e => p e.1) := by
  induction l with
  | nil => unfold Sparse.put; split <;> simp [hk]
  | cons e l ih =>
    obtain ⟨j, w⟩ := e
    unfold Sparse.put
    split
    · split <;> simp [hk]
    · split
      · rename_i hj
        subst hj
        split <;> simp [hk]
      · rw [List.filter_cons, List.filter_cons, ih]

/-- The registers of PWR. -/
def pwrRegs (s : State) : List (Nat × Word) := s.regs.filter (fun e => decide (e.1 < 0x2000))

/-- The always-on domain of `s` is that of `v`: the power manager, the start, the pins and the registers of PWR. -/
structure KeepsPower (v s : State) : Prop where
  pwr    : s.pwr = v.pwr
  start  : s.start = v.start
  pins   : s.pins = v.pins
  regs   : pwrRegs s = pwrRegs v
  rising : Rising s.regs

theorem KeepsPower.refl {s : State} (h : Rising s.regs) : KeepsPower s s := ⟨rfl, rfl, rfl, rfl, h⟩

theorem reg_of_pwrRegs {s v : State} (h : pwrRegs s = pwrRegs v) {k : Nat} (hk : k < 0x2000) : s.reg k = v.reg k := by
  have hget (t : State) : t.reg k = Sparse.get (resetWord k) k (pwrRegs t) := by
    unfold State.reg pwrRegs
    rw [Sparse.get_filter _ (fun j => decide (j < 0x2000)), if_pos (decide_eq_true hk)]
  rw [hget, hget, h]

theorem keyOf_ge {b : Blk} (hb : b ≠ .pwr) (i o : Nat) : 0x2000 ≤ keyOf b i o := by
  cases b with
  | pwr => exact absurd rfl hb
  | _ =>
    simp only [keyOf]
    omega

variable {v s t : State}

/-- A state that has the same parts keeps them too. -/
theorem KeepsPower.same (h : KeepsPower v s) (ht : (t.pwr, t.start, t.pins, t.regs) = (s.pwr, s.start, s.pins, s.regs)) : KeepsPower v t := by
  simp only [Prod.mk.injEq] at ht
  obtain ⟨hp, hs, hn, hr⟩ := ht
  refine ⟨hp.trans h.pwr, hs.trans h.start, hn.trans h.pins, ?_, hr ▸ h.rising⟩
  rw [← h.regs, pwrRegs, pwrRegs, hr]

theorem keepsPower_ite {c : Prop} [Decidable c] (hs : KeepsPower v s) (ht : KeepsPower v t) : KeepsPower v (if c then s else t) := by
  split
  · exact hs
  · exact ht

theorem keepsPower_foldl {α : Type} {f : State → α → State} {l : List α} (hf : ∀ a s, KeepsPower v s → KeepsPower v (f s a)) (h : KeepsPower v s) :
    KeepsPower v (l.foldl f s) := by
  induction l generalizing s with
  | nil => exact h
  | cons a l ih => exact ih (hf a s h)

theorem keepsPower_forN {n : Nat} {f : Nat → State → State} (hf : ∀ i s, KeepsPower v s → KeepsPower v (f i s)) (h : KeepsPower v s) :
    KeepsPower v (forN n f s) :=
  keepsPower_foldl hf h

theorem keepsPower_setReg {k : Nat} {w : Word} (hk : 0x2000 ≤ k) (h : KeepsPower v s) : KeepsPower v (s.setReg k w) :=
  ⟨h.pwr, h.start, h.pins, (Sparse.filter_put _ (p := fun j => decide (j < 0x2000)) (decide_eq_false (by omega)) w s.regs).trans h.regs,
    State.setReg_rising h.rising k w⟩

theorem keepsPower_wr {f : FRef} {i x : Nat} (hf : f.b ≠ .pwr) (h : KeepsPower v s) : KeepsPower v (wr f i x s) :=
  keepsPower_setReg (keyOf_ge hf ..) h

theorem keepsPower_bump {f : FRef} {i : Nat} (hf : f.b ≠ .pwr) (h : KeepsPower v s) : KeepsPower v (bump f i s) := keepsPower_wr hf h

theorem keepsPower_storeReg {b : Blk} {i o : Nat} {w : Word} (hb : b ≠ .pwr) (h : KeepsPower v s) : KeepsPower v (storeReg b i o w s) :=
  keepsPower_setReg (keyOf_ge hb ..) h

theorem keepsPower_resetBlocks {p : Blk → Nat → Nat → Bool} (hp : ∀ i o, p .pwr i o = false) (h : KeepsPower v s) : KeepsPower v (resetBlocks p s) := by
  refine ⟨h.pwr, h.start, h.pins, Eq.trans ?_ h.regs, h.rising.filter _⟩
  unfold pwrRegs resetBlocks
  rw [List.filter_filter]
  refine List.filter_congr fun e _ => ?_
  by_cases he : e.1 < 0x2000
  · simp [he, locate, hp]
  · simp [he]

end Sys2Proof.Machine
end

section
/-! What queues, events, links and the host port keep of the always-on domain. -/

namespace Sys2Proof.Machine

variable {v s : State}

theorem keepsPower_setQueue {q : Nat} {x : Queue} (h : KeepsPower v s) : KeepsPower v (s.setQueue q x) := h.same rfl

theorem keepsPower_setLink {l : Nat} {x : Link} (h : KeepsPower v s) : KeepsPower v (s.setLink l x) := h.same rfl

theorem keepsPower_setXing {i : Nat} {x : Xing} (h : KeepsPower v s) : KeepsPower v (s.setXing i x) := h.same rfl

theorem keepsPower_raise {r : Raised} (h : KeepsPower v s) : KeepsPower v (raise r s) := h.same rfl

/-! ### Queues and events -/

theorem keepsPower_mismatchReset {q : Nat} (h : KeepsPower v s) : KeepsPower v (mismatchReset q s) := by
  unfold mismatchReset
  extract_lets x again s1 s2 s3
  have h1 : KeepsPower v s1 := h.same rfl
  have h2 : KeepsPower v s2 := keepsPower_bump (by decide) (keepsPower_bump (by decide) (keepsPower_wr (by decide) h1))
  have h3 : KeepsPower v s3 := keepsPower_setQueue h2
  split
  · exact keepsPower_raise h3
  · exact h3

theorem keepsPower_compareCopies {q : Nat} (h : KeepsPower v s) : KeepsPower v (compareCopies q s) :=
  keepsPower_ite (keepsPower_mismatchReset h) h

theorem keepsPower_settleHead {n q : Nat} (h : KeepsPower v s) : KeepsPower v (settleHead n q s) := by
  induction n generalizing s with
  | zero => exact h
  | succ n ih =>
    unfold settleHead
    extract_lets x
    split
    · exact h
    · split
      · exact h
      · split
        extract_lets s1 s2 s3 src c' x1 s4 x2
        have h1 : KeepsPower v s1 :=
          keepsPower_ite (keepsPower_bump (by decide) h) (keepsPower_ite (keepsPower_bump (by decide) h) h)
        have h2 : KeepsPower v s2 := keepsPower_ite (keepsPower_bump (by decide) h1) h1
        have h3 : KeepsPower v s3 := keepsPower_ite (keepsPower_bump (by decide) h2) h2
        have h4 : KeepsPower v s4 := keepsPower_bump (by decide) h3
        exact keepsPower_ite (keepsPower_ite (ih (h4.same rfl)) (h4.same rfl)) (h3.same rfl)

theorem keepsPower_takeGran {q : Nat} (h : KeepsPower v s) : KeepsPower v (takeGran q s).2 := by
  have hc : KeepsPower v (compareCopies q s) := keepsPower_compareCopies h
  unfold takeGran
  split
  · exact h
  · extract_lets c x
    split
    · split
      · exact hc
      · exact keepsPower_settleHead (hc.same rfl)
    · exact hc

theorem keepsPower_abortItem {q : Nat} (h : KeepsPower v s) : KeepsPower v (abortItem q s) :=
  keepsPower_ite h (keepsPower_bump (by decide) (h.same rfl))

theorem keepsPower_abortItems {cid : Nat} (h : KeepsPower v s) : KeepsPower v (abortItems cid s) :=
  keepsPower_foldl (fun _ _ => keepsPower_abortItem) h

theorem keepsPower_yieldMark {q : Nat} (h : KeepsPower v s) : KeepsPower v (yieldMark q s) :=
  keepsPower_ite (keepsPower_wr (by decide) (h.same rfl)) h

theorem keepsPower_pushWord {q : Nat} {w : Word} {e : Bool} (h : KeepsPower v s) : KeepsPower v (pushWord q w e s) := by
  unfold pushWord
  extract_lets x cr s1
  have h1 : KeepsPower v s1 := h.same rfl
  exact keepsPower_ite (keepsPower_yieldMark h1) h1

theorem keepsPower_pushItem {q : Nat} {l : List Word} (h : KeepsPower v s) : KeepsPower v (pushItem q l s) := by
  induction l generalizing s with
  | nil => exact h
  | cons w l ih =>
    cases l with
    | nil => exact keepsPower_pushWord h
    | cons => exact ih (keepsPower_pushWord h)

theorem keepsPower_dropEvent {e : Nat} (h : KeepsPower v s) : KeepsPower v (dropEvent e s) :=
  keepsPower_ite (keepsPower_bump (by decide) h) (keepsPower_ite (keepsPower_bump (by decide) h)
    (keepsPower_ite (keepsPower_bump (by decide) h) (keepsPower_bump (by decide) h)))

theorem keepsPower_postEvent {e kind inst code : Nat} (h : KeepsPower v s) : KeepsPower v (postEvent e kind inst code s) := by
  unfold postEvent
  split
  · exact h
  · extract_lets key now src live s1 item
    have h1 : KeepsPower v s1 := h.same rfl
    split
    · exact h
    · split
      · exact keepsPower_dropEvent h1
      · exact keepsPower_ite (keepsPower_dropEvent h1) (keepsPower_ite (keepsPower_pushItem h1) (h1.same rfl))

theorem keepsPower_setLatch {b kind inst : Nat} (h : KeepsPower v s) : KeepsPower v (setLatch b kind inst s) := by
  unfold setLatch
  split
  · exact h
  · split
    · exact keepsPower_ite (keepsPower_wr (by decide) h) h
    · extract_lets others s0 s1 s2
      have h0 : KeepsPower v s0 := keepsPower_wr (by decide) (h.same rfl)
      have h1 : KeepsPower v s1 := keepsPower_ite (keepsPower_wr (by decide) h0) h0
      have h2 : KeepsPower v s2 := keepsPower_wr (by decide) (keepsPower_wr (by decide) (keepsPower_bump (by decide) h1))
      exact keepsPower_postEvent (keepsPower_wr (by decide) h2)

theorem keepsPower_sourceActive {kind inst : Nat} (h : KeepsPower v s) : KeepsPower v (sourceActive kind inst s) :=
  keepsPower_forN (fun _ _ h => keepsPower_ite (keepsPower_setLatch h) h) h

theorem keepsPower_deviceLatch {b kind : Nat} (h : KeepsPower v s) : KeepsPower v (deviceLatch b kind s) :=
  keepsPower_ite h ((keepsPower_setLatch h).same rfl)

/-! ### Links -/

theorem keepsPower_sendLink {l code : Nat} {ws : List Nat} (h : KeepsPower v s) : KeepsPower v (sendLink l code ws s) :=
  keepsPower_ite (h.same rfl) h

theorem keepsPower_freeSlots {l vc n : Nat} {old : Bool} (h : KeepsPower v s) : KeepsPower v (freeSlots l vc n old s) :=
  keepsPower_ite h (h.same rfl)

theorem keepsPower_endPacket {l vc : Nat} {p : RxPkt} (h : KeepsPower v s) : KeepsPower v (endPacket l vc p s) := by
  unfold endPacket
  extract_lets s1 s2
  have h1 : KeepsPower v s1 := keepsPower_bump (by decide) (keepsPower_freeSlots h)
  have h2 : KeepsPower v s2 := h1.same rfl
  split
  · exact h1
  · split
    · exact keepsPower_sendLink (h1.same rfl)
    · split
      · exact keepsPower_abortItem h2
      · exact h2

theorem keepsPower_endPartial {l vc : Nat} (h : KeepsPower v s) : KeepsPower v (endPartial l vc s) := by
  unfold endPartial
  split
  · exact keepsPower_endPacket (h.same rfl)
  · exact h

theorem keepsPower_dropToEnd {n q : Nat} (h : KeepsPower v s) : KeepsPower v (dropToEnd n q s) := by
  induction n generalizing s with
  | zero => exact h
  | succ n ih =>
    have ht : KeepsPower v (takeGran q s).2 := keepsPower_takeGran h
    unfold dropToEnd
    split
    · next hg =>
      rw [hg] at ht
      exact keepsPower_ite ht (ih ht)
    · next hg =>
      rw [hg] at ht
      exact ht

theorem keepsPower_giveUpSending {l vc : Nat} (h : KeepsPower v s) : KeepsPower v (giveUpSending l vc s) := by
  unfold giveUpSending
  split
  · exact h
  · extract_lets s1
    have h1 : KeepsPower v s1 := keepsPower_bump (by decide) (h.same rfl)
    split
    · split
      · exact keepsPower_freeSlots (h1.same rfl)
      · exact h1
    · split
      · split
        · exact keepsPower_dropToEnd h1
        · exact h1
      · exact h1.same rfl

theorem keepsPower_leaveUp {l : Nat} (h : KeepsPower v s) : KeepsPower v (leaveUp l s) := by
  unfold leaveUp
  extract_lets s1 s2 s3
  have h1 : KeepsPower v s1 := keepsPower_forN (fun _ _ => keepsPower_giveUpSending) h
  have h2 : KeepsPower v s2 := keepsPower_forN (fun _ _ => keepsPower_endPartial) h1
  have h3 : KeepsPower v s3 := keepsPower_setLink h2
  have h4 : KeepsPower v (s3.setReg (keyOf .link l 5) 0) := keepsPower_setReg (keyOf_ge (by decide) ..) h3
  exact keepsPower_setXing h4

theorem keepsPower_setLinkState {l st : Nat} (h : KeepsPower v s) : KeepsPower v (setLinkState l st s) :=
  keepsPower_wr (by decide) (keepsPower_ite (keepsPower_leaveUp h) h)

theorem keepsPower_writeLinkCtl {l : Nat} {w : Word} (h : KeepsPower v s) : KeepsPower v (writeLinkCtl l w s) := by
  unfold writeLinkCtl
  extract_lets s1 st
  have h1 : KeepsPower v s1 := keepsPower_storeReg (by decide) h
  exact keepsPower_ite (keepsPower_ite h1 (keepsPower_setLinkState h1))
    (keepsPower_ite (keepsPower_setLinkState h1) (keepsPower_ite (keepsPower_setLinkState h1) h1))

end Sys2Proof.Machine
end

section
/-! What contexts, heaps and the blocks of chapters 8 to 13 keep of the always-on domain. -/

namespace Sys2Proof.Machine

variable {v s : State}

theorem keepsPower_setCtx {cid : Nat} {x : Ctx} (h : KeepsPower v s) : KeepsPower v (s.setCtx cid x) := h.same rfl

theorem keepsPower_setUnit {u : Nat} {x : UnitSt} (h : KeepsPower v s) : KeepsPower v (s.setUnit u x) := h.same rfl

theorem keepsPower_setHeap {cid : Nat} {x : Heap} (h : KeepsPower v s) : KeepsPower v (s.setHeap cid x) := h.same rfl

/-! ### Contexts and their triggers -/

theorem keepsPower_checkHeap {cid : Nat} (h : KeepsPower v s) : KeepsPower v (checkHeap cid s) :=
  keepsPower_ite (keepsPower_raise (keepsPower_setHeap h)) h

theorem keepsPower_stopRunning {cid : Nat} {st : CtxState} (h : KeepsPower v s) : KeepsPower v (stopRunning cid st s) :=
  keepsPower_setUnit (keepsPower_setCtx h)

theorem keepsPower_makeReady {r : Req} (h : KeepsPower v s) : KeepsPower v (makeReady r s) :=
  keepsPower_setCtx (s := s.nextOrder.2) (h.same rfl)

theorem keepsPower_requestHandler {cid : Nat} (h : KeepsPower v s) : KeepsPower v (requestHandler cid s) := by
  unfold requestHandler
  split
  · extract_lets c
    split
    · exact keepsPower_makeReady h
    · exact keepsPower_setCtx h
    · exact h
  · exact h

theorem keepsPower_trapCtx {cid : Nat} {t : Trap} (h : KeepsPower v s) : KeepsPower v (trapCtx cid t s) := by
  unfold trapCtx
  split
  · exact h
  · extract_lets u k s1 s2 s3 s4
    have h1 : KeepsPower v s1 := keepsPower_ite (keepsPower_stopRunning h) (keepsPower_setUnit (keepsPower_setCtx h))
    have h3 : KeepsPower v s3 := keepsPower_setHeap (keepsPower_setCtx h1)
    have h4 : KeepsPower v s4 := keepsPower_ite h3 (keepsPower_raise h3)
    exact keepsPower_requestHandler h4

theorem keepsPower_overrun {cid : Nat} (h : KeepsPower v s) : KeepsPower v (overrun cid s) := by
  unfold overrun
  extract_lets x s1
  have h1 : KeepsPower v s1 := keepsPower_bump (by decide) (keepsPower_setHeap h)
  split
  · exact keepsPower_ite h1 (keepsPower_trapCtx h1)
  · exact keepsPower_ite h1 (keepsPower_setHeap h1)
  · exact h1

theorem keepsPower_offerReq {r : Req} (h : KeepsPower v s) : KeepsPower v (offerReq r s) := by
  unfold offerReq
  extract_lets x d g
  split
  · exact h
  · exact keepsPower_ite (keepsPower_bump (show Blk.qpl ≠ .pwr by decide) h)
      (keepsPower_ite (keepsPower_bump (show Blk.qpl ≠ .pwr by decide) h) (keepsPower_ite (h.same rfl) (h.same rfl)))
  · exact keepsPower_overrun h

theorem keepsPower_becomeIdle {cid : Nat} (h : KeepsPower v s) : KeepsPower v (becomeIdle cid s) :=
  keepsPower_ite (keepsPower_makeReady (keepsPower_setCtx h)) (keepsPower_setCtx h)

theorem keepsPower_setArmedBit {cid : Nat} {d : Dest} {b : Bool} (h : KeepsPower v s) : KeepsPower v (setArmedBit cid d b s) :=
  keepsPower_ite (keepsPower_setCtx h) (keepsPower_setCtx h)

theorem keepsPower_disarmAngle {cid : Nat} (h : KeepsPower v s) : KeepsPower v (disarmAngle cid s) :=
  keepsPower_ite h (keepsPower_setArmedBit (keepsPower_setHeap h))

theorem keepsPower_disarmDeadline {cid : Nat} (h : KeepsPower v s) : KeepsPower v (disarmDeadline cid s) := by
  have hc : KeepsPower v (checkHeap cid s) := keepsPower_checkHeap h
  exact keepsPower_ite hc (keepsPower_setArmedBit (keepsPower_setHeap hc))

theorem keepsPower_armEntry {cid tb : Nat} {target : Word} {inc : Option Word} (h : KeepsPower v s) :
    KeepsPower v (armEntry cid tb target inc s) := by
  unfold armEntry
  extract_lets d0 s1
  have h1 : KeepsPower v s1 := keepsPower_setHeap h
  exact keepsPower_setArmedBit (keepsPower_ite (keepsPower_setHeap h1) h1)

theorem keepsPower_takeTurn {rg : Nat} (h : KeepsPower v s) : KeepsPower v (s.takeTurn rg) := h.same rfl

theorem keepsPower_fireNow {cid late : Nat} {fl : Flags} (h : KeepsPower v s) : KeepsPower v (fireNow cid late fl s) := by
  unfold fireNow
  extract_lets rg late r s1
  have h1 : KeepsPower v s1 := keepsPower_bump (by decide) (keepsPower_disarmAngle (keepsPower_takeTurn h))
  exact keepsPower_offerReq (keepsPower_ite (keepsPower_bump (by decide) h1) h1)

theorem keepsPower_noteDue {cid at_ : Nat} {fl : Flags} (h : KeepsPower v s) : KeepsPower v (noteDue cid at_ fl s) := keepsPower_setHeap h

theorem keepsPower_fire {cid late : Nat} {fl : Flags} (h : KeepsPower v s) : KeepsPower v (fire cid late fl s) :=
  keepsPower_ite (keepsPower_noteDue h) (keepsPower_fireNow h)

theorem keepsPower_passedTrigger {cid tb late : Nat} {target : Word} {inc : Option Word} {fl : Flags} (h : KeepsPower v s) :
    KeepsPower v (passedTrigger cid tb target inc late fl s).2.2.2 := by
  unfold passedTrigger
  extract_lets fl' fires
  have hf : KeepsPower v (fires s) := by
    unfold fires
    split
    · exact keepsPower_noteDue (keepsPower_armEntry h)
    · exact keepsPower_fireNow h
  split
  · exact h
  · split
    · exact hf
    · split
      · exact hf
      · split
        · exact keepsPower_armEntry h
        · exact hf
  · exact hf

theorem keepsPower_takeDue {cid : Nat} (h : KeepsPower v s) : KeepsPower v (takeDue cid s) := keepsPower_ite (keepsPower_fire h) h

theorem keepsPower_armAngle {cid tb : Nat} {target : Word} {inc : Option Word} (h : KeepsPower v s) :
    KeepsPower v (armAngle cid tb target inc s).2.2 := by
  unfold armAngle
  extract_lets s1 repl s2 r2
  have h2 : KeepsPower v s2 := keepsPower_disarmAngle (keepsPower_takeDue (keepsPower_checkHeap h))
  split
  · exact keepsPower_armEntry h2
  · exact keepsPower_armEntry h2
  · exact keepsPower_passedTrigger h2

theorem keepsPower_startAction {cid : Nat} (h : KeepsPower v s) : KeepsPower v (startAction cid s) := by
  unfold startAction
  extract_lets x
  split
  · exact h
  · split
    · exact keepsPower_offerReq h
    · exact keepsPower_setCtx (keepsPower_armAngle h)
    · exact h

theorem keepsPower_restartCtx {cid : Nat} (h : KeepsPower v s) : KeepsPower v (restartCtx cid s) :=
  keepsPower_abortItems (keepsPower_setUnit (keepsPower_setHeap (keepsPower_setCtx h)))

theorem keepsPower_releaseCtx {restart : Bool} {cid : Nat} (h : KeepsPower v s) : KeepsPower v (releaseCtx restart cid s) :=
  keepsPower_ite h (keepsPower_ite (keepsPower_setCtx h) (keepsPower_becomeIdle (keepsPower_setCtx (keepsPower_ite (keepsPower_restartCtx h) h))))

theorem keepsPower_ctxOff {cid : Nat} (h : KeepsPower v s) : KeepsPower v (ctxOff cid s) :=
  keepsPower_ite h (keepsPower_abortItems (keepsPower_setCtx (keepsPower_setHeap h)))

/-! ### The heaps after a quiesce -/

theorem keepsPower_expireNow {cid t : Nat} (h : KeepsPower v s) : KeepsPower v (expireNow cid t s) := by
  unfold expireNow
  extract_lets s1 x
  have h1 : KeepsPower v s1 := keepsPower_bump (by decide) (keepsPower_disarmDeadline (keepsPower_takeTurn h))
  split
  · exact keepsPower_trapCtx h1
  · exact keepsPower_trapCtx h1
  · exact keepsPower_trapCtx h1
  · exact h1

theorem keepsPower_expireDeadline {cid : Nat} (h : KeepsPower v s) : KeepsPower v (expireDeadline cid s) := by
  unfold expireDeadline
  extract_lets s1
  have h1 : KeepsPower v s1 := keepsPower_checkHeap h
  split
  · exact h1
  · exact keepsPower_ite h1 (keepsPower_ite (keepsPower_expireNow h1) (keepsPower_setHeap h1))

theorem keepsPower_releaseEntry {cid : Nat} (h : KeepsPower v s) : KeepsPower v (releaseEntry cid s) :=
  keepsPower_passedTrigger (keepsPower_disarmAngle (keepsPower_checkHeap h))

theorem keepsPower_releaseHeap {rg : Nat} (h : KeepsPower v s) : KeepsPower v (releaseHeap rg s) :=
  keepsPower_ite h (keepsPower_foldl (fun _ _ => keepsPower_releaseEntry) h)

theorem keepsPower_resumeHeaps (h : KeepsPower v s) : KeepsPower v (resumeHeaps s) :=
  keepsPower_foldl (fun _ _ => keepsPower_expireDeadline) (keepsPower_forN (fun _ _ => keepsPower_releaseHeap) h)

/-! ### The measurement front and the event outputs -/

theorem keepsPower_frontSources {d : Nat} {s0 : State} (h : KeepsPower v s) : KeepsPower v (frontSources d s0 s) :=
  keepsPower_forN (fun _ _ h => keepsPower_ite h (keepsPower_sourceActive h))
    (keepsPower_forN (fun _ _ h => keepsPower_ite h (keepsPower_sourceActive h)) h)

theorem keepsPower_frontDown {d : Nat} (h : KeepsPower v s) : KeepsPower v (frontDown d s) := by
  unfold frontDown
  extract_lets s1 s2 s3 s4 s5
  have h1 : KeepsPower v s1 := keepsPower_forN (fun _ _ h => h.same rfl) h
  have h2 : KeepsPower v s2 := keepsPower_forN (fun _ _ h => h.same rfl) h1
  have h3 : KeepsPower v s3 := keepsPower_forN (fun _ _ h => keepsPower_ite (h.same rfl) h) h2
  have h4 : KeepsPower v s4 := keepsPower_forN (fun _ _ h => h.same rfl) h3
  have h5 : KeepsPower v s5 := keepsPower_forN (fun _ _ h => h.same rfl) h4
  exact keepsPower_frontSources (h5.same rfl)

/-- The level that a comparator reads on one side, where that side is enabled. -/
theorem keepsPower_readLevel {c : Prop} [Decidable c] {x lo hi : Int} {b : Bool} (h : KeepsPower v s) :
    KeepsPower v (if c then aboveFree x lo hi s else (b, s)).2 := by
  unfold aboveFree
  split
  · split
    · exact h
    · split
      · exact h
      · exact h.same rfl
  · exact h

theorem keepsPower_compareAc {n : Nat} (h : KeepsPower v s) : KeepsPower v (compareAc n s) := by
  unfold compareAc
  split
  · exact h
  · extract_lets x y hy
    split
    split
    split
    next a s1 hab =>
    have h1 : KeepsPower v s1 := (congrArg (fun r => KeepsPower v r.2) hab).mp (keepsPower_readLevel h)
    split
    next b s2 hb =>
    have h2 : KeepsPower v s2 := (congrArg (fun r => KeepsPower v r.2) hb).mp (keepsPower_readLevel h1)
    extract_lets hi lo s3 s4 s5
    have h3 : KeepsPower v s3 := keepsPower_wr (by decide) (h2.same rfl)
    have h4 : KeepsPower v s4 := keepsPower_ite (keepsPower_sourceActive (keepsPower_bump (by decide) h3)) h3
    have h5 : KeepsPower v s5 := keepsPower_ite (keepsPower_postEvent (keepsPower_wr (by decide) h4)) h4
    exact keepsPower_ite (keepsPower_postEvent (keepsPower_wr (by decide) h5)) h5

theorem keepsPower_frontUp {d : Nat} (h : KeepsPower v s) : KeepsPower v (frontUp d s) := keepsPower_forN (fun _ _ => keepsPower_compareAc) h

theorem keepsPower_setEvPin {p : Nat} {x : Pin} (h : KeepsPower v s) : KeepsPower v (s.setEvPin p x) := h.same rfl

theorem keepsPower_setUnder {p : Nat} {lvl : Bool} {t : Int} (h : KeepsPower v s) : KeepsPower v (setUnder p lvl t s) := by
  have hs {x : Pin} : KeepsPower v (s.setEvPin p x) := keepsPower_setEvPin h
  have hb {x : Pin} : KeepsPower v (bump F.pin_PIN_STAT_SUPPR p (s.setEvPin p x)) := keepsPower_bump (by decide) hs
  unfold setUnder
  extract_lets x pair
  exact keepsPower_ite (keepsPower_ite h (keepsPower_ite hb hs))
    (keepsPower_ite h (keepsPower_ite (keepsPower_ite h hb) (keepsPower_ite hs hs)))

theorem keepsPower_quietLead {p : Nat} {t : Int} (h : KeepsPower v s) : KeepsPower v (quietLead p t s) :=
  keepsPower_ite (keepsPower_setUnder (keepsPower_setUnder h)) (keepsPower_setUnder h)

theorem keepsPower_setLead {p : Nat} {lvl : Bool} {t : Int} (h : KeepsPower v s) : KeepsPower v (setLead p lvl t s) :=
  keepsPower_ite (keepsPower_setUnder (keepsPower_setUnder h)) (keepsPower_setUnder h)

theorem keepsPower_refreshPin {p : Nat} (h : KeepsPower v s) : KeepsPower v (refreshPin p s) := by
  unfold refreshPin
  split
  · exact keepsPower_quietLead h
  · exact keepsPower_setLead h
  · exact keepsPower_setLead h
  · exact keepsPower_ite (keepsPower_quietLead h) (keepsPower_ite h (keepsPower_setLead h))

theorem keepsPower_setGen {g : Nat} {x : Gen} (h : KeepsPower v s) : KeepsPower v (s.setGen g x) := h.same rfl

theorem keepsPower_startGen {g : Nat} (h : KeepsPower v s) : KeepsPower v (startGen g s) := by
  unfold startGen
  extract_lets s1
  have h1 : KeepsPower v s1 := keepsPower_setGen (keepsPower_wr (by decide) h)
  exact keepsPower_ite (keepsPower_setGen h1) (keepsPower_ite (keepsPower_setGen h1) (keepsPower_setGen (keepsPower_setGen h1)))

theorem keepsPower_setTb {n : Nat} {x : Tb} (h : KeepsPower v s) : KeepsPower v (s.setTb n x) := h.same rfl

theorem keepsPower_restartTb {n : Nat} (h : KeepsPower v s) : KeepsPower v (restartTb n s) :=
  keepsPower_setTb (keepsPower_foldl (fun _ _ h => keepsPower_ite (keepsPower_setTb h) h) h)

theorem keepsPower_activate {d : Nat} (h : KeepsPower v s) : KeepsPower v (activate d s) := by
  unfold activate
  refine keepsPower_ite h (keepsPower_ite (keepsPower_frontUp h) (keepsPower_ite ?_ (keepsPower_ite ?_ h)))
  · exact keepsPower_forN (fun _ _ => keepsPower_refreshPin) (keepsPower_forN (fun _ _ h => keepsPower_ite (keepsPower_startGen h) h) h)
  · refine keepsPower_wr (by decide) (KeepsPower.same (keepsPower_forN (fun n s h => ?_) h) rfl)
    exact keepsPower_ite (keepsPower_restartTb (keepsPower_ite h (keepsPower_setTb h))) (keepsPower_ite h (keepsPower_setTb h))

/-! ### Rings -/

theorem keepsPower_ringSettle {r : Nat} (h : KeepsPower v s) : KeepsPower v (ringSettle r s) :=
  keepsPower_ite (keepsPower_bump (by decide) (keepsPower_wr (by decide) h)) (keepsPower_wr (by decide) h)

theorem keepsPower_setHost {x : HostSt} (h : KeepsPower v s) : KeepsPower v { s with host := x } := h.same rfl

theorem keepsPower_unstall (h : KeepsPower v s) : KeepsPower v (unstall s) :=
  keepsPower_foldl (fun _ _ => keepsPower_ringSettle) (keepsPower_setHost h)

theorem keepsPower_ringOff {r : Nat} (h : KeepsPower v s) : KeepsPower v (ringOff r s) :=
  keepsPower_unstall (keepsPower_ringSettle (keepsPower_setHost h))

theorem keepsPower_writeRingCtl {r : Nat} {w : Word} (h : KeepsPower v s) : KeepsPower v (writeRingCtl r w s) := by
  unfold writeRingCtl
  extract_lets was s1 now s2
  have h1 : KeepsPower v s1 := keepsPower_storeReg (by decide) h
  have h2 : KeepsPower v s2 := keepsPower_setReg (keyOf_ge (by decide) ..) h1
  exact keepsPower_ite (keepsPower_ringSettle (keepsPower_wr (by decide) (keepsPower_setReg (keyOf_ge (by decide) ..) h2)))
    (keepsPower_ite (keepsPower_ringOff h1) h1)

/-! ### The image's writes -/

theorem keepsPower_storeImage {k : Nat} {w : Word} (hk : 0x2000 ≤ k) (h : KeepsPower v s) : KeepsPower v (storeImage k w s) := by
  unfold storeImage
  split
  · exact h
  · exact keepsPower_setReg hk h

/-- The image's writes outside PWR keep the always-on domain. -/
theorem keepsPower_applyWrites {p : Blk → Nat → Nat → Bool} (hp : ∀ i o, p .pwr i o = false) {ss : List Section} (h : KeepsPower v s) :
    KeepsPower v (applyWrites ss p s) := by
  refine keepsPower_foldl (fun x s h => ?_) h
  refine keepsPower_foldl (fun r s h => keepsPower_ite (keepsPower_storeImage (keyOf_ge (by decide) ..) h) h) (keepsPower_foldl (fun w s h => ?_) h)
  split
  · next b i o hloc =>
    split
    · exact h
    · next hpb =>
      have hk : 0x2000 ≤ w.1 - ctlBase := by
        by_contra hlt
        unfold locate at hloc
        rw [if_pos (by omega)] at hloc
        cases hloc
        exact hpb (by simp [hp])
      exact keepsPower_ite (keepsPower_writeLinkCtl h) (keepsPower_ite (keepsPower_writeRingCtl h) (keepsPower_storeImage hk h))
  · exact h

end Sys2Proof.Machine
end

section
/-! A domain that goes down or comes up: DOM_ON, and what stays of the always-on domain (R486). -/

namespace Sys2Proof.Machine

variable {lost : Nat → Prop} {v s t : State}

/-! ### Which domains are on -/

theorem domOn_eq_getLsbD {d : Nat} (hd : d < 50) (s : State) :
    domOn d s = if d < 36 then (s.reg 9).getLsbD d else (s.reg 10).getLsbD (d - 36) := by
  unfold domOn rd
  rw [testBit_bits, testBit_bits]
  by_cases h : d < 36
  · simp [h, F.pwr_DOM_ON_LO, keyOf]
  · simp [h, F.pwr_DOM_ON_HI_ON, keyOf, show d - 36 < 14 by omega]

theorem domOn_congr (h9 : s.reg 9 = v.reg 9) (h10 : s.reg 10 = v.reg 10) (d : Nat) : domOn d s = domOn d v := by
  show (if d < 36 then (bits (s.reg 9) 0 36).testBit d else (bits (s.reg 10) 0 14).testBit (d - 36)) = _
  rw [h9, h10]
  rfl

theorem setDom_eq (d : Nat) (on : Bool) (s : State) :
    setDom d on s = if d < 36 then s.setReg 9 (setBits (s.reg 9) d 1 on.toNat) else s.setReg 10 (setBits (s.reg 10) (d - 36) 1 on.toNat) := by
  cases on <;> rfl

theorem domOn_setDom {d e : Nat} (hd : d < 50) (he : e < 50) (hs : Rising s.regs) (on : Bool) :
    domOn e (setDom d on s) = if e = d then on else domOn e s := by
  have hbit (w : Word) {i j : Nat} (hj : j < 36) : (setBits w i 1 on.toNat).getLsbD j = if j = i then on else w.getLsbD j := by
    rw [getLsbD_setBits w i 1 _ hj]
    by_cases h : j = i
    · subst h
      cases on <;> simp
    · rw [if_neg (by omega), if_neg h]
  rw [domOn_eq_getLsbD he, domOn_eq_getLsbD he, setDom_eq]
  by_cases h : d < 36
  · rw [if_pos h, State.reg_setReg_self hs, State.reg_setReg_ne s (by decide)]
    by_cases h' : e < 36
    · rw [if_pos h', if_pos h', hbit _ h']
    · rw [if_neg h', if_neg h', if_neg (by omega)]
  · rw [if_neg h, State.reg_setReg_self hs, State.reg_setReg_ne s (by decide)]
    by_cases h' : e < 36
    · rw [if_pos h', if_pos h', if_neg (by omega)]
    · rw [if_neg h', if_neg h', hbit _ (by omega)]
      by_cases hde : e = d
      · rw [if_pos hde, if_pos (by omega)]
      · rw [if_neg hde, if_neg (by omega)]

/-! ### What stays when a domain goes off -/

/-- The always-on domain of `s` is that of `v`, but for the registers `lost` and for SAFE_N pins that have gone low. -/
structure KeepsBut (lost : Nat → Prop) (v s : State) : Prop where
  pwr    : s.pwr = v.pwr
  start  : s.start = v.start
  pins   : s.pins = { v.pins with safeN := s.pins.safeN }
  safeN  : v.pins.safeN = 15 → s.pins.safeN = 15
  regs   : ∀ k, k < 0x2000 → ¬ lost k → s.reg k = v.reg k
  rising : Rising v.regs → Rising s.regs

theorem KeepsPower.but (h : KeepsPower v s) : KeepsBut lost v s :=
  ⟨h.pwr, h.start, by rw [h.pins], fun hv => by rw [h.pins, hv], fun _ hk _ => reg_of_pwrRegs h.regs hk, fun _ => h.rising⟩

theorem KeepsBut.refl (s : State) : KeepsBut lost s s := ⟨rfl, rfl, rfl, id, fun _ _ _ => rfl, id⟩

theorem KeepsBut.trans (h : KeepsBut lost v s) (ht : KeepsBut lost s t) : KeepsBut lost v t :=
  ⟨ht.pwr.trans h.pwr, ht.start.trans h.start, ht.pins.trans (by rw [h.pins]), fun hv => ht.safeN (h.safeN hv),
    fun k hk hl => (ht.regs k hk hl).trans (h.regs k hk hl), fun hv => ht.rising (h.rising hv)⟩

theorem KeepsBut.mono {more : Nat → Prop} (h : KeepsBut lost v s) (hm : ∀ k, lost k → more k) : KeepsBut more v s :=
  ⟨h.pwr, h.start, h.pins, h.safeN, fun k hk hl => h.regs k hk fun hl' => hl (hm k hl'), h.rising⟩

theorem keepsBut_setReg {k : Nat} (hk : lost k) (w : Word) (s : State) : KeepsBut lost s (s.setReg k w) :=
  ⟨rfl, rfl, rfl, id, fun j _ hj => State.reg_setReg_ne s (fun hjk : j = k => hj (hjk ▸ hk)) w, fun h => State.setReg_rising h ..⟩

theorem keepsBut_foldl {α : Type} {f : State → α → State} {l : List α} (hf : ∀ a ∈ l, ∀ s, KeepsBut lost s (f s a)) (s : State) :
    KeepsBut lost s (l.foldl f s) := by
  induction l generalizing s with
  | nil => exact .refl s
  | cons a l ih => exact (hf a List.mem_cons_self s).trans (ih (fun b hb => hf b (List.mem_cons_of_mem a hb)) _)

theorem keepsBut_ite {c : Prop} [Decidable c] (hs : KeepsBut lost v s) (ht : KeepsBut lost v t) : KeepsBut lost v (if c then s else t) := by
  split
  · exact hs
  · exact ht

theorem KeepsBut.reads (h : KeepsBut lost v s) {f : FRef} (hf : f.b = .pwr) (ho : f.o < 0x2000 ∧ ¬ lost f.o) : rd f 0 s = rd f 0 v := by
  unfold rd
  rw [hf]
  show bits (s.reg f.o) _ _ = bits (v.reg f.o) _ _
  rw [h.regs f.o ho.1 ho.2]

/-- The registers of the temperature sensors. -/
abbrev IsSensor (k : Nat) : Prop := 32 ≤ k ∧ k < 43

/-- The registers of the sensors, and DOM_ON. -/
abbrev IsDomState (k : Nat) : Prop := IsSensor k ∨ k = 9 ∨ k = 10

theorem KeepsBut.domOn_eq (h : KeepsBut IsSensor v s) (d : Nat) : domOn d s = domOn d v :=
  domOn_congr (h.regs 9 (by decide) (by unfold IsSensor; omega)) (h.regs 10 (by decide) (by unfold IsSensor; omega)) d

theorem keepsPower_lists {p : List Posted} {q : List Prog} {c : Contain} (h : KeepsPower v s) :
    KeepsPower v { s with posted := p, program := q, contain := c } := h.same rfl

theorem keepsPower_backboneLists {q : List (Nat × Queue)} {p : List (Nat × Heap)} {x : List (Nat × Xing)} {r : List Req} {e : List (Nat × EvtSrc)}
    {c : Contain} (h : KeepsPower v s) : KeepsPower v { s with queues := q, heaps := p, xings := x, reqs := r, evts := e, contain := c } := h.same rfl

theorem keepsBut_timeAndFabric {l : List (Nat × Tb)} {p : Pps} {q : Qdl} (h : KeepsBut lost v s) :
    KeepsBut lost v { s with tbs := l, pps := p, qdl := q } := ⟨h.pwr, h.start, h.pins, h.safeN, h.regs, h.rising⟩

/-- R66: SAFE_N of bank `b` goes low. -/
theorem KeepsBut.lowerSafe {b : Nat} (hb : b < 4) (h : KeepsBut lost v s) :
    KeepsBut lost v { s with pins := { s.pins with safeN := s.pins.safeN ||| 2 ^ b } } := by
  refine ⟨h.pwr, h.start, congrArg (fun p : Pins => { p with safeN := s.pins.safeN ||| 2 ^ b }) h.pins, fun hv => ?_, h.regs, h.rising⟩
  show s.pins.safeN ||| 2 ^ b = 15
  rw [h.safeN hv]
  obtain rfl | rfl | rfl | rfl : b = 0 ∨ b = 1 ∨ b = 2 ∨ b = 3 := by omega
  all_goals rfl

theorem keepsPower_clearDmem {c : Nat} (h : KeepsPower v s) : KeepsPower v (clearDmem c s) := h.same rfl

theorem keepsPower_clusterOff {c : Nat} {keep : Bool} (h : KeepsPower v s) : KeepsPower v (clusterOff c keep s) := by
  unfold clusterOff
  extract_lets s1 gone src s2
  have h1 : KeepsPower v s1 := keepsPower_forN (fun _ _ h => keepsPower_setUnit h) (keepsPower_foldl (fun _ _ => keepsPower_ctxOff) h)
  have h2 : KeepsPower v s2 := keepsPower_lists h1
  exact keepsPower_ite h2 (keepsPower_clearDmem h2)

theorem keepsBut_sensorValid {j : Nat} (hj : j < 11) (s : State) : KeepsBut IsSensor s (wr (F.pwr_TS_VALID.nth j) 0 0 s) :=
  keepsBut_setReg (by simp only [IsSensor, FRef.nth, F.pwr_TS_VALID, keyOf]; omega) ..

theorem keepsBut_backboneOff {d : Nat} (hd : d < 2) {s : State} (hs : Rising s.regs) : KeepsBut IsSensor s (backboneOff d s) := by
  unfold backboneOff
  extract_lets src s1 s2
  have h1 : KeepsPower s s1 := keepsPower_backboneLists (.refl hs)
  have h2 : KeepsBut IsSensor s s2 := by
    refine (h1.but.trans (keepsBut_sensorValid (by omega) s1)).trans (keepsBut_foldl (fun i hi u => ?_) _)
    have := List.mem_range.mp hi
    exact keepsBut_sensorValid (by omega) u
  exact keepsBut_ite (keepsBut_timeAndFabric h2) h2

/-- The pins, generators and latch of bank `b` as they start. -/
def bankInit (b : Nat) (s : State) : State :=
  (forN 32 (fun i s => s.setEvPin (32 * b + i) Pin.init) (forN 16 (fun i s => s.setGen (16 * b + i) Gen.init) s)).setBank b Bank.init

theorem keepsPower_bankInit {b : Nat} (h : KeepsPower v s) : KeepsPower v (bankInit b s) :=
  KeepsPower.same (keepsPower_forN (fun _ _ h => keepsPower_setEvPin h) (keepsPower_forN (fun _ _ h => keepsPower_setGen h) h)) rfl

theorem keepsBut_loseDomain {d : Nat} (hd : d < 50) (keep : Bool) {s : State} (hs : Rising s.regs) : KeepsBut IsSensor s (loseDomain d keep s) := by
  have h : KeepsPower s s := .refl hs
  unfold loseDomain
  split
  · exact (keepsPower_clusterOff h).but
  · split
    · exact (keepsPower_frontDown h).but
    · split
      · exact (keepsPower_bankInit (b := d - 36) h).but.lowerSafe (by omega)
      · split
        · have hdma : KeepsPower s { s with dma := [] } := h.same rfl
          exact hdma.but
        · split
          · exact (keepsPower_setHost h).but
          · split
            · exact (keepsPower_setLink h).but
            · exact keepsBut_backboneOff (by omega) hs

theorem keepsPower_crossingReset {d : Nat} (h : KeepsPower v s) : KeepsPower v (crossingReset d s) :=
  keepsPower_ite (keepsPower_setXing h) (keepsPower_ite (keepsPower_setXing h) (keepsPower_ite (keepsPower_setXing h) h))

theorem inDomain_pwr (d i o : Nat) : inDomain d .pwr i o = false := by simp [inDomain, blkDomain]

theorem domainOff_of_off {d : Nat} (h : domOn d s = false) (keep : Bool) : domainOff d keep s = s := by
  unfold domainOff
  rw [if_pos (by simp [h])]

/-- What a domain that goes off leaves of the always-on domain. -/
theorem keepsBut_domainOff {d : Nat} (hd : d < 50) (keep : Bool) {s : State} (hs : Rising s.regs) :
    KeepsBut IsDomState s (domainOff d keep s) ∧ ∀ e, e < 50 → domOn e (domainOff d keep s) = (domOn e s && decide (e ≠ d)) := by
  by_cases hon : domOn d s = true
  · unfold domainOff
    rw [if_neg (by simp [hon])]
    extract_lets s0
    have h0 : KeepsPower s s0 := keepsPower_ite (keepsPower_setLinkState (.refl hs)) (.refl hs)
    have hdom : KeepsBut IsDomState s0 (setDom d false s0) := by
      rw [setDom_eq]
      exact keepsBut_ite (keepsBut_setReg (.inr (.inl rfl)) ..) (keepsBut_setReg (.inr (.inr rfl)) ..)
    have hl : KeepsBut IsSensor (setDom d false s0) (loseDomain d keep (setDom d false s0)) := keepsBut_loseDomain hd keep (hdom.rising h0.rising)
    have hlr := hl.rising (hdom.rising h0.rising)
    have hr : KeepsPower (loseDomain d keep (setDom d false s0)) (crossingReset d (resetBlocks (inDomain d) (loseDomain d keep (setDom d false s0)))) :=
      keepsPower_crossingReset (keepsPower_resetBlocks (fun i o => inDomain_pwr d i o) (.refl hlr))
    refine ⟨((h0.but.trans hdom).trans (hl.mono fun _ => .inl)).trans hr.but, fun e he => ?_⟩
    rw [hr.but.domOn_eq, hl.domOn_eq, domOn_setDom hd he h0.rising, h0.but.domOn_eq]
    by_cases hed : e = d <;> simp [hed]
  · have hoff : domOn d s = false := by simpa using hon
    rw [domainOff_of_off hoff]
    refine ⟨.refl s, fun e _ => ?_⟩
    by_cases hed : e = d
    · simp [hed, hoff]
    · simp [hed]

theorem keepsBut_domainsOff {n : Nat} (hn : n ≤ 50) {s : State} (hs : Rising s.regs) :
    KeepsBut IsDomState s (domainsOff n s) ∧ ∀ e, e < 50 → domOn e (domainsOff n s) = (domOn e s && decide (n ≤ e)) := by
  induction n with
  | zero => exact ⟨.refl s, fun e _ => by simp [domainsOff]⟩
  | succ n ih =>
    obtain ⟨hk, hd⟩ := ih (by omega)
    have hsucc : domainsOff (n + 1) s = domainOff n false (domainsOff n s) := by
      unfold domainsOff
      rw [List.range_succ, List.foldl_append]
      rfl
    obtain ⟨hk', hd'⟩ := keepsBut_domainOff (d := n) (by omega) false (hk.rising hs)
    rw [hsucc]
    refine ⟨hk.trans hk', fun e he => ?_⟩
    rw [hd' e he, hd e he, Bool.and_assoc]
    congr 1
    by_cases h1 : n ≤ e <;> by_cases h2 : e = n <;> simp [h1, h2] <;> omega

theorem keepsBut_initBackbone {d : Nat} (hd : d < 2) {s : State} (hs : Rising s.regs) : KeepsBut IsSensor s (initBackbone d s) := by
  have hr : KeepsPower s (resetBlocks (inDomain (48 + d)) s) := keepsPower_resetBlocks (fun i o => inDomain_pwr (48 + d) i o) (.refl hs)
  exact keepsBut_ite (hr.but.trans (keepsBut_backboneOff hd hr.rising)) (.refl s)

/-! ### A domain that has powered up -/

/-- The power manager and the registers of PWR of `s` are those of `v`. -/
structure KeepsPwr (v s : State) : Prop where
  pwr    : s.pwr = v.pwr
  regs   : pwrRegs s = pwrRegs v
  rising : Rising s.regs

theorem KeepsPower.pwrOnly (h : KeepsPower v s) : KeepsPwr v s := ⟨h.pwr, h.regs, h.rising⟩

theorem KeepsPwr.trans (h : KeepsPwr v s) (ht : KeepsPwr s t) : KeepsPwr v t := ⟨ht.pwr.trans h.pwr, ht.regs.trans h.regs, ht.rising⟩

theorem KeepsPwr.setPins (h : KeepsPwr v s) (p : Pins) : KeepsPwr v { s with pins := p } := ⟨h.pwr, h.regs, h.rising⟩

theorem rising_setDom (hs : Rising s.regs) (d : Nat) (on : Bool) : Rising (setDom d on s).regs := by
  rw [setDom_eq]
  split
  · exact State.setReg_rising hs ..
  · exact State.setReg_rising hs ..

theorem setDom_pwr (d : Nat) (on : Bool) (s : State) : (setDom d on s).pwr = s.pwr := by
  rw [setDom_eq]
  split <;> rfl

/-- A domain that powers up changes no more of the power manager and of PWR than DOM_ON. -/
theorem keepsPwr_domainUp {d : Nat} (image : Bool) {s : State} (hs : Rising s.regs) : KeepsPwr (setDom d true s) (domainUp d image s) := by
  unfold domainUp
  extract_lets s1 s2 t src s3 s4 t4
  have h1 : KeepsPower (setDom d true s) s1 := keepsPower_crossingReset (.refl (rising_setDom hs d true))
  have h2 : KeepsPower (setDom d true s) s2 := keepsPower_ite (keepsPower_applyWrites (fun i o => inDomain_pwr d i o) h1) h1
  have ht : KeepsPower (setDom d true s) t := keepsPower_postEvent (keepsPower_deviceLatch h2)
  have h3 : KeepsPwr (setDom d true s) s3 := by
    unfold s3
    split
    · exact ht.pwrOnly.setPins _
    · exact (keepsPower_ite (keepsPower_writeLinkCtl h2) h2).pwrOnly
  have h4 : KeepsPower s3 s4 := keepsPower_activate (.refl h3.rising)
  have ht4 : KeepsPower s3 t4 := keepsPower_foldl (fun _ _ => keepsPower_releaseCtx) h4
  exact h3.trans (keepsPower_ite (keepsPower_ite (keepsPower_foldl (fun _ _ => keepsPower_startAction) ht4) ht4) h4).pwrOnly

/-- A domain that has powered up shows in DOM_ON. -/
theorem domOn_domainUp {d : Nat} (hd : d < 50) (image : Bool) {s : State} (hs : Rising s.regs) : domOn d (domainUp d image s) = true := by
  have h := keepsPwr_domainUp (d := d) image hs
  rw [domOn_congr (reg_of_pwrRegs h.regs (by decide)) (reg_of_pwrRegs h.regs (by decide)), domOn_setDom hd hd hs, if_pos rfl]

end Sys2Proof.Machine
end

section
/-! The rails, the sensors and the clock (chapter 2): requests on the rails, and what their events answer. -/

namespace Sys2Proof.Machine

variable {s t u : State}

/-- The answer to a command that names what the device has. -/
theorem answer_of {p : Prop} [Decidable p] (hp : p) (s : State) : answer (decide p) s = .next (finish s) := by
  rw [decide_eq_true hp]
  rfl

theorem rdB_eq {f : FRef} {i j : Nat} (h : rd f i t = rd f j s) : rdB f i t = rdB f j s := congrArg (· == 1) h

/-! ### Records that arise (log entry 29) -/

theorem raiseWord_eq (lvl i cause : Nat) (notice : Bool) (w : Nat) (s : State) :
    ∃ r : Raised, raiseWord lvl i cause notice w s = { s with raised := s.raised ++ [r], free := s.free + 1 } ∧
      r.scope = { lvl := lvl, i := i } ∧ r.cause = cause ∧ r.notice = notice ∧ r.word = w :=
  ⟨_, rfl, rfl, rfl, rfl, rfl⟩

theorem raiseOpen_eq (lvl i cause : Nat) (notice : Bool) (s : State) :
    ∃ r : Raised, raiseOpen lvl i cause notice s = { s with raised := s.raised ++ [r], free := s.free + 2 } ∧
      r.scope = { lvl := lvl, i := i } ∧ r.cause = cause ∧ r.notice = notice :=
  ⟨_, rfl, rfl, rfl, rfl⟩

/-! ### Requests on the rails (R43, R44) -/

/-- What requests on the rails keep: all but the requested voltages, RAMP and BIAS, and a bias that is off stays off. -/
structure RailsAsked (s t : State) : Prop where
  frame  : t = { s with regs := t.regs, pwr := t.pwr }
  power  : t.pwr = { s.pwr with askedE := t.pwr.askedE, askedW := t.pwr.askedW }
  reads  : ∀ f : FRef, Apart f F.pwr_VCORE_STAT_BIAS → Apart f F.pwr_VCORE_STAT_RAMP_E → Apart f F.pwr_VCORE_STAT_RAMP_W → rd f 0 t = rd f 0 s
  bias   : rd F.pwr_VCORE_STAT_BIAS 0 s = 0 → rd F.pwr_VCORE_STAT_BIAS 0 t = 0
  rising : Rising t.regs

theorem RailsAsked.refl (hs : Rising s.regs) : RailsAsked s s := ⟨rfl, rfl, fun _ _ _ _ => rfl, id, hs⟩

theorem RailsAsked.trans (h : RailsAsked s t) (hu : RailsAsked t u) : RailsAsked s u := by
  refine ⟨hu.frame.trans ?_, hu.power.trans ?_, fun f hb he hw => (hu.reads f hb he hw).trans (h.reads f hb he hw),
    fun hb => hu.bias (h.bias hb), hu.rising⟩
  · rw [h.frame]
  · rw [h.power]

theorem apart_railRamp {f : FRef} (he : Apart f F.pwr_VCORE_STAT_RAMP_E) (hw : Apart f F.pwr_VCORE_STAT_RAMP_W) (r : Nat) : Apart f (railRamp r) := by
  unfold railRamp
  split
  · exact he
  · exact hw

theorem railsAsked_biasOff (hs : Rising s.regs) : RailsAsked s (wr F.pwr_VCORE_STAT_BIAS 0 0 s) :=
  ⟨rfl, rfl, fun _ hb _ _ => rd_wr_apart hs hb .., fun _ => rd_wr_self hs (by decide) .., rising_wr hs ..⟩

theorem railsAsked_ramp (hs : Rising s.regs) (r x : Nat) : RailsAsked s (wr (railRamp r) 0 x s) :=
  ⟨rfl, rfl, fun _ _ he hw => rd_wr_apart hs (apart_railRamp he hw r) ..,
    fun hb => (rd_wr_apart hs (apart_railRamp (by decide) (by decide) r) ..).trans hb, rising_wr hs ..⟩

/-- The voltage that is requested on a rail set. -/
def setAsked (r v : Nat) (s : State) : State :=
  { s with pwr := if r = 0 then { s.pwr with askedE := v } else { s.pwr with askedW := v } }

theorem railsAsked_setAsked (hs : Rising s.regs) (r v : Nat) : RailsAsked s (setAsked r v s) := by
  refine ⟨rfl, ?_, fun _ _ _ _ => rfl, id, hs⟩
  unfold setAsked
  split <;> rfl

theorem askRail_eq (r v : Nat) (s : State) :
    askRail r v s =
      wr (railRamp r) 0 1 (setAsked r v (if v < 180 ∧ rd F.pwr_VCORE_STAT_BIAS 0 s = 1 then wr F.pwr_VCORE_STAT_BIAS 0 0 s else s)) := rfl

theorem railsAsked_askRail (hs : Rising s.regs) (r v : Nat) : RailsAsked s (askRail r v s) := by
  have h0 : RailsAsked s (if v < 180 ∧ rd F.pwr_VCORE_STAT_BIAS 0 s = 1 then wr F.pwr_VCORE_STAT_BIAS 0 0 s else s) := by
    split
    · exact railsAsked_biasOff hs
    · exact .refl hs
  have h1 := h0.trans (railsAsked_setAsked h0.rising r v)
  rw [askRail_eq]
  exact h1.trans (railsAsked_ramp h1.rising r 1)

theorem railAsked_askRail (r v : Nat) (s : State) : railAsked r (askRail r v s) = v := by
  rw [askRail_eq]
  unfold railAsked setAsked
  by_cases hr : r = 0 <;> simp only [hr, if_true, if_false] <;> rfl

theorem railRamp_fits (r : Nat) : (railRamp r).lo + (railRamp r).w ≤ 36 ∧ (railRamp r).w = 1 := by
  unfold railRamp
  split <;> exact ⟨by decide, rfl⟩

/-- A rail that has been asked for a voltage ramps. -/
theorem rd_ramp_askRail (hs : Rising s.regs) (r v : Nat) : rd (railRamp r) 0 (askRail r v s) = 1 := by
  have hb : Rising (if v < 180 ∧ rd F.pwr_VCORE_STAT_BIAS 0 s = 1 then wr F.pwr_VCORE_STAT_BIAS 0 0 s else s).regs := by
    split
    · exact rising_wr hs ..
    · exact hs
  rw [askRail_eq, rd_wr_self (railsAsked_setAsked hb r v).rising (railRamp_fits r).1, (railRamp_fits r).2]
  rfl

/-- R43: a rail that needs no step stays as it is; any other is asked for the next one. -/
theorem stepRail_cases (r : Nat) (s : State) :
    stepRail r s = if rdB (railFail r) 0 s ∨ rdB (railRamp r) 0 s ∨ railAsked r s = railTarget r s then s
      else askRail r (railStep (rd (railRead r) 0 s) (railTarget r s)) s := rfl

theorem railsAsked_stepRail (hs : Rising s.regs) (r : Nat) : RailsAsked s (stepRail r s) := by
  rw [stepRail_cases]
  split
  · exact .refl hs
  · exact railsAsked_askRail hs ..

/-- Both rails' targets. -/
def setTargets (e w : Nat) (s : State) : State := { s with pwr := { s.pwr with targetE := e, targetW := w } }

theorem railsAsked_retarget (hs : Rising s.regs) (e w : Nat) : RailsAsked (setTargets e w s) (retarget e w s) := by
  have h0 : RailsAsked (setTargets e w s) (stepRail 0 (setTargets e w s)) := railsAsked_stepRail (s := setTargets e w s) hs 0
  exact h0.trans (railsAsked_stepRail h0.rising 1)

/-! ### BOOST is left (R44, R62, R490) -/

/-- BOOST is left: the mode is RUN, forward bias is off, no region is hot, and the rails have the targets given. -/
theorem leaveBoost_spec (hs : Rising s.regs) (e w : Nat) :
    let t := leaveBoost e w s
    t = { s with regs := t.regs, pwr := t.pwr } ∧
      t.pwr = { s.pwr with targetE := e, targetW := w, hot := [], unbiased := [], askedE := t.pwr.askedE, askedW := t.pwr.askedW } ∧
      modeOf t = 4 ∧ rd F.pwr_VCORE_STAT_BIAS 0 t = 0 ∧ Rising t.regs := by
  let s0 : State := { s with pwr := { s.pwr with hot := [], unbiased := [] } }
  let s1 := wr F.pwr_VCORE_STAT_BIAS 0 0 (wr F.pwr_MODE 0 4 s0)
  have hr0 : Rising (wr F.pwr_MODE 0 4 s0).regs := rising_wr (s := s0) hs ..
  have h : RailsAsked (setTargets e w s1) (leaveBoost e w s) := railsAsked_retarget (rising_wr hr0 ..) e w
  have hmode : modeOf s1 = 4 := (rd_wr_apart hr0 (by decide) ..).trans (rd_wr_self (s := s0) hs (by decide) ..)
  have hbias : rd F.pwr_VCORE_STAT_BIAS 0 s1 = 0 := rd_wr_self hr0 (by decide) ..
  exact ⟨h.frame, h.power, (h.reads F.pwr_MODE (by decide) (by decide) (by decide)).trans hmode, h.bias hbias, h.rising⟩

/-! ### Rails at rest -/

/-- With no request that waits for the rails, forward bias may go on, and that is all. -/
theorem ramped_idle (h : s.pwr.trans = none) : ramped s = s ∨ ramped s = biasOn s := by
  unfold ramped
  split
  · exact .inl rfl
  · rw [h]
    dsimp only
    split
    · exact .inr rfl
    · exact .inl rfl

theorem rd_ramped_idle (hs : Rising s.regs) (h : s.pwr.trans = none) {f : FRef} (hf : Apart f F.pwr_VCORE_STAT_BIAS) :
    rd f 0 (ramped s) = rd f 0 s := by
  obtain h | h := ramped_idle h
  · rw [h]
  · rw [h]
    exact rd_wr_apart (s := { s with pwr := { s.pwr with unbiased := [] } }) hs hf ..

theorem railAsked_ramped_idle (h : s.pwr.trans = none) (r : Nat) : railAsked r (ramped s) = railAsked r s := by
  obtain h | h := ramped_idle h
  · rw [h]
  · rw [h]
    rfl

/-! ### What a regulator reports (R43, R45) -/

/-- A regulator's report: the voltage read, and no step under way. -/
def reported (r v : Nat) (s : State) : State := wr (railRamp r) 0 0 (wr (railRead r) 0 v s)

theorem reported_spec (hs : Rising s.regs) {r v : Nat} (hr : r < 2) (hv : v < 256) :
    rd (railRead r) 0 (reported r v s) = v ∧ rd (railRamp r) 0 (reported r v s) = 0 ∧
      rd (railFail r) 0 (reported r v s) = rd (railFail r) 0 s ∧ Rising (reported r v s).regs := by
  have h1 : Rising (wr (railRead r) 0 v s).regs := rising_wr hs ..
  unfold reported
  obtain rfl | rfl : r = 0 ∨ r = 1 := by omega
  all_goals
    refine ⟨?_, rd_wr_self h1 (by decide) .., ?_, rising_wr h1 ..⟩
    · rw [rd_wr_apart h1 (by decide), rd_wr_self hs (by decide)]
      exact Nat.mod_eq_of_lt hv
    · rw [rd_wr_apart h1 (by decide), rd_wr_apart hs (by decide)]

theorem avsStep_eq {r : Nat} (h : rdB (railRamp r) 0 s = true) (v : Nat) : avsStep r v s = ramped (stepRail r (reported r v s)) := by
  unfold avsStep
  rw [if_neg (by simp [h])]
  rfl

theorem avsTimeout_eq {r : Nat} (h : rdB (railRamp r) 0 s = true) (ht : s.pwr.trans = none) (v : Nat) :
    avsTimeout r v s = raiseWord 4 0 97 true r (wr (railFail r) 0 1 (reported r v s)) := by
  unfold avsTimeout
  rw [if_neg (by simp [h])]
  dsimp only
  split
  · next q hq => exact absurd (ht.symm.trans hq) (by simp)
  · rfl

theorem avsStep_spec (hs : Rising s.regs) {r v : Nat} (hr : r < 2) (hv : v < 256) (hramp : rdB (railRamp r) 0 s = true) (ht : s.pwr.trans = none) :
    let t := avsStep r v s
    rd (railRead r) 0 t = v ∧
      (rdB (railFail r) 0 s = false → railAsked r s ≠ railTarget r s →
        railAsked r t = railStep v (railTarget r s) ∧ rdB (railRamp r) 0 t = true) ∧
      (railAsked r s = railTarget r s → rdB (railRamp r) 0 t = false) := by
  obtain ⟨hread, hidle, hfail, hrise⟩ := reported_spec hs hr hv
  have hmove : RailsAsked (reported r v s) (stepRail r (reported r v s)) := railsAsked_stepRail hrise r
  have htrans : (stepRail r (reported r v s)).pwr.trans = none := (congrArg Pwr.trans hmove.power).trans ht
  have hsame : railAsked r (reported r v s) = railAsked r s ∧ railTarget r (reported r v s) = railTarget r s := ⟨rfl, rfl⟩
  have hapart : Apart (railRead r) F.pwr_VCORE_STAT_BIAS ∧ Apart (railRead r) F.pwr_VCORE_STAT_RAMP_E ∧ Apart (railRead r) F.pwr_VCORE_STAT_RAMP_W ∧
      Apart (railRamp r) F.pwr_VCORE_STAT_BIAS := by
    obtain rfl | rfl : r = 0 ∨ r = 1 := by omega
    all_goals decide
  rw [avsStep_eq hramp]
  refine ⟨?_, fun hf hne => ?_, fun heq => ?_⟩
  · rw [rd_ramped_idle hmove.rising htrans hapart.1, hmove.reads _ hapart.1 hapart.2.1 hapart.2.2.1, hread]
  · have hstep : stepRail r (reported r v s) = askRail r (railStep v (railTarget r s)) (reported r v s) := by
      rw [stepRail_cases, if_neg, hread, hsame.2]
      simp [rdB, hidle, hfail, hsame, hne] at hf ⊢
      exact hf
    refine ⟨?_, ?_⟩
    · rw [railAsked_ramped_idle htrans, hstep, railAsked_askRail]
    · unfold rdB
      rw [rd_ramped_idle hmove.rising htrans hapart.2.2.2, hstep, rd_ramp_askRail hrise]
      rfl
  · have hstep : stepRail r (reported r v s) = reported r v s := by
      rw [stepRail_cases, if_pos (.inr (.inr heq))]
    unfold rdB
    rw [rd_ramped_idle hmove.rising htrans hapart.2.2.2, hstep, hidle]
    rfl

theorem avsTimeout_spec (hs : Rising s.regs) {r v : Nat} (hr : r < 2) (hv : v < 256) (hramp : rdB (railRamp r) 0 s = true) (ht : s.pwr.trans = none) :
    let t := avsTimeout r v s
    rd (railRead r) 0 t = v ∧ rdB (railFail r) 0 t = true ∧ rdB (railRamp r) 0 t = false := by
  obtain ⟨hread, hidle, -, hrise⟩ := reported_spec hs hr hv
  rw [avsTimeout_eq hramp ht]
  show rd (railRead r) 0 (wr (railFail r) 0 1 (reported r v s)) = v ∧ rdB (railFail r) 0 (wr (railFail r) 0 1 (reported r v s)) = true ∧
    rdB (railRamp r) 0 (wr (railFail r) 0 1 (reported r v s)) = false
  unfold rdB
  obtain rfl | rfl : r = 0 ∨ r = 1 := by omega
  all_goals
    rw [rd_wr_apart hrise (by decide), hread, rd_wr_self hrise (by decide), rd_wr_apart hrise (by decide), hidle]
    exact ⟨rfl, rfl, rfl⟩

/-! ### The sensors (R61 to R63) -/

theorem Apart.nth {f g : FRef} (h : Apart f g) (i : Nat) : Apart (f.nth i) (g.nth i) := by
  obtain ⟨hb, hw, ho⟩ := h
  exact ⟨hb, hw, ho.imp_left fun hne heq => hne (Nat.add_right_cancel heq)⟩

/-- A truth value as a field of one bit. -/
def bitOf (p : Bool) : Nat := if p then 1 else 0

/-- R61: a reading in the register of its sensor, with the flags that it sets. -/
def recordReading (i c : Nat) (s : State) : State :=
  wr (F.pwr_TS_OVER_BOOST.nth i) 0 (bitOf (decide (16 * (rd F.pwr_THERM_CTL_BOOST_LIM 0 s : Int) < signedOf 12 c)))
    (wr (F.pwr_TS_CRIT.nth i) 0 (bitOf (decide (criticalLevel ≤ signedOf 12 c))) (wr (F.pwr_TS_TEMP.nth i) 0 c (wr (F.pwr_TS_VALID.nth i) 0 1 s)))

theorem bitOf_lt (p : Bool) : bitOf p % 2 ^ 1 = bitOf p := by cases p <;> rfl

theorem recordReading_spec (hs : Rising s.regs) {c : Nat} (hc : c < 4096) (i : Nat) :
    let t := recordReading i c s
    rd (F.pwr_TS_TEMP.nth i) 0 t = c ∧ rd (F.pwr_TS_VALID.nth i) 0 t = 1 ∧
      rd (F.pwr_TS_OVER_BOOST.nth i) 0 t = bitOf (decide (16 * (rd F.pwr_THERM_CTL_BOOST_LIM 0 s : Int) < signedOf 12 c)) ∧
      rd (F.pwr_TS_CRIT.nth i) 0 t = bitOf (decide (criticalLevel ≤ signedOf 12 c)) := by
  let s1 := wr (F.pwr_TS_VALID.nth i) 0 1 s
  let s2 := wr (F.pwr_TS_TEMP.nth i) 0 c s1
  let s3 := wr (F.pwr_TS_CRIT.nth i) 0 (bitOf (decide (criticalLevel ≤ signedOf 12 c))) s2
  have h1 : Rising s1.regs := rising_wr hs ..
  have h2 : Rising s2.regs := rising_wr h1 ..
  have h3 : Rising s3.regs := rising_wr h2 ..
  have apart {f g : FRef} (h : Apart f g) : Apart (f.nth i) (g.nth i) := h.nth i
  refine ⟨?_, ?_, ?_, ?_⟩
  · exact ((rd_wr_apart h3 (apart (by decide)) ..).trans (rd_wr_apart h2 (apart (by decide)) ..)).trans
      ((rd_wr_self h1 (show 0 + 12 ≤ 36 by decide) ..).trans (Nat.mod_eq_of_lt hc))
  · exact (((rd_wr_apart h3 (apart (by decide)) ..).trans (rd_wr_apart h2 (apart (by decide)) ..)).trans (rd_wr_apart h1 (apart (by decide)) ..)).trans
      (rd_wr_self hs (show 12 + 1 ≤ 36 by decide) ..)
  · exact (rd_wr_self h3 (show 13 + 1 ≤ 36 by decide) ..).trans (bitOf_lt _)
  · exact (rd_wr_apart h3 (apart (by decide)) ..).trans ((rd_wr_self h2 (show 14 + 1 ≤ 36 by decide) ..).trans (bitOf_lt _))

/-- R61 to R63: what a reading does besides: below the critical level the power manager and THERM_N may change; from it on THERM_N goes low, and the
reading is a fault of an awake device. -/
theorem sensorUpdate_eq {i c : Nat} (hon : sensorOn i s = true) (hm : modeOf s ≠ 0) :
    (signedOf 12 c < criticalLevel → ∃ p n, sensorUpdate i c s = { recordReading i c s with pwr := p, pins := n }) ∧
    (criticalLevel ≤ signedOf 12 c → ∃ p, sensorUpdate i c s =
      (if asleep s then id else raiseWord 4 0 66 false i)
        { recordReading i c s with pwr := p, pins := { (recordReading i c s).pins with thermN := false } }) := by
  obtain ⟨u, hu⟩ : ∃ u, recordReading i c s = u := ⟨_, rfl⟩
  rw [hu]
  unfold sensorUpdate
  rw [if_neg (by simp [hon, hm])]
  extract_lets lim x b s1 s2 src s3 src' s4
  have h2 : s2 = u := hu
  clear_value s2
  subst h2
  have h4 : ∃ p, s4 = { s2 with pwr := p } := by
    have h3 : ∃ p, s3 = { s2 with pwr := p } := by
      unfold s3
      split
      · exact ⟨_, rfl⟩
      · exact ⟨s2.pwr, rfl⟩
    obtain ⟨p, hp⟩ := h3
    unfold s4
    split
    · exact ⟨_, congrArg (fun u : State => { u with pwr := { u.pwr with thermLock := false } }) hp⟩
    · exact ⟨p, hp⟩
  obtain ⟨p, hp⟩ := h4
  clear_value s4
  subst hp
  refine ⟨fun hx => ?_, fun hx => ?_⟩
  · rw [if_neg (not_le.mpr hx)]
    split
    · exact ⟨p, _, rfl⟩
    · exact ⟨p, s2.pins, rfl⟩
  · rw [if_pos hx]
    refine ⟨p, ?_⟩
    split <;> rfl

/-! ### A region that stays too hot (R62) -/

theorem thermalExit_eq {rg : Nat} (hm : modeOf s = 5) (hh : s.pwr.hot.contains rg = true) :
    thermalExit rg s = raiseWord 4 0 96 true rg (leaveBoost 180 180 { s with pwr := { s.pwr with thermLock := true } }) := by
  unfold thermalExit
  rw [if_pos ⟨hm, hh⟩]

/-! ### The supplies and the clock (R39, R40, R52) -/

/-- The main rails are in use. -/
theorem railsUsed_of (h : modeOf s = 1 ∨ modeOf s = 4 ∨ modeOf s = 5) : railsUsed s = true := by
  obtain h | h | h := h <;> simp [railsUsed, h]

theorem mainFault_eq (h : railsUsed s = true) :
    mainFault s = raiseOpen 4 0 64 false { s with pwr := { s.pwr with startCold := true }, pins := { s.pins with safeN := 15 } } := by
  unfold mainFault
  rw [if_pos h]
  rfl

/-- R39: the PLL lock of a cold start. -/
theorem powered_cold (h : s.start.kind = 1) :
    powered s = { setStartStep 2 s with start := { s.start with step := 2, domains := backboneDomains 1 s } } := by
  unfold powered
  rw [if_neg (by omega), h]
  rfl

end Sys2Proof.Machine
end

section
/-! The statement O51: rails, temperature and clock (chapter 2). -/

namespace Sys2Proof.Machine

/-! ### The records of the rails and of the clock -/

/-- One record of the whole device arises between `s` and `t`. -/
def Told (cause : Nat) (notice : Bool) (s t : State) : Prop :=
  ∃ r : Raised, t.raised = s.raised ++ [r] ∧ r.scope = { lvl := 4, i := 0 } ∧ r.cause = cause ∧ r.notice = notice

/-- The same, and `word` says what it is about. -/
def ToldOf (cause word : Nat) (notice : Bool) (s t : State) : Prop :=
  Told cause notice s t ∧ ∀ r : Raised, t.raised = s.raised ++ [r] → r.word = word

variable {s t : State}

theorem toldOf_raiseWord (cause : Nat) (notice : Bool) (w : Nat) (h : t.raised = s.raised) : ToldOf cause w notice s (raiseWord 4 0 cause notice w t) := by
  obtain ⟨r, hr, hscope, hcause, hnotice, hword⟩ := raiseWord_eq 4 0 cause notice w t
  have hraised : (raiseWord 4 0 cause notice w t).raised = s.raised ++ [r] := by rw [hr, h]
  refine ⟨⟨r, hraised, hscope, hcause, hnotice⟩, fun r' hr' => ?_⟩
  have hsame : r = r' := by simpa using List.append_cancel_left (hraised.symm.trans hr')
  rw [← hsame, hword]

theorem told_raiseOpen (cause : Nat) (notice : Bool) (h : t.raised = s.raised) : Told cause notice s (raiseOpen 4 0 cause notice t) := by
  obtain ⟨r, hr, hscope, hcause, hnotice⟩ := raiseOpen_eq 4 0 cause notice t
  exact ⟨r, by rw [hr, h], hscope, hcause, hnotice⟩

/-! ### The commands of chapter 2 -/

theorem exec_avsStepComplete {r v : Nat} (hr : r < 2) (hpg : s.pins.mainPg = true) :
    exec (.avsStepComplete r v) s = .next (finish (avsStep r v s)) := by
  show answer (decide (r < 2)) (onRails (avsStep r v) s) = _
  rw [answer_of hr, onRails, if_pos hpg]

theorem exec_avsTimeout {r v : Nat} (hr : r < 2) (hpg : s.pins.mainPg = true) :
    exec (.avsTimeout r v) s = .next (finish (avsTimeout r v s)) := by
  show answer (decide (r < 2)) (onRails (avsTimeout r v) s) = _
  rw [answer_of hr, onRails, if_pos hpg]

/-- R45: a regulator that is late is told of, with the rail's number. -/
theorem toldOf_avsTimeout {r : Nat} (h : rdB (railRamp r) 0 s = true) (ht : s.pwr.trans = none) (v : Nat) : ToldOf 97 r true s (avsTimeout r v s) := by
  rw [avsTimeout_eq h ht]
  exact toldOf_raiseWord (s := s) 97 true r rfl

theorem exec_tempSensorUpdate (hs : Rising s.regs) {i c : Nat} (hi : i < 11) (hc : c < 4096) (hon : sensorOn i s = true) (hm : modeOf s ≠ 0) :
    ∃ t, exec (.tempSensorUpdate i c) s = .next (finish t) ∧ rd (F.pwr_TS_TEMP.nth i) 0 t = c ∧ rd (F.pwr_TS_VALID.nth i) 0 t = 1 ∧
      rd (F.pwr_TS_OVER_BOOST.nth i) 0 t = bitOf (decide (16 * (rd F.pwr_THERM_CTL_BOOST_LIM 0 s : Int) < signedOf 12 c)) ∧
      rd (F.pwr_TS_CRIT.nth i) 0 t = bitOf (decide (criticalLevel ≤ signedOf 12 c)) ∧
      (criticalLevel ≤ signedOf 12 c → t.pins.thermN = false ∧ (asleep s = false → ToldOf 66 i false s t)) ∧
      (signedOf 12 c < criticalLevel → t.raised = s.raised) := by
  obtain ⟨htemp, hvalid, hover, hcrit⟩ := recordReading_spec hs hc i
  obtain ⟨hcool, hhot⟩ := sensorUpdate_eq hon hm (c := c)
  have hraised : (recordReading i c s).raised = s.raised := rfl
  refine ⟨sensorUpdate i c s, answer_of ⟨hi, hc⟩ _, ?_⟩
  generalize recordReading i c s = u at *
  by_cases hx : signedOf 12 c < criticalLevel
  · obtain ⟨p, n, h⟩ := hcool hx
    rw [h]
    exact ⟨htemp, hvalid, hover, hcrit, fun hx' => absurd hx (not_lt.mpr hx'), fun _ => hraised⟩
  · obtain ⟨p, h⟩ := hhot (not_lt.mp hx)
    rw [h]
    cases hsleep : asleep s with
    | true => exact ⟨htemp, hvalid, hover, hcrit, fun _ => ⟨rfl, fun h => nomatch h⟩, fun hx' => absurd hx' hx⟩
    | false => exact ⟨htemp, hvalid, hover, hcrit, fun _ => ⟨rfl, fun _ => toldOf_raiseWord 66 false i hraised⟩, fun hx' => absurd hx' hx⟩

theorem exec_thermalBoostExit (hs : Rising s.regs) {rg : Nat} (hrg : rg < 8) (hm : modeOf s = 5) (hhot : s.pwr.hot.contains rg = true) :
    ∃ t, exec (.thermalBoostExit rg) s = .next (finish t) ∧ modeOf t = 4 ∧ t.pwr.thermLock = true ∧ t.pwr.hot = [] ∧ t.pwr.targetE = 180 ∧
      t.pwr.targetW = 180 ∧ rd F.pwr_VCORE_STAT_BIAS 0 t = 0 ∧ ToldOf 96 rg true s t := by
  obtain ⟨s1, hs1⟩ : ∃ s1 : State, { s with pwr := { s.pwr with thermLock := true } } = s1 := ⟨_, rfl⟩
  obtain ⟨hframe, hpwr, hmode, hbias, -⟩ := leaveBoost_spec (s := s1) (hs1 ▸ hs) 180 180
  refine ⟨thermalExit rg s, answer_of hrg _, ?_⟩
  rw [thermalExit_eq hm hhot, hs1]
  generalize leaveBoost 180 180 s1 = t at *
  have hlock : t.pwr.thermLock = true := by rw [hpwr, ← hs1]
  have hcool : t.pwr.hot = [] := by rw [hpwr]
  have htargetE : t.pwr.targetE = 180 := by rw [hpwr]
  have htargetW : t.pwr.targetW = 180 := by rw [hpwr]
  have hraised : t.raised = s.raised := by rw [hframe, ← hs1]
  exact ⟨hmode, hlock, hcool, htargetE, htargetW, hbias, toldOf_raiseWord 96 true rg hraised⟩

/-- R40: the loss of a main rail takes the device to SAFE, and the next start is cold. -/
theorem mainFault_spec (h : railsUsed s = true) :
    Told 64 false s (mainFault s) ∧ (mainFault s).pins = { s.pins with safeN := 15 } ∧ (mainFault s).pwr.startCold = true ∧
      (mainFault s).clock = s.clock := by
  rw [mainFault_eq h]
  exact ⟨told_raiseOpen 64 false rfl, rfl, rfl, rfl⟩

theorem pgFall_spec (h : railsUsed s = true) :
    Told 64 false s (pgFall s) ∧ (pgFall s).pins = { s.pins with mainPg := false, refclk := false, safeN := 15 } ∧ (pgFall s).pwr.startCold = true ∧
      (pgFall s).clock = { s.clock with run := false } :=
  mainFault_spec (s := { s with pins := { s.pins with mainPg := false, refclk := false }, clock := { s.clock with run := false } }) h

/-- R52: the loss of the reference clock stops device time. -/
theorem refclkLoss_spec (h : railsUsed s = true) :
    Told 65 false s (refclkLoss s) ∧ (refclkLoss s).pins.refclk = false ∧ (refclkLoss s).clock.run = false := by
  have hlost : refclkLoss s = raiseOpen 4 0 65 false { s with pins := { s.pins with refclk := false }, clock := { s.clock with run := false } } := by
    unfold refclkLoss
    exact if_pos h
  rw [hlost]
  exact ⟨told_raiseOpen 65 false rfl, rfl, rfl⟩

/-- R39: the main rails are good at 0.80 V. -/
theorem pgRise_spec (hs : Rising s.regs) (h : s.pins.mainEn = true) :
    let t := pgRise s
    t.pins.mainPg = true ∧ rd (railRead 0) 0 t = 160 ∧ rd (railRead 1) 0 t = 160 ∧ t.pwr.targetE = 160 ∧ t.pwr.targetW = 160 := by
  have h1 : Rising (wr (railRead 1) 0 160 s).regs := rising_wr hs ..
  have hread0 : rd (railRead 0) 0 (wr (railRead 0) 0 160 (wr (railRead 1) 0 160 s)) = 160 := rd_wr_self h1 (by decide) ..
  have hread1 : rd (railRead 1) 0 (wr (railRead 0) 0 160 (wr (railRead 1) 0 160 s)) = 160 :=
    (rd_wr_apart h1 (by decide) ..).trans (rd_wr_self hs (by decide) ..)
  unfold pgRise
  rw [if_neg (by simp [h])]
  generalize wr (railRead 0) 0 160 (wr (railRead 1) 0 160 s) = u at *
  exact ⟨rfl, hread0, hread1, rfl, rfl⟩

/-- R39: the PLL locks while no start waits for it. -/
theorem pllLock_idle (hpg : s.pins.mainPg = true) (hclk : s.pins.refclk = false) (h : s.start.step ≠ 1) :
    pllLock s = { s with pins := { s.pins with refclk := true } } := by
  unfold pllLock
  rw [if_neg (by simp [hpg, hclk])]
  exact if_neg (fun hw => h hw.1)

/-- R39, R224: the PLL locks in step 1 of a cold start: device time starts at 0, and the backbone powers up. -/
theorem pllLock_cold (hpg : s.pins.mainPg = true) (hclk : s.pins.refclk = false) (hstep : s.start.step = 1) (hd : s.start.domains = [])
    (hk : s.start.kind = 1) :
    let t := pllLock s
    t.pins.refclk = true ∧ t.clock.dev = 0 ∧ t.clock.run = true ∧ t.start.step = 2 ∧
      t.start.domains = [48, 49, 41, 42, 43, 44, 45, 46, 47].filter (fun d => !domOn d s) := by
  let s1 : State := { s with pins := { s.pins with refclk := true }, clock := { s.clock with dev := 0, run := true } }
  have htime : startTime { s with pins := { s.pins with refclk := true } } = s1 := by
    unfold startTime
    exact if_pos (by simp [hk])
  have hlock : pllLock s = powered s1 := by
    unfold pllLock
    rw [if_neg (by simp [hpg, hclk])]
    exact (if_pos ⟨hstep, by rw [hd]; rfl⟩).trans (congrArg powered htime)
  have hpow : pllLock s = { setStartStep 2 s1 with start := { s.start with step := 2, domains := backboneDomains 1 s1 } } :=
    hlock.trans (powered_cold (s := s1) hk)
  rw [hpow]
  exact ⟨rfl, rfl, rfl, rfl, rfl⟩

/-- Settles O51, event by event: the reports of the regulators and of the sensors, a region too hot, the losses of the supplies and of the clock, and
the rise of both. -/
theorem railRows : Obligations.RailRows := by
  unfold Obligations.RailRows
  intro s hs used told toldOf
  refine ⟨fun r v hr hv hpg hramp ht => ⟨?_, ?_⟩, fun i c hi hc hon hm => ?_, fun rg hrg hm hhot _ => exec_thermalBoostExit hs.regs hrg hm hhot,
    fun hu => ⟨fun n => ?_, ?_, fun hclk => ?_⟩, fun hen => ⟨pgRise s, answer_of trivial _, pgRise_spec hs.regs hen⟩,
    fun hpg hclk => ⟨fun hstep => ?_, fun hstep hd hk => ⟨pllLock s, answer_of trivial _, pllLock_cold hpg hclk hstep hd hk⟩⟩⟩
  · exact ⟨avsStep r v s, exec_avsStepComplete hr hpg, avsStep_spec hs.regs hr hv hramp ht⟩
  · obtain ⟨hread, hfail, hidle⟩ := avsTimeout_spec hs.regs hr hv hramp ht
    exact ⟨avsTimeout r v s, exec_avsTimeout hr hpg, hread, hfail, hidle, toldOf_avsTimeout hramp ht v⟩
  · obtain ⟨t, hexec, htemp, hvalid, hover, hcrit, hhot, hcool⟩ := exec_tempSensorUpdate hs.regs hi hc hon hm
    exact ⟨t, hexec, htemp, hvalid, hover.trans (by simp [bitOf]), hcrit.trans (by simp [bitOf]), hhot, hcool⟩
  · obtain ⟨htold, hpins, hcold, -⟩ := mainFault_spec (railsUsed_of hu)
    exact ⟨mainFault s, answer_of trivial _, htold, by rw [hpins], hcold⟩
  · obtain ⟨htold, hpins, hcold, hclock⟩ := pgFall_spec (railsUsed_of hu)
    exact ⟨pgFall s, answer_of trivial _, htold, by rw [hpins], by rw [hpins], by rw [hclock], by rw [hpins], hcold⟩
  · refine ⟨refclkLoss s, ?_, refclkLoss_spec (railsUsed_of hu)⟩
    show answer (decide True) (if s.pins.refclk then refclkLoss s else s) = _
    rw [answer_of trivial, if_pos hclk]
  · rw [← pllLock_idle hpg hclk hstep]
    exact answer_of trivial _

end Sys2Proof.Machine
end

section
/-! The statement O53: resets and starts (chapters 2 and 17). First, fields written in turn, and a start that fails (R510). -/

namespace Sys2Proof.Machine

variable {s t u : State} {l : List FRef}

/-! ### Fields written in turn -/

/-- `t` is `s` with nothing written but the fields of `l`. -/
structure Wrote (l : List FRef) (s t : State) : Prop where
  frame  : t = { s with regs := t.regs }
  reads  : ∀ f : FRef, (∀ g ∈ l, Apart f g) → rd f 0 t = rd f 0 s
  rising : Rising t.regs

theorem Wrote.refl (hs : Rising s.regs) : Wrote l s s := ⟨rfl, fun _ _ => rfl, hs⟩

theorem Wrote.wr {g : FRef} (h : Wrote l s t) (hg : g ∈ l) (v : Nat) : Wrote l s (wr g 0 v t) :=
  ⟨h.frame ▸ rfl, fun f hf => (rd_wr_apart h.rising (hf g hg) ..).trans (h.reads f hf), rising_wr h.rising ..⟩

theorem Wrote.bump {g : FRef} (h : Wrote l s t) (hg : g ∈ l) : Wrote l s (bump g 0 t) := h.wr hg _

theorem Wrote.pins_eq (h : Wrote l s t) : t.pins = s.pins := by rw [h.frame]

/-! ### A start that fails (R510) -/

/-- The counter of failed starts that a failure counts in. -/
def failCount (warm : Bool) : FRef := if warm then F.pwr_START_FAILS_WARM else F.pwr_START_FAILS_COLD

/-- START_STAT before its cause is written: REASON and SECTION are those of a rejection, or 0 (log entry 66). -/
def clearReason (cause : Nat) (s : State) : State :=
  if cause = 4 then s else wr F.pwr_START_STAT_REASON 0 0 (wr F.pwr_START_STAT_SECTION 0 0 s)

/-- The failure of a start, in its registers. -/
def recordFailure (cause : Nat) (warm : Bool) (s : State) : State :=
  bump (failCount warm) 0 (wr F.pwr_START_STAT_CAUSE 0 cause (clearReason cause s))

/-- Every SAFE_N pin is low, and no request is in hand. -/
def atRest (s : State) : State := setTrans none (holdSafe 15 s)

theorem wr_atRest (f : FRef) (i v : Nat) (s : State) : wr f i v (atRest s) = atRest (wr f i v s) := rfl

theorem bump_atRest (f : FRef) (i : Nat) (s : State) : bump f i (atRest s) = atRest (bump f i s) := rfl

/-- The main rails and the clock are switched off after a failed start (log entry 80). -/
def failedOff (warm : Bool) (s : State) : State :=
  { s with
    pins := { s.pins with mainEn := false, mainPg := false, refclk := false }
    clock := { s.clock with run := false }
    start := { s.start with failed := true, retryWarm := warm, loading := [], buf := [], domains := [] } }

theorem startFail_eq {cause : Nat} (h : s.start.step ≠ 0) :
    startFail cause s =
      failedOff (s.start.kind == 2 && cause != 1) (domainsOff 50 (setStartStep 0 (atRest (recordFailure cause (s.start.kind == 2 && cause != 1) s)))) := by
  unfold startFail
  rw [if_neg h]
  extract_lets warm s0 s1 s2 s3 src
  have h2 : s2 = atRest (recordFailure cause warm s) :=
    (congrArg (bump (failCount warm) 0) (wr_atRest F.pwr_START_STAT_CAUSE 0 cause s0)).trans (bump_atRest ..)
  have h3 : s3 = domainsOff 50 (setStartStep 0 (atRest (recordFailure cause warm s))) := congrArg (fun u => domainsOff 50 (setStartStep 0 u)) h2
  rw [← h3]
  unfold src
  clear_value src s3
  rfl

/-- The failed start of `s` as `t` shows it, with its cause of Table ST-4. -/
def FailedStart (cause : Nat) (s t : State) : Prop :=
  rd F.pwr_START_STAT_CAUSE 0 t = cause ∧ t.start.step = 0 ∧ t.start.failed = true ∧ t.start.retryWarm = (s.start.kind == 2 && cause != 1) ∧
    t.pins.mainEn = false ∧ t.pins.mainPg = false ∧ t.pins.refclk = false ∧ t.pins.safeN = 15 ∧ t.clock.run = false

theorem failCount_fits (warm : Bool) : (failCount warm).lo + (failCount warm).w ≤ 36 ∧ (failCount warm).w = 2 := by
  cases warm <;> decide

theorem failCount_apart_cause (warm : Bool) : Apart (failCount warm) F.pwr_START_STAT_CAUSE ∧ Apart F.pwr_START_STAT_CAUSE (failCount warm) := by
  cases warm <;> decide

theorem wrote_clearReason (hs : Rising s.regs) (cause : Nat) : Wrote [F.pwr_START_STAT_REASON, F.pwr_START_STAT_SECTION] s (clearReason cause s) := by
  unfold clearReason
  split
  · exact .refl hs
  · exact ((Wrote.refl hs).wr (by simp) 0).wr (by simp) 0

theorem recordFailure_spec (hs : Rising s.regs) {cause : Nat} (hc : cause < 16) (warm : Bool) :
    let t := recordFailure cause warm s
    rd F.pwr_START_STAT_CAUSE 0 t = cause ∧ rd (failCount warm) 0 t = min (rd (failCount warm) 0 s + 1) 3 ∧ Rising t.regs ∧
      (cause = 4 → ∀ f, Apart f F.pwr_START_STAT_CAUSE → Apart f (failCount warm) → rd f 0 t = rd f 0 s) := by
  obtain ⟨-, hreads, h0⟩ := wrote_clearReason hs cause
  have h1 : Rising (wr F.pwr_START_STAT_CAUSE 0 cause (clearReason cause s)).regs := rising_wr h0 ..
  obtain ⟨hcount, hcause⟩ := failCount_apart_cause warm
  unfold recordFailure
  refine ⟨?_, ?_, rising_bump h1 .., fun h4 f hf hf' => ?_⟩
  · rw [rd_bump_apart h1 hcause, rd_wr_self h0 (by decide)]
    exact Nat.mod_eq_of_lt hc
  · rw [rd_bump_self h1 (failCount_fits warm).1, rd_wr_apart h0 hcount, hreads _ (by cases warm <;> decide), (failCount_fits warm).2]
    rfl
  · rw [rd_bump_apart h1 hf', rd_wr_apart h0 hf, clearReason, if_pos h4]

/-- R510: a start that fails keeps its cause, counts, and drops MAIN_EN; a rejected image stays on record. -/
theorem startFail_spec (hs : Rising s.regs) {cause : Nat} (hc : cause < 16) (h : s.start.step ≠ 0) :
    let warm := s.start.kind == 2 && cause != 1
    let t := startFail cause s
    FailedStart cause s t ∧ rd (failCount warm) 0 t = min (rd (failCount warm) 0 s + 1) 3 ∧ t.start.stage = s.start.stage ∧ t.start.loading = [] ∧
      (cause = 4 → ∀ f, Apart f F.pwr_START_STAT_CAUSE → Apart f (failCount warm) → f.b = .pwr →
        f.o < 0x2000 ∧ ¬ IsDomState f.o → rd f 0 t = rd f 0 s) := by
  intro warm t
  obtain ⟨hcause, hcount, hrise, hreads⟩ := recordFailure_spec hs hc warm
  have hoff : KeepsBut IsDomState (setStartStep 0 (atRest (recordFailure cause warm s)))
      (domainsOff 50 (setStartStep 0 (atRest (recordFailure cause warm s)))) :=
    (keepsBut_domainsOff (le_refl 50) (s := setStartStep 0 (atRest (recordFailure cause warm s))) hrise).1
  have hkeep {f : FRef} (hf : f.b = .pwr) (ho : f.o < 0x2000 ∧ ¬ IsDomState f.o) :
      rd f 0 (domainsOff 50 (setStartStep 0 (atRest (recordFailure cause warm s)))) = rd f 0 (recordFailure cause warm s) := hoff.reads hf ho
  have ht : t = failedOff warm (domainsOff 50 (setStartStep 0 (atRest (recordFailure cause warm s)))) := startFail_eq h
  have hstart : (domainsOff 50 (setStartStep 0 (atRest (recordFailure cause warm s)))).start = { s.start with step := 0 } := by
    rw [hoff.start]
    unfold recordFailure clearReason
    split <;> rfl
  have hsafe := hoff.safeN rfl
  generalize domainsOff 50 (setStartStep 0 (atRest (recordFailure cause warm s))) = u at *
  rw [ht]
  refine ⟨⟨(hkeep rfl (by decide)).trans hcause, ?_, rfl, rfl, rfl, rfl, rfl, hsafe, rfl⟩, (hkeep ?_ ?_).trans hcount, ?_, rfl, fun h4 f hf hf' hb ho =>
    (hkeep hb ho).trans (hreads h4 f hf hf')⟩
  · show u.start.step = 0
    rw [hstart]
  · cases warm <;> rfl
  · cases warm <;> decide
  · show u.start.stage = s.start.stage
    rw [hstart]

end Sys2Proof.Machine
end

section
/-! RESET_N low, and the always-on supply (R38, R465). -/

namespace Sys2Proof.Machine

variable {s t u : State} {l : List FRef}

theorem Wrote.domOn_eq (h : Wrote l s t) (hlo : ∀ g ∈ l, Apart F.pwr_DOM_ON_LO g) (hhi : ∀ g ∈ l, Apart F.pwr_DOM_ON_HI_ON g) (d : Nat) :
    domOn d t = domOn d s := by
  unfold domOn
  rw [h.reads _ hlo, h.reads _ hhi]

/-! ### RESET_N and the always-on supply (R38, R465) -/

/-- MODE as RESET_N leaves it. -/
def resetMode (s : State) : State := wr F.pwr_MODE 0 3 (wr F.pwr_MODE_STEP 0 0 (wr F.pwr_MODE_SAFE 0 0 (wr F.pwr_MODE_SAFE_BOOT 0 0 s)))

theorem resetMode_spec (hs : Rising s.regs) :
    modeOf (resetMode s) = 3 ∧ Wrote [F.pwr_MODE, F.pwr_MODE_STEP, F.pwr_MODE_SAFE, F.pwr_MODE_SAFE_BOOT] s (resetMode s) := by
  have h1 : Wrote [F.pwr_MODE, F.pwr_MODE_STEP, F.pwr_MODE_SAFE, F.pwr_MODE_SAFE_BOOT] s
      (wr F.pwr_MODE_STEP 0 0 (wr F.pwr_MODE_SAFE 0 0 (wr F.pwr_MODE_SAFE_BOOT 0 0 s))) :=
    (((Wrote.refl hs).wr (by simp) 0).wr (by simp) 0).wr (by simp) 0
  exact ⟨rd_wr_self h1.rising (by decide) .., h1.wr (by simp) 3⟩

theorem resetFall_eq (h : modeOf s ≠ 0) :
    let u := resetMode (domainsOff 50 (setStartStep 0 (atRest s)))
    resetFall s = { u with
      pins := { u.pins with resetN := false, mainEn := false, mainPg := false, refclk := false }
      clock := { u.clock with run := false }
      contain := State.reset.contain
      start := { u.start with failed := false, due := 0, loading := [], buf := [], domains := [] } } := by
  unfold resetFall
  rw [if_neg h]
  rfl

/-- R38: RESET_N low ends what runs. -/
theorem resetFall_spec (hs : Rising s.regs) (h : modeOf s ≠ 0) :
    let t := resetFall s
    modeOf t = 3 ∧ t.pins.resetN = false ∧ t.pins.mainEn = false ∧ t.pins.safeN = 15 ∧ t.start.step = 0 ∧ t.contain = State.reset.contain ∧
      t.pwr.trans = none ∧ ∀ d, d < 50 → domOn d t = false := by
  obtain ⟨hoff, hdom⟩ := keepsBut_domainsOff (le_refl 50) (s := setStartStep 0 (atRest s)) hs
  have ht := resetFall_eq h
  have hsafe := hoff.safeN rfl
  have hstep := congrArg Start.step hoff.start
  have htrans := congrArg Pwr.trans hoff.pwr
  have hrise := hoff.rising hs
  generalize domainsOff 50 (setStartStep 0 (atRest s)) = v at *
  obtain ⟨hmode, hwrote⟩ := resetMode_spec hrise
  have hframe := hwrote.frame
  have hd (d : Nat) (hd : d < 50) : domOn d (resetMode v) = false := by
    rw [hwrote.domOn_eq (by decide) (by decide), hdom d hd, decide_eq_false (by omega), Bool.and_false]
  generalize resetMode v = u at *
  rw [ht]
  refine ⟨hmode, rfl, rfl, ?_, ?_, rfl, ?_, hd⟩
  · exact (congrArg (fun x : State => x.pins.safeN) hframe).trans hsafe
  · exact (congrArg (fun x : State => x.start.step) hframe).trans hstep
  · exact (congrArg (fun x : State => x.pwr.trans) hframe).trans htrans

/-- What the always-on supply leaves of the memories (R333, R337). -/
theorem byte_onlyImem (s : State) (a : Nat) : (onlyImem s).byte a = if isImem (a / 32) then s.byte a else 0 :=
  Sparse.get_filter memDefault (fun a => isImem (a / 32)) a s.mem

theorem vaoFresh_spec (s : State) :
    let t := vaoFresh s
    modeOf t = 3 ∧ t.regs = [] ∧ t.ctxs = [] ∧ t.start.key = s.start.key ∧ t.start.keySet = s.start.keySet ∧
      ∀ a, t.byte a = if isImem (a / 32) then s.byte a else 0 :=
  have hmode : bits (resetWord 1) 0 3 = 3 := by decide
  ⟨hmode, rfl, rfl, rfl, rfl, byte_onlyImem s⟩

theorem vaoLoss_spec (h : modeOf s ≠ 0) :
    let t := vaoLoss s
    modeOf t = 0 ∧ t.ctxs = [] ∧ ∀ a, t.byte a = if isImem (a / 32) then s.byte a else 0 := by
  have hoff : vaoLoss s = wr F.pwr_MODE 0 0 (vaoFresh s) := by
    unfold vaoLoss
    rw [if_neg h]
  have hmode : modeOf (wr F.pwr_MODE 0 0 (vaoFresh s)) = 0 := rd_wr_self (s := vaoFresh s) List.Pairwise.nil (by decide) ..
  rw [hoff]
  exact ⟨hmode, rfl, byte_onlyImem s⟩

end Sys2Proof.Machine
end

section
/-! A cold start that begins (R500, R501). -/

namespace Sys2Proof.Machine

variable {s t u : State} {l : List FRef}

theorem rdB_of_zero {f : FRef} {i : Nat} (h : rd f i s = 0) : rdB f i s = false := by
  unfold rdB
  rw [h]
  rfl

/-! ### A start that begins (R500, R501, R508) -/

/-- The kind of the next cold start: after three that failed, a SAFE boot (R500). -/
def coldKind (s : State) : Nat := if rd F.pwr_START_FAILS_COLD 0 s = 3 then 3 else 1

theorem startKind_cold (s : State) : startKind false s = (coldKind s, s) := by
  unfold startKind coldKind
  by_cases h : rd F.pwr_START_FAILS_COLD 0 s = 3 <;> simp [h]

theorem coldKind_cases (s : State) : coldKind s = 1 ∨ coldKind s = 3 := by
  unfold coldKind
  split
  · exact .inr rfl
  · exact .inl rfl

/-- Every domain is off and the backbones are as they start; a cold start counts IMEM_WR from 0 (R344). -/
def allDown (k : Nat) (s : State) : State :=
  let u := domainsOff (if k = 2 then 48 else 50) (atRest s)
  initBackbone 1 (initBackbone 0 (if k = 1 then forN 32 (fun c s => wr F.clu_IMEM_WR c 0 s) u else u))

theorem keepsBut_allDown (hs : Rising s.regs) (k : Nat) : KeepsBut IsDomState (atRest s) (allDown k s) := by
  have hoff : KeepsBut IsDomState (atRest s) (domainsOff (if k = 2 then 48 else 50) (atRest s)) :=
    (keepsBut_domainsOff (by split <;> decide) (s := atRest s) hs).1
  unfold allDown
  dsimp only
  generalize domainsOff (if k = 2 then 48 else 50) (atRest s) = u at *
  have hu : Rising u.regs := hoff.rising hs
  have hclu : KeepsPower u (if k = 1 then forN 32 (fun c s => wr F.clu_IMEM_WR c 0 s) u else u) :=
    keepsPower_ite (keepsPower_forN (fun _ _ h => keepsPower_wr (by decide) h) (.refl hu)) (.refl hu)
  generalize (if k = 1 then forN 32 (fun c s => wr F.clu_IMEM_WR c 0 s) u else u) = v at *
  have h0 : KeepsBut IsSensor v (initBackbone 0 v) := keepsBut_initBackbone (by decide) hclu.rising
  have h1 : KeepsBut IsSensor (initBackbone 0 v) (initBackbone 1 (initBackbone 0 v)) := keepsBut_initBackbone (by decide) (h0.rising hclu.rising)
  have h01 : KeepsBut IsDomState v (initBackbone 1 (initBackbone 0 v)) := (h0.trans h1).mono fun _ => Or.inl
  exact (hoff.trans hclu.but).trans h01

/-- MODE as a start begins. -/
def startMode (s : State) : State := wr F.pwr_MODE_SAFE 0 0 (wr F.pwr_MODE_SAFE_BOOT 0 0 (wr F.pwr_MODE_STEP 0 0 s))

/-- VCORE_STAT as a start begins. -/
def startVcore (s : State) : State :=
  wr F.pwr_VCORE_STAT_BIAS 0 0 (wr (railFail 0) 0 0 (wr (railFail 1) 0 0 (wr (railRamp 0) 0 0 (wr (railRamp 1) 0 0 s))))

/-- START_STAT as a start begins. -/
def startStat (k : Nat) (s : State) : State :=
  wr F.pwr_START_STAT_KIND 0 k (wr F.pwr_START_STAT_SKIP_SCRUB 0 0 (wr F.pwr_START_STAT_SKIP_IMAGE 0 0 (wr F.pwr_START_STAT_SKIP_DISC 0 0 s)))

/-- What a start abandons, and what it begins with. -/
def startFresh (k : Nat) (s : State) : State :=
  { s with
    ctxs := [], units := [], posted := [], reqs := []
    contain := State.reset.contain
    pwr := { s.pwr with hot := [], unbiased := [], bankBad := [], startCold := false }
    pins := { s.pins with mainEn := true }
    clock := if k = 2 then { s.clock with hostLatch := 0 }
      else { s.clock with dev := 0, run := s.pins.mainPg && s.pins.refclk, hostLatch := 0 }
    start := { s.start with
      kind := k, began := s.clock.ao, loading := [], buf := [], domains := [], tried := 0, skipTry := false, failed := false,
      digestDue := false, restored := false, due := 0 } }

/-- The state in which step 1 of a start begins. -/
def stepOne (k : Nat) (s : State) : State := setStartStep 1 (startFresh k (startStat k (startVcore (startMode (allDown k s)))))

theorem beginStart_cold (s : State) :
    beginStart false s =
      let u := stepOne (coldKind s) s
      if u.pins.mainPg && u.pins.refclk then powered u else u := by
  unfold beginStart
  rw [startKind_cold]
  rfl

theorem startMode_spec (hs : Rising s.regs) :
    Wrote [F.pwr_MODE_SAFE, F.pwr_MODE_SAFE_BOOT, F.pwr_MODE_STEP] s (startMode s) ∧ rd F.pwr_MODE_SAFE 0 (startMode s) = 0 ∧
      rd F.pwr_MODE_SAFE_BOOT 0 (startMode s) = 0 := by
  have h1 : Wrote [F.pwr_MODE_SAFE, F.pwr_MODE_SAFE_BOOT, F.pwr_MODE_STEP] s (wr F.pwr_MODE_STEP 0 0 s) := (Wrote.refl hs).wr (by simp) 0
  have h2 : Wrote [F.pwr_MODE_SAFE, F.pwr_MODE_SAFE_BOOT, F.pwr_MODE_STEP] s (wr F.pwr_MODE_SAFE_BOOT 0 0 (wr F.pwr_MODE_STEP 0 0 s)) := h1.wr (by simp) 0
  exact ⟨h2.wr (by simp) 0, rd_wr_self h2.rising (by decide) .., (rd_wr_apart h2.rising (by decide) ..).trans (rd_wr_self h1.rising (by decide) ..)⟩

/-- The fields of VCORE_STAT that a start clears. -/
def vcoreFields : List FRef :=
  [F.pwr_VCORE_STAT_BIAS, F.pwr_VCORE_STAT_AVS_FAIL_E, F.pwr_VCORE_STAT_AVS_FAIL_W, F.pwr_VCORE_STAT_RAMP_E, F.pwr_VCORE_STAT_RAMP_W]

theorem wrote_startVcore (hs : Rising s.regs) : Wrote vcoreFields s (startVcore s) :=
  (((((Wrote.refl hs).wr (by decide) 0).wr (by decide) 0).wr (by decide) 0).wr (by decide) 0).wr (by decide) 0

/-- The fields of START_STAT that a start writes as it begins. -/
def statFields : List FRef := [F.pwr_START_STAT_KIND, F.pwr_START_STAT_SKIP_SCRUB, F.pwr_START_STAT_SKIP_IMAGE, F.pwr_START_STAT_SKIP_DISC]

theorem startStat_spec (hs : Rising s.regs) (k : Nat) : Wrote statFields s (startStat k s) ∧ rd F.pwr_START_STAT_KIND 0 (startStat k s) = k % 8 := by
  have h : Wrote statFields s (wr F.pwr_START_STAT_SKIP_SCRUB 0 0 (wr F.pwr_START_STAT_SKIP_IMAGE 0 0 (wr F.pwr_START_STAT_SKIP_DISC 0 0 s))) :=
    (((Wrote.refl hs).wr (by decide) 0).wr (by decide) 0).wr (by decide) 0
  exact ⟨h.wr (by decide) k, rd_wr_self h.rising (by decide) ..⟩

/-- A start of kind `k` that has begun, without its step. -/
def Begun (k : Nat) (t : State) : Prop :=
  t.start.kind = k ∧ rd F.pwr_START_STAT_KIND 0 t = k ∧ t.start.failed = false ∧ t.pins.mainEn = true ∧ t.ctxs = [] ∧ t.units = [] ∧
    rdB F.pwr_MODE_SAFE_BOOT 0 t = false ∧ inSafe t = false

/-- A start that has begun is so after writes elsewhere in PWR. -/
theorem Begun.moved {k : Nat} (h : Begun k s) (hstart : (t.start.kind, t.start.failed) = (s.start.kind, s.start.failed)) (hpins : t.pins = s.pins)
    (hctx : (t.ctxs, t.units) = (s.ctxs, s.units)) (hkind : rd F.pwr_START_STAT_KIND 0 t = rd F.pwr_START_STAT_KIND 0 s)
    (hboot : rd F.pwr_MODE_SAFE_BOOT 0 t = rd F.pwr_MODE_SAFE_BOOT 0 s) (hsafe : rd F.pwr_MODE_SAFE 0 t = rd F.pwr_MODE_SAFE 0 s) : Begun k t := by
  obtain ⟨h1, h2, h3, h4, h5, h6, h7, h8⟩ := h
  obtain ⟨hk, hf⟩ := Prod.mk.inj hstart
  obtain ⟨hc, hu⟩ := Prod.mk.inj hctx
  exact ⟨hk.trans h1, hkind.trans h2, hf.trans h3, hpins ▸ h4, hc.trans h5, hu.trans h6, (rdB_eq hboot).trans h7, (rdB_eq hsafe).trans h8⟩

/-- The start is at step `n`, which START_STAT does not show yet. -/
def atStep (n : Nat) (s : State) : State := { s with start := { s.start with step := n } }

theorem wrote_setStartStep (hs : Rising s.regs) {n : Nat} (hn : n ≠ 0) : Wrote [F.pwr_START_STAT_STEP] (atStep n s) (setStartStep n s) := by
  unfold setStartStep
  rw [if_neg hn]
  exact (Wrote.refl (s := atStep n s) hs).wr (g := F.pwr_START_STAT_STEP) (by simp) n

theorem startFresh_spec (hs : Rising s.regs) {k : Nat} (hkind : rd F.pwr_START_STAT_KIND 0 s = k) (hboot : rd F.pwr_MODE_SAFE_BOOT 0 s = 0)
    (hsafe : rd F.pwr_MODE_SAFE 0 s = 0) :
    let t := setStartStep 1 (startFresh k s)
    Begun k t ∧ t.start.step = 1 ∧ t.pins = { s.pins with mainEn := true } ∧ Rising t.regs := by
  have hfresh : Begun k (atStep 1 (startFresh k s)) := ⟨rfl, hkind, rfl, rfl, rfl, rfl, rdB_of_zero hboot, rdB_of_zero hsafe⟩
  have hf := wrote_setStartStep (s := startFresh k s) hs (n := 1) (by decide)
  have hframe : (setStartStep 1 (startFresh k s)).pins = (atStep 1 (startFresh k s)).pins := rfl
  exact ⟨hfresh.moved rfl hframe rfl (hf.reads _ (by decide)) (hf.reads _ (by decide)) (hf.reads _ (by decide)), rfl, rfl, hf.rising⟩

/-- The registers of PWR as a start begins. -/
theorem startRegs_spec (hs : Rising s.regs) {k : Nat} (hk : k < 8) :
    let t := startStat k (startVcore (startMode s))
    rd F.pwr_START_STAT_KIND 0 t = k ∧ rd F.pwr_MODE_SAFE_BOOT 0 t = 0 ∧ rd F.pwr_MODE_SAFE 0 t = 0 ∧ t.pins = s.pins ∧ Rising t.regs := by
  obtain ⟨hm, hsafe, hboot⟩ := startMode_spec hs
  have hv := wrote_startVcore hm.rising
  obtain ⟨hst, hkind⟩ := startStat_spec hv.rising k
  refine ⟨hkind.trans (Nat.mod_eq_of_lt hk), ?_, ?_, ?_, hst.rising⟩
  · rw [hst.reads F.pwr_MODE_SAFE_BOOT (by decide), hv.reads F.pwr_MODE_SAFE_BOOT (by decide), hboot]
  · rw [hst.reads F.pwr_MODE_SAFE (by decide), hv.reads F.pwr_MODE_SAFE (by decide), hsafe]
  · rw [hst.pins_eq, hv.pins_eq, hm.pins_eq]

theorem stepOne_spec (hs : Rising s.regs) {k : Nat} (hk : k < 8) :
    Begun k (stepOne k s) ∧ (stepOne k s).start.step = 1 ∧ (stepOne k s).pins = { s.pins with mainEn := true, safeN := 15 } ∧
      Rising (stepOne k s).regs := by
  have hdown := keepsBut_allDown hs k
  have hpins : (allDown k s).pins = { s.pins with safeN := 15 } := by
    rw [hdown.pins, hdown.safeN rfl]
    rfl
  obtain ⟨hkind, hboot, hsafe, hregs, hrise⟩ := startRegs_spec (hdown.rising hs) hk
  obtain ⟨hbegun, hstep, hen, hrise'⟩ := startFresh_spec hrise hkind hboot hsafe
  refine ⟨hbegun, hstep, hen.trans ?_, hrise'⟩
  rw [hregs, hpins]

/-- Step 1 is over with the rails good and the clock locked: a SAFE boot stays in it, any other start goes on to step 2. -/
theorem powered_spec (hs : Rising s.regs) {k : Nat} (h : Begun k s) (hstep : s.start.step = 1) :
    Begun k (powered s) ∧ (powered s).pins = s.pins ∧ (powered s).start.step = if k = 3 then 1 else 2 := by
  have hk : s.start.kind = k := h.1
  unfold powered
  by_cases h3 : k = 3
  · rw [if_pos (hk.trans h3), if_pos h3]
    have hask := railsAsked_retarget hs 160 160
    have hframe := hask.frame
    generalize retarget 160 160 s = u at *
    refine ⟨h.moved ?_ ?_ ?_ (hask.reads _ (by decide) (by decide) (by decide)) (hask.reads _ (by decide) (by decide) (by decide))
      (hask.reads _ (by decide) (by decide) (by decide)), ?_, ?_⟩
    all_goals rw [hframe]
    · rfl
    · rfl
    · rfl
    · rfl
    · exact hstep
  · rw [if_neg (fun h => h3 (hk.symm.trans h)), if_neg h3]
    have hf := wrote_setStartStep hs (n := 2) (by decide)
    exact ⟨h.moved rfl rfl rfl (hf.reads _ (by decide)) (hf.reads _ (by decide)) (hf.reads _ (by decide)), rfl, rfl⟩

/-- R500, R501: a cold start, or a SAFE boot after three that failed, begins; with the rails good and the clock locked its step 1 is over. -/
theorem beginStart_spec (hs : Rising s.regs) :
    let t := beginStart false s
    Begun (coldKind s) t ∧ t.start.step = (if s.pins.mainPg ∧ s.pins.refclk ∧ coldKind s ≠ 3 then 2 else 1) ∧
      t.pins = { s.pins with mainEn := true, safeN := 15 } := by
  have hk : coldKind s < 8 := by obtain h | h := coldKind_cases s <;> omega
  obtain ⟨hbegun, hstep, hpins, hrise⟩ := stepOne_spec hs hk
  rw [beginStart_cold]
  generalize stepOne (coldKind s) s = u at *
  have hgood : (u.pins.mainPg && u.pins.refclk) = (s.pins.mainPg && s.pins.refclk) := by rw [hpins]
  dsimp only
  rw [hgood]
  by_cases hg : s.pins.mainPg = true ∧ s.pins.refclk = true
  · obtain ⟨hp, hpins', hstep'⟩ := powered_spec hrise hbegun hstep
    rw [if_pos (by simp [hg])]
    refine ⟨hp, ?_, hpins'.trans hpins⟩
    rw [hstep']
    by_cases h3 : coldKind s = 3 <;> simp [h3, hg]
  · rw [if_neg (by simpa using hg), if_neg (fun h => hg ⟨h.1, h.2.1⟩)]
    exact ⟨hbegun, hstep, hpins⟩

end Sys2Proof.Machine
end

section
/-! Writes of the registers of PWR that a start has: START_CTL and OTP_CTL (R501, R521). -/

namespace Sys2Proof.Machine

variable {s t u : State} {l : List FRef}

/-! ### Writes of registers of PWR (R12) -/

theorem bits_bit (w : Word) (i : Nat) : bits w i 1 = (w.getLsbD i).toNat := by
  refine Nat.eq_of_testBit_eq fun j => ?_
  rw [testBit_bits]
  cases j with
  | zero => cases w.getLsbD i <;> rfl
  | succ j => cases w.getLsbD i <;> simp [Nat.testBit_succ]

/-- A write of a register of PWR, outside OFF. -/
theorem writeWord_pwr {o : Nat} (ho : o < 0x2000) (hf : (fieldsAt .pwr o).isEmpty = false) (hm : modeOf s ≠ 0) (v : Word) :
    writeWord .pwr 0 o v s = writePwr o v s := by
  have hkey : ¬0x60000 ≤ keyOf .pwr 0 o := by
    simp only [keyOf]
    omega
  have hblk : blkOn .pwr 0 s = true := rfl
  unfold writeWord writeReg
  rw [if_neg hkey, locate_pwr ho]
  dsimp only
  rw [if_neg (by simp [hf, hblk, hm])]

/-! ### START_CTL (R501) -/

/-- A store of START_CTL, whose COLD and WARM hold nothing. -/
theorem storeStartCtl_eq (v : Word) (s : State) : storeReg .pwr 0 64 v s = wr F.pwr_START_CTL_RELOAD 0 (bits v 2 1) s := rfl

/-- START_CTL with a request bit set, as the commands write it: RELOAD has the value that stands. -/
theorem rd_reload_storeStartCtl (hs : Rising s.regs) {v : Word} (hv : v.getLsbD 2 = (s.reg (keyOf .pwr 0 64)).getLsbD 2) :
    rd F.pwr_START_CTL_RELOAD 0 (storeReg .pwr 0 64 v s) = rd F.pwr_START_CTL_RELOAD 0 s := by
  have hsame : rd F.pwr_START_CTL_RELOAD 0 s = bits v 2 1 := by
    rw [bits_bit, hv, ← bits_bit]
    rfl
  rw [storeStartCtl_eq, rd_wr_self hs (by decide), hsame]
  exact Nat.mod_eq_of_lt (bits_lt ..)

theorem modeReg_storeStartCtl {f : FRef} (hf : f.b = .pwr) (ho : f.o ≠ 64) (v : Word) (s : State) : rd f 0 (storeReg .pwr 0 64 v s) = rd f 0 s :=
  rd_setReg_ne (by rw [hf]; exact fun h => ho h) ..

theorem requestCold_eq (hr : s.pins.resetN = true) (hm : modeOf s ≠ 0) (hstep : s.start.step = 0) :
    requestCold s = { s with start := { s.start with due := 1 } } := by
  unfold requestCold
  rw [if_neg (by simp [hr, hm, hstep])]

theorem requestWarm_eq (hr : s.pins.resetN = true) (hm : modeOf s ≠ 0) (hst : starting s = false)
    (hb : rdB F.pwr_MODE_SAFE_BOOT 0 s = false) (hd : s.start.due = 0) :
    requestWarm s = { s with start := { s.start with due := 2 } } := by
  unfold requestWarm
  rw [if_neg (by simp [hr, hm, hst, hb, hd])]

/-- The commands' word for START_CTL: the register with COLD and WARM replaced by `c`. -/
theorem startWord_bits (w : Word) :
    bits (w &&& ~~~(3 : Word) ||| 1) 0 1 = 1 ∧ bits (w &&& ~~~(3 : Word) ||| 2) 0 1 = 0 ∧ bits (w &&& ~~~(3 : Word) ||| 2) 1 1 = 1 ∧
      (w &&& ~~~(3 : Word) ||| 1).getLsbD 2 = w.getLsbD 2 ∧ (w &&& ~~~(3 : Word) ||| 2).getLsbD 2 = w.getLsbD 2 := by
  have bit (c : Word) (i : Nat) (hi : i < 36) : (w &&& ~~~(3 : Word) ||| c).getLsbD i = ((w.getLsbD i && !(3 : Word).getLsbD i) || c.getLsbD i) := by
    rw [BitVec.getLsbD_or, BitVec.getLsbD_and, BitVec.getLsbD_not, decide_eq_true hi, Bool.true_and]
  refine ⟨?_, ?_, ?_, ?_, ?_⟩
  · rw [bits_bit, bit _ _ (by decide)]
    simp
  · rw [bits_bit, bit _ _ (by decide)]
    simp
  · rw [bits_bit, bit _ _ (by decide)]
    simp
  · rw [bit _ _ (by decide)]
    simp
  · rw [bit _ _ (by decide)]
    simp

theorem exec_startColdRequest (hs : Rising s.regs) (hr : s.pins.resetN = true) (hm : modeOf s ≠ 0) (hstep : s.start.step = 0) :
    ∃ t, exec .startColdRequest s = .next (finish t) ∧ t.start = { s.start with due := 1 } ∧
      rd F.pwr_START_CTL_RELOAD 0 t = rd F.pwr_START_CTL_RELOAD 0 s := by
  obtain ⟨hcold, -, -, hkeep, -⟩ := startWord_bits (s.reg (keyOf .pwr 0 64))
  generalize hv : (s.reg (keyOf .pwr 0 64) &&& ~~~(3 : Word) ||| 1) = v at *
  have hm' : modeOf (storeReg .pwr 0 64 v s) ≠ 0 := by
    rw [modeOf, modeReg_storeStartCtl rfl (by decide)]
    exact hm
  have hwrite : writeWord .pwr 0 64 v s = requestCold (storeReg .pwr 0 64 v s) := by
    rw [writeWord_pwr (by decide) rfl hm]
    exact if_pos hcold
  refine ⟨requestCold (storeReg .pwr 0 64 v s), ?_, ?_⟩
  · rw [← hwrite, ← hv]
    exact answer_of trivial _
  · rw [requestCold_eq (s := storeReg .pwr 0 64 v s) hr hm' hstep]
    exact ⟨rfl, rd_reload_storeStartCtl hs hkeep⟩

theorem exec_startWarmRequest (hs : Rising s.regs) (hr : s.pins.resetN = true) (hm : modeOf s ≠ 0) (hst : starting s = false)
    (hb : rdB F.pwr_MODE_SAFE_BOOT 0 s = false) (hd : s.start.due = 0) :
    ∃ t, exec .startWarmRequest s = .next (finish t) ∧ t.start = { s.start with due := 2 } ∧
      rd F.pwr_START_CTL_RELOAD 0 t = rd F.pwr_START_CTL_RELOAD 0 s := by
  obtain ⟨-, hcold, hwarm, -, hkeep⟩ := startWord_bits (s.reg (keyOf .pwr 0 64))
  generalize hv : (s.reg (keyOf .pwr 0 64) &&& ~~~(3 : Word) ||| 2) = v at *
  have hm' : modeOf (storeReg .pwr 0 64 v s) ≠ 0 := by
    rw [modeOf, modeReg_storeStartCtl rfl (by decide)]
    exact hm
  have hb' : rdB F.pwr_MODE_SAFE_BOOT 0 (storeReg .pwr 0 64 v s) = false := (rdB_eq (modeReg_storeStartCtl rfl (by decide) v s)).trans hb
  have hwrite : writeWord .pwr 0 64 v s = requestWarm (storeReg .pwr 0 64 v s) := by
    rw [writeWord_pwr (by decide) rfl hm]
    exact (if_neg (by rw [hcold]; decide)).trans (if_pos hwarm)
  refine ⟨requestWarm (storeReg .pwr 0 64 v s), ?_, ?_⟩
  · rw [← hwrite, ← hv]
    exact answer_of trivial _
  · rw [requestWarm_eq (s := storeReg .pwr 0 64 v s) hr hm' hst hb' hd]
    exact ⟨rfl, rd_reload_storeStartCtl hs hkeep⟩

/-! ### The OTP (R521) -/

/-- The 32-bit digit `i` of the key, from its register. -/
def otpDigit (s : State) (i : Nat) : Nat := bits (s.reg (keyOf .pwr 0 (72 + i))) 0 32

/-- The key that a burn takes. -/
def otpKey (s : State) : Nat := (List.range 8).foldl (fun a i => a + otpDigit s i * 2 ^ (32 * i)) 0

theorem foldl_digits (f : Nat → Nat) (n : Nat) :
    (List.range n).foldl (fun a i => a + f i * 2 ^ (32 * i)) 0 = Nat.ofDigits (2 ^ 32) ((List.range n).map f) := by
  induction n with
  | zero => rfl
  | succ n ih =>
    rw [List.range_succ, List.foldl_append, ih, List.map_append, Nat.ofDigits_append, List.length_map, List.length_range, ← pow_mul,
      Nat.mul_comm (2 ^ (32 * n))]
    simp

theorem otpKey_digit (s : State) {i : Nat} (hi : i < 8) : (BitVec.ofNat 256 (otpKey s)).toNat / 2 ^ (32 * i) % 2 ^ 32 = otpDigit s i := by
  have hdigit : ∀ d ∈ (List.range 8).map (otpDigit s), d < 2 ^ 32 := by
    intro d hd
    obtain ⟨j, -, rfl⟩ := List.mem_map.mp hd
    exact bits_lt ..
  have hlen : i < ((List.range 8).map (otpDigit s)).length := by simpa using hi
  have hfits := Nat.ofDigits_lt_base_pow_length (Nat.one_lt_two_pow (by decide)) hdigit
  rw [List.length_map, List.length_range, ← pow_mul] at hfits
  rw [BitVec.toNat_ofNat, otpKey, foldl_digits, Nat.mod_eq_of_lt hfits, pow_mul, Nat.ofDigits_div_pow_eq_ofDigits_drop i (Nat.two_pow_pos 32) _ hdigit,
    List.drop_eq_getElem_cons hlen, Nat.ofDigits_cons, Nat.add_mul_mod_self_left, Nat.mod_eq_of_lt (hdigit _ (List.getElem_mem hlen))]
  simp

theorem burnOtp_eq {v : Word} (hv : v.getLsbD 0 = true) (hb : rdB F.pwr_MODE_SAFE_BOOT 0 s = true) (hk : s.start.keySet = false) :
    burnOtp v s = { s with start := { s.start with key := BitVec.ofNat 256 (otpKey s), keySet := true, authReq := v.getLsbD 1 } } := by
  unfold burnOtp
  rw [if_neg (by simp [bits_bit, hv, hb, hk]), bits_bit v 1]
  cases v.getLsbD 1 <;> rfl

theorem exec_otpBurn {v : Word} (hm : modeOf s ≠ 0) (hb : rdB F.pwr_MODE_SAFE_BOOT 0 s = true) (hk : s.start.keySet = false) (hv : v.toNat % 2 = 1) :
    ∃ t, exec (.otpBurn v) s = .next (finish t) ∧ t.start.keySet = true ∧ t.start.authReq = v.getLsbD 1 ∧
      (∀ i, i < 8 → t.start.key.toNat / 2 ^ (32 * i) % 2 ^ 32 = rd (F.pwr_OTP_KEY_VAL.nth i) 0 s) ∧ t = { s with start := t.start } := by
  have hbit : v.getLsbD 0 = true := by
    rw [BitVec.getLsbD, Nat.testBit_zero, decide_eq_true hv]
  refine ⟨burnOtp v s, ?_, ?_⟩
  · show answer (decide True) (writeWord .pwr 0 69 v s) = _
    rw [answer_of trivial, writeWord_pwr (by decide) rfl hm]
    rfl
  · rw [burnOtp_eq hbit hb hk]
    exact ⟨rfl, rfl, fun i hi => otpKey_digit s hi, rfl⟩

end Sys2Proof.Machine
end

section
/-! The loader: the sources of an image, its sections, and a rejection (R503, R512, R519). -/

namespace Sys2Proof.Machine

variable {s t u : State} {l : List FRef}

/-! ### The sources of an image (R503, R505) -/

/-- The loader at the source number `n`, with nothing loaded. -/
def atSource (n : Nat) (s : State) : State := { s with start := { s.start with tried := n, loading := [], buf := [], skipTry := false } }

theorem wrote_openSource (hs : Rising s.regs) (n : Nat) : Wrote [F.pwr_START_STAT_SLOT] (atSource n s) (openSource n s) := by
  unfold openSource
  extract_lets src s1
  have h : Wrote [F.pwr_START_STAT_SLOT] (atSource n s) s1 := .refl (s := s1) hs
  split
  · exact h.wr List.mem_cons_self 0
  · exact h.wr List.mem_cons_self 1
  · exact h

theorem nextSource_last {cause : Nat} (h : (bootSources s.pins.bootSel).length ≤ s.start.tried + 1) : nextSource cause s = startFail cause s := by
  unfold nextSource
  rw [if_neg (by omega)]

theorem nextSource_more {cause : Nat} (h : s.start.tried + 1 < (bootSources s.pins.bootSel).length) :
    nextSource cause s = openSource (s.start.tried + 1) s := by
  unfold nextSource
  rw [if_pos h]

/-- R503: with no image from the last source, or from one that is not a slot, the start fails. -/
theorem noImage_fails (hstep : s.start.step = 4) (hskip : s.start.skipTry = false)
    (h : bootSource s = some 2 ∨ bootSource s = some 3 ∨ (bootSources s.pins.bootSel).length ≤ s.start.tried + 1) : noImage s = startFail 3 s := by
  unfold noImage
  rw [if_neg (by simp [hstep]), hskip, if_neg (by simp)]
  split
  · next h0 => exact nextSource_last (by simpa [h0] using h)
  · next h1 => exact nextSource_last (by simpa [h1] using h)
  · rfl

theorem noImage_next (hstep : s.start.step = 4) (hskip : s.start.skipTry = false) (h : bootSource s = some 0 ∨ bootSource s = some 1)
    (hmore : s.start.tried + 1 < (bootSources s.pins.bootSel).length) : noImage s = openSource (s.start.tried + 1) s := by
  unfold noImage
  rw [if_neg (by simp [hstep]), hskip, if_neg (by simp)]
  obtain h | h := h
  · rw [h]
    exact nextSource_more hmore
  · rw [h]
    exact nextSource_more hmore

/-! ### Sections (R512, R519) -/

/-- A header discards what was staged before. -/
def sectionBase (x : Section) (s : State) : State := if x.typ = 1 then { s with start := { s.start with stage := [], loading := [] } } else s

/-- The sections that were loaded before `x`. -/
def sectionsBefore (x : Section) (s : State) : List Section := if x.typ = 1 then [] else s.start.loading

theorem imageSection_open {h : Granule} {b : List Granule} (hstep : s.start.step = 4) (hskip : s.start.skipTry = false) :
    imageSection (h :: b) s = takeSection (h :: b) { hdr := h, body := b } s := by
  show (if s.start.step ≠ 4 then s else if s.start.skipTry then _ else _) = _
  rw [if_neg (by simp [hstep]), hskip, if_neg (by simp)]

/-- A section without a failure is kept. -/
theorem takeSection_kept {gs : List Granule} {x : Section} (himem : x.typ ≠ 10) (hend : x.typ ≠ 15)
    (h : sectionCheck gs x (sectionsBefore x s) (sectionBase x s) = []) :
    takeSection gs x s = { sectionBase x s with start := { (sectionBase x s).start with loading := sectionsBefore x s ++ [x] } } := by
  have hcode : leastCode (sectionCheck gs x (sectionsBefore x s) (sectionBase x s)) = none := by rw [h]; rfl
  unfold sectionsBefore sectionBase at hcode
  unfold takeSection
  extract_lets before src s0 codes all
  have hcodes : leastCode codes = none := hcode
  rw [hcodes]
  dsimp only
  rw [if_neg hend, if_neg himem]
  rfl

/-- A section with a failure rejects the image, with the lowest reason. -/
theorem takeSection_rejected {gs : List Granule} {x : Section} {c : Nat} {l : List Nat}
    (h : sectionCheck gs x (sectionsBefore x s) (sectionBase x s) = c :: l) :
    takeSection gs x s = rejectImage (l.foldl min c) (sectionsBefore x s).length (sectionBase x s) := by
  have hcode : leastCode (sectionCheck gs x (sectionsBefore x s) (sectionBase x s)) = some (l.foldl min c) := by rw [h]; rfl
  unfold sectionsBefore sectionBase at hcode
  unfold takeSection
  extract_lets before src s0 codes all
  have hcodes : leastCode codes = some (l.foldl min c) := hcode
  rw [hcodes]
  rfl

/-- The reason of a rejection is one that was found, and the lowest. -/
theorem leastCode_spec (c : Nat) (l : List Nat) : l.foldl min c ∈ c :: l ∧ ∀ e ∈ c :: l, l.foldl min c ≤ e :=
  List.min?_eq_some_iff.mp rfl

/-- The record of a rejected image: no IMAGE_ID, and REASON and SECTION. -/
def recordReject (reason n : Nat) (s : State) : State := wr F.pwr_START_STAT_REASON 0 reason (wr F.pwr_START_STAT_SECTION 0 n (s.setReg (keyOf .pwr 0 66) 0))

/-- A rejected image is not kept. -/
def dropStage (s : State) : State := { s with start := { s.start with stage := [], loading := [], buf := [] } }

theorem rejectImage_eq (reason n : Nat) (s : State) : rejectImage reason n s = nextSource 4 (dropStage (recordReject reason n s)) := rfl

theorem recordReject_spec (hs : Rising s.regs) (reason n : Nat) :
    rd F.pwr_START_STAT_REASON 0 (recordReject reason n s) = reason % 16 ∧ rd F.pwr_IMAGE_ID 0 (recordReject reason n s) = 0 ∧
      Rising (recordReject reason n s).regs ∧ (recordReject reason n s).start = s.start := by
  have h0 : Rising (s.setReg (keyOf .pwr 0 66) 0).regs := State.setReg_rising hs ..
  have hid : rd F.pwr_IMAGE_ID 0 (s.setReg (keyOf .pwr 0 66) 0) = 0 := by
    show bits ((s.setReg (keyOf .pwr 0 66) 0).reg (keyOf .pwr 0 66)) 0 36 = 0
    rw [State.reg_setReg_self hs]
    rfl
  have h1 : Rising (wr F.pwr_START_STAT_SECTION 0 n (s.setReg (keyOf .pwr 0 66) 0)).regs := rising_wr h0 ..
  exact ⟨rd_wr_self h1 (by decide) .., ((rd_wr_apart h1 (by decide) ..).trans (rd_wr_apart h0 (by decide) ..)).trans hid, rising_wr h1 .., rfl⟩

theorem rdW_imageId (h : rd F.pwr_IMAGE_ID 0 s = 0) : rdW F.pwr_IMAGE_ID 0 s = 0 := by
  refine BitVec.eq_of_toNat_eq ?_
  have hlt : (rdW F.pwr_IMAGE_ID 0 s).toNat < 2 ^ 36 := BitVec.isLt _
  have hval : rd F.pwr_IMAGE_ID 0 s = (rdW F.pwr_IMAGE_ID 0 s).toNat % 2 ^ 36 := congrArg (· % 2 ^ 36) (Nat.div_one _)
  rw [Nat.mod_eq_of_lt hlt] at hval
  rw [← hval, h]
  rfl

/-- R519: a rejected image leaves nothing staged, and its reason, whether another source is tried or the start fails. -/
theorem rejectImage_spec (hs : Rising s.regs) (hstep : s.start.step = 4) (reason n : Nat) :
    let t := rejectImage reason n s
    rdW F.pwr_IMAGE_ID 0 t = 0 ∧ t.start.stage = [] ∧ t.start.loading = [] ∧ rd F.pwr_START_STAT_REASON 0 t = reason % 16 := by
  obtain ⟨hreason, hid, hrise, hstart⟩ := recordReject_spec hs reason n
  rw [rejectImage_eq]
  generalize recordReject reason n s = u at *
  by_cases hmore : (dropStage u).start.tried + 1 < (bootSources (dropStage u).pins.bootSel).length
  · have h := wrote_openSource (s := dropStage u) hrise ((dropStage u).start.tried + 1)
    rw [nextSource_more hmore]
    refine ⟨rdW_imageId ((h.reads _ (by decide)).trans hid), ?_, ?_, (h.reads _ (by decide)).trans hreason⟩
    · exact congrArg (fun x : State => x.start.stage) h.frame
    · exact congrArg (fun x : State => x.start.loading) h.frame
  · have hstep' : (dropStage u).start.step ≠ 0 := by
      show u.start.step ≠ 0
      rw [hstart, hstep]
      decide
    obtain ⟨-, -, hstage, hloading, hreads⟩ := startFail_spec (s := dropStage u) hrise (cause := 4) (by decide) hstep'
    have hcount (f : FRef) (hw : Apart f F.pwr_START_FAILS_WARM) (hc : Apart f F.pwr_START_FAILS_COLD) (warm : Bool) : Apart f (failCount warm) := by
      cases warm
      · exact hc
      · exact hw
    rw [nextSource_last (Nat.not_lt.mp hmore)]
    exact ⟨rdW_imageId ((hreads rfl _ (by decide) (hcount _ (by decide) (by decide) _) rfl (by decide)).trans hid), hstage, hloading,
      (hreads rfl _ (by decide) (hcount _ (by decide) (by decide) _) rfl (by decide)).trans hreason⟩

end Sys2Proof.Machine
end

section
/-! The statement O53, from the lemmas above. -/

namespace Sys2Proof.Machine

variable {s t u : State}

/-! ### The commands of chapter 17 -/

theorem exec_resetNFall (hr : s.pins.resetN = true) : exec .resetNFall s = .next (finish (resetFall s)) := by
  show answer (decide True) (if s.pins.resetN then resetFall s else s) = _
  rw [answer_of trivial, if_pos hr]

/-- R39: RESET_N high outside OFF begins a cold start with BOOT_SEL as sampled. -/
theorem resetRise_begins {sel : Nat} (hr : s.pins.resetN = false) (hm : modeOf s ≠ 0) :
    resetRise sel s = beginStart false { s with pins := { s.pins with resetN := true, bootSel := sel } } := by
  unfold resetRise
  rw [if_neg (by simp [hr]), if_neg hm]

theorem resetRise_off {sel : Nat} (hr : s.pins.resetN = false) (hm : modeOf s = 0) :
    resetRise sel s = { s with pins := { s.pins with resetN := true, bootSel := sel } } := by
  unfold resetRise
  rw [if_neg (by simp [hr]), if_pos hm]

/-- The obligation's form of a start that has begun. -/
theorem begun_of_spec {k : Nat} (h : Begun k t) (hstep : t.start.step = if s.pins.mainPg ∧ s.pins.refclk ∧ k ≠ 3 then 2 else 1) :
    t.start.kind = k ∧ rd F.pwr_START_STAT_KIND 0 t = k ∧ t.start.failed = false ∧ t.pins.mainEn = true ∧ t.ctxs = [] ∧ t.units = [] ∧
      rdB F.pwr_MODE_SAFE_BOOT 0 t = false ∧ inSafe t = false ∧ t.start.step = if s.pins.mainPg ∧ s.pins.refclk ∧ k ≠ 3 then 2 else 1 := by
  obtain ⟨hk, hkind, hf, hen, hc, hu, hboot, hsafe⟩ := h
  exact ⟨hk, hkind, hf, hen, hc, hu, hboot, hsafe, hstep⟩

theorem vaoPowerUp_off (h : modeOf s = 0) : vaoPowerUp s = vaoFresh s := by
  unfold vaoPowerUp
  rw [if_pos h]

/-- R506: discovery in time gave no id. -/
theorem startDiscoveryTimeout_fails (hstep : s.start.step = 6) (hskip : s.start.skipTry = false) (hroot : rdB F.qdl_ID_CFG_ROOT 0 s = false)
    (hid : hasId s = false) : startDiscoveryTimeout s = startFail 5 s := by
  unfold startDiscoveryTimeout
  rw [if_pos (by simp [hstep, hskip, hroot, hid])]

theorem powerUpTimeout_fails (hstep : s.start.step = 1) (h : s.pins.mainPg = false ∨ s.pins.refclk = false) : powerUpTimeout s = startFail 1 s := by
  unfold powerUpTimeout
  rw [if_pos ⟨hstep, by obtain h | h := h <;> simp [h]⟩]

theorem digestTimeout_warm (hk : s.start.kind = 2) (hstep : 3 ≤ s.start.step) :
    digestTimeout s = { s with start := { s.start with digestDue := true } } := by
  unfold digestTimeout
  rw [if_pos ⟨hk, hstep⟩]

theorem startRetry_cold (hf : s.start.failed = true) (hw : s.start.retryWarm = false) : startRetry s = beginStart false s := by
  unfold startRetry
  rw [if_pos hf, hw]

/-- A section that keeps an image keeps it; any other rejects it. -/
theorem exec_imageSection (hs : Rising s.regs) {h : Granule} {b : List Granule} (hstep : s.start.step = 4) (hskip : s.start.skipTry = false) :
    let x : Section := { hdr := h, body := b }
    (x.typ ≠ 10 → x.typ ≠ 15 → sectionCheck (h :: b) x (sectionsBefore x s) (sectionBase x s) = [] → exec (.imageSection (h :: b)) s =
      .next (finish { sectionBase x s with start := { (sectionBase x s).start with loading := sectionsBefore x s ++ [x] } })) ∧
    ∀ c l, sectionCheck (h :: b) x (sectionsBefore x s) (sectionBase x s) = c :: l → ∃ t, exec (.imageSection (h :: b)) s = .next (finish t) ∧
      rdW F.pwr_IMAGE_ID 0 t = 0 ∧ t.start.stage = [] ∧ t.start.loading = [] ∧
      ∃ r ∈ c :: l, (∀ e ∈ c :: l, r ≤ e) ∧ rd F.pwr_START_STAT_REASON 0 t = r % 16 := by
  intro x
  have hexec : exec (.imageSection (h :: b)) s = .next (finish (takeSection (h :: b) x s)) := by
    rw [← imageSection_open hstep hskip]
    exact answer_of trivial _
  refine ⟨fun himem hend hcheck => ?_, fun c l hcheck => ?_⟩
  · rw [hexec, takeSection_kept himem hend hcheck]
  · have hbase : Rising (sectionBase x s).regs ∧ (sectionBase x s).start.step = 4 := by
      unfold sectionBase
      split
      · exact ⟨hs, hstep⟩
      · exact ⟨hs, hstep⟩
    obtain ⟨hmem, hleast⟩ := leastCode_spec c l
    obtain ⟨hid, hstage, hloading, hreason⟩ := rejectImage_spec hbase.1 hbase.2 (l.foldl min c) (sectionsBefore x s).length
    refine ⟨takeSection (h :: b) x s, hexec, ?_⟩
    rw [takeSection_rejected hcheck]
    exact ⟨hid, hstage, hloading, _, hmem, hleast, hreason⟩

/-- Settles O53, event by event: RESET_N, the always-on supply, the requests for a start, the image, the failures of a start and its retry, and the OTP. -/
theorem startRows : Obligations.StartRows := by
  unfold Obligations.StartRows
  intro s hs failed kind begun
  have hr := hs.regs
  have fails {cause : Nat} (hc : cause < 16) (hstep : s.start.step ≠ 0) : failed cause (startFail cause s) := (startFail_spec hr hc hstep).1
  refine ⟨fun hm hrn => ⟨_, exec_resetNFall hrn, resetFall_spec hr hm⟩, fun sel hsel hrn => ⟨fun hm => ?_, fun hm => ?_⟩,
    fun hm => ⟨vaoFresh s, ?_, vaoFresh_spec s⟩, fun hm => ⟨vaoLoss s, answer_of trivial _, vaoLoss_spec hm⟩,
    fun hrn hm => ⟨exec_startColdRequest hr hrn hm, exec_startWarmRequest hr hrn hm⟩, fun h b hstep hskip => exec_imageSection hr hstep hskip,
    fun hstep hskip => ⟨fun h => ⟨startFail 3 s, ?_, fails (by decide) (by omega)⟩, fun h hmore => ⟨openSource (s.start.tried + 1) s, ?_, ?_⟩⟩,
    fun hstep hskip hroot hid => ⟨startFail 5 s, ?_, fails (by decide) (by omega)⟩, fun hk hstep => ?_,
    fun hstep => ⟨startFail 9 s, answer_of trivial _, fails (by decide) hstep, fun hk => ?_, fun hk => ?_⟩,
    fun hstep h => ⟨startFail 1 s, ?_, fails (by decide) (by omega)⟩, fun hf hw => ⟨beginStart false s, ?_, ?_⟩,
    fun v hm hb hk hv => exec_otpBurn hm hb hk hv⟩
  · obtain ⟨hbegun, hstep, hpins⟩ := beginStart_spec (s := { s with pins := { s.pins with resetN := true, bootSel := sel } }) hr
    refine ⟨resetRise sel s, answer_of hsel _, ?_⟩
    rw [resetRise_begins hrn hm]
    exact ⟨begun_of_spec hbegun hstep, by rw [hpins], by rw [hpins]⟩
  · rw [← resetRise_off hrn hm]
    exact answer_of hsel _
  · rw [← vaoPowerUp_off hm]
    exact answer_of trivial _
  · rw [← noImage_fails hstep hskip h]
    exact answer_of trivial _
  · rw [← noImage_next hstep hskip h hmore]
    exact answer_of trivial _
  · rw [(wrote_openSource hr (s.start.tried + 1)).frame]
    exact ⟨rfl, hstep, rfl⟩
  · rw [← startDiscoveryTimeout_fails hstep hskip hroot hid]
    exact answer_of trivial _
  · rw [← digestTimeout_warm hk hstep]
    exact answer_of trivial _
  · have hcount := (startFail_spec hr (cause := 9) (by decide) hstep).2.1
    rwa [hk] at hcount
  · have hcount := (startFail_spec hr (cause := 9) (by decide) hstep).2.1
    rwa [beq_false_of_ne hk] at hcount
  · rw [← powerUpTimeout_fails hstep h]
    exact answer_of trivial _
  · rw [← startRetry_cold hf hw]
    exact answer_of trivial _
  · obtain ⟨hbegun, hstep, -⟩ := beginStart_spec hr
    exact begun_of_spec hbegun hstep

end Sys2Proof.Machine
end

section
/-! The statement O50: modes and domains (chapter 16). First, the mode requests and the wakes from STANDBY. -/

namespace Sys2Proof.Machine

variable {s t u : State} {l : List FRef}

/-! ### Mode requests (R465, R466, R474) -/

/-- The words of MODE_REQ. -/
theorem modeWord_bits {goal : Nat} (hg : goal < 8) (force : Bool) :
    bits (BitVec.ofNat 36 (goal + if force then 8 else 0)) 0 3 = goal ∧ bits (BitVec.ofNat 36 (goal + if force then 8 else 0)) 3 1 = force.toNat := by
  have hw : (BitVec.ofNat 36 (goal + if force then 8 else 0)).toNat = goal + 8 * force.toNat := by
    rw [BitVec.toNat_ofNat]
    cases force <;> simp <;> omega
  have hforce := force.toNat_lt
  unfold bits
  rw [hw]
  exact ⟨by omega, by omega⟩

theorem writeModeReq_eq {goal : Nat} (hg : goal < 8) (force : Bool) (hm : modeOf s ≠ 0) : writeModeReq goal force s = hostMode goal force s := by
  obtain ⟨hgoal, hforce⟩ := modeWord_bits hg force
  unfold writeModeReq
  rw [writeWord_pwr (by decide) rfl hm]
  show hostMode (bits _ 0 3) (bits _ 3 1 == 1) s = _
  rw [hgoal, hforce]
  cases force <;> rfl

/-- The power manager is free: no SAFE state, no start, no transition. -/
structure Free (s : State) : Prop where
  safe   : inSafe s = false
  boot   : rdB F.pwr_MODE_SAFE_BOOT 0 s = false
  step   : s.start.step = 0
  failed : s.start.failed = false
  due    : s.start.due = 0

theorem Free.starting (h : Free s) : starting s = false := by
  unfold Machine.starting
  rw [h.step, h.failed]
  rfl

/-- A request of the host that is neither a wake nor refused begins its mode. -/
theorem hostMode_begins {goal : Nat} (hg : goal ≠ 4 ∨ modeOf s ≠ 1) (ht : s.pwr.trans = none)
    (hok : modeRefusal goal true (rd F.pwr_WAKE_TIMER_MS 0 s) s = none) (force : Bool) : hostMode goal force s = beginMode goal force none s := by
  unfold hostMode requestMode
  dsimp only
  rw [ht, if_neg (by obtain h | h := hg <;> simp [h]), if_neg (by simp), hok]
  rfl

/-- The entry that a request for STANDBY, RETAIN or SENTINEL begins. -/
def entryOf (goal : Nat) (force : Bool) (waiting : List Nat) (s : State) : Trans :=
  { goal := goal, force := force, asker := none, waiting := waiting, deferred := [], granted := [], step := 1, from_ := modeOf s, wake := none }

/-- R470: an entry from RUN asks the agent of every domain that is on. -/
theorem beginMode_entry (hs : Rising s.regs) {goal : Nat} (hg : goal ≠ 5) (hm : modeOf s = 4) (force : Bool) :
    let t := beginMode goal force none s
    rd F.pwr_MODE_STEP 0 t = 1 ∧ modeOf t = 4 ∧ t.pwr.trans = some (entryOf goal force ((List.range 50).filter (fun d => domOn d s)) s) := by
  have heq : beginMode goal force none s =
      wr F.pwr_MODE_STEP 0 1 (setTrans (some (entryOf goal force ((List.range 50).filter (fun d => domOn d s)) s)) s) := by
    unfold beginMode
    rw [if_neg hg, if_neg (by omega)]
    rfl
  rw [heq]
  exact ⟨rd_wr_self (s := setTrans _ s) hs (by decide) .., (rd_wr_apart (s := setTrans _ s) hs (by decide) ..).trans hm, rfl⟩

theorem modeRefusal_sleep (h : Free s) (hm : modeOf s = 4) {goal : Nat} (hg : goal = 1 ∨ goal = 2 ∨ goal = 3) {timer : Nat}
    (ht : goal = 1 ∨ timer ≠ 0) :
    modeRefusal goal true timer s = none := by
  unfold modeRefusal
  obtain rfl | rfl | rfl := hg
  · simp [h.safe, h.boot, h.starting, hm]
  · simp [h.safe, h.boot, h.starting, hm, ht.resolve_left (by decide)]
  · simp [h.safe, h.boot, h.starting, hm, ht.resolve_left (by decide)]

/-- A request for STANDBY, RETAIN or SENTINEL in RUN. -/
theorem writeModeReq_sleep (hs : Rising s.regs) (h : Free s) (htr : s.pwr.trans = none) (hm : modeOf s = 4) {goal : Nat}
    (hg : goal = 1 ∨ goal = 2 ∨ goal = 3) (ht : goal = 1 ∨ rd F.pwr_WAKE_TIMER_MS 0 s ≠ 0) (force : Bool) :
    let t := writeModeReq goal force s
    rd F.pwr_MODE_STEP 0 t = 1 ∧ modeOf t = 4 ∧ t.pwr.trans = some (entryOf goal force ((List.range 50).filter (fun d => domOn d s)) s) := by
  rw [writeModeReq_eq (by omega) force (by omega), hostMode_begins (.inr (by omega)) htr (modeRefusal_sleep h hm hg ht)]
  exact beginMode_entry hs (by omega) hm force

/-! ### BOOST (R44, R490) -/

/-- The targets of the rails are those given. -/
def Aims (e w : Nat) (s : State) : Prop := s.pwr.targetE = e ∧ s.pwr.targetW = w

theorem RailsAsked.aims {e w : Nat} (h : RailsAsked s t) (ha : Aims e w s) : Aims e w t :=
  ⟨(congrArg Pwr.targetE h.power).trans ha.1, (congrArg Pwr.targetW h.power).trans ha.2⟩

theorem railsAsked_askAgain (hs : Rising s.regs) (r : Nat) : RailsAsked s (askAgain r s) := by
  unfold askAgain
  dsimp only
  split
  · exact railsAsked_askRail hs ..
  · exact .refl hs

/-- Rails that come to rest on the way to BOOST keep their targets. -/
theorem aims_ramped_boost (hs : Rising s.regs) {q : Trans} (ht : s.pwr.trans = some q) (hg : q.goal = 5) (hq : q.asker = none) {e w : Nat} (h : Aims e w s) :
    Aims e w (ramped s) := by
  unfold ramped
  split
  · exact h
  · rw [ht]
    dsimp only
    rw [if_pos hg, hq]
    split
    · exact h
    · have h0 := railsAsked_askAgain hs 0
      exact (h0.trans (railsAsked_askAgain h0.rising 1)).aims h

theorem modeRefusal_boost (h : Free s) (hm : modeOf s = 4) (hl : s.pwr.thermLock = false) (he : rdB (railFail 0) 0 s = false)
    (hw : rdB (railFail 1) 0 s = false) (timer : Nat) : modeRefusal 5 true timer s = none := by
  unfold modeRefusal
  simp [h.safe, h.boot, h.starting, hm, hl, he, hw]

/-- R490: BOOST gives both rails its target. -/
theorem writeModeReq_boost (hs : Rising s.regs) (h : Free s) (htr : s.pwr.trans = none) (hm : modeOf s = 4) (hl : s.pwr.thermLock = false)
    (he : rdB (railFail 0) 0 s = false) (hw : rdB (railFail 1) 0 s = false) (force : Bool) :
    Aims (boostTarget s) (boostTarget s) (writeModeReq 5 force s) := by
  rw [writeModeReq_eq (by decide) force (by omega), hostMode_begins (.inr (by omega)) htr (modeRefusal_boost h hm hl he hw _)]
  let q : Trans := { entryOf 5 force [] s with step := 0 }
  have hask : RailsAsked (setTargets (boostTarget s) (boostTarget s) (setTrans (some q) s)) (retarget (boostTarget s) (boostTarget s) (setTrans (some q) s)) :=
    railsAsked_retarget (s := setTrans (some q) s) hs ..
  have hbegin : beginMode 5 force none s = ramped (retarget (boostTarget s) (boostTarget s) (setTrans (some q) s)) := by
    unfold beginMode
    exact if_pos rfl
  rw [hbegin]
  exact aims_ramped_boost hask.rising (q := q) (congrArg Pwr.trans hask.power) rfl rfl (hask.aims ⟨rfl, rfl⟩)

/-- Rails that come to rest on the way to RUN. -/
theorem ramped_run {q : Trans} (ht : s.pwr.trans = some q) (hg : q.goal = 4) (hq : q.asker = none) :
    ramped s = s ∨ ramped s = (setTrans none s).setReg (keyOf .pwr 0 3) (statusWord 0 0 0 0 0) := by
  unfold ramped
  split
  · exact .inl rfl
  · rw [ht]
    dsimp only
    rw [if_neg (by omega), if_pos hg, hq]
    exact .inr rfl

theorem modeRefusal_run (h : Free s) (hm : modeOf s = 5) (timer : Nat) : modeRefusal 4 true timer s = none := by
  unfold modeRefusal
  simp [h.safe, h.boot, h.starting, hm]

/-- R466: a request for RUN leaves BOOST. -/
theorem writeModeReq_run (hs : Rising s.regs) (h : Free s) (htr : s.pwr.trans = none) (hm : modeOf s = 5) (force : Bool) :
    let t := writeModeReq 4 force s
    modeOf t = 4 ∧ rd F.pwr_VCORE_STAT_BIAS 0 t = 0 := by
  let q : Trans := { entryOf 4 force [] s with step := 0 }
  obtain ⟨-, hpwr, hmode, hbias, -⟩ := leaveBoost_spec (s := setTrans (some q) s) hs (runTarget 0 s) (runTarget 1 s)
  have hbegin : beginMode 4 force none s = ramped (leaveBoost (runTarget 0 s) (runTarget 1 s) (setTrans (some q) s)) := by
    unfold beginMode
    exact (if_neg (by decide)).trans (if_pos hm)
  have htrans := congrArg Pwr.trans hpwr
  rw [writeModeReq_eq (by decide) force (by omega), hostMode_begins (.inr (by omega)) htr (modeRefusal_run h hm _), hbegin]
  generalize leaveBoost (runTarget 0 s) (runTarget 1 s) (setTrans (some q) s) = u at *
  obtain hr | hr := ramped_run (q := q) htrans rfl rfl
  · rw [hr]
    exact ⟨hmode, hbias⟩
  · rw [hr]
    exact ⟨(rd_setReg_ne (by decide) ..).trans hmode, (rd_setReg_ne (by decide) ..).trans hbias⟩

/-! ### Wakes from STANDBY (R477, R482) -/

/-- What of the wake record is written after its cause and rule. -/
def wakeRest (outcome asleep seq : Nat) (s : State) : State :=
  wr F.pwr_WAKE_REC1_AO_T 0 (s.clock.ao / 1000) (wr F.pwr_WAKE_REC2_ASLEEP 0 asleep (wr F.pwr_WAKE_REC0_OUTCOME 0 outcome (wr F.pwr_WAKE_REC0_NEW 0 1
    (wr F.pwr_WAKE_REC0_SEQ 0 seq s))))

theorem wakeRecord_eq (cause rule from_ outcome asleep : Nat) (s : State) :
    wakeRecord cause rule from_ outcome asleep s = wakeRest outcome asleep (rd F.pwr_WAKE_REC0_SEQ 0 s + 1)
      (wr F.pwr_WAKE_REC0_CAUSE 0 cause (wr F.pwr_WAKE_REC0_RULE 0 rule (wr F.pwr_WAKE_REC0_FROM 0 from_ s))) := rfl

theorem wrote_wakeRest (hs : Rising s.regs) (outcome asleep seq : Nat) :
    Wrote [F.pwr_WAKE_REC0_OUTCOME, F.pwr_WAKE_REC0_NEW, F.pwr_WAKE_REC0_SEQ, F.pwr_WAKE_REC1_AO_T, F.pwr_WAKE_REC2_ASLEEP] s (wakeRest outcome asleep seq s) :=
  (((((Wrote.refl hs).wr (by simp) seq).wr (by simp) 1).wr (by simp) outcome).wr (by simp) asleep).wr (by simp) _

theorem wakeRecord_spec (hs : Rising s.regs) {cause : Nat} (hc : cause < 8) (from_ asleep : Nat) :
    let t := wakeRecord cause 0 from_ 0 asleep s
    rd F.pwr_WAKE_REC0_CAUSE 0 t = cause ∧ rd F.pwr_WAKE_REC0_RULE 0 t = 0 ∧ Rising t.regs := by
  have h1 : Rising (wr F.pwr_WAKE_REC0_FROM 0 from_ s).regs := rising_wr hs ..
  have h2 : Rising (wr F.pwr_WAKE_REC0_RULE 0 0 (wr F.pwr_WAKE_REC0_FROM 0 from_ s)).regs := rising_wr h1 ..
  rw [wakeRecord_eq]
  obtain ⟨-, hreads, hrise⟩ := wrote_wakeRest (rising_wr h2 F.pwr_WAKE_REC0_CAUSE 0 cause) 0 asleep (rd F.pwr_WAKE_REC0_SEQ 0 s + 1)
  refine ⟨?_, ?_, hrise⟩
  · rw [hreads _ (by decide), rd_wr_self h2 (by decide)]
    exact Nat.mod_eq_of_lt (hc.trans_le (by decide))
  · rw [hreads _ (by decide), rd_wr_apart h2 (by decide), rd_wr_self h1 (by decide)]
    rfl

/-- The device is in RUN after a wake with its cause on record, no rule, no forward bias, and the SAFE_N pins released by the power manager. -/
def Woken (cause : Nat) (t : State) : Prop :=
  modeOf t = 4 ∧ rd F.pwr_WAKE_REC0_CAUSE 0 t = cause ∧ rd F.pwr_WAKE_REC0_RULE 0 t = 0 ∧ rd F.pwr_VCORE_STAT_BIAS 0 t = 0 ∧ t.pins.safeN = 0

theorem Woken.kept {cause : Nat} (h : Woken cause s) (hk : KeepsPower s t) : Woken cause t := by
  obtain ⟨hmode, hcause, hrule, hbias, hsafe⟩ := h
  have hr (f : FRef) (hf : f.b = .pwr) (ho : f.o < 0x2000) : rd f 0 t = rd f 0 s := hk.but.reads (lost := fun _ => False) hf ⟨ho, id⟩
  exact ⟨(hr _ rfl (by decide)).trans hmode, (hr _ rfl (by decide)).trans hcause, (hr _ rfl (by decide)).trans hrule, (hr _ rfl (by decide)).trans hbias,
    by rw [hk.pins, hsafe]⟩

theorem Woken.answered {cause : Nat} (hs : Rising s.regs) (h : Woken cause s) (asker : Option Nat) (st : Word) : Woken cause (answerMode asker st s) := by
  cases asker with
  | none =>
    obtain ⟨hmode, hcause, hrule, hbias, hsafe⟩ := h
    have hr (f : FRef) (hf : keyOf f.b 0 f.o ≠ 3) : rd f 0 (s.setReg (keyOf .pwr 0 3) st) = rd f 0 s := rd_setReg_ne hf ..
    exact ⟨(hr _ (by decide)).trans hmode, (hr _ (by decide)).trans hcause, (hr _ (by decide)).trans hrule, (hr _ (by decide)).trans hbias, hsafe⟩
  | some cid => exact h.kept (keepsPower_setCtx (.refl hs))

/-- The device is back in RUN, with SAFE_N released and no forward bias. -/
def backInRun (s : State) : State := wr F.pwr_MODE 0 4 (wr F.pwr_VCORE_STAT_BIAS 0 0 (holdSafe 0 s))

theorem woken_backInRun (hs : Rising s.regs) {cause : Nat} (hcause : rd F.pwr_WAKE_REC0_CAUSE 0 s = cause) (hrule : rd F.pwr_WAKE_REC0_RULE 0 s = 0) :
    Woken cause (backInRun s) ∧ Rising (backInRun s).regs := by
  have hb : Wrote [F.pwr_VCORE_STAT_BIAS] (holdSafe 0 s) (wr F.pwr_VCORE_STAT_BIAS 0 0 (holdSafe 0 s)) := (Wrote.refl (s := holdSafe 0 s) hs).wr (by simp) 0
  have hm : Wrote [F.pwr_MODE] (wr F.pwr_VCORE_STAT_BIAS 0 0 (holdSafe 0 s)) (backInRun s) := (Wrote.refl hb.rising).wr (g := F.pwr_MODE) (by simp) 4
  have hbias : rd F.pwr_VCORE_STAT_BIAS 0 (wr F.pwr_VCORE_STAT_BIAS 0 0 (holdSafe 0 s)) = 0 := rd_wr_self (s := holdSafe 0 s) hs (by decide) ..
  refine ⟨⟨rd_wr_self hb.rising (by decide) .., ?_, ?_, (hm.reads _ (by decide)).trans hbias, ?_⟩, hm.rising⟩
  · exact ((hm.reads F.pwr_WAKE_REC0_CAUSE (by decide)).trans (hb.reads F.pwr_WAKE_REC0_CAUSE (by decide))).trans hcause
  · exact ((hm.reads F.pwr_WAKE_REC0_RULE (by decide)).trans (hb.reads F.pwr_WAKE_REC0_RULE (by decide))).trans hrule
  · rw [hm.pins_eq, hb.pins_eq]
    rfl

theorem woken_toRunTargets (hs : Rising s.regs) {cause : Nat} (h : Woken cause s) : Woken cause (toRunTargets s) ∧ Rising (toRunTargets s).regs := by
  have hask : RailsAsked (setTargets (runTarget 0 s) (runTarget 1 s) s) (toRunTargets s) := railsAsked_retarget hs ..
  obtain ⟨hmode, hcause, hrule, hbias, hsafe⟩ := h
  refine ⟨⟨(hask.reads _ (by decide) (by decide) (by decide)).trans hmode, (hask.reads _ (by decide) (by decide) (by decide)).trans hcause,
    (hask.reads _ (by decide) (by decide) (by decide)).trans hrule, hask.bias hbias, ?_⟩, hask.rising⟩
  rw [hask.frame]
  exact hsafe

theorem wakeStandby_eq {cause : Nat} (h3 : cause ≠ 3) (rule : Nat) (s : State) :
    wakeStandby cause rule s = answerMode s.pwr.asker (statusWord 0 0 0 0 cause)
      (resumeHeaps (toRunTargets (backInRun (wakeRecord cause rule s.pwr.fromMode 0 ((s.clock.ao - s.pwr.asleepAt) / 1000) s)))) := by
  unfold wakeStandby
  exact if_neg h3

/-- R477: a wake from STANDBY. -/
theorem wakeStandby_spec (hs : Rising s.regs) {cause : Nat} (hc : cause < 8) (h3 : cause ≠ 3) : Woken cause (wakeStandby cause 0 s) := by
  obtain ⟨hcause, hrule, hrise⟩ := wakeRecord_spec hs hc s.pwr.fromMode ((s.clock.ao - s.pwr.asleepAt) / 1000)
  obtain ⟨hrun, hrise⟩ := woken_backInRun hrise hcause hrule
  obtain ⟨hramp, hrise⟩ := woken_toRunTargets hrise hrun
  have hheaps := keepsPower_resumeHeaps (.refl hrise)
  rw [wakeStandby_eq h3]
  exact (hramp.kept hheaps).answered hheaps.rising ..

/-- A wake source acts in STANDBY. -/
theorem wake_standby (h : Free s) (hr : s.pins.resetN = true) (ht : s.pwr.trans = none) (hm : modeOf s = 1) (cause rule : Nat) :
    wake cause rule s = wakeStandby cause rule s := by
  unfold wake
  rw [if_neg (by simp [h.starting, h.due, h.safe, h.boot, hr]), ht]
  dsimp only
  rw [hm]
  rfl

theorem woken_wake (hs : Rising s.regs) (h : Free s) (hr : s.pins.resetN = true) (ht : s.pwr.trans = none) (hm : modeOf s = 1) {cause : Nat}
    (hc : cause < 8) (h3 : cause ≠ 3) : Woken cause (wake cause 0 s) := by
  rw [wake_standby h hr ht hm]
  exact wakeStandby_spec hs hc h3

/-- R466: a request for RUN wakes the device from STANDBY. -/
theorem writeModeReq_wake (ht : s.pwr.trans = none) (hm : modeOf s = 1) (force : Bool) : writeModeReq 4 force s = wake 5 0 s := by
  rw [writeModeReq_eq (by decide) force (by omega)]
  unfold hostMode requestMode
  dsimp only
  rw [ht, hm]
  rfl

theorem wakeTimer_standby (ht : s.pwr.trans = none) (hm : modeOf s = 1) (h : rd F.pwr_WAKE_TIMER_MS 0 s ≠ 0) : wakeTimer s = wake 1 0 s := by
  unfold wakeTimer
  rw [if_pos ⟨h, by rw [ht]; rfl, by omega, by omega⟩]

theorem perstRise_enabled (h : rdB F.pwr_WAKE_EN_PERST_N 0 s = true) : perstRise s = wake 4 0 s := by
  unfold perstRise
  rw [if_pos h]

/-- R58: WARM_N in RUN asks for a warm start. -/
theorem warmPulse_run (h : Free s) (hr : s.pins.resetN = true) (ht : s.pwr.trans = none) (hm : modeOf s = 4) :
    warmPulse s = { s with start := { s.start with due := 2 } } := by
  unfold warmPulse
  dsimp only
  rw [ht, if_pos ⟨.inl hm, rfl⟩]
  exact requestWarm_eq hr (by omega) h.starting h.boot h.due

end Sys2Proof.Machine
end

section
/-! Domain requests, their agents, and what ends them (R470 to R473, R485, R486). -/

namespace Sys2Proof.Machine

variable {s t u : State} {d : Nat} {q : Trans}

/-! ### Domain requests (R485) -/

/-- The words of DOM_CTL. -/
theorem domWord_bits (hd : d < 48) (on force : Bool) :
    let w : Word := BitVec.ofNat 36 (d + (if on then 64 else 0) + if force then 128 else 0)
    bits w 0 6 = d ∧ bits w 6 1 = on.toNat ∧ bits w 7 1 = force.toNat := by
  intro w
  have hw : w.toNat = d + 64 * on.toNat + 128 * force.toNat := by
    rw [BitVec.toNat_ofNat]
    cases on <;> cases force <;> simp <;> omega
  have hon := on.toNat_lt
  have hforce := force.toNat_lt
  unfold bits
  rw [hw]
  refine ⟨?_, ?_, ?_⟩
  · omega
  · omega
  · omega

theorem writeDomReq_eq (hd : d < 48) (on force : Bool) (hm : modeOf s ≠ 0) : writeDomReq d on force s = requestDomain d on force s := by
  obtain ⟨hnum, hon, hforce⟩ := domWord_bits hd on force
  unfold writeDomReq
  rw [writeWord_pwr (by decide) rfl hm]
  show writeDomCtl _ s = _
  unfold writeDomCtl
  rw [hnum, hon, hforce, if_neg (by omega)]
  cases on <;> cases force <;> rfl

/-- DOM_STAT with a status. -/
def setDomStat (w : Word) (s : State) : State := s.setReg (keyOf .pwr 0 12) w

theorem domRefusal_none (h : Free s) (hm : modeOf s = 4 ∨ modeOf s = 5) (hd : d < 48) {on : Bool}
    (hbad : 36 ≤ d → s.pwr.bankBad.contains (d - 36) = false) : domRefusal d on s = none := by
  have hbank : (on && decide (36 ≤ d) && s.pwr.bankBad.contains (d - 36)) = false := by
    by_cases h36 : 36 ≤ d
    · rw [hbad h36, Bool.and_false]
    · simp [h36]
  have hmode : (modeOf s == 4 || modeOf s == 5) = true := by obtain h | h := hm <;> simp [h]
  unfold domRefusal
  rw [hbank, hmode, h.starting, h.safe, h.boot, if_neg (by simp), if_neg (by simp), if_neg (by omega), if_neg (by simp)]

/-- R485: a request for what the domain already is ends at once; any other is in hand. -/
theorem requestDomain_free (h : Free s) (ht : s.pwr.trans = none) (hm : modeOf s = 4 ∨ modeOf s = 5) (hd : d < 48) (on force : Bool)
    (hbad : 36 ≤ d → s.pwr.bankBad.contains (d - 36) = false) :
    requestDomain d on force s = if domOn d s = on then setDomStat (statusWord 0 0 0 0 0) s
      else setTrans (some (entryOf ((if on then 80 else 10) + d) force (if on then [] else [d]) s)) s := by
  unfold requestDomain
  dsimp only
  rw [ht, if_neg (by simp), domRefusal_none h hm hd hbad]
  rfl

section
variable (h : Free s) (ht : s.pwr.trans = none) (hm : modeOf s = 4 ∨ modeOf s = 5) (hd : d < 48) (force : Bool)
  (hbad : 36 ≤ d → s.pwr.bankBad.contains (d - 36) = false)
include h ht hm hd hbad

theorem exec_domCtlOn : exec (.domCtlOn d force) s =
    .next (finish (if domOn d s then setDomStat (statusWord 0 0 0 0 0) s else setTrans (some (entryOf (80 + d) force [] s)) s)) := by
  show answer (decide (d < 50)) (writeDomReq d true force s) = _
  rw [answer_of (by omega), writeDomReq_eq hd true force (by omega), requestDomain_free h ht hm hd true force hbad]
  rfl

theorem exec_domCtlOff : exec (.domCtlOff d force) s =
    .next (finish (if domOn d s then setTrans (some (entryOf (10 + d) force [d] s)) s else setDomStat (statusWord 0 0 0 0 0) s)) := by
  show answer (decide (d < 50)) (writeDomReq d false force s) = _
  rw [answer_of (by omega), writeDomReq_eq hd false force (by omega), requestDomain_free h ht hm hd false force hbad]
  cases domOn d s <;> rfl

end

/-! ### Agents (R470 to R473) -/

theorem asked_request (ht : s.pwr.trans = some q) (hg : 3 < q.goal) (hd : q.waiting.contains d = true ∨ q.deferred.contains d = true) :
    asked d s = some q := by
  unfold asked
  rw [ht]
  exact if_pos ⟨fun h => absurd h (by omega), hd⟩

/-- A grant of a domain request: the agent has no more to answer, and a bank's SAFE_N goes low. -/
theorem granted_request (hg : 3 < q.goal) (hw : ∀ e ∈ q.waiting, e = d) (hf : ∀ e ∈ q.deferred, e = d) (s : State) :
    (granted q d s).pwr.trans = some { q with waiting := [], deferred := [], granted := q.granted ++ [d] } ∧
      (granted q d s).pins.safeN = if 36 ≤ d ∧ d < 40 then s.pins.safeN ||| 2 ^ (d - 36) else s.pins.safeN := by
  have hwait : q.waiting.filter (· ≠ d) = [] := List.filter_eq_nil_iff.mpr fun e he => by simp [hw e he]
  have hdefer : q.deferred.filter (· ≠ d) = [] := List.filter_eq_nil_iff.mpr fun e he => by simp [hf e he]
  unfold granted
  rw [hwait, hdefer]
  dsimp only
  rw [if_neg (by omega)]
  split
  · exact ⟨rfl, rfl⟩
  · exact ⟨rfl, rfl⟩

/-- R472: a refusal ends a domain request with its status. -/
theorem refuse_request (hs : Rising s.regs) (hg : 3 < q.goal) (r : Nat) :
    (refuseRequest q d r s).pwr.trans = none ∧ (refuseRequest q d r s).reg (keyOf .pwr 0 12) = statusWord 2 0 d r 0 := by
  have hrise : Rising (setStep 0 (setTrans none s)).regs := rising_wr (s := setTrans none s) hs ..
  have heq : refuseRequest q d r s = setDomStat (statusWord 2 0 d r 0) (setStep 0 (setTrans none s)) := if_neg (by omega)
  rw [heq]
  exact ⟨rfl, State.reg_setReg_self hrise ..⟩

section
variable (ht : s.pwr.trans = some q) (hg : 3 < q.goal) (hf : q.force = false)
include ht hg hf

theorem agentGrant_request (hd : q.waiting.contains d = true) (hr : refuseReason d s = none) (hdef : deferReason d q.asker s = none) :
    agentGrant d s = granted q d s := by
  unfold agentGrant
  rw [asked_request ht hg (.inl hd)]
  dsimp only
  rw [hf, if_neg (by simp), if_neg (by simp [hr, hdef])]

theorem agentDefer_request (hd : q.waiting.contains d = true) (hn : q.deferred.contains d = false) (hr : refuseReason d s = none)
    (hdef : (deferReason d q.asker s).isSome = true) :
    agentDefer d s = setTrans (some { q with waiting := q.waiting.filter (· ≠ d), deferred := q.deferred ++ [d] }) s := by
  have hnot : ¬(q.force = true ∨ q.deferred.contains d = true ∨ (refuseReason d s).isSome = true ∨ (deferReason d q.asker s).isNone = true) := by
    obtain ⟨r, hr'⟩ := Option.isSome_iff_exists.mp hdef
    simp [hf, hn, hr, hr', -List.contains_eq_mem]
  unfold agentDefer
  rw [asked_request ht hg (.inl hd)]
  dsimp only
  rw [if_neg hnot]

theorem agentRefuse_request (hd : q.waiting.contains d = true) {r : Nat} (hr : refuseReason d s = some r) : agentRefuse d s = refuseRequest q d r s := by
  unfold agentRefuse
  rw [asked_request ht hg (.inl hd), hr]
  dsimp only
  rw [hf, if_neg (by simp)]

end

section
variable (ht : s.pwr.trans = some q) (hg : 3 < q.goal) (hd : q.deferred.contains d = true)
include ht hg hd

/-- The bound of a DEFER expires while its reason stands. -/
theorem deferTimeout_refuses {r : Nat} (hr : deferReason d q.asker s = some r) (h0 : r ≠ 0) : deferTimeout d s = refuseRequest q d r s := by
  unfold deferTimeout
  rw [asked_request ht hg (.inr hd)]
  dsimp only
  rw [if_neg (by simp [hd, -List.contains_eq_mem]), hr]
  split
  · next h => exact absurd (Option.some.inj h) h0
  · next h => rw [Option.some.inj h]
  · next h => exact nomatch h

theorem deferTimeout_grants (hr : deferReason d q.asker s = some 0 ∨ deferReason d q.asker s = none) : deferTimeout d s = granted q d s := by
  unfold deferTimeout
  rw [asked_request ht hg (.inr hd)]
  dsimp only
  rw [if_neg (by simp [hd, -List.contains_eq_mem])]
  obtain hr | hr := hr
  · rw [hr]
    rfl
  · rw [hr]

end

/-! ### A domain that has gone down or come up (R486) -/

theorem domOn_setDomStat (e : Nat) (w : Word) (s : State) : domOn e (setDomStat w s) = domOn e s :=
  domOn_congr (State.reg_setReg_ne s (by decide) w) (State.reg_setReg_ne s (by decide) w) e

theorem domainDownDone_request (hs : Rising s.regs) (hd : d < 48) (ht : s.pwr.trans = some q) (hg : q.goal = 10 + d) (hq : q.granted.contains d = true) :
    let t := domainDownDone d s
    domOn d t = false ∧ t.pwr.trans = none ∧ t.reg (keyOf .pwr 0 12) = statusWord 0 0 0 0 0 ∧ ∀ e, e < 50 → e ≠ d → domOn e t = domOn e s := by
  have heq : domainDownDone d s = setDomStat (statusWord 0 0 0 0 0) (setTrans none (domainOff d false s)) := by
    unfold domainDownDone
    rw [ht]
    exact if_pos ⟨hg, hq⟩
  obtain ⟨hkeep, hdom⟩ := keepsBut_domainOff (d := d) (by omega) false hs
  have hon (e : Nat) (he : e < 50) : domOn e (setDomStat (statusWord 0 0 0 0 0) (setTrans none (domainOff d false s))) = (domOn e s && decide (e ≠ d)) :=
    (domOn_setDomStat ..).trans (hdom e he)
  rw [heq]
  refine ⟨?_, rfl, State.reg_setReg_self (s := setTrans none (domainOff d false s)) (hkeep.rising hs) .., fun e he hne => ?_⟩
  · rw [hon d (by omega)]
    simp
  · rw [hon e he, decide_eq_true hne, Bool.and_true]

theorem domainPowerUpDone_request (hs : Rising s.regs) (hd : d < 48) (hstep : s.start.step = 0) (ht : s.pwr.trans = some q) (hg : q.goal = 80 + d) :
    let t := domainPowerUpDone d true s
    domOn d t = true ∧ t.pwr.trans = none ∧ t.reg (keyOf .pwr 0 12) = statusWord 0 0 0 0 0 := by
  have heq : domainPowerUpDone d true s = setDomStat (statusWord 0 0 0 0 0) (domainUp d true (setTrans none s)) := by
    unfold domainPowerUpDone
    dsimp only
    rw [if_pos hstep]
    unfold domainUpDone
    rw [ht]
    dsimp only
    rw [if_neg (by omega), if_pos rfl]
    rfl
  have hup := keepsPwr_domainUp (d := d) true (s := setTrans none s) hs
  have hon := domOn_domainUp (d := d) (by omega) true (s := setTrans none s) hs
  rw [heq]
  refine ⟨(domOn_setDomStat ..).trans hon, ?_, State.reg_setReg_self hup.rising ..⟩
  exact (congrArg Pwr.trans hup.pwr).trans (congrArg Pwr.trans (setDom_pwr d true (setTrans none s)))

end Sys2Proof.Machine
end

section
/-! The loss of a bank's supply, faults of the fabric, and the statement O50 from the lemmas above. -/

namespace Sys2Proof.Machine

variable {s t u : State} {b : Nat}

/-! ### The supply of a bank (R42) -/

theorem raised_forN {n : Nat} {f : Nat → State → State} (hf : ∀ i u, (f i u).raised = u.raised) (s : State) : (forN n f s).raised = s.raised := by
  have hfold (l : List Nat) : ∀ u : State, (l.foldl (fun y i => f i y) u).raised = u.raised := by
    induction l with
    | nil => exact fun _ => rfl
    | cons i l ih => exact fun u => (ih (f i u)).trans (hf i u)
  exact hfold (List.range n) s

theorem raised_setBank (b : Nat) (x : Bank) (s : State) : (s.setBank b x).raised = s.raised := rfl

theorem raised_setGen (g : Nat) (x : Gen) (s : State) : (s.setGen g x).raised = s.raised := rfl

theorem raised_setEvPin (p : Nat) (x : Pin) (s : State) : (s.setEvPin p x).raised = s.raised := rfl

theorem raised_bankInit (b : Nat) (s : State) : (bankInit b s).raised = s.raised := by
  have hgens (u : State) : (forN 16 (fun i s => s.setGen (16 * b + i) Gen.init) u).raised = u.raised :=
    raised_forN (fun _ _ => raised_setGen ..) u
  have hpins (u : State) : (forN 32 (fun i s => s.setEvPin (32 * b + i) Pin.init) u).raised = u.raised :=
    raised_forN (fun _ _ => raised_setEvPin ..) u
  unfold bankInit
  rw [raised_setBank, hpins, hgens]

/-- A bank's domain that goes off raises nothing. -/
theorem raised_bankOff (hb : b < 4) (s : State) : (domainOff (36 + b) false s).raised = s.raised := by
  have hlose (u : State) : (loseDomain (36 + b) false u).raised = u.raised := by
    have hinit := raised_bankInit (36 + b - 36) u
    unfold loseDomain
    rw [if_neg (by omega), if_neg (by omega), if_pos (by omega)]
    exact hinit
  have hxing (u : State) : crossingReset (36 + b) u = u := by
    unfold crossingReset
    rw [if_neg (by omega), if_neg (by omega), if_neg (by omega)]
  have hset (u : State) : (setDom (36 + b) false u).raised = u.raised := by
    rw [setDom_eq]
    split <;> rfl
  unfold domainOff
  split
  · rfl
  · dsimp only
    rw [hxing, if_neg (by omega)]
    exact (hlose _).trans (hset s)

/-- The bank is among those whose supply is bad. -/
def markBad (b : Nat) (s : State) : State :=
  { s with pwr := { s.pwr with bankBad := if s.pwr.bankBad.contains b then s.pwr.bankBad else s.pwr.bankBad ++ [b] } }

theorem contains_markBad (b : Nat) (s : State) : (markBad b s).pwr.bankBad.contains b = true := by
  unfold markBad
  dsimp only
  split
  · next h => exact h
  · simp

/-- SAFE_N of bank `b` is low, and no start waits for its domain. -/
def lowerBank (b : Nat) (s : State) : State :=
  { s with pins := { s.pins with safeN := s.pins.safeN ||| 2 ^ b }, start := { s.start with domains := s.start.domains.filter (· ≠ 36 + b) } }

/-- R42: a request that waits for the bank's domain ends. -/
def dropBankRequest (b : Nat) (s : State) : State :=
  match s.pwr.trans with
  | some t => if t.goal = 80 + (36 + b) then setDomStat (statusWord 4 0 0 37 0) (setTrans none s) else s
  | none => s

theorem bankSupply_eq (b : Nat) (s : State) :
    bankSupply b s = raiseWord 4 0 98 true b (dropBankRequest b (lowerBank b (domainOff (36 + b) false (markBad b s)))) := rfl

theorem dropBankRequest_cases (b : Nat) (s : State) :
    dropBankRequest b s = s ∨ dropBankRequest b s = setDomStat (statusWord 4 0 0 37 0) (setTrans none s) := by
  unfold dropBankRequest
  split
  · split
    · exact .inr rfl
    · exact .inl rfl
  · exact .inl rfl

/-- What the loss of a bank's supply leaves before its record. -/
theorem dropBankRequest_spec (b : Nat) (s : State) :
    let t := dropBankRequest b s
    domOn (36 + b) t = domOn (36 + b) s ∧ t.pins = s.pins ∧ t.pwr.bankBad = s.pwr.bankBad ∧ t.raised = s.raised ∧ t.start = s.start := by
  obtain h | h := dropBankRequest_cases b s
  · rw [h]
    exact ⟨rfl, rfl, rfl, rfl, rfl⟩
  · rw [h]
    exact ⟨domOn_setDomStat _ _ (setTrans none s), rfl, rfl, rfl, rfl⟩

theorem bankSupply_spec (hs : Rising s.regs) (hb : b < 4) :
    let t := bankSupply b s
    domOn (36 + b) t = false ∧ t.pins.safeN.testBit b = true ∧ t.pwr.bankBad.contains b = true ∧ t.start.step = s.start.step ∧
      ∃ r : Raised, t.raised = s.raised ++ [r] ∧ r.cause = 98 ∧ r.word = b ∧ r.notice = true := by
  obtain ⟨hkeep, hdom⟩ := keepsBut_domainOff (d := 36 + b) (by omega) false (s := markBad b s) hs
  have hoff := hdom (36 + b) (by omega)
  have hbad : (domainOff (36 + b) false (markBad b s)).pwr.bankBad.contains b = true := by
    rw [hkeep.pwr]
    exact contains_markBad b s
  have hraised : (domainOff (36 + b) false (markBad b s)).raised = s.raised := raised_bankOff hb (markBad b s)
  have hstart := hkeep.start
  rw [bankSupply_eq]
  generalize domainOff (36 + b) false (markBad b s) = u at *
  obtain ⟨hdom', hpins, hbad', hraised', hstart'⟩ := dropBankRequest_spec b (lowerBank b u)
  generalize dropBankRequest b (lowerBank b u) = v at *
  obtain ⟨r, hr, -, hcause, hnotice, hword⟩ := raiseWord_eq 4 0 98 true b v
  rw [hr]
  refine ⟨?_, ?_, ?_, ?_, r, ?_, hcause, hword, hnotice⟩
  · have hlow : domOn (36 + b) (lowerBank b u) = false := hoff.trans (by simp)
    exact hdom'.trans hlow
  · show v.pins.safeN.testBit b = true
    rw [hpins]
    show (u.pins.safeN ||| 2 ^ b).testBit b = true
    rw [Nat.testBit_or, Nat.testBit_two_pow_self, Bool.or_true]
  · show v.pwr.bankBad.contains b = true
    rw [hbad']
    exact hbad
  · show v.start.step = s.start.step
    rw [hstart']
    show u.start.step = s.start.step
    rw [hstart]
    rfl
  · show v.raised ++ [r] = s.raised ++ [r]
    rw [hraised']
    exact congrArg (· ++ [r]) hraised

theorem bankSupplyAt_used (h : railsUsed s = true) (hb : (bankSupply b s).start.step ≠ 5) : bankSupplyAt b s = bankSupply b s := by
  unfold bankSupplyAt
  rw [if_neg (by simp [h])]
  exact if_neg fun h5 => hb h5.1

/-! ### Faults of a cluster and of the fabric (R197, R488) -/

theorem raiseAt_eq (lvl i cause word detail : Nat) (s : State) :
    ∃ r : Raised, raiseAt lvl i cause word detail s = { s with raised := s.raised ++ [r] } ∧ r.scope = { lvl := lvl, i := i } ∧ r.cause = cause ∧
      r.word = word ∧ r.notice = false :=
  ⟨_, rfl, rfl, rfl, rfl, rfl⟩

theorem exec_clusterPower {c : Nat} (hc : c < 32) (hon : domOn c s = true) :
    ∃ r : Raised, exec (.clusterPower c 1) s = .next (finish { s with raised := s.raised ++ [r] }) ∧ r.scope = { lvl := 1, i := c } ∧ r.cause = 16 ∧
      r.word = 1 ∧ r.notice = false := by
  obtain ⟨r, hr, hscope, hcause, hword, hnotice⟩ := raiseAt_eq 1 c 16 1 0 s
  have hpower : clusterPowerAt c 1 s = raiseAt 1 c 16 1 0 s := by
    unfold clusterPowerAt clusterPower
    rw [if_neg (by simp), if_pos rfl, if_pos hon]
  refine ⟨r, ?_, hscope, hcause, hword, hnotice⟩
  rw [← hr, ← hpower]
  exact answer_of (p := c < 32 ∧ (1 = 1 ∨ 1 = 2)) ⟨hc, .inl rfl⟩ _

/-- A fault of the fabric inside the device: its record, and nothing else. -/
theorem onRails_raiseOpen (hpg : s.pins.mainPg = true) (lvl i cause : Nat) :
    ∃ r : Raised, (onRails (raiseOpen lvl i cause false) s).raised = s.raised ++ [r] ∧ r.scope = { lvl := lvl, i := i } ∧ r.cause = cause ∧
      onRails (raiseOpen lvl i cause false) s =
        { s with raised := (onRails (raiseOpen lvl i cause false) s).raised, free := (onRails (raiseOpen lvl i cause false) s).free } := by
  obtain ⟨r, hr, hscope, hcause, -⟩ := raiseOpen_eq lvl i cause false s
  have hon : onRails (raiseOpen lvl i cause false) s = raiseOpen lvl i cause false s := if_pos hpg
  rw [hon, hr]
  exact ⟨r, rfl, hscope, hcause, rfl⟩

/-- Settles O50, event by event: the mode requests and the wakes, the domain requests and their agents, and the faults. -/
theorem powerRows : Obligations.PowerRows := by
  unfold Obligations.PowerRows
  intro s hs hsafe hboot hstep hfailed hdue m entry begun woken request domStat
  have hr := hs.regs
  have h : Free s := ⟨hsafe, hboot, hstep, hfailed, hdue⟩
  refine ⟨fun ht hm force => ⟨?_, fun htimer => ⟨?_, ?_⟩, fun hl he hw => ?_⟩, fun ht hm force => ?_,
    fun ht hm hrn => ⟨fun force => ?_, fun htimer => ?_, fun hen => ?_⟩, fun ht hm hrn => ?_, fun d force ht hm hd hbad => ⟨?_, ?_⟩,
    fun d q hd ht hg hf => ?_, fun d q hd ht hg => ?_, fun c hc hon => exec_clusterPower hc hon, fun b hb hm => ?_,
    fun hpg i => ⟨fun hi => ?_, fun hi => ?_⟩⟩
  · exact ⟨_, answer_of trivial _, writeModeReq_sleep hr h ht hm (.inl rfl) (.inl rfl) force⟩
  · exact ⟨_, answer_of trivial _, writeModeReq_sleep hr h ht hm (.inr (.inl rfl)) (.inr htimer) force⟩
  · exact ⟨_, answer_of trivial _, writeModeReq_sleep hr h ht hm (.inr (.inr rfl)) (.inr htimer) force⟩
  · exact ⟨_, answer_of trivial _, writeModeReq_boost hr h ht hm hl he hw force⟩
  · exact ⟨_, answer_of trivial _, writeModeReq_run hr h ht hm force⟩
  · refine ⟨_, answer_of trivial _, ?_⟩
    rw [writeModeReq_wake ht hm]
    exact woken_wake hr h hrn ht hm (by decide) (by decide)
  · refine ⟨_, answer_of trivial _, ?_⟩
    rw [wakeTimer_standby ht hm htimer]
    exact woken_wake hr h hrn ht hm (by decide) (by decide)
  · refine ⟨_, answer_of trivial _, ?_⟩
    rw [perstRise_enabled hen]
    exact woken_wake hr h hrn ht hm (by decide) (by decide)
  · rw [← warmPulse_run h hrn ht hm]
    exact answer_of trivial _
  · exact exec_domCtlOn h ht hm hd force hbad
  · exact exec_domCtlOff h ht hm hd force hbad
  · have hg3 : 3 < q.goal := by omega
    have hanswer (u : State) : answer (decide (d < 50)) u = .next (finish u) := answer_of (by omega) u
    refine ⟨fun hw hdf => ⟨fun hr' hdef => ?_, fun hr' hdef => ?_, fun r hr' => ?_⟩,
      fun hw hdf => ⟨fun r hdef h0 => ?_, fun hdef => ?_⟩, fun hq => ?_⟩
    · refine ⟨agentGrant d s, hanswer _, ?_⟩
      rw [agentGrant_request ht hg3 hf (by simp [hw]) hr' hdef]
      exact granted_request hg3 (by simp [hw]) (by simp [hdf]) s
    · have hdefer := agentDefer_request ht hg3 hf (by simp [hw]) (by simp [hdf]) hr' hdef
      have hwait : q.waiting.filter (· ≠ d) = [] := by simp [hw]
      have hlist : q.deferred ++ [d] = [d] := by simp [hdf]
      rw [hwait, hlist] at hdefer
      show answer (decide (d < 50)) (agentDefer d s) = _
      rw [hanswer, hdefer]
      rfl
    · refine ⟨agentRefuse d s, hanswer _, ?_⟩
      rw [agentRefuse_request ht hg3 hf (by simp [hw]) hr']
      exact refuse_request hr hg3 r
    · refine ⟨deferTimeout d s, hanswer _, ?_⟩
      rw [deferTimeout_refuses ht hg3 (by simp [hdf]) hdef h0]
      exact refuse_request hr hg3 r
    · refine ⟨deferTimeout d s, hanswer _, ?_⟩
      rw [deferTimeout_grants ht hg3 (by simp [hdf]) hdef]
      exact granted_request hg3 (by simp [hw]) (by simp [hdf]) s
    · exact ⟨domainDownDone d s, hanswer _, domainDownDone_request hr hd ht hg hq⟩
  · obtain ⟨hon, htr, hstat⟩ := domainPowerUpDone_request hr hd hstep ht hg
    exact ⟨_, answer_of (by omega : d < 50) _, hon, htr, hstat⟩
  · obtain ⟨hon, hlow, hbad, hsame, hrec⟩ := bankSupply_spec hr hb
    refine ⟨bankSupply b s, ?_, hon, hlow, hbad, hrec⟩
    rw [← bankSupplyAt_used (railsUsed_of hm) (by omega)]
    exact answer_of hb _
  · obtain ⟨r, hraised, hscope, hcause, hframe⟩ := onRails_raiseOpen hpg 2 i 33
    exact ⟨_, r, answer_of hi _, hraised, hscope, hcause, hframe⟩
  · obtain ⟨r, hraised, hscope, hcause, hframe⟩ := onRails_raiseOpen hpg 3 i 48
    exact ⟨_, r, answer_of hi _, hraised, hscope, hcause, hframe⟩

end Sys2Proof.Machine
end

section
/-! The statement O60: decode and encode of the words of FJ36 (R77 to R93). -/

namespace Sys2Proof.Machine

/-! ### The words that encode makes (Tables EN-7, EN-8) -/

theorem encodeSlot_shortOf {x : Nat} (hx : x < 2 ^ 15) : encodeSlot (shortOf x) = x := by
  simp only [encodeSlot, shortOf]
  omega

theorem toNat_encodeFj_one {c op low : Nat} (hc : c < 16) (hop : op < 128) (hlow : low < 2 ^ 24) :
    (encodeFj (.one c (longOf op low))).toNat = c * 2 ^ 31 + op * 2 ^ 24 + low := by
  simp only [encodeFj, longOf, BitVec.toNat_ofNat]
  omega

theorem toNat_encodeFj_two {c a b : Nat} (kk : Bool) (hc : c < 16) (ha : a < 2 ^ 15) (hb : b < 2 ^ 15) :
    (encodeFj (.two c kk (shortOf a) (shortOf b))).toNat = 2 ^ 35 + c * 2 ^ 31 + (if kk then 2 ^ 30 else 0) + a * 2 ^ 15 + b := by
  simp only [encodeFj, encodeSlot_shortOf ha, encodeSlot_shortOf hb, BitVec.toNat_ofNat]
  cases kk <;> simp only [if_true, Bool.false_eq_true, if_false] <;> omega

/-! ### What decode makes of a word (R91 to R93) -/

/-- A word without its bit 35 holds one operation, which stands as long as R92 has no reason against it. -/
theorem decodeFj_single {w : Word} {c op low k : Nat} (hc : c < 16) (hop : op < 128) (hlow : low < 2 ^ 24)
    (hw : w.toNat = c * 2 ^ 31 + op * 2 ^ 24 + low) (hr : longReason op low k = none) : decodeFj w k = .ok (.one c (longOf op low)) := by
  have hlt : w.toNat < 2 ^ 35 := by omega
  have hcond : w.toNat / 2 ^ 31 % 16 = c := by omega
  have hcode : w.toNat / 2 ^ 24 % 128 = op := by omega
  have hfields : w.toNat % 2 ^ 24 = low := by omega
  unfold decodeFj
  simp only [hlt, if_true, hcond, hcode, hfields, hr]

/-- A word with its bit 35 holds two slots, which stand as long as R92 has no reason against either and not both are queue operations. -/
theorem decodeFj_pair {w : Word} {c a b k : Nat} {kk : Bool} (hc : c < 16) (ha : a < 2 ^ 15) (hb : b < 2 ^ 15)
    (hw : w.toNat = 2 ^ 35 + c * 2 ^ 31 + (if kk then 2 ^ 30 else 0) + a * 2 ^ 15 + b)
    (hra : shortReason a = none) (hrb : shortReason b = none) (hq : (isShortQueue a && isShortQueue b) = false) :
    decodeFj w k = .ok (.two c kk (shortOf a) (shortOf b)) := by
  have hbit : (if kk then 2 ^ 30 else 0) = kk.toNat * 2 ^ 30 := by cases kk <;> rfl
  have hk1 : kk.toNat < 2 := Bool.toNat_lt kk
  rw [hbit] at hw
  have hlt : ¬ w.toNat < 2 ^ 35 := by omega
  have hcond : w.toNat / 2 ^ 31 % 16 = c := by omega
  have hslotA : w.toNat / 2 ^ 15 % 2 ^ 15 = a := by omega
  have hslotB : w.toNat % 2 ^ 15 = b := by omega
  have hkbit : w.toNat / 2 ^ 30 % 2 = kk.toNat := by omega
  have hkk : (w.toNat / 2 ^ 30 % 2 == 1) = kk := by rw [hkbit]; cases kk <;> rfl
  unfold decodeFj
  simp only [hlt, if_false, hcond, hslotA, hslotB, hra, hrb, hq, Bool.false_eq_true, hkk]

/-- What a word that passes decode decodes to. -/
theorem decodeFj_ok {w : Word} {k : Nat} {f : Fj} (h : decodeFj w k = .ok f) :
    (w.toNat < 2 ^ 35 ∧ longReason (w.toNat / 2 ^ 24 % 128) (w.toNat % 2 ^ 24) k = none ∧
      f = .one (w.toNat / 2 ^ 31 % 16) (longOf (w.toNat / 2 ^ 24 % 128) (w.toNat % 2 ^ 24))) ∨
    (2 ^ 35 ≤ w.toNat ∧ shortReason (w.toNat / 2 ^ 15 % 2 ^ 15) = none ∧ shortReason (w.toNat % 2 ^ 15) = none ∧
      f = .two (w.toNat / 2 ^ 31 % 16) (w.toNat / 2 ^ 30 % 2 == 1) (shortOf (w.toNat / 2 ^ 15 % 2 ^ 15)) (shortOf (w.toNat % 2 ^ 15))) := by
  unfold decodeFj at h
  dsimp only at h
  split at h
  · next hlt =>
    split at h
    · cases h
    · next hr => exact .inl ⟨hlt, hr, (Except.ok.inj h).symm⟩
  · next hge =>
    split at h
    · cases h
    · cases h
    · next hra hrb =>
      split at h
      · cases h
      · exact .inr ⟨by omega, hra, hrb, (Except.ok.inj h).symm⟩

/-- What a word decodes to encodes to that word. -/
theorem encodeFj_of_decodeFj {w : Word} {k : Nat} {f : Fj} (h : decodeFj w k = .ok f) : encodeFj f = w := by
  apply BitVec.eq_of_toNat_eq
  have hw := w.isLt
  rcases decodeFj_ok h with ⟨hlt, _, rfl⟩ | ⟨hge, _, _, rfl⟩
  · rw [toNat_encodeFj_one (by omega) (by omega) (by omega)]
    omega
  · rw [toNat_encodeFj_two _ (by omega) (by omega) (by omega)]
    by_cases hk : w.toNat / 2 ^ 30 % 2 = 1 <;> simp only [hk, beq_self_eq_true, if_true, beq_iff_eq, if_false] <;> omega

/-- Settles O60: the fields of a word are the digits of its number, so decode reads back what encode has written, and the other way round. -/
theorem wordRoundTrip : Obligations.WordRoundTrip := by
  unfold Obligations.WordRoundTrip
  refine ⟨fun c op low k hc hop hlow hr => ?_, fun c kk a b k hc ha hb hra hrb hq => ?_, fun w k f h => encodeFj_of_decodeFj h⟩
  · have hw := toNat_encodeFj_one hc hop hlow
    exact ⟨decodeFj_single hc hop hlow hw hr, hw⟩
  · have hw := toNat_encodeFj_two kk hc ha hb
    exact ⟨decodeFj_pair hc ha hb hw hra hrb hq, hw⟩

end Sys2Proof.Machine
end

section
/-! Results of the operations of a pair's slots: what `aluResult` computes is what Tables OP-2 to OP-4 give. -/

namespace Sys2Proof.Machine

/-! ### Exact results wrapped and clipped (Table OP-1, R97) -/

theorem wordOf_eq_wrap36 (x : Int) : wordOf x = wrap36 x := by
  apply BitVec.eq_of_toNat_eq
  simp only [wordOf, lowBits, wrap36, BitVec.toNat_ofNat, BitVec.toNat_ofInt]
  omega

theorem wrap36_toInt (a : Word) : wrap36 a.toInt = a := BitVec.ofInt_toInt

theorem wrap36_toNat (a : Word) : wrap36 (a.toNat : Int) = a := by
  simp only [wrap36, BitVec.ofInt_natCast, BitVec.ofNat_toNat, BitVec.setWidth_eq]

theorem wrap36_natCast (n : Nat) : wrap36 (n : Int) = BitVec.ofNat 36 n := BitVec.ofInt_natCast ..

theorem satResult_eq_clip36 (x : Int) : satResult x = (wrap36 (clip36 x), decide (clip36 x ≠ x)) := by
  unfold satResult sat36 outOf36 clip36
  simp only [wordOf_eq_wrap36, Prod.mk.injEq, decide_eq_decide]
  refine ⟨?_, by omega⟩
  split
  · congr 1; omega
  · split <;> (congr 1; omega)

/-! ### Table OP-2 -/

theorem wrap36_add (a b : Word) : wrap36 (a.toInt + b.toInt) = a + b := by
  rw [wrap36, BitVec.ofInt_add, BitVec.ofInt_toInt, BitVec.ofInt_toInt]

theorem wrap36_sub (a b : Word) : wrap36 (a.toInt - b.toInt) = a - b := by
  rw [wrap36, Int.sub_eq_add_neg, BitVec.ofInt_add, BitVec.ofInt_neg, BitVec.ofInt_toInt, BitVec.ofInt_toInt, BitVec.sub_eq_add_neg]

theorem wrap36_neg (a : Word) : wrap36 (-a.toInt) = -a := by
  rw [wrap36, BitVec.ofInt_neg, BitVec.ofInt_toInt]

theorem wrap36_min (a b : Word) : wrap36 (min a.toInt b.toInt) = if a.toInt ≤ b.toInt then a else b := by
  rw [min_def]
  split <;> exact wrap36_toInt _

theorem wrap36_max (a b : Word) : wrap36 (max a.toInt b.toInt) = if a.toInt ≤ b.toInt then b else a := by
  rw [max_def]
  split <;> exact wrap36_toInt _

theorem wrap36_minu (a b : Word) : wrap36 ((min a.toNat b.toNat : Nat) : Int) = if a.toNat ≤ b.toNat then a else b := by
  rw [min_def]
  split <;> exact wrap36_toNat _

theorem wrap36_maxu (a b : Word) : wrap36 ((max a.toNat b.toNat : Nat) : Int) = if a.toNat ≤ b.toNat then b else a := by
  rw [max_def]
  split <;> exact wrap36_toNat _

theorem wrap36_mul_two_pow (b : Word) (n : Nat) : wrap36 ((b.toNat : Int) * 2 ^ n) = b <<< n := by
  apply BitVec.eq_of_toNat_eq
  have h : (b.toNat : Int) * 2 ^ n = ((b.toNat * 2 ^ n : Nat) : Int) := by push_cast; rfl
  rw [h, wrap36_natCast, BitVec.toNat_ofNat, BitVec.toNat_shiftLeft, Nat.shiftLeft_eq]

/-- Table OP-2 gives what `aluResult` computes. -/
theorem aluResult_of_tableOp2 {o : Op} {a b : Word} {x : Int} {c : Bool} (h : tableOp2 o.mn a b = some (x, c)) (old : Word) :
    aluResult o a b old = (wrap36 (if c then clip36 x else x), c && decide (clip36 x ≠ x)) := by
  unfold tableOp2 at h
  unfold aluResult
  split at h <;> cases h <;> simp only [*, if_true, Bool.false_eq_true, if_false, Bool.true_and, Bool.false_and, satResult_eq_clip36, wordOf_eq_wrap36,
    wrap36_add, wrap36_sub, wrap36_neg, wrap36_min, wrap36_max, wrap36_minu, wrap36_maxu, wrap36_toInt, wrap36_toNat, wrap36_mul_two_pow]

/-! ### Table OP-3 -/

/-- Table OP-3 gives what `aluResult` computes. -/
theorem aluResult_of_tableOp3 {o : Op} {a b : Word} {r : Bool} (h : tableOp3 o.mn a b = some r) (old : Word) :
    aluResult o a b old = (if r then 1 else 0, false) := by
  unfold tableOp3 at h
  unfold aluResult
  split at h <;> cases h <;> simp [*, truth, bne, beq_eq_decide]

/-! ### The shifts of Table OP-4 -/

theorem wrap36_shiftLeft (a : Word) (c : Nat) : wrap36 (if c ≤ 35 then a.toInt * 2 ^ c else 0) = shiftLeft a c := by
  unfold shiftLeft
  split
  · have hpow : ((2 : Int) ^ c) = ((2 ^ c : Nat) : Int) := by push_cast; rfl
    rw [wrap36, BitVec.ofInt_mul, BitVec.ofInt_toInt, hpow, BitVec.ofInt_natCast]
    apply BitVec.eq_of_toNat_eq
    rw [BitVec.toNat_mul, BitVec.toNat_ofNat, Nat.mul_mod_mod, BitVec.toNat_shiftLeft, Nat.shiftLeft_eq]
  · rfl

theorem wrap36_shiftRight (a : Word) (c : Nat) : wrap36 (if c ≤ 35 then ((a.toNat / 2 ^ c : Nat) : Int) else 0) = shiftRight a c := by
  unfold shiftRight
  split
  · rw [wrap36_natCast]
    apply BitVec.eq_of_toNat_eq
    rw [BitVec.toNat_ofNat, BitVec.toNat_ushiftRight, Nat.shiftRight_eq_div_pow]
    exact Nat.mod_eq_of_lt (Nat.lt_of_le_of_lt (Nat.div_le_self ..) a.isLt)
  · rfl

theorem wrap36_shiftArith (a : Word) (c : Nat) :
    wrap36 (if c ≤ 35 then a.toInt / 2 ^ c else if a.toInt < 0 then -1 else 0) = shiftArith a c := by
  have hlo := BitVec.le_toInt a
  have hhi := BitVec.toInt_lt (x := a)
  unfold shiftArith wrap36
  rw [BitVec.sshiftRight_eq, Int.shiftRight_eq_div_pow]
  congr 1
  by_cases hc : c ≤ 35
  · simp [hc, Nat.min_eq_left (by omega : c ≤ 36)]
  · rw [if_neg hc, Nat.min_eq_right (by omega)]
    split <;> omega

/-! ### The operations of a short slot (Table EN-13) -/

/-- The shifts, which Table OP-4 gives. -/
def Mn.isShift (m : Mn) : Bool :=
  match m with
  | .sll | .srl | .sra | .slli | .srli | .srai | .sllq | .srlq | .sraq => true
  | _ => false

/-- Table EN-13: the mnemonics of the short opcodes. -/
def Mn.inSlot (m : Mn) : Bool :=
  match m with
  | .add | .sub | .andW | .orW | .xorW | .andn | .mov | .neg | .adds | .subs | .minS | .maxS | .sll | .srl | .sra | .abs
  | .addq | .movq | .sllq | .srlq | .sraq | .andq | .orq | .xorq | .ceq | .clt | .cltu | .cne | .push | .pop | .popw | .nop => true
  | _ => false

theorem inSlot_shortMn (op rs : Nat) : ((shortMn op rs).getD .nop).inSlot = true := by
  unfold shortMn
  by_cases hrs : 16 ≤ rs <;> simp only [hrs, if_true, if_false] <;> split <;> rfl

theorem inSlot_shortOf (x : Nat) : (shortOf x).mn.inSlot = true := inSlot_shortMn ..

/-- Table OP-4 gives what `aluResult` computes of a shift. -/
theorem aluResult_of_isShift {o : Op} (h : o.mn.isShift = true) (a b old : Word) :
    ∃ x, tableOp4 o a b old = some x ∧ aluResult o a b old = (wrap36 x, false) := by
  unfold Mn.isShift at h
  split at h <;> simp_all [tableOp4, aluResult, ← wrap36_shiftLeft, ← wrap36_shiftRight, ← wrap36_shiftArith]

/-- An operation of a slot that is no queue operation and no NOP is of class A. -/
theorem aluClass_of_inSlot {m : Mn} (h : m.inSlot = true) (hq : m.isQueue = false) (hn : m ≠ .nop) : m.aluClass = some 2 := by
  revert h hq hn
  cases m <;> decide

theorem not_access_of_inSlot {m : Mn} (h : m.inSlot = true) : m.isLong = false ∧ m.isLoad = false ∧ m.isStore = false := by
  revert h
  cases m <;> decide

/-- What Tables OP-2 and OP-3 do not give of a slot's operations are the shifts. -/
theorem isShift_of_inSlot {m : Mn} {a b : Word} (h : m.inSlot = true) (hq : m.isQueue = false) (hn : m ≠ .nop) (h2 : tableOp2 m a b = none)
    (h3 : tableOp3 m a b = none) : m.isShift = true := by
  unfold Mn.inSlot at h
  split at h <;> simp_all [tableOp2, tableOp3, Mn.isShift, Mn.isQueue]

/-- An operation of a slot that is no queue operation and no NOP writes what the tables give two steps later. -/
theorem tableResult_of_inSlot {o : Op} (h : o.mn.inSlot = true) (hq : o.mn.isQueue = false) (hn : o.mn ≠ .nop) (a b old : Word) :
    tableResult o a b old = some ((aluResult o a b old).1, 2, (aluResult o a b old).2) := by
  cases h2 : tableOp2 o.mn a b with
  | some p => simp only [tableResult, h2, aluResult_of_tableOp2 h2]
  | none =>
    cases h3 : tableOp3 o.mn a b with
    | some r => simp only [tableResult, h2, h3, aluResult_of_tableOp3 h3]
    | none =>
      obtain ⟨x, h4, hx⟩ := aluResult_of_isShift (isShift_of_inSlot h hq hn h2 h3) a b old
      simp only [tableResult, h2, h3, h4, hx]

theorem tableResult_nop {o : Op} (hn : o.mn = .nop) (a b old : Word) : tableResult o a b old = none := by
  simp only [tableResult, tableOp2, tableOp3, tableOp4, tableOp5, hn]

theorem tableResult_queue {o : Op} (hq : o.mn.isQueue = true) (a b old : Word) : tableResult o a b old = none := by
  unfold Mn.isQueue at hq
  split at hq <;> simp_all [tableResult, tableOp2, tableOp3, tableOp4, tableOp5]

end Sys2Proof.Machine
end

section
/-! The statements O2 and O3: the condition field (R77, R79), and a pair of short operations (R80, R81, R90). -/

namespace Sys2Proof.Machine

/-! ### The row of a word that may issue -/

/-- The row of a mnemonic is the issue of its word, and what follows. -/
theorem exec_wordRow_next (m : Mn) {u : Nat} (hu : u < 256) (w : Word) (s : State) :
    exec (wordRow m u w) s = .next (afterWord m (issue u m w s)) := by
  rw [exec_wordRow]
  unfold afterWord answer answerWord
  split <;> simp [hu]

section
variable {u k : Nat} {w : Word} {f : Fj} {m : Mn} {s : State}

/-- The row of a word whose slots are ready is the run of the word. -/
theorem exec_wordRow_go (h : AtWord u k w f s) (hm : f.holds m = true)
    (hr : wordReady (16 * u + k) w (runningSlots f ((opened (16 * u + k) s).reads (16 * u + k)))
      ((opened (16 * u + k) s).reads (16 * u + k)) (opened (16 * u + k) s) = .go) :
    exec (wordRow m u w) s = .next (afterWord m (runWord (16 * u + k) (nextStep (16 * u + k) s) w f (opened (16 * u + k) s))) := by
  rw [exec_wordRow_next m h.unit, issue_go h hm hr]

/-- A word all of whose slots are ready is ready. -/
theorem wordReady_go {cid : Nat} {l : List (Nat × Op)} {g : Nat → Word} (h : ∀ e ∈ l, opReady cid w e.1 e.2 g s = .go) :
    wordReady cid w l g s = .go := by
  unfold wordReady
  induction l with
  | nil => rfl
  | cons e l ih =>
    rw [List.foldl_cons, h e (by simp)]
    exact ih (fun e he => h e (by simp [he]))

/-- A word of which no slot executes only takes its step (R79). -/
theorem runWord_none {cid n : Nat} (h : runningSlots f (s.reads cid) = []) : runWord cid n w f s = stepped cid s := by
  unfold runWord
  cases f <;> simp only [h] <;> rfl

end

/-- Settles O2: no slot of the word executes, so that its run is its step alone. -/
theorem conditionalWord : Obligations.ConditionalWord := by
  unfold Obligations.ConditionalWord
  refine ⟨fun n r g hr => ?_, fun u k c w f m s h => ?_⟩
  · have hmod : ((if n then 8 else 0) + r) % 8 = r := by cases n <;> simp only [if_true, Bool.false_eq_true, if_false] <;> omega
    have hneg : decide (8 ≤ (if n then 8 else 0) + r) = n := by cases n <;> simp [hr]
    rw [condHolds, hmod, hneg]
  · intro cid so hc hm hf
    have hnone : runningSlots f (so.reads cid) = [] := by
      rcases hf with ⟨o, rfl⟩ | ⟨a, b, rfl⟩ <;> simp [runningSlots, hc]
    have hready : wordReady cid w (runningSlots f (so.reads cid)) (so.reads cid) so = .go := by rw [hnone]; rfl
    rw [exec_wordRow_go h hm hready, runWord_none hnone]

/-! ### A pair of short operations -/

/-- What an operation of slot `i` at step `n` does, of a word whose registers read `g` at issue: the result of Tables OP-2 to OP-4 two steps later, or a
queue operation's effect; and the status bits that it sets. -/
def slotEffect (cid n : Nat) (w : Word) (g : Nat → Word) (i : Nat) (o : Op) (d : Nat) (s : State) : State × Nat :=
  match tableResult o (o.argA g) (o.argB g) (g o.rd) with
  | some r => (produce cid d (n + r.2.1) r.1 s, if r.2.2 then 4 else 0)
  | none => if o.mn = .nop then (s, 0) else queueEffect cid n w i o d (o.argA g) s

theorem opEffect_of_inSlot {o : Op} (h : o.mn.inSlot = true) (cid n : Nat) (pc : Addr) (w : Word) (i d : Nat) (g : Nat → Word) (v : Word) (s : State) :
    opEffect cid n pc w i o d g v s = slotEffect cid n w g i o d s := by
  obtain ⟨hlong, hload, hstore⟩ := not_access_of_inSlot h
  unfold opEffect slotEffect
  simp only [hlong, hload, hstore, Bool.false_eq_true, if_false]
  by_cases hq : o.mn.isQueue = true
  · have hn : o.mn ≠ .nop := by intro hn; rw [hn] at hq; cases hq
    simp only [hq, if_true, tableResult_queue hq, hn, if_false]
  · by_cases hn : o.mn = .nop
    · simp only [tableResult_nop hn, hn, Mn.isQueue, Mn.aluClass, Bool.false_eq_true, if_false, if_true]
    · have hq : o.mn.isQueue = false := by simpa using hq
      simp only [hq, Bool.false_eq_true, if_false, aluClass_of_inSlot h hq hn, tableResult_of_inSlot h hq hn]

theorem not_ordering_of_inSlot {m : Mn} (h : m.inSlot = true) : m ≠ .waitl ∧ m ≠ .yield ∧ m ≠ .fence ∧ m ≠ .trap ∧ m ≠ .sleep := by
  revert h
  cases m <;> decide

/-- An operation of a slot may issue, if it is no queue operation or its queue is ready (R130, R133). -/
theorem opReady_of_inSlot {cid : Nat} {w : Word} {o : Op} {g : Nat → Word} {s : State} (h : o.mn.inSlot = true)
    (hq : o.mn.isQueue = true → opReady cid w 0 o g s = .go) (i : Nat) : opReady cid w i o g s = .go := by
  obtain ⟨hlong, hload, hstore⟩ := not_access_of_inSlot h
  unfold opReady at hq ⊢
  simp only [hload, hstore, hlong, Bool.or_self, Bool.false_eq_true, if_false] at hq ⊢
  split
  · next hqueue =>
    simp only [hqueue, if_true, true_imp_iff] at hq
    split
    · next hp => rw [hp] at hq; cases hq
    · next hp => rw [hp] at hq; exact hq
  · obtain ⟨hwaitl, hyield, hfence, htrap, -⟩ := not_ordering_of_inSlot h
    split
    · contradiction
    · contradiction
    · contradiction
    · contradiction
    · rfl

theorem statusCode_zero (en : Nat) : statusCode 0 en = 0 := by simp [statusCode]

/-- A slot that sets no status bit raises no STATUS trap. -/
theorem statusTrap_cons_zero (cid i : Nat) (o : Op) (l : List (Nat × Op × Nat)) (s : State) :
    statusTrap cid ((i, o, 0) :: l) s = statusTrap cid l s := by
  unfold statusTrap
  simp only [List.find?_cons, statusCode_zero, bne_self_eq_false]

theorem setSticky_zero (cid : Nat) (s : State) : setSticky cid 0 s = s := rfl

/-- The run of a pair: its step, then the slots that execute, slot A first. -/
theorem runWord_two (cid n c : Nat) (kk : Bool) (w : Word) (a b : Op) (s : State) :
    runWord cid n w (.two c kk a b) s =
      (let l := runningSlots (.two c kk a b) (s.reads cid)
       let r := l.foldl (fun (acc : State × List (Nat × Op × Nat)) e =>
         let q := opEffect cid n (s.ctx cid).pc w e.1 e.2 (slotDest l e) (s.reads cid) 0 acc.1
         (setSticky cid q.2 q.1, acc.2 ++ [(e.1, e.2, q.2)])) (stepped cid s, [])
       statusTrap cid r.2 r.1) := rfl

/-- The slots of a pair that passes decode hold operations of Table EN-13. -/
theorem inSlot_of_decodeFj {w : Word} {k c : Nat} {kk : Bool} {a b : Op} (h : decodeFj w k = .ok (.two c kk a b)) :
    a.mn.inSlot = true ∧ b.mn.inSlot = true := by
  rcases decodeFj_ok h with ⟨_, _, hf⟩ | ⟨_, _, _, hf⟩
  · cases hf
  · cases hf
    exact ⟨inSlot_shortOf _, inSlot_shortOf _⟩

/-- The run of a pair of short operations: its step, then slot A when the condition holds, whose destination gives way to slot B's, then slot B when
the condition holds or K is 0; a slot that does not execute sets no status bit (R80, R81). -/
theorem runWord_pair {cid n c : Nat} {kk : Bool} {w : Word} {a b : Op} {s : State} (ha : a.mn.inSlot = true) (hb : b.mn.inSlot = true) :
    runWord cid n w (.two c kk a b) s =
      (let g := s.reads cid
       let onA := condHolds c g
       let ra := if onA then slotEffect cid n w g 0 a (if b.dest = a.dest then 0 else a.rd) (stepped cid s) else (stepped cid s, 0)
       let rb := if onA || !kk then slotEffect cid n w g 1 b b.rd (setSticky cid ra.2 ra.1) else (setSticky cid ra.2 ra.1, 0)
       statusTrap cid [(0, a, ra.2), (1, b, rb.2)] (setSticky cid rb.2 rb.1)) := by
  have hdestA : slotDest [(0, a), (1, b)] (0, a) = if b.dest = a.dest then 0 else a.rd := by simp [slotDest]
  have hdestB (l : List (Nat × Op)) : slotDest l (1, b) = b.rd := by simp [slotDest]
  rw [runWord_two]
  cases hc : condHolds c (s.reads cid) with
  | true =>
    have hl : runningSlots (.two c kk a b) (s.reads cid) = [(0, a), (1, b)] := by simp [runningSlots, hc]
    simp only [hl, hc, List.foldl_cons, List.foldl_nil, hdestA, hdestB, opEffect_of_inSlot ha, opEffect_of_inSlot hb, Bool.true_or, if_true]
    rfl
  | false =>
    cases kk with
    | true =>
      have hl : runningSlots (.two c true a b) (s.reads cid) = [] := by simp [runningSlots, hc]
      simp only [hl, hc, List.foldl_nil, Bool.not_true, Bool.or_self, Bool.false_eq_true, if_false, statusTrap_cons_zero, setSticky_zero]
    | false =>
      have hl : runningSlots (.two c false a b) (s.reads cid) = [(1, b)] := by simp [runningSlots, hc]
      simp only [hl, hc, List.foldl_cons, List.foldl_nil, hdestB, opEffect_of_inSlot hb, Bool.not_false, Bool.or_true, Bool.false_eq_true, if_true,
        if_false, statusTrap_cons_zero, setSticky_zero]
      rfl

/-- Settles O3: both slots hold operations of Table EN-13, whose effects are those of the tables or of a queue operation. -/
theorem pairWord : Obligations.PairWord := by
  unfold Obligations.PairWord
  intro u k c kk w a b m s h cid n so g onA onB queueReady hA hB hm
  obtain ⟨ha, hb⟩ := inSlot_of_decodeFj h.decoded
  have hholds : (Fj.two c kk a b).holds m = true := by rcases hm with rfl | rfl <;> simp [Fj.holds]
  have hready : wordReady cid w (runningSlots (.two c kk a b) g) g so = .go := by
    refine wordReady_go (fun e he => ?_)
    simp only [runningSlots, List.mem_append, List.mem_ite_nil_right, List.mem_singleton] at he
    rcases he with ⟨hon, rfl⟩ | ⟨hon, rfl⟩
    · exact opReady_of_inSlot ha (hA hon) 0
    · exact opReady_of_inSlot hb (hB hon) 1
  have hafter (t : State) : afterWord m t = settleFaults t := by
    have hs : m.inSlot = true := by rcases hm with rfl | rfl <;> assumption
    obtain ⟨-, hyield, -, htrap, hsleep⟩ := not_ordering_of_inSlot hs
    exact if_neg (by simp [hyield, hsleep, htrap])
  rw [exec_wordRow_go h hholds hready, hafter, runWord_pair ha hb]
  rfl

end Sys2Proof.Machine
end

section
/-! The statement O12: when a result is committed, and how a general register reads (R71, R110, R146, R151, R152). -/

namespace Sys2Proof.Machine

/-! ### General registers (R71) -/

@[simp] theorem Ctx.getG_zero (x : Ctx) : x.getG 0 = 0 := rfl

@[simp] theorem Ctx.setG_zero (x : Ctx) (v : Word) : x.setG 0 v = x := rfl

theorem Ctx.getG_setG_ne (x : Ctx) {r j : Nat} (h : j ≠ r) (v : Word) : (x.setG r v).getG j = x.getG j := by
  unfold Ctx.getG Ctx.setG
  split
  · rfl
  · split
    · rfl
    · exact Sparse.get_put_ne 0 0 h v x.g

/-- A register written reads what was written: a value that is not listed as 0, or 0 where nothing is listed. -/
theorem Ctx.getG_setG_self (x : Ctx) {r : Nat} {v : Word} (hr : r ≠ 0) (hv : v ≠ 0 ∨ x.g = []) : (x.setG r v).getG r = v := by
  simp only [Ctx.getG, Ctx.setG, hr, if_false]
  by_cases h0 : v = 0
  · have hg := hv.resolve_left (fun h => h h0)
    simp [hg, h0, Sparse.put, Sparse.get]
  · exact Sparse.get_put_self 0 r h0 x.g

/-! ### The commit at the opening of a step (R146, R152) -/

section
variable {x : Ctx} {r d d2 n : Nat} {v v2 : Word}

theorem Ctx.commit_before (hp : x.pend = [{ dst := .g r, val := v, due := d }]) (h : n < d) : x.commit n = x := by
  have hd : ¬ d ≤ n := by omega
  simp only [Ctx.commit, hp, commitFrom, hd, if_false, List.nil_append]
  rw [← hp]

theorem Ctx.commit_due (hp : x.pend = [{ dst := .g r, val := v, due := d }]) (h : d ≤ n) : x.commit n = { x.setG r v with pend := [] } := by
  simp only [Ctx.commit, hp, commitFrom, h, if_true, List.filter_nil, Ctx.write]

theorem Ctx.commit_both (hp : x.pend = [{ dst := .g r, val := v, due := d }, { dst := .g r, val := v2, due := d2 }]) (h : d ≤ n) (h2 : d2 ≤ n) :
    x.commit n = { (x.setG r v).setG r v2 with pend := [] } := by
  simp only [Ctx.commit, hp, commitFrom, h, h2, if_true, List.filter_nil, Ctx.write]

/-- A later producer that is due suppresses the earlier one of the same register that is not (R152). -/
theorem Ctx.commit_later (hp : x.pend = [{ dst := .g r, val := v, due := d }, { dst := .g r, val := v2, due := d2 }]) (h2 : d2 ≤ n) (h : n < d) :
    x.commit n = { x.setG r v2 with pend := [] } := by
  have hd : ¬ d ≤ n := by omega
  simp [Ctx.commit, hp, commitFrom, hd, h2, Ctx.write]

end

/-! ### What a word reads (R110) -/

/-- A long operation in flight answers a read only once its result is ready for reads. -/
theorem State.reads_eq_getG {cid : Nat} {s : State} (h : ∀ l ∈ (s.unit (unitOf cid)).lops, l.cid = cid → l.written = false) (r : Nat) :
    s.reads cid r = (s.ctx cid).getG r := by
  have hnone : (s.unit (unitOf cid)).lops.find? (fun l => l.cid == cid && l.written && r != 0 &&
      ((l.dueLo && l.rd == r) || (l.pair && l.dueHi && l.rd + 1 == r))) = none := by
    rw [List.find?_eq_none]
    intro l hl
    by_cases hc : l.cid = cid
    · simp [h l hl hc]
    · simp [hc]
  unfold State.reads
  rw [hnone]

theorem State.reads_zero (cid : Nat) (s : State) : s.reads cid 0 = 0 := by
  have hnone : (s.unit (unitOf cid)).lops.find? (fun l => l.cid == cid && l.written && (0 : Nat) != 0 &&
      ((l.dueLo && l.rd == 0) || (l.pair && l.dueHi && l.rd + 1 == 0))) = none := by
    simp [List.find?_eq_none]
  unfold State.reads
  rw [hnone]
  rfl

/-- Settles O12, part by part: the commit of one result and of two, the reads of a word, and a register written. -/
theorem registersAndDistance : Obligations.RegistersAndDistance := by
  unfold Obligations.RegistersAndDistance
  refine ⟨fun x r d n v hr hp => ⟨Ctx.commit_before hp, fun hd => ?_, fun d2 v2 y hy => ?_⟩, fun cid s => ⟨s.reads_zero cid, State.reads_eq_getG⟩,
    fun x r j v => ⟨x.getG_zero, x.setG_zero v, fun hj => x.getG_setG_ne hj v, x.getG_setG_self⟩⟩
  · rw [Ctx.commit_due hp hd]
    exact ⟨fun hv => x.getG_setG_self hr (.inl hv), fun j hj => x.getG_setG_ne hj v, rfl⟩
  · have hpy : y.pend = [{ dst := .g r, val := v, due := d }, { dst := .g r, val := v2, due := d2 }] := by rw [hy, hp]; rfl
    exact ⟨Ctx.commit_both hpy, Ctx.commit_later hpy⟩

end Sys2Proof.Machine
end

section
/-! The statement O15: MFC and MTC of the context's own control registers (R73, R135, R160, Tables EN-3, EN-6). -/

namespace Sys2Proof.Machine

/-! ### The parts of an accumulator as they read (Table EN-6) -/

theorem accPart_low (m : Acc) : accPart m 0 = m.extractLsb' 0 36 := by
  simp [accPart, BitVec.extractLsb']

theorem accPart_middle (m : Acc) : accPart m 1 = m.extractLsb' 36 36 := by
  apply BitVec.eq_of_getLsbD_eq
  intro i hi
  simp [accPart, hi]

theorem accPart_high (m : Acc) : accPart m 2 = (m.extractLsb' 72 8).signExtend 36 := by
  apply BitVec.eq_of_getLsbD_eq
  intro i hi
  simp only [accPart, BitVec.getLsbD_setWidth, BitVec.getLsbD_sshiftRight, BitVec.getLsbD_signExtend, BitVec.getLsbD_extractLsb', BitVec.msb_eq_getLsbD_last]
  by_cases h8 : i < 8
  · have h80 : 72 + i < 80 := by omega
    simp [hi, h8, h80, show i < 80 by omega]
  · have h80 : ¬ 72 + i < 80 := by omega
    simp [hi, h8, h80, show i < 80 by omega]

/-! ### A context's own registers by their numbers (R73) -/

theorem ctlRef_own {r : Nat} (h : r < 16) (cid : Nat) : ctlRef r cid = .ctx cid r := if_pos h

theorem mfcRead_own {r : Nat} (h : r < 16) (cid : Nat) (s : State) : mfcRead cid r s = (readCtl cid r s, s) := by
  simp only [mfcRead, ctlRef_own h]

theorem mtcWrite_own {r : Nat} (h : r < 16) (cid n : Nat) (v : Word) (s : State) : mtcWrite cid r n v s = writeOwnCtl cid r n v s := by
  simp only [mtcWrite, ctlRef_own h, if_true]

/-! ### The words -/

section
variable {cid n c : Nat} {w : Word} {o : Op} {g : Nat → Word} {s : State}

theorem opReady_mfc (hm : o.mn = .mfc) (i : Nat) : opReady cid w i o g s = .go := by
  obtain ⟨⟩ := o
  cases hm
  rfl

theorem opReady_mtc (hm : o.mn = .mtc) (i : Nat) : opReady cid w i o g s = .go := by
  obtain ⟨⟩ := o
  cases hm
  rfl

theorem opEffect_mfc (hm : o.mn = .mfc) (pc : Addr) (i d : Nat) (v : Word) :
    opEffect cid n pc w i o d g v s = (produce cid d (n + 2) v s, 0) := by
  obtain ⟨⟩ := o
  cases hm
  rfl

theorem opEffect_mtc (hm : o.mn = .mtc) (pc : Addr) (i d : Nat) (v : Word) :
    opEffect cid n pc w i o d g v s = (mtcWrite cid o.imm n (o.argA g) s, 0) := by
  obtain ⟨⟩ := o
  cases hm
  rfl

/-- A single word whose condition holds is ready when its operation is. -/
theorem wordReady_one (hc : condHolds c g = true) (h : opReady cid w 0 o g s = .go) : wordReady cid w (runningSlots (.one c o) g) g s = .go :=
  wordReady_go (by simp [runningSlots, hc, h])

/-- The run of an MFC of an own register: its step, and the value at issue due two steps later. -/
theorem runWord_mfc (hc : condHolds c (s.reads cid) = true) (hm : o.mn = .mfc) (hr : o.imm < 16) :
    runWord cid n w (.one c o) s = produce cid o.rd (n + 2) (readCtl cid o.imm s) (stepped cid s) := by
  unfold runWord
  simp only [runningSlots, hc, if_true, hm, mfcRead_own hr, List.foldl_cons, List.foldl_nil, opEffect_mfc hm, setSticky_zero, List.nil_append,
    statusTrap_cons_zero]
  rfl

end

/-- MTC of an own register changes the context alone (R135, R160). -/
theorem writeOwnCtl_eq (cid r n : Nat) (v : Word) (s : State) :
    writeOwnCtl cid r n v s = s.setCtx cid
      (match r with
        | 1 => { s.ctx cid with pend := (s.ctx cid).pend ++ [{ dst := .lnk, val := v, due := n + 2 }] }
        | 2 => { s.ctx cid with sticky := (s.ctx cid).sticky &&& (31 - v.toNat % 32), trapEnNext := some (v.toNat / 256 % 8) }
        | 3 => { s.ctx cid with tbrNext := some (v.toNat % 64) }
        | 5 => { s.ctx cid with frc := v }
        | 8 | 9 | 10 | 12 | 13 | 14 => writeAcc r v (s.ctx cid)
        | _ => s.ctx cid) := by
  unfold writeOwnCtl State.modCtx
  congr 1
  split <;> simp [clearSticky, bits]

/-- Nothing follows a word that leaves the state quiet and reaches no other agent. -/
theorem afterWord_quiet {m : Mn} {s : State} (hm : ¬ (m = .yield ∨ m = .sleep ∨ m = .trap)) (h : Quiet s) : afterWord m s = s := by
  rw [afterWord, if_neg hm, settleFaults_quiet h]

/-- Settles O15: MFC reads the state at the opening of its step, and MTC of an own register writes the context alone. -/
theorem ownControlRegisters : Obligations.OwnControlRegisters := by
  unfold Obligations.OwnControlRegisters
  intro u k c w o s h cid so x n t y v hc hr
  have hq : Quiet t := quiet_stepped.mpr (quiet_opened.mpr h.quiet)
  constructor
  · intro hm r
    have hholds : (Fj.one c o).holds .mfc = true := by simp [Fj.holds, hm]
    have hvalue : readCtl cid o.imm so = r := by
      unfold readCtl
      simp only [accPart_low, accPart_middle, accPart_high]
      rfl
    rw [exec_wordRow_go h hholds (wordReady_one hc (opReady_mfc hm 0)), runWord_mfc hc hm hr, hvalue]
    exact congrArg _ (afterWord_quiet (by decide) (quiet_produce.mpr hq))
  · intro hm z
    have hholds : (Fj.one c o).holds .mtc = true := by simp [Fj.holds, hm]
    have hwrite : mtcWrite cid o.imm n v t = t.setCtx cid z := (mtcWrite_own hr ..).trans (writeOwnCtl_eq ..)
    rw [exec_wordRow_go h hholds (wordReady_one hc (opReady_mtc hm 0)), runWord_one hc (by simp [hm])]
    simp only [opEffect_mtc hm, statusTrap_cons_zero, setSticky_zero]
    rw [hwrite]
    exact congrArg _ (afterWord_quiet (by decide) hq)

end Sys2Proof.Machine
end

section
/-! The statement O18: words that decode rejects, loads and stores that name no place, and what a trap leaves (R91 to R93, R116, R189, R190). -/

namespace Sys2Proof.Machine

/-! ### A word that stands at issue -/

section
variable {u k : Nat} {w : Word} {s : State}

/-- The unit issues for the context that it runs, which holds at most a wait at issue. -/
theorem issuing_of_atIssue (hrun : (s.unit u).run = some k) (hdisp : (s.unit u).disp = none) (hwait : (s.ctx (16 * u + k)).wait.atIssue = true) :
    issuing u s = some (16 * u + k) := by
  unfold issuing issueHeld
  simp only [hrun, hdisp]
  revert hwait
  cases (s.ctx (16 * u + k)).wait <;> simp [Wait.atIssue]

/-- A context with a wait at issue has no added step of a split LD2 to take. -/
theorem takeSplit_of_atIssue {cid : Nat} (hwait : (s.ctx cid).wait.atIssue = true) : takeSplit cid s = s := by
  unfold takeSplit
  revert hwait
  cases (s.ctx cid).wait <;> simp [Wait.atIssue]

theorem dueTrap_none {x : Ctx} (h : x.traps = []) (n : Nat) (skip : Bool) : dueTrap x n skip = none := by simp [dueTrap, h]

/-- A word that decode rejects traps, whatever mnemonic was commanded (R91). -/
theorem issue_illegal {m : Mn} {e : Illegal} (hk : k < 16) (hrun : (s.unit u).run = some k) (hdisp : (s.unit u).disp = none)
    (hwait : (s.ctx (16 * u + k)).wait.atIssue = true) (htraps : (s.ctx (16 * u + k)).traps = []) (hnext : nextWord (16 * u + k) s = .word w none)
    (hdec : decodeFj w k = .error e) : issue u m w s = trapCtx (16 * u + k) (preciseTrap 1 e.slot e.reason e.detail 0 w) s := by
  have hmod : (16 * u + k) % 16 = k := by omega
  unfold issue
  simp [issuing_of_atIssue hrun hdisp hwait, takeSplit_of_atIssue hwait, hnext, hmod, hdec, afterTraps, dueTrap_none htraps]

/-! ### An access that names no place (R116) -/

/-- A load or store whose address raises ACCESS traps in place of its step. -/
theorem issue_accessFault {c kind a : Nat} {o : Op} {m : Mn} (h : AtWord u k w (.one c o) s) (hm : o.mn = m)
    (hc : condHolds c ((opened (16 * u + k) s).reads (16 * u + k)) = true) (hls : (o.mn.isLoad || o.mn.isStore) = true)
    (hf : accessFault (clusterOf (16 * u + k)) o.mn (o.ea ((opened (16 * u + k) s).reads (16 * u + k))) = some (kind, a)) :
    issue u m w s = trapCtx (16 * u + k) (preciseTrap 2 0 0 (kind * 2 ^ 16 + o.code) a w) (opened (16 * u + k) s) := by
  have hholds : (Fj.one c o).holds m = true := by simp [Fj.holds, hm]
  have hready : wordReady (16 * u + k) w (runningSlots (.one c o) ((opened (16 * u + k) s).reads (16 * u + k)))
      ((opened (16 * u + k) s).reads (16 * u + k)) (opened (16 * u + k) s) = .trap (preciseTrap 2 0 0 (kind * 2 ^ 16 + o.code) a w) := by
    simp only [runningSlots, hc, if_true, wordReady, List.foldl_cons, List.foldl_nil, opReady, hls, hf]
  rw [issue_of_atWord h hholds]
  unfold issueReady
  unfold opened at hready ⊢
  simp only [hready]

end

theorem not_ending_of_access {m : Mn} (h : m.isLoad = true ∨ m.isStore = true) : ¬ (m = .yield ∨ m = .sleep ∨ m = .trap) := by
  rintro (rfl | rfl | rfl) <;> simp [Mn.isLoad, Mn.isStore] at h

/-! ### What a trap leaves (R189) -/

/-- A context that is not as at reset reads back once it is set. -/
theorem State.ctx_setCtx_of_ne {x : Ctx} (h : x ≠ Ctx.init) (k : Nat) (s : State) : (s.setCtx k x).ctx k = x := Sparse.get_put_self _ _ h _

/-- A commit leaves the context's PC, FRC and accumulators. -/
theorem Ctx.write_frame (x : Ctx) (p : Pend) :
    (x.write p).pc = x.pc ∧ (x.write p).frc = x.frc ∧ (x.write p).m0 = x.m0 ∧ (x.write p).m1 = x.m1 := by
  unfold Ctx.write Ctx.setG
  split
  · split <;> exact ⟨rfl, rfl, rfl, rfl⟩
  all_goals exact ⟨rfl, rfl, rfl, rfl⟩

theorem Ctx.foldl_write_frame (l : List Pend) (x : Ctx) :
    (l.foldl Ctx.write x).pc = x.pc ∧ (l.foldl Ctx.write x).frc = x.frc ∧ (l.foldl Ctx.write x).m0 = x.m0 ∧ (l.foldl Ctx.write x).m1 = x.m1 := by
  induction l generalizing x with
  | nil => exact ⟨rfl, rfl, rfl, rfl⟩
  | cons p l ih =>
    obtain ⟨hpc, hfrc, hm0, hm1⟩ := x.write_frame p
    obtain ⟨ihpc, ihfrc, ihm0, ihm1⟩ := ih (x.write p)
    exact ⟨ihpc.trans hpc, ihfrc.trans hfrc, ihm0.trans hm0, ihm1.trans hm1⟩

/-- A context that stops issuing keeps its PC, FRC and accumulators. -/
theorem Ctx.stop_frame (x : Ctx) (lops : List Lop) :
    (x.stop lops).pc = x.pc ∧ (x.stop lops).frc = x.frc ∧ (x.stop lops).m0 = x.m0 ∧ (x.stop lops).m1 = x.m1 :=
  Ctx.foldl_write_frame x.pend x

section
variable {cid : Nat} {t : Trap} {s : State}

/-- The context of a trap that halts it: its work in progress has ended, and FRC holds the trap. -/
def trappedCtx (cid : Nat) (t : Trap) (s : State) : Ctx :=
  let y := (s.ctx cid).stop (s.unit (unitOf cid)).lops
  { y with st := .halted, frc := t.frc y.frc }

theorem ctx_stopRunning_halted (cid : Nat) (s : State) :
    (stopRunning cid .halted s).ctx cid = { (s.ctx cid).stop (s.unit (unitOf cid)).lops with st := .halted } := by
  unfold stopRunning
  rw [State.setUnit_ctx]
  exact State.ctx_setCtx_of_ne (fun h => absurd (congrArg Ctx.st h) (by decide : CtxState.halted ≠ .idle)) ..

theorem ctx_stopRunning_ne {j : Nat} (h : j ≠ cid) (st : CtxState) : (stopRunning cid st s).ctx j = s.ctx j := by
  unfold stopRunning
  rw [State.setUnit_ctx, State.ctx_setCtx_ne _ h]

/-- A context without a handler asks for none (R192). -/
theorem requestHandler_none {u : State} (hu : u.regs = s.regs) (h : rdB F.sctx_CFG_HV cid s = false) : requestHandler cid u = u := by
  have hv : rdB F.sctx_CFG_HV cid u = false := by
    rw [← h]
    unfold rdB rd State.reg
    rw [hu]
  simp [requestHandler, hv]

/-- The state in which a running context has stopped and holds its trap in FRC. -/
def trapHalted (cid : Nat) (t : Trap) (s : State) : State := (stopRunning cid .halted s).modCtx cid (fun x => { x with frc := t.frc x.frc })

theorem ctx_trapHalted_self : (trapHalted cid t s).ctx cid = trappedCtx cid t s := by
  unfold trapHalted
  rw [State.modCtx_eq, ctx_stopRunning_halted]
  exact State.ctx_setCtx_of_ne (fun h => absurd (congrArg Ctx.st h) (by decide : CtxState.halted ≠ .idle)) ..

theorem ctx_trapHalted_ne {j : Nat} (hj : j ≠ cid) : (trapHalted cid t s).ctx j = s.ctx j := by
  unfold trapHalted
  rw [State.modCtx_eq, State.ctx_setCtx_ne _ hj, ctx_stopRunning_ne hj]

/-- A running context's trap, which nothing holds and no handler takes: its context halts with the trap in FRC, and no other context, no register and no
memory changes. -/
theorem trapCtx_running (hheld : isHeld s cid = false) (hrun : (s.unit (unitOf cid)).run = some (cid % 16))
    (hhv : rdB F.sctx_CFG_HV cid s = false) :
    (trapCtx cid t s).ctx cid = trappedCtx cid t s ∧ (∀ j, j ≠ cid → (trapCtx cid t s).ctx j = s.ctx j) ∧ (trapCtx cid t s).mem = s.mem ∧
    (trapCtx cid t s).regs = s.regs := by
  unfold trapCtx
  simp only [hheld, Bool.false_eq_true, if_false, hrun, if_true]
  split
  · rw [requestHandler_none ?_ hhv]
    · exact ⟨ctx_trapHalted_self, fun j hj => ctx_trapHalted_ne hj, rfl, rfl⟩
    · rfl
  · rw [requestHandler_none ?_ hhv]
    · exact ⟨ctx_trapHalted_self, fun j hj => ctx_trapHalted_ne hj, rfl, rfl⟩
    · rfl

end

/-- Settles O18, part by part: a word that decode rejects, an access that names no place, and what every trap of a running context leaves. -/
theorem preciseTraps : Obligations.PreciseTraps := by
  unfold Obligations.PreciseTraps
  refine ⟨fun u k w m e s hu hk hrun hdisp hwait htraps hnext hdec => ?_, fun u k c kind a w o s h => ?_, fun cid t s hheld hrun hst => ?_⟩
  · rw [exec_wordRow_next m hu, issue_illegal hk hrun hdisp hwait htraps hnext hdec]
    rfl
  · intro cid so hc hls hf
    have hafter (t : State) : afterWord o.mn t = settleFaults t := if_neg (not_ending_of_access hls)
    rw [exec_wordRow_next o.mn h.unit, issue_accessFault h rfl hc (by simpa using hls) hf, hafter]
    rfl
  · intro s1 hhv
    obtain ⟨hself, hne, hmem, hregs⟩ := trapCtx_running (t := t) hheld hrun hhv
    obtain ⟨hpc, hfrc, hm0, hm1⟩ := (s.ctx cid).stop_frame (s.unit (unitOf cid)).lops
    refine ⟨congrArg Ctx.st hself, (congrArg Ctx.pc hself).trans hpc, ?_, (congrArg Ctx.m0 hself).trans hm0, (congrArg Ctx.m1 hself).trans hm1, hne,
      hmem, hregs⟩
    rw [← hfrc]
    exact congrArg Ctx.frc hself

end Sys2Proof.Machine
end

section
/-! The statement O58: the state after reset. -/

namespace Sys2Proof.Machine

/-! ### Nothing is listed after reset -/

theorem reg_reset (k : Nat) : State.reset.reg k = resetWord k := rfl

theorem getG_reset (cid r : Nat) : (State.reset.ctx cid).getG r = 0 := by
  unfold Ctx.getG
  split <;> rfl

theorem linkWork_reset : linkWork State.reset = false := rfl

theorem quiet_reset : Quiet State.reset := ⟨rfl, rfl⟩

theorem calm_reset : Calm State.reset := ⟨quiet_reset, rfl, by decide, by simp [State.reset], linkWork_reset⟩

theorem inOrder_reset : InOrder State.reset := by
  constructor <;> simp [State.reset, Rising, MemCanonical, Memory.wf, Sparse.wf]

/-! ### The registers of the power manager and of the links (Table PW-1) -/

theorem domOn_reset (d : Nat) : domOn d State.reset = false := by
  have hlo : rd F.pwr_DOM_ON_LO 0 State.reset = 0 := by decide
  have hhi : rd F.pwr_DOM_ON_HI_ON 0 State.reset = 0 := by decide
  unfold domOn
  rw [hlo, hhi]
  simp

theorem linkState_reset {l : Nat} (h : l < 6) : linkState l State.reset = 0 := by
  interval_cases l <;> decide

/-- Settles O58: nothing is listed after reset, so that every register holds its reset value and everything else its default. -/
theorem resetState : Obligations.ResetState := by
  unfold Obligations.ResetState
  exact ⟨rfl, calm_reset, inOrder_reset, by decide, domOn_reset, reg_reset, fun _ => rfl, fun cid r => ⟨getG_reset cid r, rfl, rfl⟩,
    fun _ => ⟨rfl, rfl⟩, fun l h => linkState_reset h, by decide, rfl, rfl, rfl, rfl, rfl, by decide, by decide, by decide⟩

end Sys2Proof.Machine
end


section
/-! The results of classes A and M: what `aluResult` computes of every operation is what Tables OP-2 to OP-5 give. -/

namespace Sys2Proof.Machine

/-! ### The rotates and bit operations of Table OP-4 -/

/-- A rotate moves the low 36 − `r` bits up and brings the others down below them. -/
theorem wrap36_rotate (a : Word) {r : Nat} (hr : r < 36) :
    wrap36 (((a.toNat * 2 ^ r % 2 ^ 36 + a.toNat * 2 ^ r / 2 ^ 36 : Nat) : Int)) = a.rotateLeft r := by
  have hsplit : 2 ^ 36 = 2 ^ (36 - r) * 2 ^ r := by rw [← Nat.pow_add]; congr 1; omega
  have hlow : a.toNat * 2 ^ r % 2 ^ 36 = a.toNat % 2 ^ (36 - r) * 2 ^ r := by rw [hsplit, Nat.mul_mod_mul_right]
  have hhigh : a.toNat * 2 ^ r / 2 ^ 36 = a.toNat / 2 ^ (36 - r) := by rw [hsplit, Nat.mul_div_mul_right _ _ (by positivity)]
  have hlt : a.toNat / 2 ^ (36 - r) < 2 ^ r := by
    rw [Nat.div_lt_iff_lt_mul (by positivity), Nat.mul_comm, ← hsplit]
    exact a.isLt
  apply BitVec.eq_of_toNat_eq
  rw [wrap36_natCast, BitVec.toNat_ofNat, BitVec.toNat_rotateLeft, Nat.mod_eq_of_lt hr, Nat.shiftLeft_eq, Nat.shiftRight_eq_div_pow, hlow, hhigh,
    ← Nat.shiftLeft_eq, ← Nat.shiftLeft_add_eq_or_of_lt hlt, Nat.shiftLeft_eq]
  refine Nat.mod_eq_of_lt ?_
  have hm : a.toNat % 2 ^ (36 - r) + 1 ≤ 2 ^ (36 - r) := Nat.mod_lt _ (by positivity)
  calc a.toNat % 2 ^ (36 - r) * 2 ^ r + a.toNat / 2 ^ (36 - r)
    _ < (a.toNat % 2 ^ (36 - r) + 1) * 2 ^ r := by rw [Nat.succ_mul]; omega
    _ ≤ 2 ^ 36 := by rw [hsplit]; exact Nat.mul_le_mul_right _ hm

/-- The numbers below `n` up to the first for which `p` fails. -/
theorem length_takeWhile_range {p : Nat → Bool} {k n : Nat} (hk : k ≤ n) (h : ∀ i, i < k → p i = true) (hn : k < n → p k = false) :
    ((List.range n).takeWhile p).length = k := by
  obtain ⟨m, rfl⟩ := Nat.exists_eq_add_of_le hk
  have hrest : ((List.range m).map (k + ·)).takeWhile p = [] := by
    cases m with
    | zero => rfl
    | succ m => simp [List.range_succ_eq_map, hn (by omega)]
  rw [List.range_add, List.takeWhile_append_of_pos (by simpa using h), hrest, List.append_nil, List.length_range]

theorem leadingZeros_eq (a : Word) : leadingZeros a = ((List.range 36).takeWhile (fun i => !a.getLsbD (35 - i))).length := by
  symm
  unfold leadingZeros
  split
  · next h => exact length_takeWhile_range (Nat.le_refl _) (by simp [h]) (by simp)
  · next h =>
    have hne : a.toNat ≠ 0 := fun h0 => h (BitVec.eq_of_toNat_eq h0)
    have hlog : Nat.log2 a.toNat < 36 := (Nat.log2_lt hne).mpr a.isLt
    refine length_takeWhile_range (by omega) (fun i hi => ?_) (fun _ => ?_)
    · have hlt : a.toNat < 2 ^ (35 - i) := (Nat.log2_lt hne).mp (by omega)
      simp [BitVec.getLsbD, Nat.testBit_lt_two_pow hlt]
    · have htop : 35 - (35 - Nat.log2 a.toNat) = Nat.log2 a.toNat := by omega
      simp [BitVec.getLsbD, htop, Nat.testBit_log2 hne]

theorem countP_getLsbD (a : Word) (l : List Nat) : l.countP (fun i => a.getLsbD i) = (l.map (fun i => a.toNat / 2 ^ i % 2)).sum := by
  induction l with
  | nil => rfl
  | cons i l ih =>
    have hbit : (if a.getLsbD i = true then 1 else 0) = a.toNat / 2 ^ i % 2 := by
      rw [BitVec.getLsbD, Nat.testBit_eq_decide_div_mod_eq]
      split <;> simp_all
    rw [List.countP_cons, ih, hbit, List.map_cons, List.sum_cons, Nat.add_comm]

theorem nonetOf_eq (a : Word) (n : Nat) : nonetOf a n = a.toNat / 512 ^ n % 512 := by
  rw [nonetOf, Nat.pow_mul]

theorem wrap36_nonetPut (old : Word) (n v : Nat) :
    wrap36 ((old.toNat : Int) + (((v % 512 : Nat) : Int) - ((old.toNat / 512 ^ n % 512 : Nat) : Int)) * 512 ^ n) = nonetPut old n (v % 512) := by
  have hpow : (512 : Nat) ^ n = 2 ^ (9 * n) := by rw [Nat.pow_mul]
  have hle : old.toNat / 512 ^ n % 512 * 512 ^ n ≤ old.toNat :=
    Nat.le_trans (Nat.mul_le_mul_right _ (Nat.mod_le _ _)) (Nat.div_mul_le_self ..)
  have hcast : (old.toNat : Int) + (((v % 512 : Nat) : Int) - ((old.toNat / 512 ^ n % 512 : Nat) : Int)) * 512 ^ n =
      ((old.toNat - old.toNat / 512 ^ n % 512 * 512 ^ n + v % 512 * 512 ^ n : Nat) : Int) := by
    push_cast [Nat.cast_sub hle]
    ring
  rw [hcast, wrap36_natCast]
  simp only [nonetPut, setBits, bits, hpow, show (2 : Nat) ^ 9 = 512 from rfl, Nat.mod_mod]

/-- Table OP-4 gives what `aluResult` computes. -/
theorem aluResult_of_tableOp4 {o : Op} {a b old : Word} {x : Int} (h : tableOp4 o a b old = some x) : aluResult o a b old = (wrap36 x, false) := by
  unfold tableOp4 at h
  unfold aluResult
  split at h <;> cases h <;> simp only [*, wrap36_shiftLeft, wrap36_shiftRight, wrap36_shiftArith, wrap36_rotate _ (Nat.mod_lt _ (by decide : 36 > 0)), rotLeft,
    wrap36_natCast, leadingZeros_eq, popCount, countP_getLsbD, nonetOf_eq, wrap36_nonetPut, bitField]
  split
  · rfl
  · rw [wrap36_natCast]

/-! ### Table OP-5 -/

theorem wrap36_mul (a b : Word) : wrap36 (a.toInt * b.toInt) = a * b := by
  rw [wrap36, BitVec.ofInt_mul, BitVec.ofInt_toInt, BitVec.ofInt_toInt]

/-- Table OP-5 gives what `aluResult` computes. -/
theorem aluResult_of_tableOp5 {o : Op} {a b : Word} {x : Int} {c : Bool} (h : tableOp5 o.mn a b = some (x, c)) (old : Word) :
    aluResult o a b old = (wrap36 (if c then clip36 x else x), c && decide (clip36 x ≠ x)) := by
  unfold tableOp5 at h
  unfold aluResult
  split at h <;> cases h <;> simp only [*, if_true, Bool.false_eq_true, if_false, Bool.true_and, Bool.false_and, satResult_eq_clip36, wordOf_eq_wrap36,
    wrap36_mul, wrap36_natCast, mulqExact]

/-! ### Tables OP-2 to OP-5 together -/

theorem aluClass_of_tableOp2 {m : Mn} {a b : Word} {x : Int × Bool} (h : tableOp2 m a b = some x) : m.aluClass = some 2 := by
  unfold tableOp2 at h
  split at h <;> cases h <;> rfl

theorem aluClass_of_tableOp3 {m : Mn} {a b : Word} {x : Bool} (h : tableOp3 m a b = some x) : m.aluClass = some 2 := by
  unfold tableOp3 at h
  split at h <;> cases h <;> rfl

theorem aluClass_of_tableOp4 {o : Op} {a b old : Word} {x : Int} (h : tableOp4 o a b old = some x) : o.mn.aluClass = some 2 := by
  unfold tableOp4 at h
  split at h <;> cases h <;> simp only [*, Mn.aluClass]

theorem aluClass_of_tableOp5 {m : Mn} {a b : Word} {x : Int × Bool} (h : tableOp5 m a b = some x) : m.aluClass = some 3 := by
  unfold tableOp5 at h
  split at h <;> cases h <;> rfl

/-- An operation that the tables know is of class A or M, and writes what they give after the steps that they give. -/
theorem aluResult_of_tableResult {o : Op} {a b old : Word} {x : Word × Nat × Bool} (h : tableResult o a b old = some x) :
    o.mn.aluClass = some x.2.1 ∧ aluResult o a b old = (x.1, x.2.2) := by
  unfold tableResult at h
  split at h
  · next h2 => cases h; exact ⟨aluClass_of_tableOp2 h2, aluResult_of_tableOp2 h2 old⟩
  · next h3 => cases h; exact ⟨aluClass_of_tableOp3 h3, aluResult_of_tableOp3 h3 old⟩
  · next h4 => cases h; exact ⟨aluClass_of_tableOp4 h4, aluResult_of_tableOp4 h4⟩
  · next h5 => cases h; exact ⟨aluClass_of_tableOp5 h5, aluResult_of_tableOp5 h5 old⟩
  · cases h

/-- An operation of class A or M is no long, memory or queue operation. -/
theorem not_other_of_aluClass {m : Mn} (h : m.aluClass.isSome = true) : m.isLong = false ∧ m.isLoad = false ∧ m.isStore = false ∧ m.isQueue = false := by
  revert h
  cases m <;> decide

/-- An operation of class A or M writes its result at its distance, and sets SAT where it clips. -/
theorem opEffect_of_aluClass {o : Op} {e : Nat} (h : o.mn.aluClass = some e) (cid n : Nat) (pc : Addr) (w : Word) (i d : Nat) (g : Nat → Word) (v : Word)
    (s : State) : opEffect cid n pc w i o d g v s =
      (produce cid d (n + e) (aluResult o (o.argA g) (o.argB g) (g o.rd)).1 s, if (aluResult o (o.argA g) (o.argB g) (g o.rd)).2 then 4 else 0) := by
  obtain ⟨hlong, hload, hstore, hqueue⟩ := not_other_of_aluClass (by rw [h]; rfl)
  unfold opEffect
  dsimp only
  rw [hlong, hload, hstore, hqueue, h]
  rfl

end Sys2Proof.Machine
end

section
/-! What the opening of a step and the step of a word change (R123, R145, R146, R164), and the statement O11. -/

namespace Sys2Proof.Machine

/-! ### What stands in the state of a running context -/

/-- A running context is not as at reset, so that it reads back once it is set. -/
theorem State.ctx_setCtx_running {x : Ctx} (h : x.st = .running) (k : Nat) (s : State) : (s.setCtx k x).ctx k = x :=
  State.ctx_setCtx_of_ne (fun hx => absurd (hx ▸ h) (by decide : Ctx.init.st ≠ .running)) ..

/-- A unit that is not as at reset reads back once it is set. -/
theorem State.unit_setUnit_of_ne {x : UnitSt} (h : x ≠ UnitSt.init) (k : Nat) (s : State) : (s.setUnit k x).unit k = x := Sparse.get_put_self _ _ h _

/-- A unit that runs a context reads back once it is set. -/
theorem State.unit_setUnit_run {x : UnitSt} {k : Nat} (h : x.run = some k) (u : Nat) (s : State) : (s.setUnit u x).unit u = x :=
  State.unit_setUnit_of_ne (fun hx => by rw [hx] at h; cases h) ..

theorem State.ctx_modCtx_running {s : State} {k : Nat} {f : Ctx → Ctx} (h : (f (s.ctx k)).st = .running) : (s.modCtx k f).ctx k = f (s.ctx k) :=
  State.ctx_setCtx_running h ..

theorem State.unit_modUnit_run {s : State} {u k : Nat} {f : UnitSt → UnitSt} (h : (f (s.unit u)).run = some k) : (s.modUnit u f).unit u = f (s.unit u) :=
  State.unit_setUnit_run h ..

/-- `t` differs from `s` in contexts and units alone. -/
def StepOnly (s t : State) : Prop := t = { s with ctxs := t.ctxs, units := t.units }

theorem StepOnly.trans {s t r : State} (h : StepOnly s t) (h2 : StepOnly t r) : StepOnly s r := by
  unfold StepOnly at *
  rw [h2, h]

theorem stepOnly_setCtx (k : Nat) (x : Ctx) (s : State) : StepOnly s (s.setCtx k x) := rfl

theorem stepOnly_setUnit (k : Nat) (x : UnitSt) (s : State) : StepOnly s (s.setUnit k x) := rfl

theorem StepOnly.quiet {s t : State} (h : StepOnly s t) (hs : Quiet s) : Quiet t := by
  rw [h]
  exact hs

/-- `t` differs from `s` in contexts, units and free values alone. -/
def UnitsOnly (s t : State) : Prop := t = { s with ctxs := t.ctxs, units := t.units, free := t.free }

theorem UnitsOnly.trans {s t r : State} (h : UnitsOnly s t) (h2 : UnitsOnly t r) : UnitsOnly s r := by
  unfold UnitsOnly at *
  rw [h2, h]

theorem StepOnly.unitsOnly {s t : State} (h : StepOnly s t) : UnitsOnly s t := by
  unfold UnitsOnly
  rw [h]

/-! ### The opening of a step (R146) -/

/-- Of the state only the long operations of unit `u` and free values have changed. -/
structure LopsOnly (u : Nat) (s t : State) : Prop where
  rest  : t = { s with units := t.units, free := t.free }
  other : ∀ v, v ≠ u → t.unit v = s.unit v
  own   : ∀ k, (s.unit u).run = some k → t.unit u = { s.unit u with lops := (t.unit u).lops }

theorem LopsOnly.refl (u : Nat) (s : State) : LopsOnly u s s := ⟨rfl, fun _ _ => rfl, fun _ _ => rfl⟩

theorem LopsOnly.trans {u : Nat} {s t r : State} (h : LopsOnly u s t) (h2 : LopsOnly u t r) : LopsOnly u s r where
  rest := by rw [h2.rest, h.rest]
  other v hv := (h2.other v hv).trans (h.other v hv)
  own k hk := by rw [h2.own k (by rw [h.own k hk]; exact hk), h.own k hk]

theorem LopsOnly.ctx {u : Nat} {s t : State} (h : LopsOnly u s t) (j : Nat) : t.ctx j = s.ctx j := by rw [h.rest]; rfl

theorem LopsOnly.run {u k : Nat} {s t : State} (h : LopsOnly u s t) (hk : (s.unit u).run = some k) : (t.unit u).run = some k := by rw [h.own k hk]; exact hk

theorem LopsOnly.unitsOnly {u : Nat} {s t : State} (h : LopsOnly u s t) : UnitsOnly s t := by
  unfold UnitsOnly
  rw [h.rest]

theorem lopsOnly_modUnit (u : Nat) (f : List Lop → List Lop) (s : State) : LopsOnly u s (s.modUnit u (fun x => { x with lops := f x.lops })) where
  rest := rfl
  other v hv := State.unit_setUnit_ne _ hv _
  own k hk := by rw [State.unit_modUnit_run (f := fun x => { x with lops := f x.lops }) hk]

/-- The result of a long operation in flight may become ready for reads (R110). -/
def readyLop (u : Nat) (s : State) (l : Lop) : State :=
  if l.written then s
  else if s.anyBool.1 then
    s.anyBool.2.modUnit u (fun x => { x with lops := x.lops.map (fun p => if p.slot = l.slot then { p with written := true } else p) })
  else s.anyBool.2

theorem earlyWrites_eq (u : Nat) (s : State) : earlyWrites u s = (s.unit u).lops.foldl (readyLop u) s := rfl

theorem lopsOnly_readyLop (u : Nat) (s : State) (l : Lop) : LopsOnly u s (readyLop u s l) := by
  have hfree : LopsOnly u s s.anyBool.2 := ⟨rfl, fun _ _ => rfl, fun _ _ => rfl⟩
  unfold readyLop
  split
  · exact .refl u s
  · split
    · exact hfree.trans (lopsOnly_modUnit u _ _)
    · exact hfree

theorem lopsOnly_earlyWrites (u : Nat) (s : State) : LopsOnly u s (earlyWrites u s) := by
  rw [earlyWrites_eq]
  generalize (s.unit u).lops = l
  induction l generalizing s with
  | nil => exact .refl u s
  | cons p l ih => exact (lopsOnly_readyLop u s p).trans (ih _)

section
variable {cid : Nat} {s : State}

theorem commitFrom_st (n : Nat) (l : List Pend) (x : Ctx) (kept : List Pend) : (commitFrom n l (x, kept)).1.st = x.st := by
  induction l generalizing x kept with
  | nil => rfl
  | cons p l ih =>
    have hw : (x.write p).st = x.st := by
      unfold Ctx.write Ctx.setG
      split
      · split <;> rfl
      all_goals rfl
    unfold commitFrom
    split
    · rw [ih, hw]
    · exact ih ..

theorem Ctx.commit_st (x : Ctx) (n : Nat) : (x.commit n).st = x.st := commitFrom_st ..

theorem ctx_openStep_ne {j n : Nat} (h : j ≠ cid) : (openStep cid n s).ctx j = s.ctx j := by
  rw [openStep, (lopsOnly_earlyWrites ..).ctx, State.modCtx_eq, State.ctx_setCtx_ne _ h]

theorem ctx_openStep {n : Nat} (h : (s.ctx cid).st = .running) : (openStep cid n s).ctx cid = (s.ctx cid).commit n := by
  rw [openStep, (lopsOnly_earlyWrites ..).ctx, State.modCtx_eq, State.ctx_setCtx_running (by rw [Ctx.commit_st, h])]

theorem ctx_opened (h : (s.ctx cid).st = .running) : (opened cid s).ctx cid = (s.ctx cid).commit (nextStep cid s) := ctx_openStep h

theorem running_opened (h : (s.ctx cid).st = .running) : ((opened cid s).ctx cid).st = .running := by
  rw [ctx_opened h, Ctx.commit_st, h]

theorem unitsOnly_opened : UnitsOnly s (opened cid s) := (stepOnly_setCtx ..).unitsOnly.trans (lopsOnly_earlyWrites ..).unitsOnly

theorem unit_opened_ne {v : Nat} (h : v ≠ unitOf cid) : (opened cid s).unit v = s.unit v := (lopsOnly_earlyWrites ..).other v h

theorem unit_opened {k : Nat} (h : (s.unit (unitOf cid)).run = some k) :
    (opened cid s).unit (unitOf cid) = { s.unit (unitOf cid) with lops := ((opened cid s).unit (unitOf cid)).lops } :=
  (lopsOnly_earlyWrites (unitOf cid) (s.modCtx cid _)).own k h

theorem run_opened {k : Nat} (h : (s.unit (unitOf cid)).run = some k) : ((opened cid s).unit (unitOf cid)).run = some k :=
  (lopsOnly_earlyWrites (unitOf cid) (s.modCtx cid _)).run h

end

/-! ### The step of a word (R123, R145, R164) -/

section
variable (x : UnitSt)

/-- Requests of granules leave all of a unit but them. -/
theorem UnitSt.ask_eq (g : Nat) (k : Option Nat) : x.ask g k = { x with freq := (x.ask g k).freq } := by
  unfold UnitSt.ask
  split <;> rfl

theorem UnitSt.request_eq (g : Nat) : x.request g = { x with freq := (x.request g).freq } := by
  unfold UnitSt.request
  split
  · rfl
  · exact x.ask_eq g none

/-- A granule entered leaves all of a unit but its fetch buffer and requests. -/
theorem UnitSt.enter_eq (g : Nat) : x.enter g = { x with fbuf := x.fbuf.filter (fun f => decide (g ≤ f.g ∧ f.g ≤ g + 2)), freq := (x.enter g).freq } := by
  unfold UnitSt.enter
  dsimp only
  split
  · rw [UnitSt.request_eq, UnitSt.request_eq]
  · rw [UnitSt.request_eq]

theorem UnitSt.run_enter (g : Nat) : (x.enter g).run = x.run := by rw [x.enter_eq g]

theorem UnitSt.run_reachTarget (g : Option Nat) (more : Bool) : (x.reachTarget g more).run = x.run := by
  unfold UnitSt.reachTarget
  dsimp only
  split
  · rw [UnitSt.request_eq, UnitSt.request_eq, UnitSt.request_eq]
  · rfl

theorem UnitSt.run_tookStep (t : Nat) : (x.tookStep t).run = x.run := rfl

end

/-- Issue enters the granule of the next word, if the word lies in the instruction store (R164). -/
def UnitSt.enterAt (o : Option Nat) (y : UnitSt) : UnitSt :=
  match o with
  | some g => y.enter g
  | none => y

theorem UnitSt.run_enterAt (o : Option Nat) (y : UnitSt) : (y.enterAt o).run = y.run := by
  cases o with
  | none => rfl
  | some g => exact y.run_enter g

/-- The context after the step of a word, before its next address: the step is counted, and it waits no longer. -/
def steppedCtx (cid : Nat) (s : State) : Ctx := { s.ctx cid with actSteps := (s.ctx cid).actSteps + 1, wait := .none }

/-- The state of a step before the next address. -/
def countedStep (cid : Nat) (s : State) : State :=
  (countStep cid (s.modUnit (unitOf cid) (UnitSt.enterAt (codeGran (unitOf cid / 8) (s.ctx cid).pc)))).modCtx cid (fun y => { y with wait := .none })

theorem stepped_eq (cid : Nat) (s : State) : stepped cid s = advancePc cid (countedStep cid s) := rfl

section
variable {cid k : Nat} {s : State}

theorem ctx_countStep (hst : (s.ctx cid).st = .running) : (countStep cid s).ctx cid = { s.ctx cid with actSteps := (s.ctx cid).actSteps + 1 } :=
  State.ctx_modCtx_running (s := s.modUnit (unitOf cid) (fun x => x.tookStep s.clock.tick)) (f := fun x => { x with actSteps := x.actSteps + 1 }) hst

theorem unit_countStep (hrun : (s.unit (unitOf cid)).run = some k) :
    (countStep cid s).unit (unitOf cid) = (s.unit (unitOf cid)).tookStep s.clock.tick :=
  State.unit_modUnit_run (f := fun x => x.tookStep s.clock.tick) hrun

theorem ctx_countedStep (hst : (s.ctx cid).st = .running) : (countedStep cid s).ctx cid = steppedCtx cid s := by
  have hc := ctx_countStep (s := s.modUnit (unitOf cid) (UnitSt.enterAt (codeGran (unitOf cid / 8) (s.ctx cid).pc))) hst
  unfold countedStep
  rw [State.ctx_modCtx_running (by rw [hc]; exact hst), hc]
  rfl

theorem unit_countedStep (hrun : (s.unit (unitOf cid)).run = some k) :
    (countedStep cid s).unit (unitOf cid) =
      ((s.unit (unitOf cid)).enterAt (codeGran (unitOf cid / 8) (s.ctx cid).pc)).tookStep s.clock.tick := by
  unfold countedStep
  generalize codeGran (unitOf cid / 8) (s.ctx cid).pc = o
  have hk : ((s.unit (unitOf cid)).enterAt o).run = some k := (UnitSt.run_enterAt ..).trans hrun
  have hu : (s.modUnit (unitOf cid) (UnitSt.enterAt o)).unit (unitOf cid) = (s.unit (unitOf cid)).enterAt o := State.unit_modUnit_run hk
  rw [State.modCtx_eq, State.setCtx_unit, unit_countStep (by rw [hu]; exact hk), hu, State.modUnit_eq, State.setUnit_clock]

/-- The target at the next position is reached (R123). -/
theorem advancePc_target {a : Addr} {l : List (Nat × Addr)} (h : (s.ctx cid).targets = (1, a) :: l) :
    advancePc cid s = (s.setCtx cid { s.ctx cid with pc := a, targets := l.map (fun e => (e.1 - 1, e.2)) }).modUnit (unitOf cid)
      (fun y => y.reachTarget (codeGran (clusterOf cid) a) (!l.isEmpty)) := by
  unfold advancePc
  simp [h]

/-- No target is at the next position: the address counts up, and every target comes nearer. -/
theorem advancePc_next (h : ∀ e ∈ (s.ctx cid).targets, 2 ≤ e.1) :
    advancePc cid s = s.setCtx cid { s.ctx cid with pc := (s.ctx cid).pc + 1, targets := (s.ctx cid).targets.map (fun e => (e.1 - 1, e.2)) } := by
  unfold advancePc
  dsimp only
  split
  · next t l hl =>
    obtain ⟨e, rest, he, h0, -⟩ := List.map_eq_cons_iff.mp hl
    have h2 := h e (by simp [he])
    have h1 : e.1 - 1 = 0 := congrArg Prod.fst h0
    omega
  · rfl

/-- The next address changes the PC and the pending targets of the context, and where a target is reached the unit's fetch. -/
theorem advancePc_cases (cid : Nat) (s : State) : ∃ (pc : Addr) (ts : List (Nat × Addr)),
    let t := s.setCtx cid { s.ctx cid with pc := pc, targets := ts }
    advancePc cid s = t ∨ ∃ g more, advancePc cid s = t.setUnit (unitOf cid) ((s.unit (unitOf cid)).reachTarget g more) := by
  unfold advancePc
  dsimp only
  split
  · exact ⟨_, _, .inr ⟨_, _, rfl⟩⟩
  · exact ⟨_, _, .inl rfl⟩

/-- The step of a word leaves all but its context and its unit. -/
theorem stepOnly_stepped (cid : Nat) (s : State) : StepOnly s (stepped cid s) := by
  have hcounted : StepOnly s (countedStep cid s) :=
    (((stepOnly_setUnit ..).trans (stepOnly_setUnit ..)).trans (stepOnly_setCtx ..)).trans (stepOnly_setCtx ..)
  rw [stepped_eq]
  obtain ⟨pc, ts, h | ⟨g, more, h⟩⟩ := advancePc_cases cid (countedStep cid s)
  · rw [h]
    exact hcounted.trans (stepOnly_setCtx ..)
  · rw [h]
    exact (hcounted.trans (stepOnly_setCtx ..)).trans (stepOnly_setUnit ..)

theorem ctx_stepped_ne {c : Nat} (hc : c ≠ cid) : (stepped cid s).ctx c = s.ctx c := by
  have hcounted : (countedStep cid s).ctx c = s.ctx c := by
    unfold countedStep countStep
    rw [State.modCtx_eq, State.ctx_setCtx_ne _ hc, State.modCtx_eq, State.ctx_setCtx_ne _ hc, State.modUnit_eq, State.setUnit_ctx, State.modUnit_eq,
      State.setUnit_ctx]
  rw [stepped_eq]
  obtain ⟨pc, ts, h | ⟨g, more, h⟩⟩ := advancePc_cases cid (countedStep cid s)
  · rw [h, State.ctx_setCtx_ne _ hc, hcounted]
  · rw [h, State.setUnit_ctx, State.ctx_setCtx_ne _ hc, hcounted]

theorem unit_stepped_ne {v : Nat} (hv : v ≠ unitOf cid) : (stepped cid s).unit v = s.unit v := by
  have hcounted : (countedStep cid s).unit v = s.unit v := by
    unfold countedStep countStep
    rw [State.modCtx_eq, State.setCtx_unit, State.modCtx_eq, State.setCtx_unit, State.modUnit_eq, State.unit_setUnit_ne _ hv, State.modUnit_eq,
      State.unit_setUnit_ne _ hv]
  rw [stepped_eq]
  obtain ⟨pc, ts, h | ⟨g, more, h⟩⟩ := advancePc_cases cid (countedStep cid s)
  · rw [h, State.setCtx_unit, hcounted]
  · rw [h, State.unit_setUnit_ne _ hv, State.setCtx_unit, hcounted]

/-- A running context after the step of a word: only the step count, the wait, the PC and the pending targets may have changed. -/
theorem ctx_stepped (hst : (s.ctx cid).st = .running) :
    ∃ pc ts, (stepped cid s).ctx cid = { s.ctx cid with actSteps := (s.ctx cid).actSteps + 1, wait := .none, pc := pc, targets := ts } := by
  rw [stepped_eq]
  obtain ⟨pc, ts, h | ⟨g, more, h⟩⟩ := advancePc_cases cid (countedStep cid s)
  · exact ⟨pc, ts, by rw [h, ctx_countedStep hst, State.ctx_setCtx_running (x := { steppedCtx cid s with pc := pc, targets := ts }) hst]; rfl⟩
  · exact ⟨pc, ts, by rw [h, State.setUnit_ctx, ctx_countedStep hst, State.ctx_setCtx_running (x := { steppedCtx cid s with pc := pc, targets := ts }) hst]; rfl⟩

theorem running_stepped (hst : (s.ctx cid).st = .running) : ((stepped cid s).ctx cid).st = .running := by
  obtain ⟨pc, ts, h⟩ := ctx_stepped hst
  rw [h, hst]

theorem run_stepped (hrun : (s.unit (unitOf cid)).run = some k) : ((stepped cid s).unit (unitOf cid)).run = some k := by
  have hcounted : ((countedStep cid s).unit (unitOf cid)).run = some k := by rw [unit_countedStep hrun, UnitSt.run_tookStep, UnitSt.run_enterAt, hrun]
  rw [stepped_eq]
  obtain ⟨pc, ts, h | ⟨g, more, h⟩⟩ := advancePc_cases cid (countedStep cid s)
  · rw [h, State.setCtx_unit, hcounted]
  · rw [h, State.unit_setUnit_run (k := k) (by rw [UnitSt.run_reachTarget, hcounted]), UnitSt.run_reachTarget, hcounted]

end

/-- Settles O11: the step is counted in the context and in the unit, and then the next address is that of a target or counts up. -/
theorem stepOfAWord : Obligations.StepOfAWord := by
  unfold Obligations.StepOfAWord
  intro cid s x z y t x1 hst hrun
  have hctx := ctx_countedStep hst
  have hunit := unit_countedStep hrun
  have htargets : ((countedStep cid s).ctx cid).targets = x.targets := by rw [hctx]; rfl
  have hy : z.enterAt (codeGran (unitOf cid / 8) x.pc) = y := by
    unfold y
    generalize codeGran (unitOf cid / 8) x.pc = o
    cases o <;> rfl
  have hyrun : y.run = some (cid % 16) := by rw [← hy, UnitSt.run_enterAt, hrun]
  rw [hy] at hunit
  clear_value y
  refine ⟨fun a l hl => ?_, fun hl => ?_, fun c => ctx_stepped_ne, fun v => unit_stepped_ne, stepOnly_stepped cid s⟩
  · have ht : t = _ := (stepped_eq cid s).trans (advancePc_target (htargets.trans hl))
    have hreach : ((y.tookStep s.clock.tick).reachTarget (codeGran (clusterOf cid) a) (!l.isEmpty)).run = some (cid % 16) := by
      rw [UnitSt.run_reachTarget, UnitSt.run_tookStep, hyrun]
    rw [ht, hctx, State.modUnit_eq, State.setCtx_unit, hunit, State.setUnit_ctx]
    exact ⟨State.ctx_setCtx_running (x := { x1 with pc := a, targets := l.map (fun e => (e.1 - 1, e.2)) }) hst .., State.unit_setUnit_run hreach ..⟩
  · have ht : t = _ := (stepped_eq cid s).trans (advancePc_next (by rw [htargets]; exact hl))
    rw [ht, hctx, State.setCtx_unit, hunit]
    exact ⟨State.ctx_setCtx_running (x := { x1 with pc := x.pc + 1, targets := x.targets.map (fun e => (e.1 - 1, e.2)) }) hst .., rfl⟩

end Sys2Proof.Machine
end

section
/-! The row of a single word: its step and then its operation; what a fixed-distance producer and the sticky bits change; and the statement O1. -/

namespace Sys2Proof.Machine

/-! ### Producers and sticky bits (R71, R96, R111, R146) -/

section
variable {cid d due : Nat} {v : Word} {s : State}

theorem lopsOnly_claim : LopsOnly (unitOf cid) s (claim cid d s) :=
  lopsOnly_modUnit (unitOf cid) (fun (l : List Lop) => l.flatMap (fun (l : Lop) => if l.cid = cid then suppressLops d [l] else [l])) s

/-- A context that runs holds a result until it is due; g0 takes none. -/
theorem ctx_produce (h : (s.ctx cid).st = .running) :
    (produce cid d due v s).ctx cid =
      { s.ctx cid with pend := (s.ctx cid).pend ++ (if d = 0 then [] else [{ dst := .g d, val := v, due := due }]) } := by
  have hclaim : ((claim cid d s).ctx cid).st = .running := by rw [lopsOnly_claim.ctx, h]
  unfold produce
  split
  · simp
  · rw [State.ctx_modCtx_running (by simp [hclaim]), if_pos hclaim, lopsOnly_claim.ctx]

theorem ctx_produce_ne {j : Nat} (h : j ≠ cid) : (produce cid d due v s).ctx j = s.ctx j := by
  unfold produce
  split
  · rfl
  · rw [State.modCtx_eq, State.ctx_setCtx_ne _ h, lopsOnly_claim.ctx]

theorem unit_produce_ne {j : Nat} (h : j ≠ unitOf cid) : (produce cid d due v s).unit j = s.unit j := by
  unfold produce
  split
  · rfl
  · rw [State.modCtx_eq, State.setCtx_unit, lopsOnly_claim.other j h]

theorem unitsOnly_produce : UnitsOnly s (produce cid d due v s) := by
  unfold produce
  split
  · rfl
  · exact lopsOnly_claim.unitsOnly.trans (stepOnly_setCtx ..).unitsOnly

theorem ctx_setSticky {sets : Nat} (h : (s.ctx cid).st = .running) :
    (setSticky cid sets s).ctx cid = { s.ctx cid with sticky := (s.ctx cid).sticky ||| sets } := by
  unfold setSticky
  split
  · next h0 => rw [h0, Nat.or_zero]
  · rw [State.ctx_modCtx_running (by exact h)]

theorem ctx_setSticky_ne {j sets : Nat} (h : j ≠ cid) : (setSticky cid sets s).ctx j = s.ctx j := by
  unfold setSticky
  split
  · rfl
  · rw [State.modCtx_eq, State.ctx_setCtx_ne _ h]

theorem unit_setSticky {j sets : Nat} : (setSticky cid sets s).unit j = s.unit j := by
  unfold setSticky
  split
  · rfl
  · rw [State.modCtx_eq, State.setCtx_unit]

theorem unitsOnly_setSticky {sets : Nat} : UnitsOnly s (setSticky cid sets s) := by
  unfold setSticky
  split
  · rfl
  · exact (stepOnly_setCtx ..).unitsOnly

end

/-! ### The row of a single word whose condition holds and which is ready -/

/-- The bit SAT traps nothing (R143). -/
theorem statusCode_ite_sat (b : Bool) (en : Nat) : statusCode (if b then 4 else 0) en = 0 := by cases b <;> simp [statusCode]

/-- The mnemonics that reach other agents at once. -/
def Mn.ends (m : Mn) : Bool := m == .yield || m == .sleep || m == .trap

theorem not_ending_of_ends {m : Mn} (h : m.ends = false) : ¬ (m = .yield ∨ m = .sleep ∨ m = .trap) := by
  rintro (rfl | rfl | rfl) <;> cases h

/-- The mnemonics, MFC apart, that nothing makes wait or trap at issue. -/
def Mn.plain (m : Mn) : Bool :=
  !(m.isLoad || m.isStore || m.isQueue || m.isLong || m == .waitl || m == .yield || m == .fence || m == .trap || m == .mfc)

theorem plain_of_aluClass {m : Mn} (h : m.aluClass.isSome = true) : m.plain = true ∧ m.ends = false := by
  revert h
  cases m <;> decide

theorem opReady_of_plain {o : Op} (h : o.mn.plain = true) (cid : Nat) (w : Word) (i : Nat) (g : Nat → Word) (s : State) :
    opReady cid w i o g s = .go := by
  simp only [Mn.plain, Bool.not_eq_true', Bool.or_eq_false_iff, beq_eq_false_iff_ne] at h
  obtain ⟨⟨⟨⟨⟨⟨⟨⟨hload, hstore⟩, hqueue⟩, hlong⟩, hwaitl⟩, hyield⟩, hfence⟩, htrap⟩, -⟩ := h
  simp only [opReady, hlong, hload, hstore, hqueue, Bool.or_self, Bool.false_eq_true, if_false]

/-- A STATUS trap needs an enabled bit that is set. -/
theorem statusTrap_one_none {cid sets : Nat} {o : Op} {s : State} (h : statusCode sets (s.ctx cid).trapEn = 0) : statusTrap cid [(0, o, sets)] s = s := by
  have hnone : ¬ statusCode sets (if (s.ctx cid).st = .running then (s.ctx cid).trapEn else 0) ≠ 0 := by
    split
    · simp [h]
    · simp [statusCode]
  unfold statusTrap
  simp [hnone]

section
variable {u k c : Nat} {w : Word} {o : Op} {m : Mn} {s t : State} {q : State × Nat}

/-- Unit `u` may issue the single word `w` of mnemonic `m`, which is not MFC: it stands at issue, its condition holds, and nothing makes it wait or
trap. -/
structure Issues (u k c : Nat) (w : Word) (o : Op) (m : Mn) (s : State) : Prop where
  at_   : AtWord u k w (.one c o) s
  mn    : o.mn = m
  holds : condHolds c ((opened (16 * u + k) s).reads (16 * u + k)) = true
  notMfc : m ≠ .mfc
  ready : opReady (16 * u + k) w 0 o ((opened (16 * u + k) s).reads (16 * u + k)) (opened (16 * u + k) s) = .go

theorem Issues.of_plain (h : AtWord u k w (.one c o) s) (hm : o.mn = m) (hp : m.plain = true)
    (hc : condHolds c ((opened (16 * u + k) s).reads (16 * u + k)) = true) : Issues u k c w o m s :=
  ⟨h, hm, hc, (by rintro rfl; cases hp), opReady_of_plain (by rw [hm]; exact hp) ..⟩

/-- What the operation of the word at issue does, after the step of the word, and the status bits that it sets. -/
def effectOf (u k : Nat) (w : Word) (o : Op) (s : State) : State × Nat :=
  let cid := 16 * u + k
  let so := opened cid s
  opEffect cid (nextStep cid s) (so.ctx cid).pc w 0 o o.rd (so.reads cid) 0 (stepped cid so)

/-- The row of a word that issues: the step, the operation, the status bits and their trap. -/
theorem Issues.row (h : Issues u k c w o m s) (hq : effectOf u k w o s = q) :
    exec (wordRow m u w) s = .next (afterWord m (statusTrap (16 * u + k) [(0, o, q.2)] (setSticky (16 * u + k) q.2 q.1))) := by
  have hholds : (Fj.one c o).holds m = true := by simp [Fj.holds, h.mn]
  rw [exec_wordRow_go h.at_ hholds (wordReady_one h.holds h.ready), runWord_one h.holds (by rw [h.mn]; exact h.notMfc), ← hq]
  rfl

/-- A word that sets no status bit. -/
theorem Issues.row_plain (h : Issues u k c w o m s) (hq : effectOf u k w o s = (t, 0)) :
    exec (wordRow m u w) s = .next (afterWord m t) := by
  rw [h.row hq, statusTrap_cons_zero, setSticky_zero]
  rfl

/-- A word that reaches no other agent and sets no status bit: only faults are settled. -/
theorem Issues.row_settled (h : Issues u k c w o m s) (hm : m.ends = false) (hq : effectOf u k w o s = (t, 0)) :
    exec (wordRow m u w) s = .next (settleFaults t) := by
  rw [h.row_plain hq, afterWord, if_neg (not_ending_of_ends hm)]

/-- A word that reaches no other agent, raises no fault and sets no status bit. -/
theorem Issues.row_quiet (h : Issues u k c w o m s) (hm : m.ends = false) (hq : effectOf u k w o s = (t, 0)) (ht : Quiet t) :
    exec (wordRow m u w) s = .next t := by
  rw [h.row_settled hm hq, settleFaults_quiet ht]

/-- A word that reaches no other agent and raises no fault, and whose status bits trap nothing. -/
theorem Issues.row_sticky {sets : Nat} (h : Issues u k c w o m s) (hm : m.ends = false) (hq : effectOf u k w o s = (t, sets))
    (hs : statusCode sets ((setSticky (16 * u + k) sets t).ctx (16 * u + k)).trapEn = 0) (ht : Quiet t) :
    exec (wordRow m u w) s = .next (setSticky (16 * u + k) sets t) := by
  rw [h.row hq, statusTrap_one_none hs, afterWord_quiet (not_ending_of_ends hm) (quiet_setSticky.mpr ht)]

/-- The state after the step of a word at issue is quiet. -/
theorem AtWord.quiet_stepped {f : Fj} (h : AtWord u k w f s) : Quiet (stepped (16 * u + k) (opened (16 * u + k) s)) :=
  Machine.quiet_stepped.mpr (quiet_opened.mpr h.quiet)

theorem AtWord.unitOf_eq {f : Fj} (h : AtWord u k w f s) : unitOf (16 * u + k) = u := by
  have := h.ctx
  unfold unitOf
  omega

theorem AtWord.running_opened {f : Fj} (h : AtWord u k w f s) : ((opened (16 * u + k) s).ctx (16 * u + k)).st = .running :=
  Machine.running_opened h.running

theorem AtWord.running_stepped {f : Fj} (h : AtWord u k w f s) :
    ((stepped (16 * u + k) (opened (16 * u + k) s)).ctx (16 * u + k)).st = .running :=
  Machine.running_stepped h.running_opened

end

/-- Settles O1: what the tables give is what the operation computes; the frame is that of the opening, of the step and of one producer. -/
theorem resultWord : Obligations.ResultWord := by
  unfold Obligations.ResultWord
  intro u k c w o s x h cid so g t hc hx
  obtain ⟨hclass, hresult⟩ := aluResult_of_tableResult hx
  obtain ⟨hplain, hends⟩ := plain_of_aluClass (m := o.mn) (by rw [hclass]; rfl)
  have hi : Issues u k c w o o.mn s := .of_plain h rfl hplain hc
  have heffect : effectOf u k w o s = (produce cid o.rd (nextStep cid s + x.2.1) x.1 (stepped cid so), if x.2.2 then 4 else 0) := by
    refine (opEffect_of_aluClass hclass ..).trans ?_
    rw [hresult]
  have hrun := h.running_stepped
  have hrunp := (ctx_produce (d := o.rd) (due := nextStep cid s + x.2.1) (v := x.1) hrun)
  refine ⟨?_, ?_, fun v hv => ?_, fun j hj _ => ?_, fun _ => ?_⟩
  · exact hi.row_sticky hends heffect (statusCode_ite_sat ..) (quiet_produce.mpr h.quiet_stepped)
  · exact (unitsOnly_opened.trans (stepOnly_stepped ..).unitsOnly).trans (unitsOnly_produce.trans unitsOnly_setSticky)
  · rw [← h.unitOf_eq] at hv
    exact unit_setSticky.trans ((unit_produce_ne hv).trans ((unit_stepped_ne hv).trans (unit_opened_ne hv)))
  · exact (ctx_setSticky_ne hj).trans ((ctx_produce_ne hj).trans ((ctx_stepped_ne hj).trans (ctx_openStep_ne hj)))
  · have ht : t.ctx cid = _ := (ctx_setSticky (by rw [hrunp]; exact hrun)).trans (by rw [hrunp])
    obtain ⟨pc, ts, hs⟩ := ctx_stepped h.running_opened
    rw [ht, hs]
    refine ⟨rfl, rfl, rfl, rfl, rfl, rfl, rfl, rfl, ?_, h.running_opened, rfl⟩
    cases x.2.2
    · exact Nat.or_zero _
    · rfl

end Sys2Proof.Machine
end

section
/-! The statements O4 and O5: the accumulators (R103 to R105). -/

namespace Sys2Proof.Machine

/-! ### An exact sum in 80 bits (Table EN-6) -/

theorem ofNat_lowBits (n : Nat) (x : Int) : BitVec.ofNat n (lowBits n x) = BitVec.ofInt n x := by
  apply BitVec.eq_of_toNat_eq
  have hn : ((2 ^ n : Nat) : Int) = 2 ^ n := by push_cast; rfl
  have hlt : (x % 2 ^ n).toNat < 2 ^ n := by
    rw [Int.toNat_lt (Int.emod_nonneg x (by positivity)), hn]
    exact Int.emod_lt_of_pos x (by positivity)
  rw [lowBits, BitVec.toNat_ofNat, BitVec.toNat_ofInt, Nat.mod_eq_of_lt hlt, hn]

theorem acc80_eq (x : Int) : acc80 x = BitVec.ofInt 80 x := ofNat_lowBits ..

/-- R103, R104: the unsigned product is that of func bit 3. -/
theorem macExact_eq (m : Acc) (func : Nat) (a b : Word) :
    macExact m func a b =
      (let p : Int := if func / 8 % 2 = 1 then ((a.toNat * b.toNat : Nat) : Int) else a.toInt * b.toInt
       (if func / 4 % 2 = 1 then 0 else m.toInt) + (if func / 2 % 2 = 1 then -p else p)) := by
  have hu : 8 ≤ func % 16 ↔ func / 8 % 2 = 1 := by omega
  simp only [macExact, hu]

/-- R105: what MFA writes, and whether it clips. -/
theorem mfaResult_eq (m : Acc) (func : Nat) :
    mfaResult m func =
      (let shift := func / 2 % 128
       let exact : Int := if func < 256 then m.toInt / 2 ^ shift else if shift = 0 then m.toInt else (m.toInt + 2 ^ (shift - 1)) / 2 ^ shift
       (wrap36 (if func < 256 then exact else clip36 exact), decide (256 ≤ func ∧ clip36 exact ≠ exact))) := by
  unfold mfaResult
  by_cases hs : 256 ≤ func
  · simp only [hs, Nat.not_lt.mpr hs, if_true, if_false, satResult_eq_clip36, true_and]
    split <;> rfl
  · simp only [hs, Nat.not_le.mp hs, if_true, if_false, wordOf_eq_wrap36, false_and, decide_false]

section
variable {u k c : Nat} {w : Word} {o : Op} {s : State}

/-- The run of a MAC-group word: the accumulator takes the exact sum wrapped, and OV tells that it lay outside 80 bits (R103, R104). -/
theorem effectOf_mac (hm : o.mn = .mac ∨ o.mn = .msu ∨ o.mn = .macz ∨ o.mn = .msuz) :
    effectOf u k w o s =
      (let cid := 16 * u + k
       let g := (opened cid s).reads cid
       let t := stepped cid (opened cid s)
       let x := t.ctx cid
       let sum := macExact (if o.func % 2 = 1 then x.m1 else x.m0) o.func (o.argA g) (o.argB g)
       (t.setCtx cid (if o.func % 2 = 1 then { x with m1 := acc80 sum } else { x with m0 := acc80 sum }), if outOf80 sum then 1 else 0)) := by
  obtain ⟨mn⟩ := o
  obtain rfl | rfl | rfl | rfl := hm <;> rfl

theorem effectOf_mta (hm : o.mn = .mta) :
    effectOf u k w o s =
      (let cid := 16 * u + k
       let m := mtaResult (o.argA ((opened cid s).reads cid)) o.func
       ((stepped cid (opened cid s)).modCtx cid (fun x => if o.func % 2 = 1 then { x with m1 := m } else { x with m0 := m }), 0)) := by
  obtain ⟨mn⟩ := o
  cases hm
  rfl

theorem effectOf_mfa (hm : o.mn = .mfa) :
    effectOf u k w o s =
      (let cid := 16 * u + k
       let t := stepped cid (opened cid s)
       let x := t.ctx cid
       let r := mfaResult (if o.func % 2 = 1 then x.m1 else x.m0) o.func
       (produce cid o.rd (nextStep cid s + 3) r.1 t, if r.2 then 4 else 0)) := by
  obtain ⟨mn⟩ := o
  cases hm
  rfl

end

/-- OV traps nothing where the trap of overflow is off (R143). -/
theorem statusCode_ov {en : Nat} (h : en % 2 = 0) : statusCode 1 en = 0 := by simp [statusCode, h]

/-- Settles O4: the exact sum of R103 is that of the model, and OV traps nothing by hypothesis. -/
theorem accumulatorWord : Obligations.AccumulatorWord := by
  unfold Obligations.AccumulatorWord
  refine ⟨fun u k c w o s h => ?_, fun u k c w o s h => ?_⟩
  · intro cid so g x a b p acc sum ov hc hm hov
    have hkind : o.mn.plain = true ∧ o.mn.ends = false := by rcases hm with hm | hm | hm | hm <;> rw [hm] <;> decide
    have hi : Issues u k c w o o.mn s := .of_plain h rfl hkind.1 hc
    let y : Ctx := if o.func % 2 = 1 then { x with m1 := BitVec.ofInt 80 sum } else { x with m0 := BitVec.ofInt 80 sum }
    have heffect := effectOf_mac (u := u) (k := k) (w := w) (s := s) hm
    simp only [macExact_eq, acc80_eq, outOf80, decide_eq_true_eq] at heffect
    have hy : y.st = .running ∧ y.trapEn = x.trapEn := by
      unfold y
      split <;> exact ⟨h.running_stepped, rfl⟩
    have hread : ((stepped cid so).setCtx cid y).ctx cid = y := State.ctx_setCtx_running hy.1 ..
    refine hi.row_sticky (t := (stepped cid so).setCtx cid y) (sets := if ov then 1 else 0) hkind.2 heffect ?_ h.quiet_stepped
    rw [ctx_setSticky (by rw [hread]; exact hy.1), hread]
    dsimp only
    split
    · next hv => rw [hy.2, statusCode_ov (hov hv)]
    · exact statusCode_zero _
  · intro cid so x m hc hm
    have heffect : effectOf u k w o s = ((stepped cid so).setCtx cid (if o.func % 2 = 1 then { x with m1 := m } else { x with m0 := m }), 0) :=
      (effectOf_mta hm).trans (by simp only [mtaResult, acc80_eq]; rfl)
    rw [hm]
    exact (Issues.of_plain h hm rfl hc).row_quiet rfl heffect h.quiet_stepped

/-- Settles O5. -/
theorem mfaWord : Obligations.MfaWord := by
  unfold Obligations.MfaWord
  intro u k c w o s h cid so x m shift exact sat hc hm
  have heffect := effectOf_mfa (u := u) (k := k) (w := w) (s := s) hm
  simp only [mfaResult_eq] at heffect
  rw [hm]
  exact (Issues.of_plain h hm rfl hc).row_sticky rfl heffect (statusCode_ite_sat ..) (quiet_produce.mpr h.quiet_stepped)

end Sys2Proof.Machine
end

section
/-! The statement O10: branches (R122 to R125, Table OP-8). -/

namespace Sys2Proof.Machine

theorem wordOf_eq (i : Int) : wordOf i = BitVec.ofInt 36 i := wordOf_eq_wrap36 i

/-- The mnemonics of Table OP-8. -/
def Mn.isBranch (m : Mn) : Bool := m == .br || m == .call || m == .jr || m == .callr || m == .ret || m == .dbnz

section
variable {u k c n : Nat} {at_ target : Addr} {w : Word} {o : Op} {g : Nat → Word} {m : Mn} {s : State}

theorem kind_of_isBranch (h : m.isBranch = true) : m.plain = true ∧ m.ends = false := by
  revert h
  cases m <;> decide

theorem effectOf_branch (h : o.mn.isBranch = true) :
    effectOf u k w o s = (branchEffect (16 * u + k) (nextStep (16 * u + k) s) ((opened (16 * u + k) s).ctx (16 * u + k)).pc o
      ((opened (16 * u + k) s).reads (16 * u + k)) (stepped (16 * u + k) (opened (16 * u + k) s)), 0) := by
  obtain ⟨mn⟩ := o
  simp only [Mn.isBranch, Bool.or_eq_true, beq_iff_eq] at h
  obtain ((((rfl | rfl) | rfl) | rfl) | rfl) | rfl := h <;> rfl

theorem quiet_takeBranch {cid : Nat} : Quiet (takeBranch cid at_ target s) ↔ Quiet s := Iff.rfl

theorem quiet_produceCtl {cid due : Nat} {dst : Dest} {v : Word} : Quiet (produceCtl cid dst due v s) ↔ Quiet s := Iff.rfl

theorem quiet_branchEffect {cid : Nat} (h : Quiet s) : Quiet (branchEffect cid n at_ o g s) := by
  unfold branchEffect
  dsimp only
  split
  · exact h
  · exact h
  · exact h
  · exact h
  · exact h
  · split
    · exact quiet_produce.mpr h
    · exact quiet_takeBranch.mpr (quiet_produce.mpr h)

/-- A taken branch gives the context its target two positions on, and the unit its granules (R123, R165). -/
theorem takeBranch_eq (hk : k < 16) (s : State) :
    takeBranch (16 * u + k) at_ target s =
      (s.modCtx (16 * u + k) (fun y => { y with targets := y.targets ++ [(2, target)] })).modUnit u (fun y => y.branch (u / 8) at_ target) := by
  have hu : unitOf (16 * u + k) = u := by unfold unitOf; omega
  have hc : clusterOf (16 * u + k) = u / 8 := by unfold clusterOf; omega
  rw [takeBranch, hu, hc]

end

/-- Settles O10: the effect of each mnemonic of Table OP-8, with the target's offset as an integer. -/
theorem branchWord : Obligations.BranchWord := by
  unfold Obligations.BranchWord
  intro u k c w o s h cid so x g n t taken link rel reg near hc
  have hrow {m : Mn} (hm : o.mn = m) (hb : m.isBranch = true) : exec (wordRow m u w) s = .next (branchEffect cid n x.pc o g t) :=
    (Issues.of_plain h hm (kind_of_isBranch hb).1 hc).row_quiet (kind_of_isBranch hb).2 (effectOf_branch (by rw [hm]; exact hb))
      (quiet_branchEffect h.quiet_stepped)
  have htaken (target : Addr) (t : State) : takeBranch cid x.pc target t = taken target t := takeBranch_eq h.ctx t
  have hrel (i : Int) : x.pc + BitVec.ofNat 32 (lowBits 32 i) = x.pc + BitVec.ofInt 32 i := by rw [ofNat_lowBits]
  refine ⟨fun hm => ?_, fun hm => ?_, fun hm => ?_, fun hm => ?_, fun hm => ?_, fun hm => ?_⟩ <;> rw [hrow hm rfl] <;> congr 1
  · simp only [branchEffect, hm, htaken, hrel]; rfl
  · simp only [branchEffect, hm, htaken, hrel]; rfl
  · simp only [branchEffect, hm, htaken, wordOf_eq]; rfl
  · simp only [branchEffect, hm, htaken, wordOf_eq]; rfl
  · simp only [branchEffect, hm, htaken]
  · simp only [branchEffect, hm, htaken, hrel]; rfl

end Sys2Proof.Machine
end

section
/-! The statement O16: SYNC, FENCE, WAITL and SYNC.I (R135 to R137, R159 to R161, R171, Table OP-12). -/

namespace Sys2Proof.Machine

section
variable {u k c : Nat} {w : Word} {o : Op} {m : Mn} {wt : Wait} {s : State}

/-- The row of a single word that is not ready: the unit's context begins the wait (Table PL-1). -/
theorem exec_one_wait (h : AtWord u k w (.one c o) s) (hm : o.mn = m) (hends : m.ends = false)
    (hc : condHolds c ((opened (16 * u + k) s).reads (16 * u + k)) = true)
    (hr : opReady (16 * u + k) w 0 o ((opened (16 * u + k) s).reads (16 * u + k)) (opened (16 * u + k) s) = .wait wt) :
    exec (wordRow m u w) s = .next (settleFaults (beginWait (16 * u + k) wt s)) := by
  have hholds : (Fj.one c o).holds m = true := by simp [Fj.holds, hm]
  have hready : wordReady (16 * u + k) w (runningSlots (.one c o) ((opened (16 * u + k) s).reads (16 * u + k)))
      ((opened (16 * u + k) s).reads (16 * u + k)) (opened (16 * u + k) s) = .wait wt := by
    simp only [runningSlots, hc, if_true, wordReady, List.foldl_cons, List.foldl_nil, hr]
  rw [exec_wordRow_next m h.unit, issue_of_atWord h hholds, afterWord, if_neg (not_ending_of_ends hends)]
  unfold issueReady
  unfold opened at hready
  simp only [hready]

/-! ### SYNC.I (R171) -/

/-- The resume granule of context `j` for a word in granule `o` of the instruction store (R166, R167). -/
def UnitSt.keepAt (x : UnitSt) (o : Option Nat) (j : Nat) (b : Bool) : UnitSt :=
  match o with
  | none => x.setResume j none
  | some g =>
    match (if b then x.fbuf.find? (fun f => f.g = g) else none) with
    | some f => x.setResume j (some f)
    | none => (x.setResume j none).ask g (some j)

/-- The definition is unfolded before it is applied: the kernel then never evaluates `codeGran`, which is costly. -/
theorem UnitSt.keepResume_eq_keepAt (x : UnitSt) (cl j : Nat) (pc : Addr) (b : Bool) : x.keepResume cl j pc b = x.keepAt (codeGran cl pc) j b := by
  have key : ∀ f, f = @UnitSt.keepResume → f x cl j pc b = x.keepAt (codeGran cl pc) j b := by
    intro f hf
    delta UnitSt.keepResume at hf
    subst hf
    beta_reduce
    generalize codeGran cl pc = o
    cases o <;> rfl
  exact key _ rfl

/-- A resume granule kept or asked for leaves all of a unit but resume granules and requests. -/
theorem UnitSt.keepAt_eq (x : UnitSt) (o : Option Nat) (j : Nat) (b : Bool) :
    x.keepAt o j b = { x with resume := (x.keepAt o j b).resume, freq := (x.keepAt o j b).freq } := by
  cases o with
  | none => rfl
  | some g =>
    unfold UnitSt.keepAt
    dsimp only
    split
    · rfl
    · rw [UnitSt.ask_eq]
      rfl

/-- `f` changes of a unit whose fetch buffer is empty only resume granules and requests. -/
def Asks (f : UnitSt → UnitSt) : Prop := ∀ x : UnitSt, x.fbuf = [] → f x = { x with resume := (f x).resume, freq := (f x).freq }

theorem asks_enter (g : Nat) : Asks (fun x => (x.enter g).request g) := by
  intro x hx
  dsimp only
  rw [UnitSt.request_eq, UnitSt.enter_eq, hx]
  simp

/-- Of the state only unit `u`'s resume granules and requests have changed, if its fetch buffer is empty. -/
structure AsksOnly (u : Nat) (s t : State) : Prop where
  rest  : t = { s with units := t.units }
  other : ∀ v, v ≠ u → t.unit v = s.unit v
  own   : ∀ k, (s.unit u).run = some k → (s.unit u).fbuf = [] → t.unit u = { s.unit u with resume := (t.unit u).resume, freq := (t.unit u).freq }

theorem AsksOnly.refl (u : Nat) (s : State) : AsksOnly u s s := ⟨rfl, fun _ _ => rfl, fun _ _ _ => rfl⟩

theorem AsksOnly.trans {u : Nat} {s t r : State} (h : AsksOnly u s t) (h2 : AsksOnly u t r) : AsksOnly u s r where
  rest := by rw [h2.rest, h.rest]
  other v hv := (h2.other v hv).trans (h.other v hv)
  own k hk hf := by rw [h2.own k (by rw [h.own k hk hf]; exact hk) (by rw [h.own k hk hf]; exact hf), h.own k hk hf]

theorem AsksOnly.ctx {u : Nat} {s t : State} (h : AsksOnly u s t) (j : Nat) : t.ctx j = s.ctx j := by rw [h.rest]; rfl

theorem AsksOnly.stepOnly {u : Nat} {s t : State} (h : AsksOnly u s t) : StepOnly s t := by
  unfold StepOnly
  rw [h.rest]

theorem asksOnly_modUnit (u : Nat) {f : UnitSt → UnitSt} (hf : Asks f) (s : State) : AsksOnly u s (s.modUnit u f) where
  rest := rfl
  other v hv := State.unit_setUnit_ne _ hv _
  own k hk hx := by
    rw [State.unit_modUnit_run (k := k) (by rw [hf _ hx]; exact hk)]
    exact hf _ hx

theorem asksOnly_refetchResumes (u j : Nat) (s : State) : AsksOnly u s (refetchResumes u j s) := by
  unfold refetchResumes forN
  generalize List.range 16 = l
  induction l generalizing s with
  | nil => exact .refl u s
  | cons i l ih =>
    rw [List.foldl_cons]
    refine AsksOnly.trans ?_ (ih _)
    dsimp only
    split
    · exact .refl u s
    · refine asksOnly_modUnit u (fun x _ => ?_) s
      rw [UnitSt.keepResume_eq_keepAt]
      exact x.keepAt_eq ..

/-- SYNC.I discards a unit's buffers, and its pending fetch controls take effect. -/
def UnitSt.discarded (x : UnitSt) : UnitSt :=
  { x with
    lookahead := x.lookaheadNext.getD x.lookahead, lookaheadNext := none, btbEn := x.btbEnNext.getD x.btbEn, btbEnNext := none
    fbuf := [], nbuf := [], btb := [], btbWait := [], freq := [], resume := [] }

/-- The unit asks for the granule of the next word afresh. -/
def askAfresh (u : Nat) (o : Option Nat) (s : State) : State :=
  match o with
  | some g => s.modUnit u (fun x => (x.enter g).request g)
  | none => s

theorem asksOnly_askAfresh (u : Nat) (o : Option Nat) (s : State) : AsksOnly u s (askAfresh u o s) := by
  cases o with
  | none => exact .refl u s
  | some g => exact asksOnly_modUnit u (asks_enter g) s

/-- The state of a SYNC.I before its context waits. -/
def refetched (cid : Nat) (s : State) : State :=
  let s2 := refetchResumes (unitOf cid) (cid % 16) (s.modUnit (unitOf cid) UnitSt.discarded)
  askAfresh (unitOf cid) (codeGran (unitOf cid / 8) (s2.ctx cid).pc) s2

theorem syncIEffect_eq (cid : Nat) (s : State) : syncIEffect cid s = (refetched cid s).modCtx cid (fun x => { x with wait := .syncI }) := by
  have key : ∀ f, f = @syncIEffect → f cid s = (refetched cid s).modCtx cid (fun x => { x with wait := .syncI }) := by
    intro f hf
    delta syncIEffect at hf
    subst hf
    unfold refetched UnitSt.discarded
    dsimp only
    generalize codeGran (unitOf cid / 8) _ = o
    cases o <;> rfl
  exact key _ rfl

/-- SYNC.I, before the wait: only its unit has changed, whose buffers are discarded and which asks for granules. -/
theorem asksOnly_refetched (cid : Nat) (s : State) : AsksOnly (unitOf cid) (s.modUnit (unitOf cid) UnitSt.discarded) (refetched cid s) :=
  (asksOnly_refetchResumes ..).trans (asksOnly_askAfresh ..)

end

/-- What SYNC.I does to its unit and its context. -/
theorem syncIEffect_spec {cid k : Nat} {s : State} (hrun : (s.unit (unitOf cid)).run = some k) (hst : (s.ctx cid).st = .running) :
    let t := syncIEffect cid s
    let x := s.unit (unitOf cid)
    let y := t.unit (unitOf cid)
    y.lookahead = x.lookaheadNext.getD x.lookahead ∧ y.btbEn = x.btbEnNext.getD x.btbEn ∧ y.btb = [] ∧ y.fbuf = [] ∧ y.nbuf = [] ∧
    (t.ctx cid).wait = .syncI ∧ (∀ v, v ≠ unitOf cid → t.unit v = s.unit v) ∧ (∀ j, j ≠ cid → t.ctx j = s.ctx j) ∧ StepOnly s t := by
  have hasks := asksOnly_refetched cid s
  have hread : (s.modUnit (unitOf cid) UnitSt.discarded).unit (unitOf cid) = (s.unit (unitOf cid)).discarded := State.unit_modUnit_run (k := k) hrun
  have hown := hasks.own k (by rw [hread]; exact hrun) (by rw [hread]; rfl)
  have hctx (j : Nat) : (refetched cid s).ctx j = s.ctx j := hasks.ctx j
  have hrest : StepOnly s (refetched cid s) := (stepOnly_setUnit ..).trans hasks.stepOnly
  have hother (v : Nat) (hv : v ≠ unitOf cid) : (refetched cid s).unit v = s.unit v := by
    rw [hasks.other v hv, State.modUnit_eq, State.unit_setUnit_ne _ hv]
  rw [hread] at hown
  rw [syncIEffect_eq, State.modCtx_eq]
  clear hasks hread
  generalize refetched cid s = r at *
  refine ⟨by rw [State.setCtx_unit, hown]; rfl, by rw [State.setCtx_unit, hown]; rfl, by rw [State.setCtx_unit, hown]; rfl,
    by rw [State.setCtx_unit, hown]; rfl, by rw [State.setCtx_unit, hown]; rfl, ?_, fun v hv => ?_, fun j hj => ?_, hrest.trans (stepOnly_setCtx ..)⟩
  · rw [State.ctx_setCtx_running (by rw [hctx]; exact hst)]
  · rw [State.setCtx_unit, hother v hv]
  · rw [State.ctx_setCtx_ne _ hj, hctx]

theorem effectOf_sync {u k : Nat} {w : Word} {o : Op} {s : State} (hm : o.mn = .sync) :
    effectOf u k w o s = (applySync (16 * u + k) (stepped (16 * u + k) (opened (16 * u + k) s)), 0) := by
  obtain ⟨mn⟩ := o
  cases hm
  rfl

theorem effectOf_syncI {u k : Nat} {w : Word} {o : Op} {s : State} (hm : o.mn = .syncI) :
    effectOf u k w o s = (syncIEffect (16 * u + k) (stepped (16 * u + k) (opened (16 * u + k) s)), 0) := by
  obtain ⟨mn⟩ := o
  cases hm
  rfl

/-- FENCE and WAITL do nothing but their step. -/
theorem effectOf_wait {u k : Nat} {w : Word} {o : Op} {s : State} (hm : o.mn = .fence ∨ o.mn = .waitl) :
    effectOf u k w o s = (stepped (16 * u + k) (opened (16 * u + k) s), 0) := by
  obtain ⟨mn⟩ := o
  obtain rfl | rfl := hm <;> rfl

theorem opReady_fence {cid : Nat} {w : Word} {o : Op} {g : Nat → Word} {s : State} (hm : o.mn = .fence) (i : Nat) :
    opReady cid w i o g s = if s.posted.any (fun p => p.cid == cid) then .wait .fence else .go := by
  obtain ⟨mn⟩ := o
  cases hm
  rfl

theorem opReady_waitl {cid : Nat} {w : Word} {o : Op} {g : Nat → Word} {s : State} (hm : o.mn = .waitl) (i : Nat) :
    opReady cid w i o g s = if lopsOf cid s = 0 then .go else .wait .waitl := by
  obtain ⟨mn⟩ := o
  cases hm
  rfl

/-- Settles O16. -/
theorem orderingWord : Obligations.OrderingWord := by
  unfold Obligations.OrderingWord
  intro u k c w o s h cid so t hc
  refine ⟨fun hm => ?_, fun hm => ?_, fun hm => ?_, fun hm => ?_⟩
  · exact (Issues.of_plain h hm rfl hc).row_quiet rfl (effectOf_sync hm) h.quiet_stepped
  · have hready := opReady_fence (cid := cid) (w := w) (g := so.reads cid) (s := so) hm 0
    split
    · next hp => exact exec_one_wait h hm rfl hc (hready.trans (if_pos hp))
    · next hp => exact Issues.row_quiet ⟨h, hm, hc, by decide, hready.trans (if_neg hp)⟩ rfl (effectOf_wait (.inl hm)) h.quiet_stepped
  · have hready := opReady_waitl (cid := cid) (w := w) (g := so.reads cid) (s := so) hm 0
    split
    · next hp => exact Issues.row_quiet ⟨h, hm, hc, by decide, hready.trans (if_pos hp)⟩ rfl (effectOf_wait (.inr hm)) h.quiet_stepped
    · next hp => exact exec_one_wait h hm rfl hc (hready.trans (if_neg hp))
  · obtain ⟨hla, hbtb, hbtbs, hfbuf, hnbuf, hwait, hother, hctx, hrest⟩ := syncIEffect_spec (cid := cid) (k := k) (s := t)
      (run_stepped (run_opened (by rw [h.unitOf_eq]; exact h.run))) h.running_stepped
    have hq : Quiet (syncIEffect cid t) := StepOnly.quiet hrest h.quiet_stepped
    rw [h.unitOf_eq] at hla hbtb hbtbs hfbuf hnbuf hother
    exact ⟨syncIEffect cid t, (Issues.of_plain h hm rfl hc).row_quiet rfl (effectOf_syncI hm) hq, hla, hbtb, hbtbs, hfbuf, hnbuf, hwait, hother, hctx, hrest⟩

end Sys2Proof.Machine
end

section
/-! The statement O17: YIELD, SLEEP and TRAP (R138 to R140, R189, R190, R255, R468, Table CX-2). -/

namespace Sys2Proof.Machine

/-! ### A context that stops issuing (Table CX-5) -/

theorem Ctx.write_keeps (x : Ctx) (p : Pend) :
    (x.write p).targets = x.targets ∧ (x.write p).entry = x.entry ∧ (x.write p).handlerHeld = x.handlerHeld := by
  unfold Ctx.write Ctx.setG
  split
  · split <;> exact ⟨rfl, rfl, rfl⟩
  all_goals exact ⟨rfl, rfl, rfl⟩

theorem Ctx.foldl_write_keeps (l : List Pend) (x : Ctx) :
    (l.foldl Ctx.write x).targets = x.targets ∧ (l.foldl Ctx.write x).entry = x.entry ∧ (l.foldl Ctx.write x).handlerHeld = x.handlerHeld := by
  induction l generalizing x with
  | nil => exact ⟨rfl, rfl, rfl⟩
  | cons p l ih =>
    obtain ⟨ht, he, hh⟩ := x.write_keeps p
    obtain ⟨iht, ihe, ihh⟩ := ih (x.write p)
    exact ⟨iht.trans ht, ihe.trans he, ihh.trans hh⟩

/-- A context that stops issuing keeps its pending targets, its entry and what is held for its handler. -/
theorem Ctx.stop_keeps (x : Ctx) (lops : List Lop) :
    (x.stop lops).targets = x.targets ∧ (x.stop lops).entry = x.entry ∧ (x.stop lops).handlerHeld = x.handlerHeld :=
  Ctx.foldl_write_keeps x.pend x

section
variable {cid k : Nat} {st : CtxState} {s : State}

/-- The context of a unit that has stopped issuing, in its new state. -/
def stoppedCtx (cid : Nat) (st : CtxState) (s : State) : Ctx := { (s.ctx cid).stop (s.unit (unitOf cid)).lops with st := st }

/-- The unit that has stopped running its context, before it fills the resume granule. -/
def stoppedUnit (cid : Nat) (s : State) : UnitSt := { s.unit (unitOf cid) with lops := [], run := none }

theorem stopRunning_eq (cid : Nat) (st : CtxState) (s : State) :
    stopRunning cid st s = (s.setCtx cid (stoppedCtx cid st s)).setUnit (unitOf cid)
      ((stoppedUnit cid s).keepResume (clusterOf cid) (cid % 16) (stoppedCtx cid st s).pc true) := rfl

theorem stepOnly_stopRunning (cid : Nat) (st : CtxState) (s : State) : StepOnly s (stopRunning cid st s) :=
  (stepOnly_setCtx ..).trans (stepOnly_setUnit ..)

theorem ctx_stopRunning (h : (s.ctx cid).entry.isSome = true) : (stopRunning cid st s).ctx cid = stoppedCtx cid st s := by
  rw [stopRunning_eq, State.setUnit_ctx]
  refine State.ctx_setCtx_of_ne (fun hinit => ?_) ..
  have hentry : (s.ctx cid).entry = none := ((s.ctx cid).stop_keeps (s.unit (unitOf cid)).lops).2.1.symm.trans (congrArg Ctx.entry hinit)
  simp [hentry] at h

/-- A unit that has taken a step, or that holds a granule, has no context running and no long operation in flight once its context has stopped. -/
theorem unit_stopRunning (h : (s.unit (unitOf cid)).steps ≠ 0 ∨ (s.unit (unitOf cid)).fbuf ≠ []) :
    ((stopRunning cid st s).unit (unitOf cid)).run = none ∧ ((stopRunning cid st s).unit (unitOf cid)).lops = [] := by
  rw [stopRunning_eq, UnitSt.keepResume_eq_keepAt, UnitSt.keepAt_eq, State.unit_setUnit_of_ne]
  · exact ⟨rfl, rfl⟩
  · intro hinit
    rcases h with h | h
    · exact h (congrArg UnitSt.steps hinit)
    · exact h (congrArg UnitSt.fbuf hinit)

end

/-! ### YIELD (R138, R255) -/

theorem UnitSt.steps_reachTarget (x : UnitSt) (g : Option Nat) (more : Bool) : (x.reachTarget g more).steps = x.steps := by
  unfold UnitSt.reachTarget
  dsimp only
  split
  · rw [UnitSt.request_eq, UnitSt.request_eq, UnitSt.request_eq]
  · rfl

theorem UnitSt.steps_tookStep (x : UnitSt) (t : Nat) : (x.tookStep t).steps = x.steps + 1 := rfl

/-- A unit that has taken the step of a word has counted it. -/
theorem steps_stepped {cid k : Nat} {s : State} (hrun : (s.unit (unitOf cid)).run = some k) : ((stepped cid s).unit (unitOf cid)).steps ≠ 0 := by
  have hunit := unit_countedStep hrun
  have hcounted : ((countedStep cid s).unit (unitOf cid)).run = some k := by rw [hunit, UnitSt.run_tookStep, UnitSt.run_enterAt, hrun]
  have hsteps : ((countedStep cid s).unit (unitOf cid)).steps ≠ 0 := by
    rw [hunit, UnitSt.steps_tookStep]
    exact Nat.add_one_ne_zero _
  rw [stepped_eq]
  obtain ⟨pc, ts, h | ⟨g, more, h⟩⟩ := advancePc_cases cid (countedStep cid s)
  · rw [h, State.setCtx_unit]
    exact hsteps
  · rw [h, State.unit_setUnit_run (k := k) (by rw [UnitSt.run_reachTarget, hcounted]), UnitSt.steps_reachTarget]
    exact hsteps

/-- A context whose pending control writes have taken effect. -/
def Ctx.synced (x : Ctx) : Ctx := { x with trapEn := x.trapEnNext.getD x.trapEn, trapEnNext := none, tbr := x.tbrNext.getD x.tbr, tbrNext := none }

section
variable {cid : Nat} {s : State}

/-- A context that returns to IDLE and for whose handler nothing is held. -/
theorem becomeIdle_eq (h : (s.ctx cid).handlerHeld = false) :
    becomeIdle cid s = s.setCtx cid { s.ctx cid with st := .idle, handlerHeld := false } := by
  unfold becomeIdle
  simp only [h, Bool.false_eq_true, if_false, State.modCtx_eq]

/-- A scheduler entry that is sound, and with neither a deadline nor a deferred request, takes nothing from a YIELD. -/
theorem yieldEvent_none (hbad : (s.heap cid).bad = false) (hdl : (s.heap cid).dl = none) (hdef : (s.heap cid).deferred = false) :
    yieldEvent cid s = s := by
  have hcheck : checkHeap cid s = s := by simp [checkHeap, hbad]
  unfold yieldEvent
  simp [hcheck, hdl, hdef]

/-- What YIELD does to a running context for which nothing is held or deferred, and to its unit. -/
theorem yieldEffect_spec (hst : (s.ctx cid).st = .running) (hentry : (s.ctx cid).entry.isSome = true) (hheld : (s.ctx cid).handlerHeld = false)
    (hbad : (s.heap cid).bad = false) (hdl : (s.heap cid).dl = none) (hdef : (s.heap cid).deferred = false)
    (hsteps : (s.unit (unitOf cid)).steps ≠ 0) :
    let t := yieldEffect cid s
    t.ctx cid = { (s.ctx cid).synced.stop (s.unit (unitOf cid)).lops with st := .idle, handlerHeld := false } ∧
    (t.unit (unitOf cid)).run = none ∧ (t.unit (unitOf cid)).lops = [] ∧ (∀ j, j ≠ cid → t.ctx j = s.ctx j) ∧ StepOnly s t := by
  have hsync : (applySync cid s).ctx cid = (s.ctx cid).synced := State.ctx_modCtx_running (f := Ctx.synced) hst
  have hne (j : Nat) (hj : j ≠ cid) : (applySync cid s).ctx j = s.ctx j := State.ctx_setCtx_ne _ hj ..
  obtain ⟨-, hkentry, hkheld⟩ := (s.ctx cid).synced.stop_keeps (s.unit (unitOf cid)).lops
  have hstop : (stopRunning cid .idle (applySync cid s)).ctx cid = { (s.ctx cid).synced.stop (s.unit (unitOf cid)).lops with st := .idle } := by
    rw [ctx_stopRunning (by rw [hsync]; exact hentry), stoppedCtx, hsync]
    rfl
  obtain ⟨hrun, hlops⟩ := unit_stopRunning (cid := cid) (st := .idle) (s := applySync cid s) (.inl hsteps)
  have hidle := becomeIdle_eq (s := stopRunning cid .idle (applySync cid s)) (cid := cid) (by rw [hstop]; exact hkheld.trans hheld)
  have hyield : yieldEffect cid s = _ := (yieldEvent_none (by rw [hidle]; exact hbad) (by rw [hidle]; exact hdl) (by rw [hidle]; exact hdef)).trans hidle
  intro t
  refine ⟨?_, ?_, ?_, fun j hj => ?_, ?_⟩
  · show (yieldEffect cid s).ctx cid = _
    rw [hyield, hstop]
    refine State.ctx_setCtx_of_ne (fun hinit => ?_) ..
    have hnone : ((s.ctx cid).synced.stop (s.unit (unitOf cid)).lops).entry = none := congrArg Ctx.entry hinit
    have hgone : (s.ctx cid).entry = none := hkentry.symm.trans hnone
    simp [hgone] at hentry
  · exact (congrArg (fun r : State => (r.unit (unitOf cid)).run) hyield).trans hrun
  · exact (congrArg (fun r : State => (r.unit (unitOf cid)).lops) hyield).trans hlops
  · show (yieldEffect cid s).ctx j = _
    rw [hyield, State.ctx_setCtx_ne _ hj, ctx_stopRunning_ne hj, hne j hj]
  · show StepOnly s (yieldEffect cid s)
    rw [hyield]
    exact ((stepOnly_setCtx ..).trans (stepOnly_stopRunning ..)).trans (stepOnly_setCtx ..)

end

theorem effectOf_yield {u k : Nat} {w : Word} {o : Op} {s : State} (hm : o.mn = .yield) :
    effectOf u k w o s = (yieldEffect (16 * u + k) (stepped (16 * u + k) (opened (16 * u + k) s)), 0) := by
  obtain ⟨mn⟩ := o
  cases hm
  rfl

theorem effectOf_sleep {u k : Nat} {w : Word} {o : Op} {s : State} (hm : o.mn = .sleep) :
    effectOf u k w o s = (sleepRequest (16 * u + k) (o.imm % 8) (o.argA ((opened (16 * u + k) s).reads (16 * u + k)))
      ((claim (16 * u + k) o.rd (stepped (16 * u + k) (opened (16 * u + k) s))).modCtx (16 * u + k) (fun x => { x with wait := .sleep o.rd })), 0) := by
  obtain ⟨mn⟩ := o
  cases hm
  rfl

theorem opReady_yield {cid : Nat} {w : Word} {o : Op} {g : Nat → Word} {s : State} (hm : o.mn = .yield) (i : Nat) :
    opReady cid w i o g s = if lopsOf cid s = 0 then .go else .wait .waitl := by
  obtain ⟨mn⟩ := o
  cases hm
  rfl

/-! ### TRAP (R139, R189, R190) -/

theorem opReady_trap {cid : Nat} {w : Word} {o : Op} {g : Nat → Word} {s : State} (hm : o.mn = .trap) (i : Nat) :
    opReady cid w i o g s = .trap (preciseTrap 5 0 0 o.imm 0 w) := by
  obtain ⟨mn⟩ := o
  cases hm
  rfl

/-- A word in the fetch buffer is issued from a granule of it. -/
theorem fbuf_of_nextWord {cid : Nat} {w : Word} {s : State} (h : nextWord cid s = .word w none) : (s.unit (unitOf cid)).fbuf ≠ [] := by
  have key : ∀ f, f = @nextWord → (s.unit (unitOf cid)).fbuf = [] → f cid s ≠ .word w none := by
    intro f hdef
    delta nextWord at hdef
    subst hdef
    beta_reduce
    extract_lets x
    generalize codeGran _ _ = o
    intro hf
    rw [hf]
    cases x.replay with
    | cons e l => simp
    | nil => cases o <;> simp
  exact fun hf => key _ rfl hf h

/-- FRC of a TRAP word: cause TRAP, PREC, the count of traps, and imm14. -/
theorem frc_trapWord (imm : Nat) (w old : Word) :
    (preciseTrap 5 0 0 imm 0 w).frc old = BitVec.ofNat 36 (5 * 2 ^ 28 + 2 ^ 27 + min (bits old 24 2 + 1) 3 * 2 ^ 24 + imm) := by
  refine congrArg (BitVec.ofNat 36) ?_
  generalize min (bits old 24 2 + 1) 3 = n
  have hprec : (if (preciseTrap 5 0 0 imm 0 w).prec then 2 ^ 27 else 0) = 2 ^ 27 := if_pos rfl
  rw [hprec]
  dsimp only [preciseTrap]
  omega

section
variable {u k c : Nat} {w : Word} {o : Op} {s : State}

/-- The row of a TRAP word: the context traps at it. -/
theorem exec_one_trap (h : AtWord u k w (.one c o) s) (hm : o.mn = .trap) (hc : condHolds c ((opened (16 * u + k) s).reads (16 * u + k)) = true) :
    exec (wordRow .trap u w) s = .next (finish (trapCtx (16 * u + k) (preciseTrap 5 0 0 o.imm 0 w) (opened (16 * u + k) s))) := by
  have hready : wordReady (16 * u + k) w (runningSlots (.one c o) ((opened (16 * u + k) s).reads (16 * u + k)))
      ((opened (16 * u + k) s).reads (16 * u + k)) (opened (16 * u + k) s) = .trap (preciseTrap 5 0 0 o.imm 0 w) := by
    simp only [runningSlots, hc, if_true, wordReady, List.foldl_cons, List.foldl_nil, opReady_trap hm]
  rw [exec_wordRow_next .trap h.unit, issue_of_atWord h (by simp [Fj.holds, hm]), afterWord, if_pos (.inr (.inr rfl))]
  unfold issueReady
  unfold opened at hready ⊢
  simp only [hready]

/-- A voluntary trap of a context that its unit runs leaves the unit without a context. -/
theorem run_trapCtx_voluntary {cid : Nat} {t : Trap} {s : State} (hv : t.voluntary = true) (hheld : isHeld s cid = false)
    (hrun : (s.unit (unitOf cid)).run = some (cid % 16)) (hhv : rdB F.sctx_CFG_HV cid s = false) (hfbuf : (s.unit (unitOf cid)).fbuf ≠ []) :
    ((trapCtx cid t s).unit (unitOf cid)).run = none := by
  unfold trapCtx
  simp only [hheld, Bool.false_eq_true, if_false, hrun, if_true, hv]
  rw [requestHandler_none ?_ hhv]
  · exact (unit_stopRunning (.inr hfbuf)).1
  · rfl

end

/-- Settles O17, mnemonic by mnemonic. -/
theorem endingWord : Obligations.EndingWord := by
  unfold Obligations.EndingWord
  refine ⟨?_, ?_⟩ <;> intro u k c w o s h cid so
  · intro t x hc hm hlops hheld hbad hdl hdef hentry
    have hunit : unitOf cid = u := h.unitOf_eq
    have hgo : opReady cid w 0 o (so.reads cid) so = .go := (opReady_yield hm 0).trans (if_pos hlops)
    have hsteps : (t.unit (unitOf cid)).steps ≠ 0 := steps_stepped (k := k) (run_opened (by rw [hunit]; exact h.run))
    have hrow := Issues.row_plain ⟨h, hm, hc, by decide, hgo⟩ (effectOf_yield hm)
    obtain ⟨hctx, hrun, hnolops, hother, hrest⟩ := yieldEffect_spec h.running_stepped hentry hheld hbad hdl hdef hsteps
    rw [hunit] at hctx hrun hnolops
    exact ⟨yieldEffect cid t, hrow, hctx, hrun, hnolops, hother, hrest⟩
  intro g t hc
  refine ⟨fun hm => ?_, fun hm hheld hhv => ?_⟩
  · exact (Issues.of_plain h hm rfl hc).row_plain (effectOf_sleep hm)
  · have hunit : unitOf cid = u := h.unitOf_eq
    have hrun : (so.unit (unitOf cid)).run = some (cid % 16) := by
      have hk : cid % 16 = k := by have := h.ctx; omega
      rw [hk]
      exact run_opened (by rw [hunit]; exact h.run)
    have hfbuf : (so.unit (unitOf cid)).fbuf ≠ [] := by
      rw [unit_opened (k := k) (by rw [hunit]; exact h.run)]
      exact fbuf_of_nextWord h.next
    obtain ⟨hself, hne, hmem, hregs⟩ := trapCtx_running (t := preciseTrap 5 0 0 o.imm 0 w) hheld hrun hhv
    obtain ⟨hpc, hfrc, -, -⟩ := (so.ctx cid).stop_frame (so.unit (unitOf cid)).lops
    obtain ⟨htargets, -, -⟩ := (so.ctx cid).stop_keeps (so.unit (unitOf cid)).lops
    refine ⟨_, exec_one_trap h hm hc, congrArg Ctx.st hself, (congrArg Ctx.pc hself).trans hpc, (congrArg Ctx.targets hself).trans htargets, ?_, ?_, hne,
      hregs, hmem⟩
    · refine (congrArg Ctx.frc hself).trans ?_
      rw [← hfrc]
      exact frc_trapWord ..
    · have hnone : ((trapCtx cid (preciseTrap 5 0 0 o.imm 0 w) so).unit (unitOf cid)).run = none :=
        run_trapCtx_voluntary rfl hheld hrun hhv hfbuf
      rwa [hunit] at hnone

end Sys2Proof.Machine
end

section
/-! The statement O13: ARM, ARMI, DLINE and DISARM (R127, R128, R245 to R248, R254, Table OP-10). -/

namespace Sys2Proof.Machine

section
variable {cid : Nat} {s : State}

/-- A scheduler entry that is sound is left alone. -/
theorem checkHeap_sound (h : (s.heap cid).bad = false) : checkHeap cid s = s := by simp [checkHeap, h]

/-- Only a predicted trigger may be due. -/
theorem takeDue_eq (h : (s.heap cid).ang ≠ .predicted) : takeDue cid s = s := by simp [takeDue, h]

theorem disarmAngle_disarmed (h : (s.heap cid).ang = .disarmed) : disarmAngle cid s = s := if_pos h

theorem disarmAngle_armed (h : (s.heap cid).ang ≠ .disarmed) :
    disarmAngle cid s =
      setArmedBit cid .atBit false (s.modHeap cid (fun h => { h with ang := .disarmed, reachedAt := none, inc := none, revFlag := false })) := if_neg h

/-- With no trigger armed before, a trigger that is not PASSED is armed, with status 0 or, while its timebase stands, 1 (Table SH-3). -/
theorem armAngle_disarmed {tb : Nat} {target : Word} {inc : Option Word} (hbad : (s.heap cid).bad = false) (hang : (s.heap cid).ang = .disarmed)
    (hclass : classOf tb (distance tb target s) s ≠ .passed) :
    armAngle cid tb target inc s =
      (if classOf tb (distance tb target s) s = .held then 1 else 0, target, armEntry cid tb target inc s) := by
  have htake : takeDue cid s = s := takeDue_eq (by simp [hang])
  unfold armAngle
  simp only [checkHeap_sound hbad, htake, disarmAngle_disarmed hang, hang]
  cases hcl : classOf tb (distance tb target s) s with
  | passed => exact absurd hcl hclass
  | ahead => rfl
  | held => rfl

theorem armDeadline_sound {a : Word} (hbad : (s.heap cid).bad = false) :
    armDeadline cid a s =
      let due := (actTime cid s + a.toNat) % 2 ^ 72
      ((if (s.heap cid).dl.isSome then 16 else 0) + (if due ≤ s.dev72 then 2 else 0),
        setArmedBit cid .dlBit true (s.modHeap cid (fun h => { h with dl := some due, dlDue := false }))) := by
  unfold armDeadline
  simp only [checkHeap_sound hbad]
  refine Prod.ext ?_ rfl
  dsimp only
  generalize (actTime cid s + a.toNat) % 2 ^ 72 = due
  split <;> split <;> rfl

theorem disarmByContext_held (hbad : (s.heap cid).bad = false) (hang : (s.heap cid).ang = .held) :
    disarmByContext cid s =
      setArmedBit cid .atBit false (s.modHeap cid (fun h => { h with ang := .disarmed, reachedAt := none, inc := none, revFlag := false })) := by
  unfold disarmByContext
  rw [checkHeap_sound hbad, takeDue_eq (by simp [hang]), disarmAngle_armed (by simp [hang])]

theorem disarmDeadline_armed (hbad : (s.heap cid).bad = false) (hdl : (s.heap cid).dl.isSome = true) :
    disarmDeadline cid s = setArmedBit cid .dlBit false (s.modHeap cid (fun h => { h with dl := none, dlDue := false })) := by
  unfold disarmDeadline
  simp only [checkHeap_sound hbad]
  exact if_neg (by simpa using Option.ne_none_iff_isSome.mpr hdl)

end

/-- The operations of Table OP-10. -/
def Mn.isTrigger (m : Mn) : Bool := m == .arm || m == .armi || m == .dline || m == .disarm

theorem effectOf_trigger {u k : Nat} {w : Word} {o : Op} {s : State} (hm : o.mn.isTrigger = true) :
    effectOf u k w o s =
      (triggerEffect (16 * u + k) (nextStep (16 * u + k) s) o o.rd ((opened (16 * u + k) s).reads (16 * u + k))
        (stepped (16 * u + k) (opened (16 * u + k) s)), 0) := by
  obtain ⟨mn⟩ := o
  simp only [Mn.isTrigger, Bool.or_eq_true, beq_iff_eq] at hm
  obtain ((rfl | rfl) | rfl) | rfl := hm <;> rfl

section
variable {cid n d : Nat} {o : Op} {g : Nat → Word} {s : State}

theorem triggerEffect_arm (hm : o.mn = .arm) :
    triggerEffect cid n o d g s =
      let r := armAngle cid (s.ctx cid).tbr (g o.rs1 + wordOf (sext 14 o.imm)) none s
      produce cid d (n + 5) r.1 (produceCtl cid .trg (n + 5) r.2.1 r.2.2) := by
  simp only [triggerEffect, hm]

theorem triggerEffect_armi (hm : o.mn = .armi) :
    triggerEffect cid n o d g s =
      let off := g o.rs1 + wordOf (sext 14 o.imm)
      let r := armAngle cid (s.ctx cid).tbr ((s.ctx cid).newestTrg + off) (some off) s
      produce cid d (n + 5) r.1 (produceCtl cid .trg (n + 5) r.2.1 r.2.2) := by
  simp only [triggerEffect, hm]

theorem triggerEffect_dline (hm : o.mn = .dline) :
    triggerEffect cid n o d g s = produce cid d (n + 5) (armDeadline cid (g o.rs1) s).1 (armDeadline cid (g o.rs1) s).2 := by
  simp only [triggerEffect, hm]

theorem triggerEffect_disarm (hm : o.mn = .disarm) :
    triggerEffect cid n o d g s =
      let s1 := if o.imm % 2 = 1 then disarmByContext cid s else s
      if o.imm / 2 % 2 = 1 then disarmDeadline cid s1 else s1 := by
  simp only [triggerEffect, hm]

end

/-- Settles O13: each trigger word is the one case of the scheduler's rule that its hypotheses name. -/
theorem triggerWord : Obligations.TriggerWord := by
  unfold Obligations.TriggerWord
  intro u k c w o s h cid so g n t x off hc hbad
  have row (m : Mn) (hm : o.mn = m) (ht : m.isTrigger = true) (hp : m.plain = true) (he : m.ends = false) :
      exec (wordRow m u w) s = .next (settleFaults (triggerEffect cid n o o.rd g t)) :=
    (Issues.of_plain h hm hp hc).row_settled he (effectOf_trigger (by rw [hm]; exact ht))
  refine ⟨fun target inc hang hform => ?_, fun hm => ?_, fun hm himm hdl => ?_, fun hm himm hang => ?_⟩
  · intro cl hclass
    have hoff : off = g o.rs1 + wordOf (sext 14 o.imm) := by rw [wordOf_eq]
    obtain ⟨hm, rfl, rfl⟩ | ⟨hm, rfl, rfl⟩ := hform
    · rw [hm, row .arm hm rfl rfl rfl, triggerEffect_arm hm, ← hoff]
      dsimp only
      rw [armAngle_disarmed hbad hang hclass]
    · rw [hm, row .armi hm rfl rfl rfl, triggerEffect_armi hm, ← hoff]
      dsimp only
      rw [armAngle_disarmed hbad hang hclass]
  · rw [row .dline hm rfl rfl rfl, triggerEffect_dline hm, armDeadline_sound hbad]
  · have hang : ¬ o.imm % 2 = 1 := by omega
    have hline : o.imm / 2 % 2 = 1 := by omega
    rw [row .disarm hm rfl rfl rfl, triggerEffect_disarm hm]
    simp only [if_neg hang, if_pos hline]
    rw [disarmDeadline_armed hbad hdl]
  · have hodd : o.imm % 2 = 1 := by omega
    have hline : ¬ o.imm / 2 % 2 = 1 := by omega
    rw [row .disarm hm rfl rfl rfl, triggerEffect_disarm hm]
    simp only [if_pos hodd, if_neg hline]
    rw [disarmByContext_held hbad hang]

end Sys2Proof.Machine
end

section
/-! The statement O7: issue, wait and completion of a long operation (R110 to R112, R141, R142, R157). -/

namespace Sys2Proof.Machine

/-- The five long operations of Table OP-6. -/
def Mn.Long (m : Mn) : Prop := m = .div ∨ m = .divu ∨ m = .sqrt ∨ m = .rsqrt ∨ m = .sincos

theorem kind_of_long {m : Mn} (h : m.Long) : m.ends = false ∧ m ≠ .mfc := by
  obtain rfl | rfl | rfl | rfl | rfl := h <;> decide

section
variable {u k c cid i : Nat} {w : Word} {o : Op} {g : Nat → Word} {s : State}

theorem opReady_long (hm : o.mn.Long) : opReady cid w i o g s = if lopsOf cid s < 4 then .go else .wait .lopSlot := by
  obtain ⟨mn⟩ := o
  obtain rfl | rfl | rfl | rfl | rfl := hm <;> rfl

theorem effectOf_long (hm : o.mn.Long) :
    effectOf u k w o s =
      (startLop (16 * u + k) (nextStep (16 * u + k) s) w o (o.argA ((opened (16 * u + k) s).reads (16 * u + k)))
        (o.argB ((opened (16 * u + k) s).reads (16 * u + k))) true true (stepped (16 * u + k) (opened (16 * u + k) s)), 0) := by
  obtain ⟨mn⟩ := o
  obtain rfl | rfl | rfl | rfl | rfl := hm <;> rfl

/-- A long operation changes only its unit. -/
theorem stepOnly_startLop (cid n : Nat) (w : Word) (o : Op) (a b : Word) (lo hi : Bool) (s : State) : StepOnly s (startLop cid n w o a b lo hi s) := by
  have hclaim (d : Nat) (r : State) : StepOnly r (claim cid d r) := stepOnly_setUnit ..
  unfold startLop
  dsimp only
  refine StepOnly.trans ?_ (stepOnly_setUnit ..)
  split <;> split
  · exact (hclaim ..).trans (hclaim ..)
  · exact hclaim ..
  · exact hclaim ..
  · rfl

end

section
variable {u slot : Nat} {l : Lop} {s : State}

/-- The state in which a long operation has completed: what is still due of its destination is written, its slot is free, its bits are set. -/
def completed (u slot : Nat) (l : Lop) (s : State) : State :=
  setSticky l.cid l.sets ((lopWrite l s).modUnit u (fun x => { x with lops := x.lops.filter (fun p => p.slot ≠ slot) }))

theorem quiet_completed : Quiet (completed u slot l s) ↔ Quiet s := by
  unfold completed
  rw [quiet_setSticky]
  exact quiet_lopWrite (l := l) (s := s)

/-- A completion that traps nothing. -/
theorem completeLop_untrapped (h : (s.unit u).lops.find? (fun l => l.slot == slot) = some l)
    (hcode : statusCode l.sets ((completed u slot l s).ctx l.cid).trapEn = 0) : completeLop u slot s = completed u slot l s := by
  unfold completeLop
  simp only [h]
  exact if_pos hcode

/-- The STATUS trap that a completion leaves (R142). -/
def lopTrap (u slot : Nat) (l : Lop) (s : State) : PTrap :=
  { due := l.step, poison := false
    detail := statusCode l.sets ((completed u slot l s).ctx l.cid).trapEn * 2 ^ 8 + l.w.toNat / 2 ^ 24 % 128, addr := 0 }

/-- A completion whose trap comes before the next word. -/
theorem completeLop_trapped (h : (s.unit u).lops.find? (fun l => l.slot == slot) = some l)
    (hcode : statusCode l.sets ((completed u slot l s).ctx l.cid).trapEn ≠ 0)
    (hheld : let t := (completed u slot l s).modCtx l.cid (fun x => { x with traps := x.traps ++ [lopTrap u slot l s] })
      issueHeld u (t.ctx l.cid) t = false) :
    completeLop u slot s = (completed u slot l s).modCtx l.cid (fun x => { x with traps := x.traps ++ [lopTrap u slot l s] }) := by
  unfold completeLop
  simp only [h]
  exact (if_neg hcode).trans (if_neg (by rw [Bool.not_eq_true]; exact hheld))

theorem exec_longOpComplete (hu : u < 256) (hslot : slot < 4) (hq : Quiet (completeLop u slot s)) :
    exec (.longOpComplete u slot) s = .next (completeLop u slot s) := by
  show answerWord (u < 256 && slot < 4) (completeLop u slot s) = _
  simp only [answerWord, hu, hslot, decide_true, Bool.and_self, if_true, settleFaults_quiet hq]

end

/-- Settles O7: a free slot lets the operation start, and a completion is the one case that the enables of the traps choose. -/
theorem longOperation : Obligations.LongOperation := by
  unfold Obligations.LongOperation
  refine ⟨?_, ?_, ?_⟩
  · intro u k c w o s h cid so g t r used hc hm hlops
    obtain ⟨hends, hmfc⟩ := kind_of_long hm
    have hi : Issues u k c w o o.mn s := ⟨h, rfl, hc, hmfc, (opReady_long hm).trans (if_pos hlops)⟩
    rw [hi.row_quiet hends (effectOf_long hm) ((stepOnly_startLop ..).quiet h.quiet_stepped)]
    unfold startLop
    simp only [if_true, Bool.and_true]
    rfl
  · intro u k c w o s h cid hc hm hlops
    exact exec_one_wait h rfl (kind_of_long hm).1 hc ((opReady_long hm).trans (if_neg (Nat.not_lt.mpr hlops)))
  · intro u slot l s hu hslot hq hl s1 t code trap t1
    refine ⟨fun hcode => ?_, fun hcode hheld => ?_⟩
    · have hdone := completeLop_untrapped hl hcode
      rw [exec_longOpComplete hu hslot (by rw [hdone]; exact quiet_completed.mpr hq), hdone]
      rfl
    · have hdone := completeLop_trapped hl hcode hheld
      rw [exec_longOpComplete hu hslot (by rw [hdone]; exact (stepOnly_setCtx ..).quiet (quiet_completed.mpr hq)), hdone]
      rfl

end Sys2Proof.Machine
end

section
/-! The statement O14: the queue operations of a single word, and the completion of a POPW that waits (R129 to R133, R353, R358 to R364, Table OP-11). -/

namespace Sys2Proof.Machine

/-! ### The rules of a queue whose copies agree (R366) -/

section
variable {q : Nat} {s : State}

theorem compareCopies_agreed (h : (s.queue q).copyBad = false) : compareCopies q s = s := if_neg (by simp [h])

/-- A pop takes the next word. -/
theorem popWord_some {v : Word} (h : (s.queue q).copyBad = false) (hv : (s.queue q).front = some v) :
    popWord q s = (some v, settle q (s.setQueue q { (s.queue q).advance with last := v })) := by
  unfold popWord
  simp only [compareCopies_agreed h, hv]

/-- A pop of an empty queue changes nothing. -/
theorem popWord_none (h : (s.queue q).copyBad = false) (hv : (s.queue q).front = none) : popWord q s = (none, s) := by
  unfold popWord
  simp only [compareCopies_agreed h, hv]

theorem flushQueue_agreed (h : (s.queue q).copyBad = false) :
    flushQueue q s = bump F.desc_CNT_FLUSHES q (s.setQueue q
      { s.queue q with
        cells := [], rdc := 0, rdw := 0, mark := none, back := (s.queue q).back + (s.queue q).cells.length, skip := false,
        discard := (s.queue q).discard || (s.queue q).open_, open_ := false, flagsP := (s.queue q).flagsP ||| 4, flagsC := (s.queue q).flagsC ||| 4 }) := by
  unfold flushQueue
  simp only [compareCopies_agreed h]

/-- A queue without a mark has none to yield. -/
theorem yieldMark_unmarked (h : (s.queue q).mark = none) : yieldMark q s = s := by
  unfold yieldMark
  simp [h]

/-- A word pushed into a queue without a mark whose item no flush has cut. -/
theorem pushWord_unmarked {v : Word} {e : Bool} (hcut : (s.queue q).cut = false) (hmark : (s.queue q).mark = none) :
    pushWord q v e s = s.setQueue q
      { s.queue q with
        transit := (s.queue q).transit ++ [.word v e false (decide ((s.queue q).fill = 0))]
        fill := if e then 0 else ((s.queue q).fill + 1) % 7 } := by
  have hset (x : Queue) (ht : x.transit ≠ []) : (s.setQueue q x).queue q = x := Sparse.get_put_self _ _ (fun hx => ht (by rw [hx]; rfl)) _
  unfold pushWord
  simp only [hcut, Bool.not_false, Bool.true_and, Bool.false_eq_true, if_false]
  split
  · rw [yieldMark_unmarked]
    rw [hset _ (by simp)]
    exact hmark
  · rfl

theorem rewindQueue_marked {m : Nat} (h : (s.queue q).mark = some m) :
    rewindQueue q s =
      (BitVec.ofNat 36 (min ((((s.queue q).cells.take (s.queue q).rdc).map (·.ws.length)).sum + (s.queue q).rdw - m) 524287 * 2 ^ 17),
        settle q (s.setQueue q { s.queue q with cells := (s.queue q).cells.map QCell.stored, rdc := 0, rdw := m })) := by
  unfold rewindQueue
  simp only [h]

theorem rewindQueue_unmarked (h : (s.queue q).mark = none) :
    rewindQueue q s = (if (s.queue q).markLost then 2 else 1, s.setQueue q { s.queue q with markLost := false }) := by
  unfold rewindQueue
  simp only [h]

end

/-! ### The row of a queue word -/

section
variable {u k cid n i d q : Nat} {w a : Word} {o : Op} {g : Nat → Word} {s t : State} {prod : Bool}

/-- The step of a word changes no endpoint. -/
theorem portQueue_of_stepOnly (h : StepOnly s t) : portQueue cid o t = portQueue cid o s := by
  rw [h]
  rfl

/-- A queue operation at a bound port is ready, a PUSH where its word may be pushed. -/
theorem opReady_queue (hm : o.mn.isQueue = true) (hp : portQueue cid o s = .ok (q, prod)) (hcan : o.mn = .push → canPushWord s q = true) :
    opReady cid w i o g s = .go := by
  have hls : (o.mn.isLoad || o.mn.isStore) = false := by
    revert hm
    cases o.mn <;> decide
  have hgo : ¬ (o.mn = .push && !canPushWord s q) = true := by
    by_cases hpush : o.mn = .push
    · simp [hcan hpush]
    · simp [hpush]
  unfold opReady
  simp only [hls, hm, hp, Bool.false_eq_true, if_false, if_true]
  exact if_neg hgo

theorem kind_of_queue {m : Mn} (h : m.isQueue = true) : m.ends = false ∧ m ≠ .mfc := by
  revert h
  cases m <;> decide

theorem effectOf_queue (hm : o.mn.isQueue = true) :
    effectOf u k w o s =
      queueEffect (16 * u + k) (nextStep (16 * u + k) s) w 0 o o.rd (o.argA ((opened (16 * u + k) s).reads (16 * u + k)))
        (stepped (16 * u + k) (opened (16 * u + k) s)) := by
  have hkind : o.mn.isLong = false ∧ o.mn.isLoad = false ∧ o.mn.isStore = false := by
    revert hm
    cases o.mn <;> decide
  obtain ⟨hlong, hload, hstore⟩ := hkind
  unfold effectOf opEffect
  simp only [hlong, hload, hstore, hm, Bool.false_eq_true, if_false, if_true]

/-- What a queue operation at a bound port does, mnemonic by mnemonic. -/
theorem queueEffect_eq (hp : portQueue cid o s = .ok (q, prod)) :
    (o.mn = .push → queueEffect cid n w i o d a s = (pushWord q a o.endBit s, 0)) ∧
    (o.mn = .pop → ∀ v r, popWord q s = (some v, r) → queueEffect cid n w i o d a s = (produce cid d (n + 5) v r, 0)) ∧
    (o.mn = .pop → ∀ r, popWord q s = (none, r) → queueEffect cid n w i o d a s = (produce cid d (n + 5) (underrun q r).1 (underrun q r).2, 8)) ∧
    (o.mn = .popw → queueEffect cid n w i o d a s = (popwAt cid n w i q d s, 0)) ∧
    (o.mn = .qstat → queueEffect cid n w i o d a s = (produce cid d (n + 5) (qstatWord q prod s).1 (qstatWord q prod s).2, 0)) ∧
    (o.mn = .qflush → queueEffect cid n w i o d a s = (if prod then flushByProducer q s else flushQueue q s, 0)) ∧
    (o.mn = .qmark → queueEffect cid n w i o d a s = (markQueue q s, 0)) ∧
    (o.mn = .qrew → queueEffect cid n w i o d a s = (produce cid d (n + 5) (rewindQueue q s).1 (rewindQueue q s).2, 0)) := by
  refine ⟨fun hm => ?_, fun hm v r hr => ?_, fun hm r hr => ?_, fun hm => ?_, fun hm => ?_, fun hm => ?_, fun hm => ?_, fun hm => ?_⟩ <;> unfold queueEffect <;>
    simp only [hp, hm]
  · rw [hr]
  · rw [hr]

end

/-! ### The completion of a POPW that waits (R132) -/

section
variable {cid q d slot : Nat} {w v : Word} {s : State}

theorem exec_popwComplete (h : cid < 4096) : exec (.popwComplete cid) s = .next (settleFaults (completePopw cid s)) := by
  show answerWord (cid < 4096) (completePopw cid s) = _
  simp only [answerWord, h, decide_true, if_true]

theorem completePopw_eq (hrun : (s.unit (unitOf cid)).run = some (cid % 16)) (hdisp : (s.unit (unitOf cid)).disp = none)
    (hwait : (s.ctx cid).wait = .popw w slot q d) (hcopy : (s.queue q).copyBad = false) (hv : (s.queue q).front = some v) :
    completePopw cid s = produce cid d (nextStep cid s + 5) v
      ((countStep cid (openStep cid (nextStep cid s) (settle q (s.setQueue q { (s.queue q).advance with last := v })))).modCtx cid
        (fun x => { x with wait := .none })) := by
  unfold completePopw
  simp only [hrun, hdisp, hwait, popWord_some hcopy hv]
  exact if_neg (by simp)

end

/-- Settles O14: each queue word takes the one branch of its rule that its hypotheses name. -/
theorem queueWord : Obligations.QueueWord := by
  unfold Obligations.QueueWord
  refine ⟨?_, ?_⟩
  · intro u k c w o s q prod h cid so g n t x hc hp hcopy
    have hpt : portQueue cid o t = .ok (q, prod) := (portQueue_of_stepOnly (stepOnly_stepped ..)).trans hp
    obtain ⟨hpush, hpop, hempty, hpopw, hqstat, hqflush, hqmark, hqrew⟩ :=
      queueEffect_eq (n := n) (w := w) (i := 0) (d := o.rd) (a := o.argA g) (s := t) hpt
    have issues (m : Mn) (hm : o.mn = m) (hmq : m.isQueue = true) (hcan : m = .push → canPushWord so q = true) : Issues u k c w o m s :=
      ⟨h, hm, hc, (kind_of_queue hmq).2, opReady_queue (by rw [hm]; exact hmq) hp (by rw [hm]; exact hcan)⟩
    have row (m : Mn) (hm : o.mn = m) (hmq : m.isQueue = true) (hcan : m = .push → canPushWord so q = true) (r : State)
        (hr : queueEffect cid n w 0 o o.rd (o.argA g) t = (r, 0)) : exec (wordRow m u w) s = .next (settleFaults r) :=
      (issues m hm hmq hcan).row_settled (kind_of_queue hmq).1 ((effectOf_queue (by rw [hm]; exact hmq)).trans hr)
    refine ⟨fun hm hcan hcut hmark => ?_, fun hm v hv => ?_, fun hm hv => ?_, fun hm v hv => ?_, fun hm hv => ?_, fun hm => ?_, fun hm hprod => ?_,
      fun hm hprod => ?_, fun hm => ?_, fun hm m hmark => ?_, fun hm hmark => ?_⟩
    · rw [row .push hm rfl (fun _ => hcan) _ (hpush hm), pushWord_unmarked hcut hmark]
    · rw [row .pop hm rfl (fun h => nomatch h) _ (hpop hm v _ (popWord_some hcopy hv))]
    · intro v t1
      rw [(issues .pop hm rfl (fun h => nomatch h)).row ((effectOf_queue (by rw [hm]; rfl)).trans (hempty hm t (popWord_none hcopy hv))), afterWord,
        if_neg (not_ending_of_ends rfl)]
      rfl
    · rw [row .popw hm rfl (fun h => nomatch h) _ (hpopw hm), popwAt, popWord_some hcopy hv]
    · rw [row .popw hm rfl (fun h => nomatch h) _ (hpopw hm), popwAt, popWord_none hcopy hv]
    · rw [row .qstat hm rfl (fun h => nomatch h) _ (hqstat hm)]
      rfl
    · rw [row .qflush hm rfl (fun h => nomatch h) _ (hqflush hm), hprod, if_neg Bool.false_ne_true, flushQueue_agreed hcopy]
    · rw [row .qflush hm rfl (fun h => nomatch h) _ (hqflush hm), hprod, if_pos rfl]
    · rw [row .qmark hm rfl (fun h => nomatch h) _ (hqmark hm)]
      rfl
    · rw [row .qrew hm rfl (fun h => nomatch h) _ (hqrew hm), rewindQueue_marked hmark]
    · rw [row .qrew hm rfl (fun h => nomatch h) _ (hqrew hm), rewindQueue_unmarked hmark]
  · intro cid q d slot w v s hcid hq hrun hdisp hwait hcopy hv t n
    rw [exec_popwComplete hcid, completePopw_eq hrun hdisp hwait hcopy hv]

end Sys2Proof.Machine
end

section
/-! The statement O8: loads and stores of local memory (R114 to R121, Table OP-7). -/

namespace Sys2Proof.Machine

/-! ### The places of an access (R115, R116, R120) -/

section
variable {own ea gr i : Nat} {m : Mn}

theorem isLocal_of_mem (hp : placeOf own ea = .mem gr i) (hgr : gr / 32768 = own) (hown : own < 32) : isLocal own ea = true := by
  have hlt : gr < imemBase := by
    unfold imemBase
    omega
  simp [isLocal, hp, hgr, hlt]

/-- A local address is a word of a data SRAM. -/
theorem placeKind_of_local (h : isLocal own ea = true) (store : Bool) : placeKind store own ea = none := by
  unfold isLocal at h
  unfold placeKind
  cases hp : placeOf own ea with
  | mem g j =>
    rw [hp] at h
    have hlt : g < imemBase := by
      simp only [Bool.and_eq_true, decide_eq_true_eq] at h
      exact h.1
    have hsoft : granSoft g = true := by
      have : g < keepBase := Nat.lt_trans hlt (by decide)
      simp [granSoft, this]
    simp [hsoft]
  | nowhere => simp [hp] at h
  | unbacked => simp [hp] at h
  | reg r => simp [hp] at h

/-- Of a local access only a pair may trap. -/
theorem accessFault_of_local (h : isLocal own ea = true) (hm : m ≠ .ld2 ∧ m ≠ .st2) : accessFault own m ea = none := by
  unfold accessFault
  simp only [placeKind_of_local h]
  unfold isLocal at h
  cases hp : placeOf own ea with
  | mem g j => simp [hm.1, hm.2]
  | nowhere => simp [hp] at h
  | unbacked => simp [hp] at h
  | reg r => simp [hp] at h

/-- A pair whose two words are local does not trap. -/
theorem accessFault_of_pair (h : isLocal own ea = true) (hhi : isLocal own ((ea + 1) % 2 ^ 32) = true) (hm : m = .ld2 ∨ m = .st2) :
    accessFault own m ea = none := by
  unfold accessFault
  simp only [placeKind_of_local h, placeKind_of_local hhi, h, hhi]
  obtain rfl | rfl := hm <;> rfl

theorem isSplit_of_mem (hp : placeOf own ea = .mem gr i) : isSplit own ea = (i == 6) := by simp [isSplit, hp]

end

/-! ### The row of a load or store -/

section
variable {u k c cid n d how gr i : Nat} {w : Word} {o : Op} {g : Nat → Word} {s : State}

theorem kind_of_access {m : Mn} (h : m.isLoad = true ∨ m.isStore = true) : m.ends = false ∧ m ≠ .mfc ∧ m.isLong = false := by
  revert h
  cases m <;> decide

theorem not_load_of_store {m : Mn} (h : m.isStore = true) : m.isLoad = false := by
  revert h
  cases m <;> decide

theorem opReady_access (hm : o.mn.isLoad = true ∨ o.mn.isStore = true) (hf : accessFault (clusterOf cid) o.mn (o.ea g) = none) (j : Nat) :
    opReady cid w j o g s = .go := by
  have hls : (o.mn.isLoad || o.mn.isStore) = true := by simpa using hm
  unfold opReady
  simp only [hls, if_true, hf]

theorem effectOf_load (hm : o.mn.isLoad = true) :
    effectOf u k w o s =
      (loadEffect (16 * u + k) (nextStep (16 * u + k) s) o o.rd ((opened (16 * u + k) s).reads (16 * u + k)) w
        (stepped (16 * u + k) (opened (16 * u + k) s)), 0) := by
  unfold effectOf opEffect
  simp only [(kind_of_access (.inl hm)).2.2, hm, Bool.false_eq_true, if_false, if_true]

theorem effectOf_store (hm : o.mn.isStore = true) :
    effectOf u k w o s =
      (storeEffect (16 * u + k) (nextStep (16 * u + k) s) o ((opened (16 * u + k) s).reads (16 * u + k))
        (stepped (16 * u + k) (opened (16 * u + k) s)), 0) := by
  unfold effectOf opEffect
  simp only [(kind_of_access (.inr hm)).2.2, not_load_of_store hm, hm, Bool.false_eq_true, if_false, if_true]

/-- A load or store that names a place is ready. -/
theorem Issues.of_access (h : AtWord u k w (.one c o) s) (hm : o.mn.isLoad = true ∨ o.mn.isStore = true)
    (hc : condHolds c ((opened (16 * u + k) s).reads (16 * u + k)) = true)
    (hf : accessFault (clusterOf (16 * u + k)) o.mn (o.ea ((opened (16 * u + k) s).reads (16 * u + k))) = none) : Issues u k c w o o.mn s :=
  ⟨h, rfl, hc, (kind_of_access hm).2.1, opReady_access hm hf 0⟩

/-! ### Reads and writes of a word in a granule -/

theorem loadWord_mem {own a : Nat} (hp : placeOf own a = .mem gr i) :
    loadWord own a how n s =
      (if (readGran gr s).pb then none else some (loadShape how n (granWord (readGran gr s).data i) (granTag (readGran gr s).data)), (readGran gr s).st) := by
  simp only [loadWord, hp]

/-- A whole word is replaced. -/
theorem storeWord_mem {own a : Nat} {v : Word} (hp : placeOf own a = .mem gr i) :
    storeWord own a 4 v s = mergeGran gr (fun x => granSetWord x i v) s := by
  simp only [storeWord, hp, Nat.lt_irrefl, if_false]

/-- One nonet of a word is replaced. -/
theorem storeNonet_mem {own a nib : Nat} {v : Word} (hp : placeOf own a = .mem gr i) (hnib : nib < 4) :
    storeWord own a nib v s = mergeGran gr (fun x => granSetWord x i (setBits (granWord x i) (9 * nib) 9 (v.toNat % 512))) s := by
  simp only [storeWord, hp, hnib, if_true]
  rfl

/-- A local load of one word, a nonet or the tag. -/
theorem loadEffect_local (hm : o.mn ≠ .ld2) (hp : placeOf (clusterOf cid) (o.ea g) = .mem gr i) (hl : isLocal (clusterOf cid) (o.ea g) = true) :
    loadEffect cid n o d g w s =
      let r := readGran gr s
      if r.pb then poisonDue cid (n + 4) 1 o.code (o.ea g) r.st
      else produce cid d (n + 4) (loadShape o.mn.loadHow (o.imm % 4) (granWord r.data i) (granTag r.data)) r.st := by
  unfold loadEffect
  simp only [if_neg hm, hl, if_true, loadWord_mem hp]
  cases (readGran gr s).pb <;> rfl

/-- An LD2 whose low word stands in slot 6 starts its added step. -/
theorem loadEffect_split (hm : o.mn = .ld2) (hp : placeOf (clusterOf cid) (o.ea g) = .mem gr 6) :
    loadEffect cid n o d g w s = s.modCtx cid (fun x => { x with wait := .split w d (o.ea g) }) := by
  unfold loadEffect
  simp only [hm, if_true, isSplit_of_mem hp, BEq.rfl]

/-- An LD2 of two words of one granule. -/
theorem loadEffect_pair (hm : o.mn = .ld2) (hi : i < 6) (hp : placeOf (clusterOf cid) (o.ea g) = .mem gr i)
    (hhi : placeOf (clusterOf cid) ((o.ea g + 1) % 2 ^ 32) = .mem gr (i + 1)) :
    loadEffect cid n o d g w s =
      let r := readGran gr s
      if r.pb then poisonDue cid (n + 4) 1 o.code (o.ea g) r.st
      else produce cid (d + 1) (n + 4) (granWord r.data (i + 1)) (produce cid d (n + 4) (granWord r.data i) r.st) := by
  have hsplit : isSplit (clusterOf cid) (o.ea g) = false := (isSplit_of_mem hp).trans (by simpa using Nat.ne_of_lt hi)
  unfold loadEffect loadPair
  simp only [hm, if_true, hsplit, Bool.false_eq_true, if_false, loadWord_mem hp, loadWord_mem hhi]
  cases (readGran gr s).pb <;> rfl

/-- A local store of one word or one nonet. -/
theorem storeEffect_local (hm : o.mn ≠ .st2) (hl : isLocal (clusterOf cid) (o.ea g) = true) :
    storeEffect cid n o g s = storeWord (clusterOf cid) (o.ea g) (if o.mn = .stn then o.imm % 4 else 4) (g o.rd) s := by
  unfold storeEffect
  simp only [if_neg hm, hl, if_true]

/-- An ST2 of two words of one granule. -/
theorem storeEffect_pair (hm : o.mn = .st2) (hi : i < 6) (hp : placeOf (clusterOf cid) (o.ea g) = .mem gr i) :
    storeEffect cid n o g s = mergeGran gr (fun v => granSetWord (granSetWord v i (g o.rd)) (i + 1) (g (o.rd + 1))) s := by
  have hsplit : isSplit (clusterOf cid) (o.ea g) = false := (isSplit_of_mem hp).trans (by simpa using Nat.ne_of_lt hi)
  unfold storeEffect storePair
  simp only [hm, if_true, hsplit, Bool.false_eq_true, if_false, hp]

/-- An ST2 of the last word of a granule and of a word of another takes its added step. -/
theorem storeEffect_split {gr2 i2 : Nat} (hm : o.mn = .st2) (hp : placeOf (clusterOf cid) (o.ea g) = .mem gr 6)
    (hhi : placeOf (clusterOf cid) ((o.ea g + 1) % 2 ^ 32) = .mem gr2 i2) :
    storeEffect cid n o g s =
      countStep cid (openStep cid (n + 1) (mergeGran gr2 (fun v => granSetWord v i2 (g (o.rd + 1))) (mergeGran gr (fun v => granSetWord v 6 (g o.rd)) s))) := by
  unfold storeEffect storePair
  simp only [hm, if_true, isSplit_of_mem hp, BEq.rfl, hp, storeWord_mem hp, storeWord_mem hhi]

end

theorem AtWord.cluster_lt {u k : Nat} {w : Word} {f : Fj} {s : State} (h : AtWord u k w f s) : clusterOf (16 * u + k) < 32 := by
  have := h.unit
  have := h.ctx
  unfold clusterOf
  omega

/-- Settles O8: the place of the effective address chooses the granule, and its code what the access gives. -/
theorem localAccess : Obligations.LocalAccess := by
  unfold Obligations.LocalAccess
  refine ⟨?_, ?_⟩
  · intro u k c w o s gr i h cid so g n t ea hc hp hgr
    have hlocal : isLocal (clusterOf cid) ea = true := isLocal_of_mem hp hgr h.cluster_lt
    refine ⟨fun hm => ?_, fun hm => ⟨fun hi hhi => ?_, fun hi hhi => ?_⟩⟩
    · intro r v
      have hkind : o.mn.isLoad = true ∧ o.mn ≠ .ld2 ∧ o.mn ≠ .st2 := by
        obtain hm | hm | hm | hm | hm := hm <;> rw [hm] <;> decide
      obtain ⟨hload, hpair⟩ := hkind
      rw [(Issues.of_access h (.inl hload) hc (accessFault_of_local hlocal hpair)).row_settled (kind_of_access (.inl hload)).1 (effectOf_load hload),
        loadEffect_local hpair.1 hp hlocal]
      obtain hm | hm | hm | hm | hm := hm <;> simp only [v, hm] <;> rfl
    · subst hi
      have hload : o.mn.isLoad = true := by rw [hm]; rfl
      have hf := accessFault_of_pair hlocal hhi (.inl hm)
      have heffect := (effectOf_load (u := u) (k := k) (w := w) (s := s) hload).trans (by rw [loadEffect_split hm hp])
      exact (Issues.of_access h (.inl hload) hc hf).row_quiet (kind_of_access (.inl hload)).1 heffect ((stepOnly_setCtx ..).quiet h.quiet_stepped)
    · have hload : o.mn.isLoad = true := by rw [hm]; rfl
      have hf := accessFault_of_pair hlocal (isLocal_of_mem hhi hgr h.cluster_lt) (.inl hm)
      intro r
      rw [(Issues.of_access h (.inl hload) hc hf).row_settled (kind_of_access (.inl hload)).1 (effectOf_load hload), loadEffect_pair hm hi hp hhi]
  · intro u k c w o s gr i h cid so g t ea hc hp hgr
    have hlocal : isLocal (clusterOf cid) ea = true := isLocal_of_mem hp hgr h.cluster_lt
    have row (hstore : o.mn.isStore = true) (hf : accessFault (clusterOf cid) o.mn ea = none) :
        exec (wordRow o.mn u w) s = .next (settleFaults (storeEffect cid (nextStep cid s) o g t)) :=
      (Issues.of_access h (.inr hstore) hc hf).row_settled (kind_of_access (.inr hstore)).1 (effectOf_store hstore)
    refine ⟨fun hm => ?_, fun hm => ?_, fun hm hi hhi => ?_, fun hm hi gr2 i2 hhi hgr2 => ?_⟩
    · have hkind : o.mn.isStore = true ∧ (o.mn ≠ .ld2 ∧ o.mn ≠ .st2) ∧ o.mn ≠ .stn := by obtain hm | hm := hm <;> rw [hm] <;> decide
      obtain ⟨hstore, hpair, hstn⟩ := hkind
      rw [row hstore (accessFault_of_local hlocal hpair), storeEffect_local hpair.2 hlocal, if_neg hstn, storeWord_mem hp]
    · have hkind : o.mn.isStore = true ∧ o.mn ≠ .ld2 ∧ o.mn ≠ .st2 := by rw [hm]; decide
      obtain ⟨hstore, hpair⟩ := hkind
      rw [row hstore (accessFault_of_local hlocal hpair), storeEffect_local hpair.2 hlocal, if_pos hm, storeNonet_mem hp (Nat.mod_lt _ (by decide))]
    · rw [row (by rw [hm]; rfl) (accessFault_of_pair hlocal (isLocal_of_mem hhi hgr h.cluster_lt) (.inr hm)), storeEffect_pair hm hi hp]
    · subst hi
      intro t2
      rw [row (by rw [hm]; rfl) (accessFault_of_pair hlocal (isLocal_of_mem hhi hgr2 h.cluster_lt) (.inr hm)), storeEffect_split hm hp hhi]

end Sys2Proof.Machine
end

section
/-! The statement O9: loads and stores of memory that is not local, and their arrival (R118, R119). -/

namespace Sys2Proof.Machine

/-! ### A granule outside the instruction stores is no program (R333) -/

section
variable {g : Nat} {s : State}

theorem program_countDecode (d : Decoded) : (countDecode g d s).program = s.program := by
  unfold countDecode
  cases d with
  | clean | one => rfl
  | two | poisoned | bad => dsimp only; split <;> rfl

theorem program_setCode (v : Granule) (pb : Bool) : (s.setCode g v pb).program = s.program := by
  rw [State.setCode, State.setErr_program, State.setPb_program, State.setGranBits_eq]

theorem program_countProgram (h : isImem g = false) : (countProgram g s).program = s.program := by simp [countProgram, h]

theorem program_mergeGran (h : isImem g = false) (f : Granule → Granule) : (mergeGran g f s).program = s.program := by
  have hread : (readGran g s).st.program = s.program := by
    unfold readGran
    dsimp only
    split
    · rw [program_countProgram h, program_setCode, program_countDecode]
    · exact program_countDecode _
  unfold mergeGran
  rw [program_countProgram h, program_setCode, hread]

/-- Where no program is new, none changes its owner. -/
theorem State.claimPrograms_none {n b : Nat} (h : s.program.length ≤ n) : s.claimPrograms n b = s := by
  unfold State.claimPrograms
  rw [List.take_of_length_le h, List.drop_of_length_le h, List.map_nil, List.append_nil]

end

/-! ### Issue -/

section
variable {own ea cid n d : Nat} {w : Word} {o : Op} {g : Nat → Word} {s : State}

/-- A pair that is not local traps. -/
theorem not_pair_of_remote {m : Mn} (hl : isLocal own ea = false) (hf : accessFault own m ea = none) : m ≠ .ld2 ∧ m ≠ .st2 := by
  have hpair (hm : m = .ld2 ∨ m = .st2) : accessFault own m ea ≠ none := by
    unfold accessFault
    cases placeKind m.isStore own ea with
    | some k => simp
    | none => obtain rfl | rfl := hm <;> simp [hl]
  exact ⟨fun hm => hpair (.inl hm) hf, fun hm => hpair (.inr hm) hf⟩

/-- A remote load holds its context. -/
theorem loadEffect_remote (hm : o.mn ≠ .ld2) (hl : isLocal (clusterOf cid) (o.ea g) = false) :
    loadEffect cid n o d g w s = s.modCtx cid (fun x =>
      { x with rload := some { ea := o.ea g, rd := d, how := o.mn.loadHow, n := o.imm % 4, op := o.code, errs := 0 }, wait := .remoteLoad }) := by
  unfold loadEffect
  simp only [if_neg hm, hl, Bool.false_eq_true, if_false]

/-- A remote store posts its word. -/
theorem storeEffect_remote (hm : o.mn ≠ .st2) (hl : isLocal (clusterOf cid) (o.ea g) = false) :
    storeEffect cid n o g s =
      { s with posted := s.posted ++ [{ cid := cid, ea := o.ea g, val := g o.rd, nib := if o.mn = .stn then o.imm % 4 else 4, step := n, pb := false }] } := by
  unfold storeEffect
  simp only [if_neg hm, hl, Bool.false_eq_true, if_false]

end

/-- A store on its way is no fault. -/
theorem quiet_posted {l : List Posted} {s : State} (h : Quiet s) : Quiet { s with posted := l } := h

/-! ### The return of a remote load (R118, R321) -/

section
variable {cid gr i : Nat} {r : RLoad} {s : State}

/-- Data that no error meets on its way arrives as it was read. -/
theorem meshWord_sound {v : Granule} (h : r.errs = 0) : meshWord r i v false = some (loadShape r.how r.n (granWord v i) (granTag v)) := by
  simp [meshWord, decodeCode, h]

/-- The context of a remote load that returns waits for it no longer. -/
def loadReturned (cid : Nat) (s : State) : State :=
  s.modCtx cid (fun x => { x with rload := none, wait := if x.wait = .remoteLoad then .none else x.wait })

theorem completeRemote_mem (hr : (s.ctx cid).rload = some r) (hposted : s.posted = []) (hrd : r.rd ≠ 0) (hp : placeOf (clusterOf cid) r.ea = .mem gr i)
    (hopen : placeOpen cid (.mem gr i) s = true) (hbusy : bankBusy gr s = false) (herrs : r.errs = 0) (hon : granOn gr (loadReturned cid s) = true)
    (hpb : (readGran gr (loadReturned cid s)).pb = false) :
    completeRemote cid s =
      let m := readGran gr (loadReturned cid s)
      (claim cid r.rd m.st).modCtx cid (fun x =>
        let y := writeNow r.rd (loadShape r.how r.n (granWord m.data i) (granTag m.data)) x
        { y with replay := suppressReplay r.rd y.replay }) := by
  unfold completeRemote
  unfold loadReturned at *
  simp only [hr, hposted, hp, hopen, hbusy, hon, hpb, meshWord_sound herrs, List.any_nil, Bool.not_true, Bool.or_self, Bool.false_eq_true, if_false, if_true,
    if_neg hrd]

end

/-! ### The arrival of a posted store (R119) -/

section
variable {p : Posted} {l : List Posted} {gr i : Nat} {s : State}

theorem isImem_of_imemTarget (hp : placeOf (clusterOf p.cid) p.ea = .mem gr i) (h : imemTarget p = none) : isImem gr = false := by
  unfold imemTarget at h
  rw [hp] at h
  simpa using h

/-- A posted store that is not for an instruction store may arrive first over an open way. -/
theorem storeMayArrive_first (himem : imemTarget p = none) (hp : placeOf (clusterOf p.cid) p.ea = .mem gr i)
    (hopen : placeOpen p.cid (.mem gr i) s = true) (hbusy : bankBusy gr s = false) : storeMayArrive 0 p s = true := by
  simp [storeMayArrive, himem, hp, hopen, hbusy]

theorem arriveStore_mem (hl : s.posted = p :: l) (himem : imemTarget p = none) (hp : placeOf (clusterOf p.cid) p.ea = .mem gr i)
    (hopen : placeOpen p.cid (.mem gr i) s = true) (hbusy : bankBusy gr s = false) (hpb : p.pb = false)
    (hon : granOn gr { s with posted := l } = true) :
    arriveStore 0 s =
      mergeGran gr (fun v => granSetWord v i (if p.nib < 4 then nonetPut (granWord v i) p.nib (p.val.toNat % 512) else p.val)) { s with posted := l } := by
  have hstay : s.program.length = (mergeGran gr (fun v => granSetWord v i (if p.nib < 4 then nonetPut (granWord v i) p.nib (p.val.toNat % 512) else p.val))
      { s with posted := l }).program.length := by
    rw [program_mergeGran (isImem_of_imemTarget hp himem)]
  unfold arriveStore
  simp only [hl, List.getElem?_cons_zero, storeMayArrive_first himem hp hopen hbusy, Bool.not_true, Bool.false_eq_true, if_false, List.eraseIdx_cons_zero, hp,
    hon, if_true, hpb, storeWord]
  exact State.claimPrograms_none (Nat.le_of_eq hstay.symm)

end

/-- Settles O9: what is not local is posted or held for, and takes effect when it arrives. -/
theorem remoteAccess : Obligations.RemoteAccess := by
  unfold Obligations.RemoteAccess
  refine ⟨?_, ?_, ?_⟩
  · intro u k c w o s h cid so g t hc hl hf
    obtain ⟨hld2, hst2⟩ := not_pair_of_remote hl hf
    refine ⟨fun hm => ?_, fun hm => ?_⟩
    · have heffect := (effectOf_load (u := u) (k := k) (w := w) (s := s) hm).trans (by rw [loadEffect_remote hld2 hl])
      exact (Issues.of_access h (.inl hm) hc hf).row_quiet (kind_of_access (.inl hm)).1 heffect ((stepOnly_setCtx ..).quiet h.quiet_stepped)
    · have heffect := (effectOf_store (u := u) (k := k) (w := w) (s := s) hm).trans (by rw [storeEffect_remote hst2 hl])
      exact (Issues.of_access h (.inr hm) hc hf).row_quiet (kind_of_access (.inr hm)).1 heffect (quiet_posted h.quiet_stepped)
  · intro cid r gr i s hcid hr hposted hrd hp s0 hopen hbusy herrs hon hpb
    have hdone := completeRemote_mem hr hposted hrd hp hopen hbusy herrs hon hpb
    have hexec : exec (.remoteLoadComplete cid) s = .next (finish (completeRemote cid s)) := by
      show answer (cid < 4096) (completeRemote cid s) = _
      simp only [answer, hcid, decide_true, if_true]
    rw [hexec, hdone]
    rfl
  · intro p l gr i s hl himem hp hopen hbusy hpb hon
    rw [← arriveStore_mem hl himem hp hopen hbusy hpb hon]
    rfl

end Sys2Proof.Machine
end

section
/-! The statement O6: the results of division and roots (R107, R109, R528, Table OP-6). -/

namespace Sys2Proof.Machine

/-! ### Division -/

/-- DIV truncates the exact quotient, which is a word but for −2³⁵ / −1. -/
theorem divResult_exact {a b : Word} (hb : b ≠ 0) (hover : ¬ (a.toInt = -2 ^ 35 ∧ b.toInt = -1)) :
    divResult a b = { lo := a.sdiv b, hi := a.srem b, sets := 0 } ∧ (a.sdiv b).toInt = a.toInt.tdiv b.toInt ∧
    (a.srem b).toInt = a.toInt.tmod b.toInt := by
  have hmin : a ≠ BitVec.intMin 36 ∨ b ≠ -1#36 := by
    by_contra h
    push Not at h
    obtain ⟨rfl, rfl⟩ := h
    exact hover (by decide)
  have hdiv := BitVec.toInt_sdiv_of_ne_or_ne a b hmin
  have hrem := BitVec.toInt_srem a b
  refine ⟨?_, hdiv, hrem⟩
  unfold divResult
  rw [if_neg hb, if_neg hover, wordOf_eq, wordOf_eq, ← hdiv, ← hrem, BitVec.ofInt_toInt, BitVec.ofInt_toInt]

theorem divuResult_exact {a b : Word} (hb : b ≠ 0) : divuResult a b = { lo := a / b, hi := a % b, sets := 0 } := by
  unfold divuResult
  rw [if_neg hb, ← BitVec.toNat_udiv, ← BitVec.toNat_umod, BitVec.ofNat_toNat, BitVec.ofNat_toNat, BitVec.setWidth_eq, BitVec.setWidth_eq]

/-- The sign of a remainder is that of the dividend. -/
theorem tmod_neg_iff {x y : Int} (h : x.tmod y ≠ 0) : x.tmod y < 0 ↔ x < 0 := by
  have hpos := Int.tmod_nonneg (a := x) y
  have hneg := Int.tmod_nonneg (a := -x) y
  rw [Int.neg_tmod] at hneg
  omega

/-! ### Roots -/

/-- What is found so far is at most the root, and the bits still to try bring it there. -/
theorem sqrtFrom_spec (n k r : Nat) (hlo : r * r ≤ n) (hhi : n < (r + 2 ^ k) * (r + 2 ^ k)) :
    sqrtFrom n k r * sqrtFrom n k r ≤ n ∧ n < (sqrtFrom n k r + 1) * (sqrtFrom n k r + 1) := by
  induction k generalizing r with
  | zero => exact ⟨hlo, hhi⟩
  | succ k ih =>
    unfold sqrtFrom
    split
    · next h =>
      refine ih _ h ?_
      rwa [Nat.add_assoc, ← Nat.two_mul, ← Nat.pow_succ']
    · next h => exact ih _ hlo (Nat.lt_of_not_le h)

/-- The rounded root of `n / d`, for a quotient that the search covers: the halves on both sides of it enclose the exact root. -/
theorem roundSqrt_spec {n d : Nat} (hd : 0 < d) (h : 4 * n / d < 2 ^ 80) :
    (2 * roundSqrt n d - 1) ^ 2 * d ≤ 4 * n ∧ 4 * n < (2 * roundSqrt n d + 1) ^ 2 * d := by
  obtain ⟨hlo, hhi⟩ := sqrtFrom_spec (4 * n / d) 40 0 (Nat.zero_le _) (by simpa using h)
  unfold roundSqrt
  generalize sqrtFrom (4 * n / d) 40 0 = q at *
  have hlow : 2 * ((q + 1) / 2) - 1 ≤ q := by omega
  have hhigh : q + 1 ≤ 2 * ((q + 1) / 2) + 1 := by omega
  constructor
  · calc (2 * ((q + 1) / 2) - 1) ^ 2 * d ≤ q ^ 2 * d := Nat.mul_le_mul_right d (Nat.pow_le_pow_left hlow 2)
      _ ≤ 4 * n / d * d := Nat.mul_le_mul_right d (by rw [Nat.pow_two]; exact hlo)
      _ ≤ 4 * n := Nat.div_mul_le_self ..
  · calc 4 * n < (q + 1) ^ 2 * d := by rw [Nat.pow_two]; exact (Nat.div_lt_iff_lt_mul hd).mp hhi
      _ ≤ (2 * ((q + 1) / 2) + 1) ^ 2 * d := Nat.mul_le_mul_right d (Nat.pow_le_pow_left hhigh 2)

/-- A rounded root is a word where the quotient is at most 2⁷¹. -/
theorem roundSqrt_lt {n d : Nat} (h : 4 * n / d ≤ 2 ^ 73) : roundSqrt n d < 2 ^ 36 := by
  obtain ⟨hlo, -⟩ := sqrtFrom_spec (4 * n / d) 40 0 (Nat.zero_le _) (by omega)
  unfold roundSqrt
  generalize sqrtFrom (4 * n / d) 40 0 = q at *
  by_contra hq
  have hge : 2 ^ 37 - 1 ≤ q := by omega
  have hsq := Nat.mul_le_mul hge hge
  omega

/-- SQRT of a word that is not negative. -/
theorem sqrtResult_spec {a : Word} (ha : 0 ≤ a.toInt) :
    let r := sqrtResult a
    (2 * r.lo.toNat - 1) ^ 2 ≤ 4 * (a.toNat * 2 ^ 35) ∧ 4 * (a.toNat * 2 ^ 35) < (2 * r.lo.toNat + 1) ^ 2 ∧ r.sets = 0 := by
  have hlt : 2 * a.toNat < 2 ^ 36 := BitVec.toInt_pos_iff.mp ha
  have hbound : 4 * (a.toNat * 2 ^ 35) / 1 ≤ 2 ^ 73 := by omega
  obtain ⟨hlo, hhi⟩ := roundSqrt_spec (n := a.toNat * 2 ^ 35) Nat.one_pos (by omega)
  rw [Nat.mul_one] at hlo hhi
  have hr : sqrtResult a = { lo := BitVec.ofNat 36 (roundSqrt (a.toNat * 2 ^ 35) 1), hi := 0, sets := 0 } := if_neg (Int.not_lt.mpr ha)
  rw [hr]
  dsimp only
  rw [BitVec.toNat_ofNat, Nat.mod_eq_of_lt (roundSqrt_lt hbound)]
  exact ⟨hlo, hhi, rfl⟩

theorem ne_zero_of_toInt {a : Word} (h : a.toInt ≠ 0) : a ≠ 0 := by
  rintro rfl
  exact h rfl

/-- RSQRT of a positive word. -/
theorem rsqrtResult_spec {a : Word} (ha : 0 < a.toInt) :
    let r := rsqrtResult a
    (2 * r.lo.toNat - 1) ^ 2 * a.toNat ≤ 4 * 2 ^ 71 ∧ 4 * 2 ^ 71 < (2 * r.lo.toNat + 1) ^ 2 * a.toNat ∧ r.sets = 0 := by
  have hne : a ≠ 0 := ne_zero_of_toInt ha.ne'
  have hpos : 0 < a.toNat := Nat.pos_of_ne_zero fun h => hne (BitVec.eq_of_toNat_eq h)
  have hbound : 4 * 2 ^ 71 / a.toNat ≤ 2 ^ 73 := Nat.div_le_self ..
  obtain ⟨hlo, hhi⟩ := roundSqrt_spec (n := 2 ^ 71) hpos (Nat.lt_of_le_of_lt hbound (by decide))
  have hr : rsqrtResult a = { lo := BitVec.ofNat 36 (roundSqrt (2 ^ 71) a.toNat), hi := 0, sets := 0 } :=
    (if_neg hne).trans (if_neg (Int.not_lt.mpr ha.le))
  rw [hr]
  dsimp only
  rw [BitVec.toNat_ofNat, Nat.mod_eq_of_lt (roundSqrt_lt hbound)]
  exact ⟨hlo, hhi, rfl⟩

/-! ### SINCOS -/

theorem sincosResult_low (a : Word) : sincosResult (a &&& 0xFFFFFF) = sincosResult a := by
  have hlow : (a &&& 0xFFFFFF).toNat % 2 ^ 24 = a.toNat % 2 ^ 24 := by
    rw [BitVec.toNat_and, show (0xFFFFFF : Word).toNat = 2 ^ 24 - 1 from rfl, Nat.and_two_pow_sub_one_eq_mod, Nat.mod_mod]
  unfold sincosResult
  rw [hlow]

theorem sincosResult_axes :
    sincosResult 0 = { lo := 0, hi := 2 ^ 35 - 1, sets := 0 } ∧ sincosResult 0x400000 = { lo := 2 ^ 35 - 1, hi := 0, sets := 0 } ∧
    sincosResult 0x800000 = { lo := 0, hi := 2 ^ 35, sets := 0 } ∧ sincosResult 0xC00000 = { lo := 2 ^ 35, hi := 0, sets := 0 } := by
  decide +kernel

/-- Settles O6: the quotients and remainders are those of `Int.tdiv` and `Int.tmod`, and the roots those that the search by bits encloses. -/
theorem longResults : Obligations.LongResults := by
  unfold Obligations.LongResults
  refine ⟨⟨?_, ?_, fun a => rfl, fun a => rfl, by decide, fun a b ha => if_pos ha, fun b => rfl,
    fun a b ha => (if_neg (ne_zero_of_toInt ha.ne)).trans (if_pos ha), fun a b => ⟨rfl, sincosResult_low a⟩, fun b => sincosResult_axes⟩,
    fun a b ha => ?_, fun a b ha => rsqrtResult_spec ha⟩
  · intro a b hb hover r
    obtain ⟨hres, hlo, hhi⟩ := divResult_exact hb hover
    have hr : r = { lo := a.sdiv b, hi := a.srem b, sets := 0 } := hres
    have hb0 : b.toInt ≠ 0 := fun h => hb (BitVec.eq_of_toInt_eq h)
    rw [hr]
    dsimp only
    rw [hlo, hhi]
    refine ⟨(Int.tdiv_mul_add_tmod ..).symm, ?_, fun hne => tmod_neg_iff fun h => hne (BitVec.eq_of_toInt_eq (hhi.trans h)), rfl⟩
    rw [Int.natAbs_tmod]
    exact Nat.mod_lt _ (Int.natAbs_pos.mpr hb0)
  · intro a b hb r
    have hr : r = { lo := a / b, hi := a % b, sets := 0 } := divuResult_exact hb
    have hb0 : b.toNat ≠ 0 := fun h => hb (BitVec.eq_of_toNat_eq h)
    rw [hr]
    dsimp only
    rw [BitVec.toNat_udiv, BitVec.toNat_umod]
    exact ⟨(Nat.div_add_mod' ..).symm, Nat.mod_lt _ (Nat.pos_of_ne_zero hb0), rfl⟩
  · obtain ⟨hlo, hhi, hsets⟩ := sqrtResult_spec ha
    refine ⟨?_, hhi, hsets⟩
    split
    · rw [Nat.mul_zero]
      exact Nat.zero_le _
    · rw [Nat.mul_one]
      exact hlo

end Sys2Proof.Machine
end

section
/-! The statement O19: the arrival of a fetched granule (R162 to R165), BTB_FLUSH (R172), and the writes of FRC and PC from outside the unit (R188, R193). -/

namespace Sys2Proof.Machine

/-! ### A command of a row that is no word -/

theorem answerWord_of_valid {ok : Bool} (h : ok = true) (s : State) : answerWord ok s = .next (settleFaults s) := if_pos h

/-! ### A read of a granule leaves contexts and units as they are -/

/-- `t` has the contexts and the units of `s`. -/
def IssueKept (s t : State) : Prop := t.units = s.units ∧ t.ctxs = s.ctxs

theorem IssueKept.trans {r s t : State} (h : IssueKept r s) (h' : IssueKept s t) : IssueKept r t := ⟨h'.1.trans h.1, h'.2.trans h.2⟩

section
variable {g : Nat} {s : State}

theorem issueKept_countDecode (d : Decoded) : IssueKept s (countDecode g d s) := by
  unfold countDecode
  cases d with
  | clean | one => exact ⟨rfl, rfl⟩
  | two | poisoned | bad => dsimp only; split <;> exact ⟨rfl, rfl⟩

theorem issueKept_setCode (v : Granule) (pb : Bool) : IssueKept s (s.setCode g v pb) := by
  unfold IssueKept State.setCode
  rw [State.setErr_units, State.setPb_units, State.setErr_ctxs, State.setPb_ctxs, State.setGranBits_eq]
  exact ⟨rfl, rfl⟩

theorem issueKept_countProgram : IssueKept s (countProgram g s) := by
  unfold countProgram
  split <;> exact ⟨rfl, rfl⟩

theorem issueKept_readGran : IssueKept s (readGran g s).st := by
  unfold readGran
  dsimp only
  split
  · exact (issueKept_countDecode _).trans ((issueKept_setCode ..).trans issueKept_countProgram)
  · exact issueKept_countDecode _

theorem unit_readGran (u : Nat) : (readGran g s).st.unit u = s.unit u := congrArg (Sparse.get UnitSt.init u) issueKept_readGran.1

theorem ctx_readGran (cid : Nat) : (readGran g s).st.ctx cid = s.ctx cid := congrArg (Sparse.get Ctx.init cid) issueKept_readGran.2

end

/-! ### The arrival of a granule (R162 to R165) -/

section
variable {u g : Nat} {s : State}

/-- A granule that the stream asked for, near the word at issue, replaces its older copy in the fetch buffer. -/
theorem UnitSt.land_stream {x : UnitSt} {f : FGran} {c g0 m : Nat} (hfreq : x.freq = [(f.g, none, m)]) (hwait : x.btbWait = [])
    (hnear : g0 ≤ f.g ∧ f.g ≤ g0 + 2) :
    x.land c (some g0) [] f = { x with freq := [], fbuf := x.fbuf.filter (fun y => y.g ≠ f.g) ++ [f], btb := x.btb.take 64 } := by
  simp [UnitSt.land, UnitSt.fillBtb, hfreq, hwait, hnear]

/-- What comes to a unit that no dispatch occupies is placed by the word at issue of the context it runs. -/
theorem landFetch_running {k : Nat} {f : FGran} (hdisp : (s.unit u).disp = none) (hrun : (s.unit u).run = some k)
    (htargets : (s.ctx (16 * u + k)).targets = []) :
    landFetch f u s = s.modUnit u (fun x => x.land (u / 8) (codeGran (u / 8) (s.ctx (16 * u + k)).pc) [] f) := by
  unfold landFetch
  simp only [hdisp, hrun, htargets, List.filterMap_nil]

/-- The only request of a unit is due where no store is on its way. -/
theorem fetchDue_of_single {o : Option Nat} {m : Nat} (hfreq : (s.unit u).freq = [(g, o, m)]) (hposted : s.posted = []) : fetchDue u g s = true := by
  simp [fetchDue, hfreq, hposted]

/-- A unit that has not asked for a granule awaits none. -/
theorem fetchDue_of_not_asked (h : ∀ e ∈ (s.unit u).freq, e.1 ≠ g) : fetchDue u g s = false := by
  have hasked : (s.unit u).freq.filter (fun e => e.1 = g) = [] := by simpa using h
  simp only [fetchDue, hasked, List.isEmpty_nil, Bool.not_true, Bool.false_and]

/-- Where only one unit of a cluster awaits a granule, the read answers that unit alone. -/
theorem filter_fetchDue_single (hdue : fetchDue u g s = true) (hother : ∀ v, v / 8 = u / 8 → v ≠ u → fetchDue v g s = false) :
    ((List.range 8).map (8 * (u / 8) + ·)).filter (fun v => fetchDue v g s) = [u] := by
  have honly : ∀ v ∈ (List.range 8).map (8 * (u / 8) + ·), fetchDue v g s = (v == u) := by
    intro v hv
    obtain ⟨i, hi, rfl⟩ := List.mem_map.mp hv
    have hi8 : i < 8 := List.mem_range.mp hi
    by_cases hvu : 8 * (u / 8) + i = u
    · rw [hvu, hdue, beq_self_eq_true]
    · rw [hother _ (by omega) hvu, beq_eq_false_iff_ne.mpr hvu]
  have hmem : u ∈ (List.range 8).map (8 * (u / 8) + ·) := List.mem_map.mpr ⟨u % 8, List.mem_range.mpr (by omega), by omega⟩
  have hnodup : ((List.range 8).map (8 * (u / 8) + ·)).Nodup := List.nodup_range.map fun _ _ h => Nat.add_left_cancel h
  rw [List.filter_congr honly, List.filter_beq, List.count_eq_one_of_mem hnodup hmem]
  rfl

theorem bankBusy_of_no_program (h : s.program = []) : bankBusy g s = false := by simp [bankBusy, h]

/-- The read of a granule that one unit of the cluster awaits. -/
theorem arriveFetch_single (hdue : fetchDue u g s = true) (hother : ∀ v, v / 8 = u / 8 → v ≠ u → fetchDue v g s = false)
    (hbusy : bankBusy (imemG (u / 8) g) s = false) (hon : domOn (u / 8) s = true) :
    arriveFetch u g s = landFetch (fetchRead (u / 8) g s).1 u (fetchRead (u / 8) g s).2 := by
  unfold arriveFetch
  simp only [hdue, hbusy, hon, Bool.not_true, Bool.or_self, Bool.false_eq_true, if_false, filter_fetchDue_single hdue hother, List.foldl_cons,
    List.foldl_nil]

end

/-! ### Writes of FRC and PC from outside the unit (R188, R193) -/

/-- A second put at a key replaces a first that the list keeps. -/
theorem Sparse.put_put_of_ne {α : Type} [DecidableEq α] {d w : α} (k : Nat) (v : α) (hw : w ≠ d) (l : List (Nat × α)) :
    Sparse.put d k v (Sparse.put d k w l) = Sparse.put d k v l := by
  induction l with
  | nil => simp [Sparse.put, hw]
  | cons e l ih =>
    obtain ⟨j, x⟩ := e
    rcases Nat.lt_trichotomy k j with h | h | h
    · simp [Sparse.put, hw, h]
    · simp [Sparse.put, hw, h]
    · simp [Sparse.put, Nat.lt_asymm h, h.ne', ih]

section
variable {cid : Nat} {v : Word} {s : State}

theorem State.setCtx_setCtx_of_ne {x : Ctx} (hx : x ≠ Ctx.init) (y : Ctx) : (s.setCtx cid x).setCtx cid y = s.setCtx cid y := by
  unfold State.setCtx
  simp only [Sparse.put_put_of_ne cid y hx]

/-- CAUSE 0 written into the FRC of a HALTED context that nothing holds, and for whose handler nothing is held. -/
theorem writeFrc_halted (hcause : bits v 28 8 = 0) (hst : (s.ctx cid).st = .halted) (hfree : isHeld s cid = false)
    (hheld : (s.ctx cid).handlerHeld = false) :
    writeFrc cid v s = s.modCtx cid (fun x => { x with frc := v, st := .idle, handlerHeld := false }) := by
  have hne : { s.ctx cid with frc := v } ≠ Ctx.init := by
    intro h
    have hidle : (s.ctx cid).st = .idle := congrArg Ctx.st h
    exact absurd (hst.symm.trans hidle) (by decide)
  have hctx : (s.setCtx cid { s.ctx cid with frc := v }).ctx cid = { s.ctx cid with frc := v } := State.ctx_setCtx_of_ne hne cid s
  have hbranch : writeFrc cid v s = becomeIdle cid (s.setCtx cid { s.ctx cid with frc := v }) := if_pos ⟨hcause, hst, by simp [hfree]⟩
  rw [hbranch, becomeIdle_eq (by rw [hctx]; exact hheld), hctx, State.setCtx_setCtx_of_ne hne]
  rfl

/-- The queues at an endpoint are those of the registers. -/
theorem queuesWith_congr {t : State} (h : t.regs = s.regs) (o : Nat) (p : Nat → Nat → Bool) : queuesWith t o p = queuesWith s o p := by
  unfold queuesWith qCap rd State.reg
  rw [h]

/-- A context that produces no queue has no item to abort. -/
theorem abortItems_of_no_queue (h : queuesWith s 1 (fun kind inst => kind = 1 ∧ inst / 32 = cid) = []) : abortItems cid s = s := by
  unfold abortItems
  rw [h]
  rfl

/-- A PC within the instruction store, written for a context that produces no queue. -/
theorem writeOtherPc_code {g : Nat} (hg : codeGran (clusterOf cid) (v.setWidth 32) = some g)
    (hq : queuesWith s 1 (fun kind inst => kind = 1 ∧ inst / 32 = cid) = []) :
    writeOtherPc cid v s = (s.modCtx cid (fun x => { x with pc := v.setWidth 32, targets := [], replay := [] })).modUnit (unitOf cid)
      (fun x => (x.setResume (cid % 16) none).ask g (some (cid % 16))) := by
  have hresume (x : UnitSt) : x.keepResume (clusterOf cid) (cid % 16) (v.setWidth 32) false = (x.setResume (cid % 16) none).ask g (some (cid % 16)) := by
    rw [UnitSt.keepResume_eq_keepAt, hg]
    rfl
  unfold writeOtherPc
  simp only [hresume]
  exact abortItems_of_no_queue ((queuesWith_congr rfl ..).trans hq)

/-- A write of FRC or PC reaches a context that is IDLE or HALTED. -/
theorem writeOtherCtl_frc {w : Option Nat} (hst : (s.ctx cid).st = .halted) : writeOtherCtl w cid 5 v s = writeFrc cid v s := by
  simp [writeOtherCtl, hst]

theorem writeOtherCtl_pc {w : Option Nat} (hst : (s.ctx cid).st = .idle) : writeOtherCtl w cid 0 v s = writeOtherPc cid v s := by
  simp [writeOtherCtl, hst]

theorem bits_cause_eq_zero (h : v.toNat / 2 ^ 28 = 0) : bits v 28 8 = 0 := by rw [bits, h, Nat.zero_mod]

end

/-! ### The four commands -/

section
variable {s : State}

theorem exec_fetchGranuleArrive {u g : Nat} (hu : u < 256) (hg : g < 65536) :
    exec (.fetchGranuleArrive u g) s = .next (settleFaults (arriveFetch u g s)) :=
  answerWord_of_valid (by simp [hu, hg]) _

theorem exec_btbFlush {u : Nat} (hu : u < 256) (hon : domOn (u / 8) s = true) : exec (.btbFlush u) s = .next (settleFaults (flushBtb u s)) :=
  (answerWord_of_valid (decide_eq_true hu) _).trans (by rw [if_pos hon])

theorem exec_frcClear {cid : Nat} {v : Word} (hcid : cid < 4096) (hon : domOn (clusterOf cid) s = true) (hcause : bits v 28 8 = 0) :
    exec (.frcClear cid v) s = .next (settleFaults (writeOtherCtl none cid 5 v s)) :=
  (answerWord_of_valid (decide_eq_true hcid) _).trans (by rw [if_pos ⟨hcause, hon⟩])

theorem exec_otherPcWrite {cid : Nat} {v : Word} (hcid : cid < 4096) (hon : domOn (clusterOf cid) s = true) :
    exec (.otherPcWrite cid v) s = .next (settleFaults (writeOtherCtl none cid 0 v s)) :=
  (answerWord_of_valid (decide_eq_true hcid) _).trans (by rw [if_pos hon])

end

/-- Settles O19, command by command: the read answers the one unit that awaits it, and each write takes the branch that its hypotheses name. -/
theorem unitControl : Obligations.UnitControl := by
  unfold Obligations.UnitControl
  refine ⟨⟨?_, ?_⟩, ?_, ?_⟩
  · intro u k g g0 m s hu hg hon hposted hprogram hother hfreq hwait hdisp hrun htargets hpc hlo hhi r f
    rw [exec_fetchGranuleArrive hu hg, arriveFetch_single (fetchDue_of_single hfreq hposted) (fun v hv hne => fetchDue_of_not_asked (hother v hv hne))
      (bankBusy_of_no_program hprogram) hon]
    have hunit : r.st.unit u = s.unit u := unit_readGran u
    have hctx : r.st.ctx (16 * u + k) = s.ctx (16 * u + k) := ctx_readGran _
    have hland : landFetch f u r.st = r.st.modUnit u (fun x => x.land (u / 8) (some g0) [] f) := by
      rw [landFetch_running (by rw [hunit, hdisp]) (by rw [hunit, hrun]) (by rw [hctx, htargets]), hctx, hpc]
    show Host.Outcome.next (settleFaults (landFetch f u r.st)) = _
    rw [hland, State.modUnit_eq, State.modUnit_eq, hunit, UnitSt.land_stream hfreq hwait ⟨hlo, hhi⟩]
  · intro u s hu hon
    exact exec_btbFlush hu hon
  · intro cid v s hcid hon hv hst hfree hheld
    have hcause := bits_cause_eq_zero hv
    rw [exec_frcClear hcid hon hcause, writeOtherCtl_frc hst, writeFrc_halted hcause hst hfree hheld]
  · intro cid g v s hcid hon hst hg hq
    rw [exec_otherPcWrite hcid hon, writeOtherCtl_pc hst, writeOtherPc_code hg hq]

end Sys2Proof.Machine
end

section
/-! The statement O20: the context that a unit selects (R176). -/

namespace Sys2Proof.Machine

/-- Context `16 u + k` waits for its unit: it is READY or PREEMPTED. -/
def Waits (u k : Nat) (s : State) : Prop := (s.ctx (16 * u + k)).st = .ready ∨ (s.ctx (16 * u + k)).st = .preempted

/-- `best` is the selection of unit `u` among its contexts below `n`: none where none of them waits, otherwise one that goes before all others. -/
def Selects (u n : Nat) (s : State) : Option Nat → Prop
  | none => ∀ k, k < n → ¬ Waits u k s
  | some cid => ∃ k, k < n ∧ cid = 16 * u + k ∧ Waits u k s ∧ ∀ j, j < n → Waits u j s → j ≠ k → goesBefore s cid (16 * u + j) = true

/-- One step of the selection: context `k` of the unit against the best so far. -/
def betterOf (u : Nat) (s : State) (best : Option Nat) (k : Nat) : Option Nat :=
  if (s.ctx (16 * u + k)).st = .ready ∨ (s.ctx (16 * u + k)).st = .preempted then
    match best with
    | none => some (16 * u + k)
    | some b => if goesBefore s (16 * u + k) b then some (16 * u + k) else best
  else best

section
variable {s : State} {a b c u k n : Nat}

theorem selectCtx_eq (u : Nat) (s : State) : selectCtx u s = (List.range 16).foldl (betterOf u s) none := rfl

theorem goesBefore_iff : goesBefore s a b = true ↔
    (s.ctx b).pri < (s.ctx a).pri ∨ (s.ctx b).pri = (s.ctx a).pri ∧
      ((s.ctx a).age < (s.ctx b).age ∨ (s.ctx a).age = (s.ctx b).age ∧ a < b) := by
  simp only [goesBefore, Bool.or_eq_true, Bool.and_eq_true, decide_eq_true_eq, eq_comm (a := (s.ctx a).pri)]

/-- The order of R176 is transitive. -/
theorem goesBefore_trans (hab : goesBefore s a b = true) (hbc : goesBefore s b c = true) : goesBefore s a c = true := by
  rw [goesBefore_iff] at *
  omega

/-- Of two contexts, one goes before the other. -/
theorem goesBefore_total (hne : a ≠ b) (h : ¬ goesBefore s a b = true) : goesBefore s b a = true := by
  rw [goesBefore_iff] at *
  omega

theorem betterOf_of_not_waits (h : ¬ Waits u k s) (best : Option Nat) : betterOf u s best k = best := if_neg h

theorem betterOf_none (h : Waits u k s) : betterOf u s none k = some (16 * u + k) := if_pos h

theorem betterOf_some (h : Waits u k s) (b : Nat) :
    betterOf u s (some b) k = if goesBefore s (16 * u + k) b then some (16 * u + k) else some b := if_pos h

/-- A context that does not wait leaves the selection. -/
theorem Selects.skip {best : Option Nat} (h : Selects u n s best) (hn : ¬ Waits u n s) : Selects u (n + 1) s best := by
  have hbelow {j : Nat} (hj : j < n + 1) (hw : Waits u j s) : j < n := by
    rcases Nat.lt_succ_iff_lt_or_eq.mp hj with hlt | rfl
    · exact hlt
    · exact absurd hw hn
  cases best with
  | none => exact fun j hj hw => h j (hbelow hj hw) hw
  | some cid =>
    obtain ⟨k, hk, hcid, hwait, hbest⟩ := h
    exact ⟨k, by omega, hcid, hwait, fun j hj hw => hbest j (hbelow hj hw) hw⟩

/-- One context more: the selection stays the first in the order of R176. -/
theorem Selects.step {best : Option Nat} (h : Selects u n s best) : Selects u (n + 1) s (betterOf u s best n) := by
  by_cases hn : Waits u n s
  swap
  · rw [betterOf_of_not_waits hn]
    exact h.skip hn
  cases best with
  | none =>
    rw [betterOf_none hn]
    exact ⟨n, by omega, rfl, hn, fun j hj hw hjn => absurd hw (h j (by omega))⟩
  | some cid =>
    obtain ⟨k, hk, rfl, hwait, hbest⟩ := h
    rw [betterOf_some hn]
    split
    · next hbefore =>
      refine ⟨n, by omega, rfl, hn, fun j hj hw hjn => ?_⟩
      by_cases hjk : j = k
      · rwa [hjk]
      · exact goesBefore_trans hbefore (hbest j (by omega) hw hjk)
    · next hbefore =>
      refine ⟨k, by omega, rfl, hwait, fun j hj hw hjk => ?_⟩
      by_cases hjn : j = n
      · subst hjn
        exact goesBefore_total (by omega) hbefore
      · exact hbest j (by omega) hw hjk

theorem selects_range (u : Nat) (s : State) (n : Nat) : Selects u n s ((List.range n).foldl (betterOf u s) none) := by
  induction n with
  | zero => exact fun k hk => absurd hk (Nat.not_lt_zero k)
  | succ n ih =>
    rw [List.range_succ, List.foldl_append]
    exact ih.step

theorem selects_selectCtx (u : Nat) (s : State) : Selects u 16 s (selectCtx u s) := selects_range u s 16

/-- What a unit selects waits for it. -/
theorem waits_of_selectCtx (h : selectCtx u s = some (16 * u + k)) : Waits u k s := by
  have hsel := selects_selectCtx u s
  rw [h] at hsel
  obtain ⟨j, -, hcid, hwait, -⟩ := hsel
  rwa [show k = j by omega]

end

/-- Settles O20: the fold over the unit's contexts keeps the first of those seen, in an order that is transitive and total. -/
theorem selectionOrder : Obligations.SelectionOrder := by
  unfold Obligations.SelectionOrder
  intro u s waits
  have hsel := selects_selectCtx u s
  constructor
  · constructor
    · intro hnone
      rwa [hnone] at hsel
    · intro hno
      match hs : selectCtx u s with
      | none => rfl
      | some cid =>
        rw [hs] at hsel
        obtain ⟨k, hk, -, hwait, -⟩ := hsel
        exact absurd hwait (hno k hk)
  · intro cid hs
    rw [hs] at hsel
    obtain ⟨k, hk, rfl, hwait, hbest⟩ := hsel
    refine ⟨k, hk, rfl, hwait, fun j hj hw hjk => ?_⟩
    have h := goesBefore_iff.mp (hbest j hj hw hjk)
    simpa only [Nat.add_lt_add_iff_left] using h

end Sys2Proof.Machine
end

section
/-! The statement O21: a request reaches its context (R174, R179), and a unit at rest accepts a dispatch and takes its six steps (R180, R251, R258). -/

namespace Sys2Proof.Machine

/-! ### A request that reaches an IDLE context -/

section
variable {r : Req} {l : List Req} {s : State}

/-- The oldest request on its way arrives first at its context. -/
theorem deliverReq_head (hheld : dispatchHeld (clusterOf r.cid) s = false) (hreqs : s.reqs = r :: l) :
    deliverReq r.cid s = arriveReq r { s with reqs := l } := by
  unfold deliverReq
  simp [hheld, hreqs]

theorem arriveReq_idle (hst : (s.ctx r.cid).st = .idle) : arriveReq r s = makeReady r s := by
  unfold arriveReq
  rw [hst]

theorem exec_dispatchRequest {cid : Nat} (hcid : cid < 4096) : exec (.dispatchRequest cid) s = .next (settleFaults (deliverReq cid s)) :=
  answerWord_of_valid (decide_eq_true hcid) _

end

/-! ### The steps of a dispatch, on the unit (R145, R180) -/

/-- A dispatch step before the sixth. -/
def UnitSt.earlyStep (t : Nat) (x : UnitSt) : UnitSt := { x.tookStep t with disp := x.disp.map (fun d => { d with done := d.done + 1 }) }

/-- Steps in one window of STEP_TIME note the window once. -/
theorem UnitSt.tookStep_tookStep (x : UnitSt) (t m : Nat) (d : Option Disp) :
    UnitSt.tookStep { x.tookStep t with steps := x.steps + m, disp := d } t = { x.tookStep t with steps := x.steps + (m + 1), disp := d } := by
  simp [UnitSt.tookStep, Nat.add_assoc]

theorem times_succ {α : Type} (f : α → α) (n : Nat) (a : α) : times f (n + 1) a = f (times f n a) := by
  induction n generalizing a with
  | zero => rfl
  | succ n ih => exact ih (f a)

theorem times_earlyStep (x : UnitSt) (t n : Nat) : times (UnitSt.earlyStep t) (n + 1) x =
    { x.tookStep t with steps := x.steps + (n + 1), disp := x.disp.map (fun d => { d with done := d.done + (n + 1) }) } := by
  induction n with
  | zero => rfl
  | succ n ih =>
    rw [times_succ, ih, UnitSt.earlyStep, UnitSt.tookStep_tookStep, Option.map_map]
    rfl

theorem UnitSt.beginDispatch_eq (x : UnitSt) (k : Nat) (g : Option Nat) :
    x.beginDispatch k g = { x with disp := some { k := k, done := 0 }, fbuf := (x.resumeOf k).toList, nbuf := [], freq := (x.beginDispatch k g).freq } := by
  unfold UnitSt.beginDispatch
  cases g with
  | none => rfl
  | some g => exact UnitSt.request_eq ..

/-! ### The steps of a dispatch, on the state -/

section
variable {u k n : Nat} {x : UnitSt} {d : Disp} {s : State}

/-- A unit with a dispatch in progress reads back once it is set. -/
theorem State.unit_setUnit_disp (h : x.disp = some d) : (s.setUnit u x).unit u = x :=
  State.unit_setUnit_of_ne (fun hinit => by simp [hinit, UnitSt.init] at h) ..

/-- A second unit set in place of one with a dispatch in progress. -/
theorem State.setUnit_setUnit_disp (h : x.disp = some d) (y : UnitSt) : (s.setUnit u x).setUnit u y = s.setUnit u y := by
  have hne : x ≠ UnitSt.init := fun hinit => by simp [hinit, UnitSt.init] at h
  unfold State.setUnit
  simp only [Sparse.put_put_of_ne u y hne]

theorem dispatchStep_early (hd : x.disp = some d) (hn : d.done < 5) :
    dispatchStep u (s.setUnit u x) = s.setUnit u (x.earlyStep s.clock.tick) := by
  have htook : (x.tookStep s.clock.tick).disp = some d := hd
  unfold dispatchStep
  simp only [State.unit_setUnit_disp hd, State.setUnit_clock, htook, if_pos hn, State.setUnit_setUnit_disp hd]
  simp [UnitSt.earlyStep, hd]

theorem times_dispatchStep_early (hd : x.disp = some d) (hn : d.done + n ≤ 5) :
    times (dispatchStep u) n (s.setUnit u x) = s.setUnit u (times (UnitSt.earlyStep s.clock.tick) n x) := by
  induction n generalizing x d with
  | zero => rfl
  | succ n ih =>
    have hnext : (x.earlyStep s.clock.tick).disp = some { d with done := d.done + 1 } := by simp [UnitSt.earlyStep, hd]
    show times (dispatchStep u) n (dispatchStep u (s.setUnit u x)) = _
    rw [dispatchStep_early hd (by omega), ih hnext (by dsimp only; omega)]
    rfl

/-- The sixth step: the unit runs the incoming context, and its activation begins. -/
theorem dispatchStep_last (hd : x.disp = some { k := k, done := 5 }) :
    dispatchStep u (s.setUnit u x) =
      (beginActivation (16 * u + k) (s.setUnit u { x.tookStep s.clock.tick with disp := none, run := some k, owner := 16 * u + k })).modCtx (16 * u + k)
        (fun c => { c with st := .running }) := by
  have htook : (x.tookStep s.clock.tick).disp = some { k := k, done := 5 } := hd
  unfold dispatchStep
  simp only [State.unit_setUnit_disp hd, State.setUnit_clock, htook, State.setUnit_setUnit_disp hd, Nat.lt_irrefl, if_false]

/-- The unit after the six steps of a dispatch that began with it as `x`. -/
def UnitSt.dispatched (x : UnitSt) (u k t : Nat) : UnitSt :=
  { x.tookStep t with steps := x.steps + 6, disp := none, run := some k, owner := 16 * u + k }

/-- The six steps of a dispatch in one. -/
theorem times_dispatchStep (hd : x.disp = some { k := k, done := 0 }) :
    times (dispatchStep u) 6 (s.setUnit u x) =
      (beginActivation (16 * u + k) (s.setUnit u (x.dispatched u k s.clock.tick))).modCtx (16 * u + k) (fun c => { c with st := .running }) := by
  rw [times_succ, times_dispatchStep_early hd (Nat.le_refl 5), times_earlyStep, hd]
  rw [dispatchStep_last rfl]
  rw [UnitSt.tookStep_tookStep]
  rfl

end

/-! ### Acceptance at a unit at rest, and the record of the activation (R251, R258) -/

section
variable {u k cid : Nat} {r : Req} {s : State}

theorem acceptDispatch_rest (hheld : dispatchHeld (u / 8) s = false) (hrun : (s.unit u).run = none) (hdisp : (s.unit u).disp = none)
    (hsel : selectCtx u s = some cid) :
    acceptDispatch u s = s.setUnit u ((s.unit u).beginDispatch (cid % 16) (codeGran (u / 8) (s.ctx cid).pc)) := by
  unfold acceptDispatch
  simp only [hheld, Bool.false_eq_true, if_false, hsel, hdisp, hrun]

/-- No trap is due and no POPW waits in a unit that runs no context. -/
theorem popwFirst_boundaryTrap_rest (hrun : (s.unit u).run = none) : popwFirst u (boundaryTrap u s) = s := by
  have htrap : boundaryTrap u s = s := by
    unfold boundaryTrap
    simp only [hrun]
  rw [htrap]
  unfold popwFirst
  simp only [hrun]

theorem exec_dispatchAccept {n : Nat} (hu : u < 256) (hn : n ≤ 6) :
    exec (.dispatchAccept u n) s = .next (settleFaults (runDispatch u n (popwFirst u (boundaryTrap u s)))) :=
  answerWord_of_valid (by simp [hu, hn]) _

/-- The fields that record an activation (Table SH-5): the request, and the overruns since the one before. -/
def activationRecord (r : Req) (ovr : Nat) : List (FRef × Nat) :=
  let b (v : Bool) : Nat := if v then 1 else 0
  [(F.sctx_ACT_S, r.time / 2 ^ 36), (F.sctx_ACT_F, r.time % 2 ^ 36), (F.sctx_ACT_INFO_SRC, r.src), (F.sctx_ACT_INFO_LATE, b r.late),
    (F.sctx_ACT_INFO_REV, b r.rev), (F.sctx_ACT_INFO_LOSS, b r.loss), (F.sctx_ACT_INFO_HELD, b r.held), (F.sctx_ACT_INFO_OVR_CNT, ovr),
    (F.sctx_ACT_INFO_LATE_NS, min r.lateNs 4095)]

theorem heap_wr (f : FRef) (i v j : Nat) (s : State) : (wr f i v s).heap j = s.heap j := rfl

theorem beginActivation_eq (hreq : (s.ctx cid).req = some r) :
    beginActivation cid s = ((wrAll cid (activationRecord r (s.heap cid).ovr) s).modHeap cid (fun h => { h with ovr := 0 })).modCtx cid
      (fun x => { x with req := none, actSteps := 0 }) := by
  unfold beginActivation
  simp only [hreq, wrAll, activationRecord, List.foldl_cons, List.foldl_nil, State.modHeap_eq, heap_wr]

theorem ctx_wrAll (cid : Nat) (l : List (FRef × Nat)) (j : Nat) (s : State) : (wrAll cid l s).ctx j = s.ctx j := by
  induction l generalizing s with
  | nil => rfl
  | cons e l ih => exact ih (wr e.1 cid e.2 s)

/-- A context that is not IDLE reads back once it is set. -/
theorem State.ctx_setCtx_of_st {x : Ctx} (h : x.st ≠ .idle) (k : Nat) (s : State) : (s.setCtx k x).ctx k = x :=
  State.ctx_setCtx_of_ne (fun hinit => h (by rw [hinit]; rfl)) k s

/-- A context whose activation has begun, and that runs: beside the record, contexts and heaps alone change. -/
theorem activated_spec (hreq : (s.ctx cid).req = some r) (hst : (s.ctx cid).st ≠ .idle) {recorded t : State}
    (hrec : recorded = wrAll cid (activationRecord r (s.heap cid).ovr) s)
    (ht : t = (beginActivation cid s).modCtx cid (fun c => { c with st := .running })) :
    t.ctx cid = { s.ctx cid with st := .running, req := none, actSteps := 0 } ∧ (∀ j, j ≠ cid → t.ctx j = s.ctx j) ∧
    t.heaps = (recorded.modHeap cid (fun h => { h with ovr := 0 })).heaps ∧ t = { recorded with ctxs := t.ctxs, heaps := t.heaps } := by
  have hbase (j : Nat) : (recorded.modHeap cid (fun h => { h with ovr := 0 })).ctx j = s.ctx j := by
    rw [hrec]
    exact (State.setHeap_ctx ..).trans (ctx_wrAll ..)
  have hbegun := beginActivation_eq hreq
  rw [← hrec] at hbegun
  have hself : (beginActivation cid s).ctx cid = { s.ctx cid with req := none, actSteps := 0 } := by
    rw [hbegun, State.modCtx_eq, hbase]
    refine State.ctx_setCtx_of_st ?_ ..
    exact hst
  refine ⟨?_, fun j hj => ?_, ?_⟩
  · rw [ht, State.ctx_modCtx_running rfl, hself]
  · rw [ht, State.modCtx_eq, State.ctx_setCtx_ne _ hj, hbegun, State.modCtx_eq, State.ctx_setCtx_ne _ hj, hbase]
  · rw [hbegun] at ht
    clear hrec hbegun hbase hself
    subst ht
    exact ⟨rfl, rfl⟩

end

/-- A unit at rest accepts the context it selects: six steps later that runs, and its activation is recorded. -/
theorem exec_dispatchAccept_rest {u k : Nat} {s : State} (hu : u < 256) (hk : k < 16) (hheld : dispatchHeld (u / 8) s = false)
    (hrun : (s.unit u).run = none) (hdisp : (s.unit u).disp = none) (hsel : selectCtx u s = some (16 * u + k)) :
    exec (.dispatchAccept u 6) s = .next (settleFaults ((beginActivation (16 * u + k) (s.setUnit u
      (((s.unit u).beginDispatch k (codeGran (u / 8) (s.ctx (16 * u + k)).pc)).dispatched u k s.clock.tick))).modCtx (16 * u + k)
        (fun c => { c with st := .running }))) := by
  have hdisp' : ((s.unit u).beginDispatch k (codeGran (u / 8) (s.ctx (16 * u + k)).pc)).disp = some { k := k, done := 0 } := by
    rw [UnitSt.beginDispatch_eq]
  rw [exec_dispatchAccept hu (Nat.le_refl 6), popwFirst_boundaryTrap_rest hrun, runDispatch, acceptDispatch_rest hheld hrun hdisp hsel,
    show (16 * u + k) % 16 = k by omega, times_dispatchStep hdisp']

/-- Settles O21: the request is the oldest on its way, and of the six steps of the dispatch five only count. -/
theorem dispatchRows : Obligations.DispatchRows := by
  unfold Obligations.DispatchRows
  constructor
  · intro r l s hcid hheld hreqs hst
    rw [exec_dispatchRequest hcid, deliverReq_head hheld hreqs, arriveReq_idle (r := r) (s := { s with reqs := l }) hst]
    rfl
  · intro u k r s hu hk hheld hrun hdisp hsel hreq cid x z b s1
    have hz : z = _ := UnitSt.beginDispatch_eq x k (codeGran (u / 8) (s.ctx cid).pc)
    have hsteps : z.steps = x.steps := by rw [hz]
    have hfbuf : z.fbuf = (x.resumeOf k).toList := by rw [hz]
    have hwait : (s.ctx cid).st ≠ .idle := by
      rcases waits_of_selectCtx hsel with h | h <;> simp [cid, h]
    have hs1 : s1 = wrAll cid (activationRecord r (s.heap cid).ovr) (s.setUnit u (z.dispatched u k s.clock.tick)) := by
      rw [UnitSt.dispatched, hsteps]
      rfl
    exact ⟨hfbuf, _, exec_dispatchAccept_rest hu hk hheld hrun hdisp hsel, activated_spec (s := s.setUnit u (z.dispatched u k s.clock.tick)) hreq hwait hs1 rfl⟩

end Sys2Proof.Machine
end

section
/-! What events, latches and aborted items change: registers, queues, event sources and banks alone (R289, R310, R368). -/

namespace Sys2Proof.Machine

/-- `t` differs from `s` in registers, queues, event sources and banks alone. -/
def EventOnly (s t : State) : Prop := t = { s with regs := t.regs, queues := t.queues, evts := t.evts, banks := t.banks }

theorem EventOnly.trans {s t r : State} (h : EventOnly s t) (h2 : EventOnly t r) : EventOnly s r := by
  unfold EventOnly at *
  rw [h2, h]

section
variable {s t : State} {q : Nat}

theorem EventOnly.refl (s : State) : EventOnly s s := rfl

theorem eventOnly_ite {c : Prop} [Decidable c] {r : State} (hr : EventOnly s r) (ht : EventOnly s t) : EventOnly s (if c then r else t) := by
  split
  · exact hr
  · exact ht

theorem eventOnly_foldl {α : Type} {f : State → α → State} (hf : ∀ r a, EventOnly r (f r a)) (l : List α) (s : State) : EventOnly s (l.foldl f s) := by
  induction l generalizing s with
  | nil => exact EventOnly.refl s
  | cons a l ih => exact (hf s a).trans (ih (f s a))

theorem eventOnly_wr (f : FRef) (i v : Nat) (s : State) : EventOnly s (wr f i v s) := rfl

theorem eventOnly_bump (f : FRef) (i : Nat) (s : State) : EventOnly s (bump f i s) := rfl

theorem eventOnly_setQueue (q : Nat) (x : Queue) (s : State) : EventOnly s (s.setQueue q x) := rfl

theorem eventOnly_setEvt (e : Nat) (x : EvtSrc) (s : State) : EventOnly s (s.setEvt e x) := rfl

theorem eventOnly_setBank (b : Nat) (x : Bank) (s : State) : EventOnly s (s.setBank b x) := rfl

/-! ### Queues -/

theorem eventOnly_abortItem (q : Nat) (s : State) : EventOnly s (abortItem q s) :=
  eventOnly_ite (EventOnly.refl s) ((eventOnly_setQueue ..).trans (eventOnly_bump ..))

theorem eventOnly_abortItems (cid : Nat) (s : State) : EventOnly s (abortItems cid s) :=
  eventOnly_foldl (fun r q => eventOnly_abortItem q r) _ s

theorem eventOnly_yieldMark (q : Nat) (s : State) : EventOnly s (yieldMark q s) :=
  eventOnly_ite ((eventOnly_setQueue ..).trans (eventOnly_wr ..)) (EventOnly.refl s)

theorem eventOnly_pushWord (q : Nat) (w : Word) (e : Bool) (s : State) : EventOnly s (pushWord q w e s) := by
  unfold pushWord
  extract_lets x cr s1
  have h1 : EventOnly s s1 := eventOnly_setQueue ..
  exact eventOnly_ite (h1.trans (eventOnly_yieldMark q s1)) h1

theorem eventOnly_pushItem (q : Nat) (l : List Word) (s : State) : EventOnly s (pushItem q l s) := by
  induction l generalizing s with
  | nil => exact EventOnly.refl s
  | cons w l ih =>
    cases l with
    | nil => exact eventOnly_pushWord ..
    | cons => exact (eventOnly_pushWord ..).trans (ih _)

/-! ### Events and latches -/

theorem eventOnly_dropEvent (e : Nat) (s : State) : EventOnly s (dropEvent e s) :=
  eventOnly_ite (eventOnly_bump ..) (eventOnly_ite (eventOnly_bump ..) (eventOnly_ite (eventOnly_bump ..) (eventOnly_bump ..)))

theorem eventOnly_postEvent (e kind inst code : Nat) (s : State) : EventOnly s (postEvent e kind inst code s) := by
  unfold postEvent
  split
  · exact EventOnly.refl s
  · extract_lets key now src live s1 item
    have h1 : EventOnly s s1 := eventOnly_setEvt ..
    have hdrop : EventOnly s (dropEvent e s1) := h1.trans (eventOnly_dropEvent e s1)
    refine eventOnly_ite (EventOnly.refl s) ?_
    split
    · exact hdrop
    · exact eventOnly_ite hdrop (eventOnly_ite (h1.trans (eventOnly_pushItem ..)) (h1.trans (eventOnly_setEvt ..)))

theorem eventOnly_setLatch (b kind inst : Nat) (s : State) : EventOnly s (setLatch b kind inst s) := by
  unfold setLatch
  refine eventOnly_ite (EventOnly.refl s) (eventOnly_ite (eventOnly_ite (eventOnly_wr ..) (EventOnly.refl s)) ?_)
  extract_lets others s0 s1 s2
  have h0 : EventOnly s s0 := (eventOnly_setBank ..).trans (eventOnly_wr ..)
  have h1 : EventOnly s s1 := eventOnly_ite (h0.trans (eventOnly_wr ..)) h0
  have h2 : EventOnly s s2 := ((h1.trans (eventOnly_bump ..)).trans (eventOnly_wr ..)).trans (eventOnly_wr ..)
  exact (h2.trans (eventOnly_wr ..)).trans (eventOnly_postEvent ..)

theorem eventOnly_deviceLatch (b kind : Nat) (s : State) : EventOnly s (deviceLatch b kind s) :=
  eventOnly_ite (EventOnly.refl s) ((eventOnly_setLatch ..).trans (eventOnly_setBank ..))

end

end Sys2Proof.Machine
end

section
/-! The statement O22: what a containment action halts (R198), and a HALT by software (R203). -/

namespace Sys2Proof.Machine

/-! ### Contexts that halt -/

/-- Context `y` is `x` halted: it keeps its PC and its accumulators. -/
def HaltedAs (x y : Ctx) : Prop := y.st = .halted ∧ y.pc = x.pc ∧ y.m0 = x.m0 ∧ y.m1 = x.m1

/-- A context that does not run loses its request when it halts. -/
theorem haltedAs_waiting (x : Ctx) : HaltedAs x { x with st := .halted, req := none } := ⟨rfl, rfl, rfl, rfl⟩

/-- From `s` to `t` the bound contexts of which `p` holds halt. No other context changes, and beside contexts only units and heaps. -/
structure Halts (p : Nat → Prop) (s t : State) : Prop where
  halted  : ∀ j, p j → (s.ctx j).st ≠ .unbound → HaltedAs (s.ctx j) (t.ctx j)
  unbound : ∀ j, (s.ctx j).st = .unbound → t.ctx j = s.ctx j
  others  : ∀ j, ¬ p j → t.ctx j = s.ctx j
  frame   : t = { s with ctxs := t.ctxs, units := t.units, heaps := t.heaps }

section
variable {p q : Nat → Prop} {s t r : State}

theorem Halts.congr (h : Halts p s t) (hpq : ∀ j, p j ↔ q j) : Halts q s t :=
  ⟨fun j hj => h.halted j ((hpq j).mpr hj), h.unbound, fun j hj => h.others j (fun hp => hj ((hpq j).mp hp)), h.frame⟩

/-- A change of units and heaps alone halts nothing. -/
theorem Halts.of_ctxs (hc : t.ctxs = s.ctxs) (hf : t = { s with ctxs := t.ctxs, units := t.units, heaps := t.heaps }) : Halts (fun _ => False) s t := by
  have hctx (j : Nat) : t.ctx j = s.ctx j := congrArg (Sparse.get Ctx.init j) hc
  exact ⟨fun _ hj => hj.elim, fun j _ => hctx j, fun j _ => hctx j, hf⟩

theorem Halts.trans (h : Halts p s t) (h' : Halts q t r) : Halts (fun j => p j ∨ q j) s r := by
  refine ⟨fun j hj hb => ?_, fun j hu => ?_, fun j hj => ?_, ?_⟩
  · by_cases hp : p j
    · obtain ⟨hst, hpc, hm0, hm1⟩ := h.halted j hp hb
      by_cases hq : q j
      · obtain ⟨hst', hpc', hm0', hm1'⟩ := h'.halted j hq (by rw [hst]; decide)
        exact ⟨hst', hpc'.trans hpc, hm0'.trans hm0, hm1'.trans hm1⟩
      · rw [h'.others j hq]
        exact ⟨hst, hpc, hm0, hm1⟩
    · have hsame := h.others j hp
      rw [← hsame] at hb ⊢
      exact h'.halted j (hj.resolve_left hp) hb
  · have hsame := h.unbound j hu
    rw [h'.unbound j (by rw [hsame, hu]), hsame]
  · rw [h'.others j (fun hq => hj (.inr hq)), h.others j (fun hp => hj (.inl hp))]
  · rw [h'.frame, h.frame]

/-- A fold of halts halts what each of them does. -/
theorem Halts.foldl {α : Type} {f : State → α → State} {P : α → Nat → Prop} (hf : ∀ a u, Halts (P a) u (f u a)) (l : List α) (s : State) :
    Halts (fun j => ∃ a ∈ l, P a j) s (l.foldl f s) := by
  induction l generalizing s with
  | nil => exact (Halts.of_ctxs rfl rfl).congr (by simp)
  | cons a l ih => exact ((hf a s).trans (ih (f s a))).congr (by simp)

theorem Halts.forN {f : Nat → State → State} {P : Nat → Nat → Prop} (hf : ∀ i u, Halts (P i) u (f i u)) (n : Nat) (s : State) :
    Halts (fun j => ∃ i, i < n ∧ P i j) s (forN n f s) :=
  (Halts.foldl (fun i u => hf i u) (List.range n) s).congr (by simp)

end

section
variable {cid u c : Nat} {s : State}

/-- A context that is set HALTED with its PC and accumulators. -/
theorem halts_setCtx {x : Ctx} (hb : (s.ctx cid).st ≠ .unbound) (hx : HaltedAs (s.ctx cid) x) {t : State} (hc : t.ctxs = (s.setCtx cid x).ctxs)
    (hf : t = { s with ctxs := t.ctxs, units := t.units, heaps := t.heaps }) : Halts (· = cid) s t := by
  have hctx (j : Nat) : t.ctx j = (s.setCtx cid x).ctx j := congrArg (Sparse.get Ctx.init j) hc
  have hself : t.ctx cid = x := by rw [hctx, State.ctx_setCtx_of_st (by rw [hx.1]; decide)]
  have hother (j : Nat) (hj : ¬ j = cid) : t.ctx j = s.ctx j := by rw [hctx, State.ctx_setCtx_ne _ hj]
  refine ⟨fun j hj _ => ?_, fun j hu => hother j (fun hj => ?_), hother, hf⟩
  · rw [hj, hself]
    exact hx
  · rw [hj] at hu
    exact hb hu

theorem halts_haltCtx (cid : Nat) (s : State) : Halts (· = cid) s (haltCtx cid s) := by
  unfold haltCtx
  extract_lets x
  have hsame (hst : x.st = .unbound ∨ x.st = .halted) : Halts (· = cid) s s := by
    refine ⟨fun j hj hb => ?_, fun _ _ => rfl, fun _ _ => rfl, rfl⟩
    rw [hj] at hb ⊢
    exact ⟨hst.resolve_left hb, rfl, rfl, rfl⟩
  have hstopped : HaltedAs x (stoppedCtx cid .halted s) := by
    obtain ⟨hpc, -, hm0, hm1⟩ := x.stop_frame (s.unit (unitOf cid)).lops
    exact ⟨rfl, hpc, hm0, hm1⟩
  split
  · next h => exact hsame (.inl h)
  · next h => exact hsame (.inr h)
  · next h =>
    have hb : (s.ctx cid).st ≠ .unbound := by rw [show (s.ctx cid).st = .running from h]; decide
    rw [stopRunning_eq]
    exact halts_setCtx hb hstopped rfl rfl
  · next hb _ _ =>
    exact halts_setCtx hb (haltedAs_waiting (s.ctx cid)) rfl rfl

theorem halts_modUnit (u : Nat) (f : UnitSt → UnitSt) (s : State) : Halts (fun _ => False) s (s.modUnit u f) := Halts.of_ctxs rfl rfl

theorem halts_haltUnit (u : Nat) (s : State) : Halts (fun j => j / 16 = u) s (haltUnit u s) := by
  refine ((Halts.forN (fun k v => halts_haltCtx (16 * u + k) v) 16 s).trans (halts_modUnit u _ _)).congr fun j => ?_
  constructor
  · rintro (⟨k, hk, rfl⟩ | h)
    · omega
    · exact h.elim
  · exact fun h => .inl ⟨j % 16, by omega, by omega⟩

theorem halts_haltCluster (c : Nat) (s : State) : Halts (fun j => clusterOf j = c) s (haltCluster c s) := by
  refine (Halts.forN (fun i v => halts_haltUnit (8 * c + i) v) 8 s).congr fun j => ?_
  unfold clusterOf
  constructor
  · rintro ⟨i, hi, h⟩
    omega
  · exact fun h => ⟨j / 16 % 8, by omega, by omega⟩

end

/-- The contexts of a cluster, region or die are those of its clusters. -/
theorem Scope.mem_clusters {c : Scope} (hlo : 1 ≤ c.lvl) (hhi : c.lvl ≤ 3) (cid : Nat) : clusterOf cid ∈ c.clusters ↔ c.covers cid = true := by
  obtain ⟨lvl, i⟩ := c
  dsimp only at hlo hhi
  obtain rfl | rfl | rfl : lvl = 1 ∨ lvl = 2 ∨ lvl = 3 := by omega
  · simp only [Scope.clusters, Scope.covers, List.mem_singleton, beq_iff_eq]
    exact eq_comm
  · simp only [Scope.clusters, Scope.covers, List.mem_map, List.mem_range, beq_iff_eq, clusterOf, regionOf]
    exact ⟨fun ⟨k, hk, h⟩ => by omega, fun h => ⟨cid / 128 % 4, by omega, by omega⟩⟩
  · simp only [Scope.clusters, Scope.covers, List.mem_map, List.mem_range, beq_iff_eq, clusterOf, dieOf]
    exact ⟨fun ⟨k, hk, h⟩ => by omega, fun h => ⟨cid / 128 % 16, by omega, by omega⟩⟩

section
variable {c : Scope} {s : State}

theorem halts_haltScope (hlo : 1 ≤ c.lvl) (hhi : c.lvl ≤ 3) (s : State) : Halts (fun j => c.covers j = true) s (haltScope c s) :=
  (Halts.foldl (fun i v => halts_haltCluster i v) c.clusters s).congr fun j => by
    simp only [exists_eq_right', Scope.mem_clusters hlo hhi]

/-! ### The action of a level (R198) -/

theorem eventOnly_wrContain (c : Scope) (lo w v : Nat) (s : State) : EventOnly s (wrContain c lo w v s) :=
  eventOnly_ite (eventOnly_wr ..) (EventOnly.refl s)

/-- A scope put in force. -/
def holdScope (c : Scope) (s : State) : State := { s with contain := { s.contain with held := s.contain.held.filter (· ≠ c) ++ [c] } }

/-- What CONTAIN shows of an action in force. -/
def showAction (c : Scope) (cause : Nat) (esc : Bool) (s : State) : State :=
  wrContain c 8 1 1 (wrContain c 10 8 cause (wrContain c 18 1 (if esc then 1 else 0) s))

theorem eventOnly_showAction (c : Scope) (cause : Nat) (esc : Bool) (s : State) : EventOnly s (showAction c cause esc s) :=
  ((eventOnly_wrContain ..).trans (eventOnly_wrContain ..)).trans (eventOnly_wrContain ..)

theorem applyAction_eq (hlo : 1 ≤ c.lvl) (hhi : c.lvl ≤ 3) (cause : Nat) (esc : Bool) (s : State) :
    applyAction c cause esc s =
      (let t := showAction c cause esc (haltScope c (holdScope c s))
       if c.lvl = 3 then deviceLatch (2 * c.i + 1) 6 (deviceLatch (2 * c.i) 6 t) else t) := by
  unfold applyAction
  rw [if_neg (by omega), if_neg (by omega)]
  rfl

/-- After the scope has halted, an action only latches banks and is shown. -/
theorem eventOnly_applyAction (hlo : 1 ≤ c.lvl) (hhi : c.lvl ≤ 3) (cause : Nat) (esc : Bool) (s : State) :
    EventOnly (haltScope c (holdScope c s)) (applyAction c cause esc s) := by
  rw [applyAction_eq hlo hhi]
  have hshow := eventOnly_showAction c cause esc (haltScope c (holdScope c s))
  exact eventOnly_ite ((hshow.trans (eventOnly_deviceLatch ..)).trans (eventOnly_deviceLatch ..)) hshow

theorem contain_applyAction (hlo : 1 ≤ c.lvl) (hhi : c.lvl ≤ 3) (cause : Nat) (esc : Bool) (s : State) :
    (applyAction c cause esc s).contain = (holdScope c s).contain := by
  rw [eventOnly_applyAction hlo hhi, (halts_haltScope hlo hhi _).frame]

theorem ctx_applyAction (hlo : 1 ≤ c.lvl) (hhi : c.lvl ≤ 3) (cause : Nat) (esc : Bool) (s : State) (j : Nat) :
    (applyAction c cause esc s).ctx j = (haltScope c (holdScope c s)).ctx j := by
  rw [eventOnly_applyAction hlo hhi]
  rfl

/-- The action of a cluster or region reaches no memory and no queue. -/
theorem frame_applyAction (hlo : 1 ≤ c.lvl) (hhi : c.lvl < 3) (cause : Nat) (esc : Bool) (s : State) :
    (applyAction c cause esc s).mem = s.mem ∧ (applyAction c cause esc s).queues = s.queues := by
  have hwr (lo w v : Nat) (u : State) : (wrContain c lo w v u).mem = u.mem ∧ (wrContain c lo w v u).queues = u.queues := by
    unfold wrContain
    split <;> exact ⟨rfl, rfl⟩
  rw [applyAction_eq hlo (by omega), if_neg (by omega)]
  simp only [showAction, hwr]
  rw [(halts_haltScope hlo (by omega) _).frame]
  exact ⟨rfl, rfl⟩

end

/-! ### A write of CONTAIN (R202, R203) -/

section
variable {lvl i : Nat} {s : State}

theorem lvl_of_containAt (h : containAt lvl i = true) : 1 ≤ lvl ∧ lvl ≤ 3 := by
  simp only [containAt, Bool.or_eq_true, Bool.and_eq_true, decide_eq_true_eq] at h
  omega

/-- A write of register word 480 of a powered block that has CONTAIN there. -/
theorem writeReg_contain {b : Blk} (hb : (lvl = 1 ∧ b = .clu) ∨ (lvl = 2 ∧ b = .sch) ∨ (lvl = 3 ∧ b = .qpl)) (hkey : keyOf b i 480 < 0x60000)
    (hloc : locate (keyOf b i 480) = some (b, i, 480)) (hon : blkOn b i s = true) (hm : modeOf s ≠ 0) (req : Nat) (v : Word) :
    writeReg req (keyOf b i 480) v s = writeContain lvl i v s := by
  have hf : (fieldsAt b 480).isEmpty = false := by
    obtain ⟨-, rfl⟩ | ⟨-, rfl⟩ | ⟨-, rfl⟩ := hb <;> rfl
  unfold writeReg
  rw [if_neg (by omega), hloc]
  dsimp only
  rw [if_neg (by simp [hf, hon, hm])]
  obtain ⟨rfl, rfl⟩ | ⟨rfl, rfl⟩ | ⟨rfl, rfl⟩ := hb <;> rfl

theorem writeContainReg_eq (h : containAt lvl i = true) (hon : blkOn (containBlk lvl) i s = true) (hm : modeOf s ≠ 0) (v : Nat) :
    writeContainReg lvl i v s = writeContain lvl i (BitVec.ofNat 36 v) s := by
  simp only [containAt, Bool.or_eq_true, Bool.and_eq_true, decide_eq_true_eq] at h
  rcases h with (⟨rfl, hi⟩ | ⟨rfl, hi⟩) | ⟨rfl, hi⟩
  · exact writeReg_contain (b := .clu) (.inl ⟨rfl, rfl⟩) (by simp only [keyOf]; omega) (locate_clu hi (by decide)) hon hm ..
  · exact writeReg_contain (b := .sch) (.inr (.inl ⟨rfl, rfl⟩)) (by simp only [keyOf]; omega) (locate_sch hi (by decide)) hon hm ..
  · exact writeReg_contain (b := .qpl) (.inr (.inr ⟨rfl, rfl⟩)) (by simp only [keyOf]; omega) (locate_qpl hi (by decide)) hon hm ..

theorem exec_containHalt (h : containAt lvl i = true) (hon : blkOn (containBlk lvl) i s = true) (hm : modeOf s ≠ 0) :
    exec (.containHalt lvl i 0) s = .next (finish (softHalt { lvl := lvl, i := i } s)) := by
  show answer (containAt lvl i && decide (0 < 4)) (writeContainReg lvl i 4 s) = _
  rw [writeContainReg_eq h hon hm, h]
  rfl

end

/-- Settles O22: the scope is halted cluster by cluster, and what follows reaches no context. -/
theorem containmentHalts : Obligations.ContainmentHalts := by
  unfold Obligations.ContainmentHalts
  constructor
  · intro c cause esc s hlo hhi t
    have hhalts : Halts (fun j => c.covers j = true) (holdScope c s) (haltScope c (holdScope c s)) := halts_haltScope hlo hhi _
    have hctx (j : Nat) : t.ctx j = (haltScope c (holdScope c s)).ctx j := ctx_applyAction hlo hhi cause esc s j
    refine ⟨?_, fun cid _ hcov hb => ?_, fun cid hcov => ?_, fun hlt => frame_applyAction hlo hlt cause esc s⟩
    · rw [show t.contain = _ from contain_applyAction hlo hhi cause esc s]
      exact List.mem_append_right _ (List.mem_singleton.mpr rfl)
    · rw [hctx]
      exact hhalts.halted cid hcov hb
    · rw [hctx]
      exact hhalts.others cid (by simp [hcov])
  · intro lvl i s hat hon hm c r
    exact exec_containHalt hat hon hm

end Sys2Proof.Machine
end

section
/-! The statement O23: the record of a fault in the fault record queue, and the window that it opens (R197, R204 to R206, Table CX-11). -/

namespace Sys2Proof.Machine

/-! ### The record in the keep store (R206) -/

section
variable {g n : Nat} {v : Granule} {pb : Bool} {s t : State}

/-- A codeword stored whole is no change of registers, contexts or containment. -/
theorem State.setCode_frame (g : Nat) (v : Granule) (pb : Bool) (s : State) :
    (s.setCode g v pb).regs = s.regs ∧ (s.setCode g v pb).ctxs = s.ctxs ∧ (s.setCode g v pb).contain = s.contain := by
  obtain ⟨m, hm⟩ : ∃ m, s.setGranBits g v = { s with mem := m } := ⟨_, State.setGranBits_eq g v s⟩
  unfold State.setCode
  rw [hm]
  exact ⟨rfl, rfl, rfl⟩

theorem State.granBits_congr (h : t.mem = s.mem) (g : Nat) : t.granBits g = s.granBits g := by
  unfold State.granBits State.byte
  rw [h]

/-- The keep store is no instruction store, so that a write there is no program. -/
theorem writeGran_keepG (n : Nat) (v : Granule) (pb : Bool) (s : State) : writeGran (keepG n) v pb s = s.setCode (keepG n) v pb := by
  have hkeep : isImem (keepG n) = false := by simp [isImem, keepG, keepBase]
  unfold writeGran countProgram
  simp [hkeep]

/-- An MSI-X vector reaches the host port alone. -/
theorem msix_frame (n : Nat) (s : State) :
    (msix n s).mem = s.mem ∧ (msix n s).regs = s.regs ∧ (msix n s).ctxs = s.ctxs ∧ (msix n s).contain = s.contain := by
  unfold msix
  split
  · exact ⟨rfl, rfl, rfl, rfl⟩
  · split <;> exact ⟨rfl, rfl, rfl, rfl⟩

/-- The slot of the queue that the next record takes. -/
def recordSlot (s : State) : Nat := keepG (16352 + rd F.pwr_FRQ_PTR_TAIL 0 s % 32)

/-- TAIL and SEQ after one record more. -/
def recordCounted (s t : State) : State :=
  wr F.pwr_FRQ_STAT_SEQ 0 (rd F.pwr_FRQ_STAT_SEQ 0 s + 1) (wr F.pwr_FRQ_PTR_TAIL 0 (rd F.pwr_FRQ_PTR_TAIL 0 s + 1) t)

theorem recordCounted_frame (s t : State) :
    (recordCounted s t).mem = t.mem ∧ (recordCounted s t).ctxs = t.ctxs ∧ (recordCounted s t).contain = t.contain := ⟨rfl, rfl, rfl⟩

theorem appendRecord_eq (v : Granule) (s : State) : appendRecord v s = msix 8 (recordCounted s (s.setCode (recordSlot s) v false)) :=
  congrArg (fun t => msix 8 (recordCounted s t)) (writeGran_keepG ..)

theorem mem_appendRecord (v : Granule) (s : State) : (appendRecord v s).mem = (s.setCode (recordSlot s) v false).mem := by
  rw [appendRecord_eq]
  exact (msix_frame ..).1.trans (recordCounted_frame ..).1

/-- A field written into equal registers leaves them equal. -/
theorem regs_wr_congr (h : t.regs = s.regs) (f : FRef) (i x : Nat) : (wr f i x t).regs = (wr f i x s).regs := by
  unfold wr State.setReg State.reg
  rw [h]

theorem regs_appendRecord (v : Granule) (s : State) : (appendRecord v s).regs = (recordCounted s s).regs := by
  rw [appendRecord_eq]
  exact (msix_frame ..).2.1.trans (regs_wr_congr (regs_wr_congr (State.setCode_frame ..).1 ..) ..)

/-- A record changes no context and nothing of the containment in force. -/
theorem frame_appendRecord (v : Granule) (s : State) : (appendRecord v s).ctxs = s.ctxs ∧ (appendRecord v s).contain = s.contain := by
  obtain ⟨-, hctxs, hcontain⟩ := State.setCode_frame (recordSlot s) v false s
  obtain ⟨-, hcctxs, hccontain⟩ := recordCounted_frame s (s.setCode (recordSlot s) v false)
  obtain ⟨-, -, hmctxs, hmcontain⟩ := msix_frame 8 (recordCounted s (s.setCode (recordSlot s) v false))
  rw [appendRecord_eq]
  exact ⟨hmctxs.trans (hcctxs.trans hctxs), hmcontain.trans (hccontain.trans hcontain)⟩

theorem rd_congr (h : t.regs = s.regs) (f : FRef) (i : Nat) : rd f i t = rd f i s := by
  unfold rd State.reg
  rw [h]

/-- A record stands in its slot, and every other granule is as before. -/
theorem granBits_appendRecord (hs : InOrder s) (v : Granule) :
    (appendRecord v s).granBits (recordSlot s) = v ∧ ∀ h, h ≠ recordSlot s → (appendRecord v s).granBits h = s.granBits h := by
  simp only [State.granBits_congr (mem_appendRecord v s)]
  exact ⟨(State.setCode_same hs ..).1, fun h hh => (State.setCode_ne hh ..).1⟩

/-- R206: TAIL counts modulo 64, SEQ modulo 2¹⁶. -/
theorem rd_appendRecord (hs : Rising s.regs) (v : Granule) :
    rd F.pwr_FRQ_PTR_TAIL 0 (appendRecord v s) = (rd F.pwr_FRQ_PTR_TAIL 0 s + 1) % 64 ∧
    rd F.pwr_FRQ_STAT_SEQ 0 (appendRecord v s) = (rd F.pwr_FRQ_STAT_SEQ 0 s + 1) % 2 ^ 16 := by
  have htail := rising_wr hs F.pwr_FRQ_PTR_TAIL 0 (rd F.pwr_FRQ_PTR_TAIL 0 s + 1)
  rw [rd_congr (regs_appendRecord v s), rd_congr (regs_appendRecord v s), recordCounted]
  constructor
  · rw [rd_wr_apart htail (by decide), rd_wr_self hs (by decide)]
    rfl
  · rw [rd_wr_self htail (by decide)]
    rfl

theorem rising_appendRecord (hs : Rising s.regs) (v : Granule) : Rising (appendRecord v s).regs := by
  rw [regs_appendRecord]
  exact rising_wr (rising_wr hs ..) ..

end

/-! ### The window and the action keep the always-on domain (R197, R198) -/

section
variable {c : Scope} {v s : State}

theorem KeepsPower.rd_pwr (h : KeepsPower v s) {f : FRef} (hb : f.b = .pwr) (ho : f.o < 0x2000) (i : Nat) : rd f i s = rd f i v := by
  have hkey : keyOf f.b i f.o < 0x2000 := by rw [hb]; exact ho
  unfold rd
  rw [reg_of_pwrRegs h.regs hkey]

theorem keepsPower_wrContain {lo w x : Nat} (h : KeepsPower v s) : KeepsPower v (wrContain c lo w x s) := by
  have hblk : containBlk c.lvl ≠ .pwr := by
    unfold containBlk
    split
    · decide
    · split <;> decide
  exact keepsPower_ite (keepsPower_wr hblk h) h

theorem keepsPower_openWindow (h : KeepsPower v s) : KeepsPower v (openWindow c s) :=
  keepsPower_ite h (keepsPower_wrContain (h.same rfl))

theorem keepsPower_haltScope (hlo : 1 ≤ c.lvl) (hhi : c.lvl ≤ 3) (h : KeepsPower v s) : KeepsPower v (haltScope c s) := by
  refine h.same ?_
  rw [(halts_haltScope hlo hhi s).frame]

theorem keepsPower_applyAction {cause : Nat} {esc : Bool} (hhi : c.lvl ≤ 3) (h : KeepsPower v s) : KeepsPower v (applyAction c cause esc s) := by
  by_cases h0 : c.lvl = 0
  · rw [applyAction, if_pos h0]
    exact h
  · rw [applyAction_eq (by omega) hhi]
    have hheld : KeepsPower v (holdScope c s) := h.same rfl
    have hshow : KeepsPower v (showAction c cause esc (haltScope c (holdScope c s))) :=
      keepsPower_wrContain (keepsPower_wrContain (keepsPower_wrContain (keepsPower_haltScope (by omega) hhi hheld)))
    exact keepsPower_ite (keepsPower_deviceLatch (keepsPower_deviceLatch hshow)) hshow

/-- The window of a scope that has none open. -/
theorem openWindow_new (hhi : c.lvl ≤ 3) (hw : s.contain.windows.contains c = false) :
    openWindow c s = wrContain c 9 1 1 { s with contain := { s.contain with windows := c :: s.contain.windows } } := by
  have hfilter : s.contain.windows.filter (· ≠ c) = s.contain.windows := by
    refine List.filter_eq_self.mpr fun w hmem => decide_eq_true fun hwc => ?_
    rw [hwc] at hmem
    simp [hmem] at hw
  unfold openWindow
  rw [if_neg (by omega), hfilter]

theorem mem_openWindow (c : Scope) (s : State) : (openWindow c s).mem = s.mem := by
  unfold openWindow wrContain
  split
  · rfl
  · split <;> rfl

theorem mem_applyAction (hlt : c.lvl < 3) (cause : Nat) (esc : Bool) (s : State) : (applyAction c cause esc s).mem = s.mem := by
  by_cases h0 : c.lvl = 0
  · rw [applyAction, if_pos h0]
  · exact (frame_applyAction (by omega) hlt cause esc s).1

theorem windows_applyAction (hhi : c.lvl ≤ 3) (cause : Nat) (esc : Bool) (s : State) :
    (applyAction c cause esc s).contain.windows = s.contain.windows := by
  by_cases h0 : c.lvl = 0
  · rw [applyAction, if_pos h0]
  · rw [contain_applyAction (by omega) hhi]
    rfl

theorem mem_held_applyAction (h0 : c.lvl ≠ 0) (hhi : c.lvl ≤ 3) (cause : Nat) (esc : Bool) (s : State) :
    c ∈ (applyAction c cause esc s).contain.held := by
  rw [contain_applyAction (by omega) hhi]
  exact List.mem_append_right _ (List.mem_singleton.mpr rfl)

/-- A window that opens changes no context. -/
theorem ctxs_openWindow (c : Scope) (s : State) : (openWindow c s).ctxs = s.ctxs := by
  unfold openWindow wrContain
  split
  · rfl
  · split <;> rfl

end

/-! ### The handling of a fault (R197, R205) -/

section
variable {r : Raised} {s : State}

theorem handledAt_of_no_window {c : Scope} (hw : s.contain.windows.contains c = false) (n : Nat) : handledAt n c s = c := by
  cases n with
  | zero => rfl
  | succ n =>
    rw [handledAt, if_neg]
    rw [hw]
    simp

/-- A fault handled at its own scope: its record, its window, its action. -/
theorem handleRaised_own (hn : r.notice = false) (habove : heldAbove r.scope s = false) (hw : s.contain.windows.contains r.scope = false)
    (hroom : frqCount s < 32) (hlvl : r.scope.lvl ≤ 2) :
    handleRaised r s = applyAction r.scope r.cause false (openWindow r.scope (appendRecord (recordGran r r.scope false s) s)) := by
  have hscope (c' : Scope) (hc : c' = if r.scope.lvl = 5 then { r.scope with i := rd F.qdl_DEV_ID_ID 0 s } else r.scope) : c' = r.scope :=
    hc.trans (if_neg (by omega))
  unfold handleRaised
  simp only [hn, habove, Bool.false_eq_true, if_false, handledAt_of_no_window hw, ne_eq, not_true_eq_false, decide_false, hscope _ rfl]
  rw [record, if_neg (by omega)]

/-- Table CX-11: the record of a fault handled at its own scope. -/
theorem recordGran_own (hn : r.notice = false) (hlvl : r.scope.lvl ≤ 2) :
    recordGran r r.scope false s =
      granOf ([r.scope.lvl * 2 ^ 33 + r.cause * 2 ^ 25 + r.reason * 2 ^ 21 + (if r.prec then 2 ^ 20 else 0) + r.slot * 2 ^ 19 + r.scope.i,
        if s.clock.run then s.timeS else 0, s.timeF, r.pc, r.addr, rd F.pwr_FRQ_STAT_SEQ 0 s * 2 ^ 20 + r.detail % 2 ^ 20, r.word].map
          (BitVec.ofNat 36)) 7 := by
  have hw0 (w : Nat) : w + (if false = true then 2 ^ 18 else 0) + (if r.notice then 2 ^ 17 else 0) + (if r.scope.lvl = 4 then 0 else r.scope.i) =
      w + r.scope.i := by
    rw [hn, if_neg (show ¬ r.scope.lvl = 4 by omega)]
    simp
  unfold recordGran scopeField timeRuns
  extract_lets w0 ts pc w5
  rw [show w0 = _ from hw0 _]
  rfl

end

/-- Settles O23: the record is appended first; the window and the action that follow write neither memory nor the registers of the queue. -/
theorem faultRecords : Obligations.FaultRecords := by
  unfold Obligations.FaultRecords
  intro r s hs habove hn hw hroom hlvl _ t n seq
  have hlvl3 : r.scope.lvl ≤ 3 := by omega
  obtain ⟨hslot, hothers⟩ := granBits_appendRecord hs (recordGran r r.scope false s)
  obtain ⟨htail, hseq⟩ := rd_appendRecord hs.regs (recordGran r r.scope false s)
  obtain ⟨hctxs, hcontain⟩ := frame_appendRecord (recordGran r r.scope false s) s
  have hrising := rising_appendRecord hs.regs (recordGran r r.scope false s)
  have ht : t = _ := handleRaised_own hn habove hw hroom hlvl
  have hgran : recordGran r r.scope false s = _ := recordGran_own hn hlvl
  generalize appendRecord (recordGran r r.scope false s) s = recorded at *
  have hmem : t.mem = recorded.mem := by rw [ht, mem_applyAction (by omega), mem_openWindow]
  have hkeeps : KeepsPower recorded t := by
    rw [ht]
    exact keepsPower_applyAction hlvl3 (keepsPower_openWindow (.refl hrising))
  have hwindows : t.contain.windows = r.scope :: s.contain.windows := by
    rw [ht, windows_applyAction hlvl3, openWindow_new hlvl3 (by rw [hcontain]; exact hw), eventOnly_wrContain, ← hcontain]
  refine ⟨(State.granBits_congr hmem _).trans (hslot.trans hgran), (hkeeps.rd_pwr rfl (by decide) 0).trans htail, (hkeeps.rd_pwr rfl (by decide) 0).trans hseq,
    hwindows, fun h0 => ?_, fun h0 => ?_, fun h hh => (State.granBits_congr hmem h).trans (hothers h hh)⟩
  · rw [ht]
    exact mem_held_applyAction h0 hlvl3 ..
  · rw [ht, applyAction, if_pos h0, ctxs_openWindow, hctxs]

end Sys2Proof.Machine
end

section
/-! The statement O24: a release of a scope (R202), and the end of a recovery window (R197). -/

namespace Sys2Proof.Machine

/-! ### A context that is released -/

/-- A context at its entry point, without what it had pending (R202). -/
def Ctx.atEntry (x : Ctx) : Ctx := { x with pc := x.entry.getD x.pc, targets := [], replay := [], traps := [], atBit := false, dlBit := false }

/-- A HALTED context returned to IDLE, at its entry point after a restart. -/
def Ctx.released (restart : Bool) (x : Ctx) : Ctx :=
  let y : Ctx := { x with st := .idle, handlerHeld := false, restartDue := false }
  if x.st = .halted then (if restart then y.atEntry else y) else x

theorem Ctx.released_of_halted {x : Ctx} (h : x.st = .halted) (restart : Bool) :
    x.released restart = if restart then Ctx.atEntry { x with st := .idle, handlerHeld := false, restartDue := false }
      else { x with st := .idle, handlerHeld := false, restartDue := false } := if_pos h

theorem Ctx.released_of_not_halted {x : Ctx} (h : x.st ≠ .halted) (restart : Bool) : x.released restart = x := if_neg h

/-- A context is released once. -/
theorem Ctx.released_released (restart : Bool) (x : Ctx) : (x.released restart).released restart = x.released restart := by
  by_cases h : x.st = .halted
  · refine Ctx.released_of_not_halted ?_ restart
    rw [Ctx.released_of_halted h]
    cases restart <;> simp [Ctx.atEntry]
  · rw [Ctx.released_of_not_halted h, Ctx.released_of_not_halted h]

/-- Nothing is kept for a context beside its state: neither a handler request nor a restart. -/
def Ctx.Plain (x : Ctx) : Prop := x.restartDue = false ∧ x.handlerHeld = false

theorem Ctx.plain_released {x : Ctx} (h : x.Plain) (restart : Bool) : (x.released restart).Plain := by
  by_cases hst : x.st = .halted
  · rw [Ctx.released_of_halted hst]
    cases restart <;> exact ⟨rfl, rfl⟩
  · rw [Ctx.released_of_not_halted hst]
    exact h

/-! ### What a release goes through -/

/-- No trigger has been reached that still waits for a quiesce to end. -/
def NoneReached (s : State) : Prop := ∀ e ∈ s.heaps, e.2.reachedAt = none

/-- A state in which a release of contexts goes on: the always-on domain is that of `v`, contexts are in order and nothing is kept for any of them,
and no trigger is kept. -/
structure Releasing (v s : State) : Prop where
  power  : KeepsPower v s
  ctxs   : Rising s.ctxs
  plain  : ∀ j, (s.ctx j).Plain
  heaps  : NoneReached s

section
variable {v s t : State} {restart : Bool} {cid : Nat}

theorem KeepsPower.domOn (h : KeepsPower v s) (d : Nat) : domOn d s = domOn d v :=
  domOn_congr (reg_of_pwrRegs h.regs (by decide)) (reg_of_pwrRegs h.regs (by decide)) d

theorem KeepsPower.inSafe (h : KeepsPower v s) : inSafe s = inSafe v := by
  unfold Machine.inSafe rdB
  rw [h.rd_pwr rfl (by decide)]

/-- Where no level holds anything, a context of a powered cluster is free outside the SAFE state. -/
theorem isHeld_of_free (hsafe : inSafe s = false) (hheld : s.contain.held = []) (hon : domOn (clusterOf cid) s = true) : isHeld s cid = false := by
  simp [isHeld, hsafe, hheld, hon]

/-- What a put list holds is the value put, or was there before. -/
theorem Sparse.value_of_mem_put {α : Type} [DecidableEq α] {d x : α} {k : Nat} {l : List (Nat × α)} {e : Nat × α} (h : e ∈ Sparse.put d k x l) :
    e.2 = x ∨ e ∈ l := by
  induction l with
  | nil =>
    unfold Sparse.put at h
    split at h
    · exact .inr h
    · rw [List.mem_singleton.mp h]
      exact .inl rfl
  | cons a l ih =>
    unfold Sparse.put at h
    split at h
    · split at h
      · exact .inr h
      · rcases List.mem_cons.mp h with rfl | h
        · exact .inl rfl
        · exact .inr h
    · split at h
      · split at h
        · exact .inr (List.mem_cons_of_mem _ h)
        · rcases List.mem_cons.mp h with rfl | h
          · exact .inl rfl
          · exact .inr (List.mem_cons_of_mem _ h)
      · rcases List.mem_cons.mp h with rfl | h
        · exact .inr List.mem_cons_self
        · exact (ih h).imp_right (List.mem_cons_of_mem _)

theorem NoneReached.setHeap {x : Heap} (h : NoneReached s) (hx : x.reachedAt = none) (k : Nat) : NoneReached (s.setHeap k x) := by
  intro e he
  rcases Sparse.value_of_mem_put he with hval | hmem
  · rw [hval, hx]
  · exact h e hmem

/-- A restart sets its context to its entry point and changes no other, nor the containment in force. -/
theorem restartCtx_spec (cid : Nat) (s : State) :
    (restartCtx cid s).ctxs = (s.setCtx cid (s.ctx cid).atEntry).ctxs ∧ (restartCtx cid s).contain = s.contain ∧
    (restartCtx cid s).heaps = (s.setHeap cid (s.heap cid).cleared).heaps := by
  unfold restartCtx
  extract_lets s1 s2
  rw [eventOnly_abortItems]
  exact ⟨rfl, rfl, rfl⟩

theorem Releasing.setCtx (h : Releasing v s) {x : Ctx} (hx : x.Plain) (cid : Nat) : Releasing v (s.setCtx cid x) := by
  refine ⟨keepsPower_setCtx h.power, State.setCtx_rising h.ctxs cid x, fun j => ?_, h.heaps⟩
  by_cases hj : j = cid
  · rw [hj, State.ctx_setCtx_self h.ctxs]
    exact hx
  · rw [State.ctx_setCtx_ne _ hj]
    exact h.plain j

/-- A change that has the contexts and heaps of a release, and keeps the always-on domain, is one. -/
theorem Releasing.same (h : Releasing v s) (hp : KeepsPower v t) (hc : t.ctxs = s.ctxs) (hh : t.heaps = s.heaps) : Releasing v t :=
  ⟨hp, hc ▸ h.ctxs, fun j => by rw [show t.ctx j = s.ctx j from congrArg (Sparse.get Ctx.init j) hc]; exact h.plain j,
    fun e he => h.heaps e (hh ▸ he)⟩

theorem releasing_restartCtx (h : Releasing v s) (cid : Nat) : Releasing v (restartCtx cid s) := by
  obtain ⟨hctxs, -, hheaps⟩ := restartCtx_spec cid s
  have hset : Releasing v ((s.setCtx cid (s.ctx cid).atEntry).setHeap cid (s.heap cid).cleared) := by
    have hc := h.setCtx (x := (s.ctx cid).atEntry) (h.plain cid) cid
    exact ⟨keepsPower_setHeap hc.power, hc.ctxs, hc.plain, hc.heaps.setHeap rfl cid⟩
  exact hset.same (keepsPower_restartCtx h.power) hctxs hheaps

/-- A context with no handler request kept goes to IDLE. -/
theorem becomeIdle_freed (hc : Rising s.ctxs) (hh : (s.ctx cid).handlerHeld = false) :
    becomeIdle cid (s.modCtx cid (fun x => { x with restartDue := false })) =
      s.setCtx cid { s.ctx cid with st := .idle, handlerHeld := false, restartDue := false } := by
  have hctx : (s.modCtx cid (fun x => { x with restartDue := false })).ctx cid = { s.ctx cid with restartDue := false } :=
    State.ctx_setCtx_self hc ..
  rw [becomeIdle_eq (by rw [hctx]; exact hh), hctx, State.modCtx_eq, State.setCtx_setCtx hc]

/-- A HALTED context that no level holds is restarted, where that is asked for, and goes to IDLE. -/
theorem releaseCtx_free (hst : (s.ctx cid).st = .halted) (hfree : isHeld s cid = false) (hdue : (s.ctx cid).restartDue = false) :
    releaseCtx restart cid s =
      becomeIdle cid ((if restart then restartCtx cid s else s).modCtx cid (fun x => { x with restartDue := false })) := by
  unfold releaseCtx
  simp only [hst, hfree, hdue, ne_eq, not_true_eq_false, if_false, Bool.false_eq_true, Bool.or_false]

/-- What a release makes of one context that no level holds any more. -/
theorem releaseCtx_spec (h : Releasing v s) (hfree : isHeld s cid = false) :
    Releasing v (releaseCtx restart cid s) ∧ (releaseCtx restart cid s).ctx cid = (s.ctx cid).released restart ∧
    (∀ j, j ≠ cid → (releaseCtx restart cid s).ctx j = s.ctx j) ∧ (releaseCtx restart cid s).contain = s.contain := by
  by_cases hst : (s.ctx cid).st = .halted
  swap
  · rw [Ctx.released_of_not_halted hst, releaseCtx, if_pos hst]
    exact ⟨h, rfl, fun _ _ => rfl, rfl⟩
  obtain ⟨hdue, hheld⟩ := h.plain cid
  rw [releaseCtx_free hst hfree hdue, Ctx.released_of_halted hst]
  cases restart with
  | false =>
    simp only [Bool.false_eq_true, if_false]
    rw [becomeIdle_freed h.ctxs hheld]
    exact ⟨h.setCtx ⟨rfl, rfl⟩ cid, State.ctx_setCtx_self h.ctxs .., fun j hj => State.ctx_setCtx_ne _ hj _, rfl⟩
  | true =>
    obtain ⟨hctxs, hcontain, -⟩ := restartCtx_spec cid s
    have hr := releasing_restartCtx h cid
    have hctx (j : Nat) : (restartCtx cid s).ctx j = (s.setCtx cid (s.ctx cid).atEntry).ctx j := congrArg (Sparse.get Ctx.init j) hctxs
    have hself : (restartCtx cid s).ctx cid = (s.ctx cid).atEntry := (hctx cid).trans (State.ctx_setCtx_self h.ctxs ..)
    simp only [if_true]
    rw [becomeIdle_freed hr.ctxs (hr.plain cid).2]
    refine ⟨hr.setCtx ⟨rfl, rfl⟩ cid, ?_, fun j hj => ?_, hcontain⟩
    · rw [State.ctx_setCtx_self hr.ctxs, hself]
      rfl
    · rw [State.ctx_setCtx_ne _ hj, hctx, State.ctx_setCtx_ne _ hj]

/-- The contexts of a list are released, one after another, where no level holds anything and their clusters are powered. -/
theorem releaseCtxs_spec (hsafe : inSafe v = false) {l : List Nat} (hon : ∀ j ∈ l, domOn (clusterOf j) v = true) (h : Releasing v s)
    (hheld : s.contain.held = []) :
    let t := l.foldl (fun s cid => releaseCtx restart cid s) s
    Releasing v t ∧ (∀ j, j ∈ l → t.ctx j = (s.ctx j).released restart) ∧ (∀ j, j ∉ l → t.ctx j = s.ctx j) ∧ t.contain = s.contain := by
  induction l generalizing s with
  | nil => exact ⟨h, fun j hj => absurd hj List.not_mem_nil, fun _ _ => rfl, rfl⟩
  | cons cid l ih =>
    have hfree : isHeld s cid = false :=
      isHeld_of_free (h.power.inSafe.trans hsafe) hheld ((h.power.domOn _).trans (hon cid List.mem_cons_self))
    obtain ⟨h1, hself, hother, hcontain⟩ := releaseCtx_spec (restart := restart) h hfree
    obtain ⟨ht, hin, hout, hcont⟩ := ih (fun j hj => hon j (List.mem_cons_of_mem _ hj)) h1 (by rw [hcontain, hheld])
    refine ⟨ht, fun j hj => ?_, fun j hj => ?_, hcont.trans hcontain⟩
    · have hone : (releaseCtx restart cid s).ctx j = (s.ctx j).released restart ∨
          j ∈ l ∧ (releaseCtx restart cid s).ctx j = s.ctx j := by
        by_cases hjc : j = cid
        · rw [hjc]
          exact .inl hself
        · exact .inr ⟨(List.mem_cons.mp hj).resolve_left hjc, hother j hjc⟩
      by_cases hjl : j ∈ l
      · show (l.foldl _ (releaseCtx restart cid s)).ctx j = _
        rw [hin j hjl]
        rcases hone with h | ⟨-, h⟩
        · rw [h, Ctx.released_released]
        · rw [h]
      · exact (hout j hjl).trans (hone.resolve_right fun h => hjl h.1)
    · obtain ⟨hjc, hjl⟩ := not_or.mp (fun h => hj (List.mem_cons.mpr h))
      exact (hout j hjl).trans (hother j hjc)

end

/-! ### The release of a scope -/

section
variable {c : Scope} {v s : State} {restart : Bool}

/-- The contexts of a cluster, region or die. -/
theorem Scope.mem_contexts (hlo : 1 ≤ c.lvl) (hhi : c.lvl ≤ 3) (cid : Nat) : cid ∈ c.contexts ↔ c.covers cid = true := by
  rw [← Scope.mem_clusters hlo hhi, Scope.contexts, if_neg (by omega)]
  simp only [List.mem_flatMap, List.mem_map, List.mem_range, clusterOf]
  constructor
  · rintro ⟨d, hd, k, hk, rfl⟩
    rwa [show (128 * d + k) / 128 = d by omega]
  · exact fun h => ⟨cid / 128, h, cid % 128, by omega, by omega⟩

/-- The scope is no longer in force, and its windows are closed. -/
def liftScope (c : Scope) (s : State) : State :=
  let s1 := clearWindows c s
  wrContain c 8 1 0 { s1 with contain := { s1.contain with held := s1.contain.held.filter (· ≠ c) } }

/-- CONTAIN shows windows no longer, and the rest stays. -/
theorem clearWindows_spec (h : KeepsPower v s) :
    KeepsPower v (clearWindows c s) ∧ (clearWindows c s).ctxs = s.ctxs ∧ (clearWindows c s).heaps = s.heaps ∧
    (clearWindows c s).contain = { s.contain with windows := s.contain.windows.filter (fun w => !w.within c) } := by
  unfold clearWindows
  extract_lets gone
  refine ⟨keepsPower_foldl (fun w u hu => keepsPower_wrContain hu) (h.same rfl), ?_⟩
  rw [eventOnly_foldl (fun u w => eventOnly_wrContain w 9 1 0 u) gone]
  exact ⟨rfl, rfl, rfl⟩

theorem liftScope_spec (h : KeepsPower v s) (hheld : s.contain.held = [c]) :
    KeepsPower v (liftScope c s) ∧ (liftScope c s).ctxs = s.ctxs ∧ (liftScope c s).heaps = s.heaps ∧ (liftScope c s).contain.held = [] ∧
    (liftScope c s).contain.windows = s.contain.windows.filter (fun w => !w.within c) := by
  obtain ⟨hp, hctxs, hheaps, hcontain⟩ := clearWindows_spec (c := c) h
  unfold liftScope
  extract_lets s1
  refine ⟨keepsPower_wrContain (hp.same rfl), ?_⟩
  rw [eventOnly_wrContain]
  refine ⟨hctxs, hheaps, ?_, congrArg Contain.windows hcontain⟩
  show s1.contain.held.filter (· ≠ c) = []
  rw [hcontain, hheld]
  simp

theorem releaseScope_held (hheld : s.contain.held = [c]) :
    releaseScope c restart s =
      (let t := c.contexts.foldl (fun s cid => releaseCtx restart cid s) (liftScope c s)
       if c.lvl = 3 then fenceEnds c.i t else t) := by
  have hmem : s.contain.held.contains c = true := by simp [hheld]
  unfold releaseScope
  rw [if_pos hmem]
  rfl

/-- The end of a fence reaches crossings alone (R376). -/
theorem fenceEnds_eq (d : Nat) (s : State) : fenceEnds d s = { s with xings := (fenceEnds d s).xings } := by
  have hfold (l : List Nat) (u : State) : l.foldl (fun u i => assertNear (10 * d + i) u) u =
      { u with xings := (l.foldl (fun u i => assertNear (10 * d + i) u) u).xings } := by
    induction l generalizing u with
    | nil => rfl
    | cons i l ih =>
      rw [List.foldl_cons, ih]
      rfl
  exact hfold (List.range (if d = 0 then 10 else 9)) s

/-- The release of the one scope that is held: its HALTED contexts are released, and no other context changes. -/
theorem releaseScope_spec (hlo : 1 ≤ c.lvl) (hhi : c.lvl ≤ 3) (hsafe : inSafe s = false) (hon : ∀ d ∈ c.clusters, domOn d s = true)
    (hheld : s.contain.held = [c]) (h : Releasing s s) :
    let t := releaseScope c restart s
    NoneReached t ∧ (∀ j, c.covers j = true → t.ctx j = (s.ctx j).released restart) ∧ (∀ j, c.covers j = false → t.ctx j = s.ctx j) ∧
    t.contain.held = [] ∧ t.contain.windows = s.contain.windows.filter (fun w => !w.within c) := by
  obtain ⟨hp, hctxs, hheaps, hnone, hwindows⟩ := liftScope_spec h.power hheld
  have hctx (j : Nat) : (liftScope c s).ctx j = s.ctx j := congrArg (Sparse.get Ctx.init j) hctxs
  have hmem := Scope.mem_contexts hlo hhi
  obtain ⟨ht, hin, hout, hcontain⟩ := releaseCtxs_spec (restart := restart) hsafe (l := c.contexts)
    (fun j hj => hon _ ((Scope.mem_clusters hlo hhi j).mpr ((hmem j).mp hj))) (h.same hp hctxs hheaps) hnone
  simp only [hmem, hctx, Bool.not_eq_true] at hin hout
  rw [← hcontain] at hnone hwindows
  intro t
  rw [show t = _ from releaseScope_held hheld]
  generalize c.contexts.foldl (fun s cid => releaseCtx restart cid s) (liftScope c s) = u at *
  dsimp only
  split
  · rw [fenceEnds_eq]
    exact ⟨ht.heaps, hin, hout, hnone, hwindows⟩
  · exact ⟨ht.heaps, hin, hout, hnone, hwindows⟩

/-! ### The heaps that a release lets go (R260) -/

theorem forN_fixed {α : Type} {f : Nat → α → α} {x : α} (h : ∀ i, f i x = x) (n : Nat) : forN n f x = x := by
  induction n with
  | zero => rfl
  | succ n ih => rw [forN_succ, ih, h]

/-- A heap without reached triggers has nothing to release. -/
theorem releaseHeap_none (h : NoneReached s) (rg : Nat) : releaseHeap rg s = s := by
  have hnone : s.heaps.filter (fun e => regionOf e.1 = rg ∧ e.2.reachedAt.isSome) = [] := by
    refine List.filter_eq_nil_iff.mpr fun e he => ?_
    simp [h e he]
  have hreached : reachedOf rg s = [] := by
    unfold reachedOf inTurn
    rw [hnone]
    simp
  unfold releaseHeap
  rw [hreached]
  exact ite_self s

theorem releaseLevel_none (h : NoneReached (releaseScope c restart s)) : releaseLevel c restart s = releaseScope c restart s :=
  forN_fixed (releaseHeap_none h) 8

end

/-! ### The commands -/

section
variable {lvl i : Nat} {s : State}

/-- RELEASE = 1 resumes and RELEASE = 2 restarts (R202). -/
theorem writeContain_release (restart : Bool) :
    writeContain lvl i (BitVec.ofNat 36 (if restart then 2 else 1)) s = releaseLevel { lvl := lvl, i := i } restart s := by
  cases restart <;> rfl

theorem exec_containRelease (h : containAt lvl i = true) (hon : blkOn (containBlk lvl) i s = true) (hm : modeOf s ≠ 0) (restart : Bool) :
    exec (if restart then .containRestart lvl i else .containResume lvl i) s = .next (finish (releaseLevel { lvl := lvl, i := i } restart s)) := by
  have hrow : exec (if restart then .containRestart lvl i else .containResume lvl i) s =
      answer (containAt lvl i) (writeContainReg lvl i (if restart then 2 else 1) s) := by
    cases restart <;> rfl
  rw [hrow, writeContainReg_eq h hon hm, writeContain_release, h]
  rfl

theorem closeWindow_open (h : containAt lvl i = true) (hw : s.contain.windows.contains { lvl := lvl, i := i } = true) :
    closeWindow { lvl := lvl, i := i } s = wr ⟨containBlk lvl, 480, 9, 1⟩ i 0
      { s with contain := { s.contain with windows := s.contain.windows.filter (· ≠ { lvl := lvl, i := i }) } } := by
  unfold closeWindow wrContain
  rw [if_pos hw, if_pos (lvl_of_containAt h)]

end

/-- Settles O24: what a release does is said context by context; the heaps and, of a die, the crossings come after it. -/
theorem containmentReleases : Obligations.ContainmentReleases := by
  unfold Obligations.ContainmentReleases
  constructor
  · intro lvl i restart s hat hon hm c hs hsafe hheld hdom hplain hheaps
    obtain ⟨hlo, hhi⟩ := lvl_of_containAt hat
    have hstart : Releasing s s := ⟨.refl hs.regs, hs.ctxs, hplain, hheaps⟩
    obtain ⟨hnone, hin, hout, hfree, hwindows⟩ := releaseScope_spec (restart := restart) hlo hhi hsafe hdom hheld hstart
    refine ⟨releaseScope c restart s, ?_, hfree, hwindows, fun cid _ hcov hst => ?_, fun cid hcid => ?_⟩
    · rw [exec_containRelease hat hon hm, releaseLevel_none hnone]
    · exact (hin cid hcov).trans (Ctx.released_of_halted hst restart)
    · cases hcov : c.covers cid with
      | false => exact hout cid hcov
      | true =>
        have hst : (s.ctx cid).st ≠ .halted := hcid.resolve_left (by simp [hcov])
        exact (hin cid hcov).trans (Ctx.released_of_not_halted hst restart)
  · intro lvl i s hat hw
    show answer (containAt lvl i || _) (closeWindow _ s) = _
    rw [closeWindow_open hat hw, hat]
    rfl

end Sys2Proof.Machine
end

section
/-! The statement O25: fires, deadlines and the commands of a context's scheduler block (R242, R250, R251, R256, R262, Table SH-5). -/

namespace Sys2Proof.Machine

/-! ### The armed bits of a context (R128) -/

/-- A commit leaves what a context does, and the steps of its activation. -/
theorem Ctx.write_status (x : Ctx) (p : Pend) : (x.write p).st = x.st ∧ (x.write p).actSteps = x.actSteps := by
  unfold Ctx.write Ctx.setG
  split
  · split <;> exact ⟨rfl, rfl⟩
  all_goals exact ⟨rfl, rfl⟩

section
variable {cid : Nat} {s : State}

/-- A context reads back once it is set, where it is listed at most once or is not IDLE. -/
theorem State.ctx_setCtx_of_listed (h : Rising s.ctxs ∨ (s.ctx cid).st ≠ .idle) {x : Ctx} (hx : x.st = (s.ctx cid).st) : (s.setCtx cid x).ctx cid = x := by
  obtain hr | hst := h
  · exact State.ctx_setCtx_self hr cid x
  · exact State.ctx_setCtx_of_st (by rwa [hx]) cid s

theorem status_setArmedBit (h : Rising s.ctxs ∨ (s.ctx cid).st ≠ .idle) (d : Dest) (b : Bool) :
    ((setArmedBit cid d b s).ctx cid).st = (s.ctx cid).st ∧ ((setArmedBit cid d b s).ctx cid).actSteps = (s.ctx cid).actSteps := by
  unfold setArmedBit
  extract_lets p
  split
  · have hctx := State.ctx_setCtx_of_listed h (x := { s.ctx cid with pend := (s.ctx cid).pend ++ [p] }) rfl
    rw [State.modCtx_eq, hctx]
    exact ⟨rfl, rfl⟩
  · rw [State.modCtx_eq, State.ctx_setCtx_of_listed h (Ctx.write_status _ p).1]
    exact Ctx.write_status _ p

/-- An armed bit lies in its context alone. -/
theorem setArmedBit_eq (d : Dest) (b : Bool) : setArmedBit cid d b s = { s with ctxs := (setArmedBit cid d b s).ctxs } := by
  unfold setArmedBit
  extract_lets p
  split <;> rfl

/-! ### Requests (R179, R375) -/

/-- A request sets out to its context. -/
def sendReq (r : Req) (s : State) : State :=
  let x := regionXing (regionOf r.cid)
  { s.setXing x { s.xing x with phase := (s.xing x).phase ++ [r.cid] } with reqs := s.reqs ++ [r] }

/-- Context `cid` is IDLE, and nothing of it is on its way over the crossing of its region. -/
structure WayFree (cid : Nat) (s : State) : Prop where
  idle  : (s.ctx cid).st = .idle
  clear : (s.reqs ++ (s.xing (regionXing (regionOf cid))).held).any (fun r => r.cid = cid) = false
  runs  : (s.xing (regionXing (regionOf cid))).reset = false
  phase : (s.xing (regionXing (regionOf cid))).phase.contains cid = false

theorem WayFree.same {t : State} (h : WayFree cid s) (hst : (t.ctx cid).st = (s.ctx cid).st) (hr : t.reqs = s.reqs) (hx : t.xings = s.xings) :
    WayFree cid t := by
  have hxing (i : Nat) : t.xing i = s.xing i := congrArg (Sparse.get Xing.init i) hx
  obtain ⟨hidle, hclear, hruns, hphase⟩ := h
  exact ⟨hst.trans hidle, by rwa [hr, hxing], by rwa [hxing], by rwa [hxing]⟩

theorem wayFree_setArmedBit (h : WayFree cid s) (hs : Rising s.ctxs) (d : Dest) (b : Bool) : WayFree cid (setArmedBit cid d b s) :=
  h.same (status_setArmedBit (.inl hs) d b).1 (by rw [setArmedBit_eq]) (by rw [setArmedBit_eq])

theorem wayFree_disarmAngle (h : WayFree cid s) (hs : Rising s.ctxs) : WayFree cid (disarmAngle cid s) := by
  by_cases hang : (s.heap cid).ang = .disarmed
  · rwa [disarmAngle_disarmed hang]
  · rw [disarmAngle_armed hang]
    exact wayFree_setArmedBit (s := s.modHeap cid _) (h.same rfl rfl rfl) hs .atBit false

/-- In either mode of the crossing, the first request to an IDLE context is neither held nor merged. -/
theorem offerReq_free {r : Req} (hr : r.cid = cid) (h : WayFree cid s) : offerReq r s = sendReq r s := by
  subst hr
  obtain ⟨hidle, hclear, hruns, hphase⟩ := h
  rw [List.any_append, Bool.or_eq_false_iff] at hclear
  obtain ⟨hreqs, hheld⟩ := hclear
  have hcount : s.reqs.countP (fun q => q.cid = r.cid) = 0 := List.countP_eq_zero.mpr (List.any_eq_false.mp hreqs)
  unfold offerReq
  simp only [hidle]
  rw [if_neg (by simp [hruns]), if_neg (by simp [hheld, hcount]), if_neg (by rw [hphase]; simp)]
  rfl

/-! ### The fire of a trigger (R242, R250, R251) -/

theorem State.heap_takeTurn (rg j : Nat) (s : State) : (s.takeTurn rg).heap j = s.heap j := rfl

/-- A predicted trigger whose fire tick has come, which is reached, and which is the first of its heap to be taken (R242, R249). -/
structure FiresNow (cid : Nat) (s : State) : Prop where
  sound     : (s.heap cid).bad = false
  predicted : (s.heap cid).ang = .predicted
  waiting   : (s.heap cid).reachedAt = none
  noRev     : (s.heap cid).revFlag = false
  due       : (s.heap cid).pred ≤ s.clock.tick
  reached   : reached (s.heap cid) s = true
  loud      : heapQuiet (regionOf cid) s = false
  turn      : takenNow (regionOf cid) s < 2
  only      : ∀ e ∈ s.heaps, e.1 = cid ∨ e.2.ang ≠ .predicted

theorem triggerFire_due (h : FiresNow cid s) : triggerFire cid s = fireNow cid (s.clock.tick - (s.heap cid).pred) Flags.none s := by
  have hfirst : s.heaps.any (fun e => decide (e.1 ≠ cid ∧ regionOf e.1 = regionOf cid ∧ e.2.ang = .predicted ∧ e.2.pred ≤ s.clock.tick
      ∧ e.2.reachedAt.isNone) && dueBefore s e (cid, s.heap cid)) = false := by
    rw [List.any_eq_false]
    intro e he hbefore
    obtain ⟨⟨hne, -, hpred, -⟩, -⟩ := by simpa only [Bool.and_eq_true, decide_eq_true_eq] using hbefore
    exact (h.only e he).elim hne (fun hn => hn hpred)
  have hfire : fireReached cid Flags.none s = fireNow cid (s.clock.tick - (s.heap cid).pred) Flags.none s := by
    simp [fireReached, fire, latenessOf, Flags.none, h.loud, h.turn, h.waiting, h.predicted, h.noRev]
  unfold triggerFire
  simp only [checkHeap_sound h.sound, hfirst]
  rw [if_neg (by simp [h.predicted, h.waiting]), if_pos h.predicted, if_neg (Nat.not_lt.mpr h.due), if_neg Bool.false_ne_true, if_pos h.reached, hfire]

/-- A trigger that fires: it is disarmed and counted, and as late too where it is. -/
def countFire (cid : Nat) (late : Bool) (s : State) : State :=
  let s1 := bump F.sch_FIRES (regionOf cid) (disarmAngle cid (s.takeTurn (regionOf cid)))
  if late then bump F.sch_LATE (regionOf cid) s1 else s1

theorem wayFree_countFire (h : WayFree cid s) (hs : Rising s.ctxs) (late : Bool) : WayFree cid (countFire cid late s) := by
  have hdis : WayFree cid (disarmAngle cid (s.takeTurn (regionOf cid))) := wayFree_disarmAngle (s := s.takeTurn _) (h.same rfl rfl rfl) hs
  cases late <;> exact hdis.same rfl rfl rfl

/-- The request of a trigger that fires `n` ns late (R251). -/
def fireReq (cid n : Nat) (s : State) : Req :=
  { reqOf cid 0 s with late := decide (rd F.sch_CTL_LATE_THR (regionOf cid) s < n), lateNs := n }

theorem fireNow_free (hs : Rising s.ctxs) (hway : WayFree cid s) (hrev : (s.heap cid).revFlag = false) (n : Nat) :
    fireNow cid n Flags.none s = sendReq (fireReq cid n s) (countFire cid (fireReq cid n s).late s) := by
  have hoffer : fireNow cid n Flags.none s = offerReq (fireReq cid n s) (countFire cid (fireReq cid n s).late s) := by
    unfold fireNow
    simp only [Flags.none, Bool.false_or, hrev]
    rfl
  rw [hoffer, offerReq_free rfl (wayFree_countFire hway hs _)]

/-- The fire tick of a predicted trigger that is reached (R242, R250, R251). -/
theorem exec_triggerFire_due (hcid : cid < 4096) (hs : Rising s.ctxs) (hway : WayFree cid s) (h : FiresNow cid s) :
    let r := fireReq cid (s.clock.tick - (s.heap cid).pred) s
    exec (.triggerFire cid) s = .next (settleFaults (sendReq r (countFire cid r.late s))) := by
  have hrow : exec (.triggerFire cid) s = .next (settleFaults (triggerFire cid s)) := answerWord_of_valid (decide_eq_true hcid) _
  rw [hrow, triggerFire_due h, fireNow_free hs hway h.noRev]

/-! ### CMD of a context's scheduler block (R262, Table SH-5) -/

section
variable (hcid : cid < 4096) (hon : blkOn .sctx cid s = true) (hm : modeOf s ≠ 0) (hst : (s.ctx cid).st ≠ .unbound)
include hcid hon hm hst

theorem writeCmdReg_eq (v : Nat) : writeCmdReg cid v s = writeSchCmd cid (BitVec.ofNat 36 v) s := by
  have hkey : ¬0x60000 ≤ keyOf .sctx cid 8 := by
    simp only [keyOf]
    omega
  have hf : (fieldsAt .sctx 8).isEmpty = false := rfl
  unfold writeCmdReg writeReg
  rw [if_neg hkey, locate_sctx hcid (by decide)]
  dsimp only
  rw [if_neg (by simp [hf, hon, hm]), if_neg hst, if_pos rfl]

/-- The answer of a write of CMD. -/
theorem answer_writeCmdReg (v : Nat) :
    answerWord (cid < 4096) (writeCmdReg cid v s) = .next (settleFaults (writeSchCmd cid (BitVec.ofNat 36 v) s)) := by
  rw [answerWord_of_valid (decide_eq_true hcid), writeCmdReg_eq hcid hon hm hst]

theorem exec_schDispatch (hway : WayFree cid s) : exec (.schDispatch cid) s = .next (settleFaults (sendReq (reqOf cid 2 s) s)) :=
  (answer_writeCmdReg hcid hon hm hst 1).trans (congrArg (Host.Outcome.next ∘ settleFaults) (offerReq_free rfl hway))

theorem exec_schDisAng (hbad : (s.heap cid).bad = false) : exec (.schDisAng cid) s = .next (settleFaults (disarmAngle cid s)) :=
  (answer_writeCmdReg hcid hon hm hst 2).trans (congrArg (Host.Outcome.next ∘ settleFaults ∘ disarmAngle cid) (checkHeap_sound hbad))

theorem exec_schDisDl : exec (.schDisDl cid) s = .next (settleFaults (disarmDeadline cid s)) := answer_writeCmdReg hcid hon hm hst 4

end

/-! ### The expiry of a deadline (R242, R256) -/

/-- The contexts that a missed deadline traps (R256). -/
def CtxState.activated : CtxState → Bool
  | .ready | .running | .preempted => true
  | _ => false

/-- A deadline that is missed: it is disarmed and counted. -/
def missDeadline (cid : Nat) (s : State) : State :=
  bump F.sch_DL_MISS (regionOf cid) (setArmedBit cid .dlBit false
    ((s.takeTurn (regionOf cid)).modHeap cid (fun h => { h with dl := none, dlDue := false })))

/-- The trap of a context whose deadline `t` is missed. -/
def deadlineTrap (x : Ctx) (t : Nat) : Trap := plainTrap 6 (x.st.code * 2 ^ 16 + min x.actSteps 65535) (t % 2 ^ 36)

/-- A deadline `t` whose tick has come, in a heap that may take it (R242, R256). -/
structure MissesNow (cid t : Nat) (s : State) : Prop where
  sound : (s.heap cid).bad = false
  armed : (s.heap cid).dl = some t
  awake : rd F.pwr_MODE 0 s ≠ 1
  due   : t ≤ s.dev72
  turn  : takenNow (regionOf cid) s < 2

theorem expireDeadline_due {t : Nat} (h : MissesNow cid t s) : expireDeadline cid s = expireNow cid t s := by
  unfold expireDeadline
  simp only [checkHeap_sound h.sound, if_neg h.awake, h.armed, if_neg (Nat.not_lt.mpr h.due), if_pos h.turn]

theorem expireNow_eq {t : Nat} (h : MissesNow cid t s) (hl : Rising s.ctxs ∨ (s.ctx cid).st ≠ .idle) :
    expireNow cid t s =
      if (s.ctx cid).st.activated then trapCtx cid (deadlineTrap (s.ctx cid) t) (missDeadline cid s) else missDeadline cid s := by
  have hmiss : bump F.sch_DL_MISS (regionOf cid) (disarmDeadline cid (s.takeTurn (regionOf cid))) = missDeadline cid s := by
    rw [disarmDeadline_armed (s := s.takeTurn (regionOf cid)) h.sound (by rw [State.heap_takeTurn, h.armed]; rfl)]
    rfl
  have hstatus : ((missDeadline cid s).ctx cid).st = (s.ctx cid).st ∧ ((missDeadline cid s).ctx cid).actSteps = (s.ctx cid).actSteps :=
    status_setArmedBit (s := (s.takeTurn (regionOf cid)).modHeap cid (fun h => { h with dl := none, dlDue := false })) hl .dlBit false
  unfold expireNow
  simp only [hmiss, hstatus, deadlineTrap]
  cases (s.ctx cid).st <;> rfl

/-- The tick of a deadline whose context is listed at most once, or is not IDLE. -/
theorem exec_deadlineExpire_due {t : Nat} (hcid : cid < 4096) (h : MissesNow cid t s) (hl : Rising s.ctxs ∨ (s.ctx cid).st ≠ .idle) :
    exec (.deadlineExpire cid) s = .next (settleFaults
      (if (s.ctx cid).st.activated then trapCtx cid (deadlineTrap (s.ctx cid) t) (missDeadline cid s) else missDeadline cid s)) := by
  have hrow : exec (.deadlineExpire cid) s = .next (settleFaults (expireDeadline cid s)) := answerWord_of_valid (decide_eq_true hcid) _
  rw [hrow, expireDeadline_due h, expireNow_eq h hl]

/-! ### The commands of a state in order -/

/-- What the five commands do where the lists of the state are in order. -/
theorem schedulerRows_of_inOrder (hcid : cid < 4096) (hs : InOrder s) :
    (WayFree cid s →
      (FiresNow cid s → let r := fireReq cid (s.clock.tick - (s.heap cid).pred) s
        exec (.triggerFire cid) s = .next (settleFaults (sendReq r (countFire cid r.late s)))) ∧
      (blkOn .sctx cid s = true → modeOf s ≠ 0 → (s.heap cid).bad = false →
        exec (.schDispatch cid) s = .next (settleFaults (sendReq (reqOf cid 2 s) s)) ∧
        exec (.schDisAng cid) s = .next (settleFaults (disarmAngle cid s)) ∧
        exec (.schDisDl cid) s = .next (settleFaults (disarmDeadline cid s)))) ∧
    ∀ t, MissesNow cid t s → exec (.deadlineExpire cid) s = .next (settleFaults
      (if (s.ctx cid).st.activated then trapCtx cid (deadlineTrap (s.ctx cid) t) (missDeadline cid s) else missDeadline cid s)) := by
  refine ⟨fun hway => ⟨exec_triggerFire_due hcid hs.ctxs hway, fun hon hm hbad => ?_⟩, fun t h => exec_deadlineExpire_due hcid h (.inl hs.ctxs)⟩
  have hst : (s.ctx cid).st ≠ .unbound := by simp [hway.idle]
  exact ⟨exec_schDispatch hcid hon hm hst hway, exec_schDisAng hcid hon hm hst hbad, exec_schDisDl hcid hon hm hst⟩

end

/-! ### A context listed twice -/

/-- A state that is not in order: context 0, IDLE with a deadline of time 0, is listed a second time as READY. Its entry, once DL falls, is that
of reset and is listed no longer, so that the second one shows. -/
def listedTwice : State :=
  { State.setHeap 0 { Heap.init with dl := some 0 } (wr F.pwr_DOM_ON_LO 0 1 State.reset) with
    ctxs := [(0, { Ctx.init with dlBit := true }), (0, { Ctx.init with st := .ready })] }

theorem missesNow_listedTwice : MissesNow 0 0 listedTwice := ⟨by decide, by decide, by decide, by decide, by decide⟩

/-- The state of a context in an answer. -/
def answeredSt (cid : Nat) : Host.Outcome State Fault Refusal → Option CtxState
  | .next s => some (s.ctx cid).st
  | _ => none

/-- The expiry finds context 0 READY and traps it. -/
theorem halted_listedTwice : answeredSt 0 (exec (.deadlineExpire 0) listedTwice) = some .halted := by decide +kernel

/-- A missed deadline by itself traps no context. -/
theorem ready_listedTwice : answeredSt 0 (.next (settleFaults (missDeadline 0 listedTwice))) = some .ready := by decide +kernel

/-- Refutes O25: its clause on the deadline of an IDLE context asks nothing of the list of contexts. In `listedTwice`, which is not in order, the
context found after its deadline is disarmed is READY and takes a trap. Of a state in order all the clauses hold: `schedulerRows_of_inOrder`. -/
theorem not_schedulerRows : ¬ Obligations.SchedulerRows := by
  unfold Obligations.SchedulerRows
  rintro ⟨-, hdeadline⟩
  obtain ⟨hsound, harmed, hawake, hdue, hturn⟩ := missesNow_listedTwice
  have hidle : (listedTwice.ctx 0).st = .idle := rfl
  have hclaim : exec (.deadlineExpire 0) listedTwice = .next (settleFaults (missDeadline 0 listedTwice)) :=
    (hdeadline 0 0 listedTwice (by decide) hsound harmed hawake hdue hturn).1 (.inl hidle)
  have hanswers : some CtxState.halted = some .ready := by rw [← halted_listedTwice, hclaim, ready_listedTwice]
  exact absurd hanswers (by decide)

end Sys2Proof.Machine
end

section
/-! The statement O38: how an event is posted, held, merged or dropped (R289, R317). -/

namespace Sys2Proof.Machine

variable {e kind inst code : Nat} {s : State}

/-- The number by which an event source groups events (R289). -/
def eventKey (kind inst code : Nat) : Nat := kind * 65536 + inst * 256 + code

/-- The item of an event: its header, and the time (Tables MF-4, EV-7). -/
def eventItem (kind inst code : Nat) (s : State) : List Word :=
  [BitVec.ofNat 36 (kind * 2 ^ 32 + inst * 2 ^ 24 + code * 2 ^ 16), s.timeFW]

/-- The groups of source `e` that are still open. -/
def openGroups (e : Nat) (s : State) : List (Nat × Nat) := (s.evt e).groups.filter (fun g => s.clock.tick < g.2 + 1000)

/-- A source of the measurement front posts nothing while EVT_CTL disables it. -/
theorem postEvent_silent (he : e < 2) (h : rd F.mfr_EVT_CTL_EN 0 s = 0) (kind inst code : Nat) : postEvent e kind inst code s = s :=
  if_pos ⟨he, h⟩

/-- An event of an open group merges into it. -/
theorem postEvent_merged {z : Nat} (hz : (eventKey kind inst code, z) ∈ (s.evt e).groups) (ht : s.clock.tick < z + 1000) :
    postEvent e kind inst code s = s := by
  have hany : (openGroups e s).any (fun g => g.1 = eventKey kind inst code) = true :=
    List.any_eq_true.mpr ⟨_, List.mem_filter.mpr ⟨hz, decide_eq_true ht⟩, decide_eq_true rfl⟩
  unfold postEvent
  split
  · rfl
  · exact if_pos hany

/-- Source `e` with nothing open: an event opens its group. -/
def openGroup (e key : Nat) (held : Option (List Word)) (s : State) : State := s.setEvt e { held := held, groups := [(key, s.clock.tick)] }

section
variable (hon : e < 2 → rd F.mfr_EVT_CTL_EN 0 s ≠ 0) (hheld : (s.evt e).held = none) (hgroups : (s.evt e).groups = [])
include hon hheld hgroups

/-- The first event of a source that holds none goes by the queue bound. -/
theorem postEvent_first (kind inst code : Nat) :
    let opened := openGroup e (eventKey kind inst code) none s
    postEvent e kind inst code s = (evtQueue e s).elim (dropEvent e opened) (fun q =>
      if canPushWord s q then pushItem q (eventItem kind inst code s) opened
      else opened.modEvt e (fun x => { x with held := some (eventItem kind inst code s) })) := by
  unfold postEvent
  rw [if_neg (fun h => hon h.1 h.2)]
  simp only [hheld, hgroups, List.filter_nil, List.any_nil, List.nil_append, Option.isSome_none, Bool.false_eq_true, if_false]
  cases evtQueue e s with
  | none => rfl
  | some q => rfl

theorem postEvent_dropped (hq : evtQueue e s = none) (kind inst code : Nat) :
    postEvent e kind inst code s = dropEvent e (openGroup e (eventKey kind inst code) none s) := by
  rw [postEvent_first hon hheld hgroups, hq]
  rfl

theorem postEvent_pushed {q : Nat} (hq : evtQueue e s = some q) (hroom : canPushWord s q = true) (kind inst code : Nat) :
    postEvent e kind inst code s = pushItem q (eventItem kind inst code s) (openGroup e (eventKey kind inst code) none s) := by
  rw [postEvent_first hon hheld hgroups, hq]
  exact if_pos hroom

theorem postEvent_held {q : Nat} (hq : evtQueue e s = some q) (hroom : canPushWord s q = false) (hs : Rising s.evts) (kind inst code : Nat) :
    postEvent e kind inst code s = openGroup e (eventKey kind inst code) (some (eventItem kind inst code s)) s := by
  rw [postEvent_first hon hheld hgroups, hq]
  dsimp only [Option.elim]
  rw [if_neg (by simp [hroom]), State.modEvt_eq]
  unfold openGroup
  rw [State.evt_setEvt_self hs, State.setEvt_setEvt hs]

end

/-- The counter of the events that source `e` drops. -/
theorem dropEvent_eq (e : Nat) (s : State) :
    dropEvent e s = bump (if e = 0 then F.mfr_EVT_STAT_DROPPED_E else if e = 1 then F.mfr_EVT_STAT_DROPPED_W
      else if e = 2 then F.evo_EVT_STAT_DROPPED_E else F.evo_EVT_STAT_DROPPED_W) 0 s := by
  simp only [dropEvent, apply_ite (bump · 0 s)]

/-- Settles O38: an open group merges; otherwise the queue bound decides. -/
theorem eventPosting : Obligations.EventPosting := by
  unfold Obligations.EventPosting
  intro e kind inst code s _ hon hheld
  refine ⟨fun hgroups => ⟨fun hq => ?_, fun q hq => ⟨fun hroom => ?_, fun hroom hs => ?_⟩⟩, fun z hz ht => postEvent_merged hz ht⟩
  · rw [postEvent_dropped hon hheld hgroups hq, dropEvent_eq]
    rfl
  · exact postEvent_pushed hon hheld hgroups hq hroom ..
  · exact postEvent_held hon hheld hgroups hq hroom hs.evts ..

end Sys2Proof.Machine
end

section
/-! What the statements of chapter 09 share: the events that EVT_CTL disables, registers of the front that a write reaches, folds over few
instances, and timebases of which none is in use. -/

namespace Sys2Proof.Machine

/-! ### Folds over instances -/

theorem forN_kept {α : Type} {P : α → Prop} {f : Nat → α → α} {x : α} (n : Nat) (h : ∀ i, i < n → ∀ y, P y → P (f i y)) (hx : P x) : P (forN n f x) := by
  induction n with
  | zero => exact hx
  | succ n ih =>
    rw [forN_succ]
    exact h n (by omega) _ (ih (fun i hi => h i (by omega)))

/-- Instance `i` brings about `Q` where the instances before it keep `P` and those after it keep `Q`. -/
theorem forN_reaches {α : Type} {P Q : α → Prop} {f : Nat → α → α} {x : α} {n i : Nat} (hi : i < n) (hbefore : ∀ j, j < i → ∀ y, P y → P (f j y))
    (hthere : ∀ y, P y → Q (f i y)) (hafter : ∀ j, i < j → j < n → ∀ y, Q y → Q (f j y)) (hx : P x) : Q (forN n f x) := by
  induction n with
  | zero => omega
  | succ n ih =>
    rw [forN_succ]
    rcases Nat.lt_succ_iff_lt_or_eq.mp hi with h | rfl
    · exact hafter n h (by omega) _ (ih h (fun j hj hjn => hafter j hj (by omega)))
    · exact hthere _ (forN_kept i hbefore hx)

theorem forN_unchanged {α : Type} {f : Nat → α → α} {x : α} {n : Nat} (h : ∀ i, i < n → f i x = x) : forN n f x = x :=
  forN_kept (P := (· = x)) n (fun i hi _ hy => hy ▸ h i hi) rfl

/-- Only step `i` acts. -/
theorem forN_single {α : Type} {f : Nat → α → α} {x : α} {n i : Nat} (hi : i < n) (hbefore : ∀ j, j < n → j ≠ i → f j x = x)
    (hafter : ∀ j, j < n → j ≠ i → f j (f i x) = f i x) : forN n f x = f i x :=
  forN_reaches (P := (· = x)) (Q := (· = f i x)) hi (fun j hj _ hy => hy ▸ hbefore j (by omega) (by omega)) (fun _ hy => hy ▸ rfl)
    (fun j hj hjn _ hy => hy ▸ hafter j hjn (by omega)) rfl

/-! ### Timebases of which none is in use -/

section
variable {s : State} (h : s.tbs = [])
include h

theorem takesFrom_unused (n kind inst : Nat) : takesFrom n kind inst s = false := by
  have hoff : (s.tb n).st = .off := by
    unfold State.tb
    rw [h]
    rfl
  simp [takesFrom, hoff]

theorem edgeToTbs_unused (i : Nat) (t : Int) (dev : Nat) : edgeToTbs i t dev s = s := by
  unfold edgeToTbs
  refine forN_fixed (fun n => ?_) 32
  rw [takesFrom_unused h]
  rfl

theorem indexToTbs_unused (i : Nat) : indexToTbs i s = s := by
  unfold indexToTbs
  refine forN_fixed (fun n => ?_) 32
  simp [takesFrom_unused h]

theorem countToTbs_unused (i : Nat) (old : Int) : countToTbs i old s = s := by
  unfold countToTbs
  refine forN_fixed (fun n => ?_) 32
  simp [takesFrom_unused h]

theorem deliverAngle_unused (kind inst angle : Nat) (t : Int) (dev : Nat) (fresh : Bool) : deliverAngle kind inst angle t dev fresh s = s := by
  unfold deliverAngle
  refine forN_fixed (fun n => ?_) 32
  rw [takesFrom_unused h]
  rfl

end

/-! ### Registers of the front and other registers -/

/-- The blocks whose registers lie in the window of the measurement front above its own. -/
abbrev InFront (b : Blk) : Prop := b = .grp ∨ b = .chan ∨ b = .comp ∨ b = .enc ∨ b = .rt

theorem keyOf_front {b : Blk} (hb : InFront b) (i o : Nat) : 0x6200 ≤ keyOf b i o := by
  rcases hb with rfl | rfl | rfl | rfl | rfl <;> (simp only [keyOf]; omega)

/-- A write of the front's registers leaves EVT_CTL. -/
theorem evtCtl_wr {f : FRef} (hf : InFront f.b) (i v : Nat) (s : State) : rd F.mfr_EVT_CTL_EN 0 (wr f i v s) = rd F.mfr_EVT_CTL_EN 0 s :=
  rd_setReg_ne (Nat.lt_of_lt_of_le (by decide) (keyOf_front hf i f.o)).ne _ s

theorem evtCtl_bump {f : FRef} (hf : InFront f.b) (i : Nat) (s : State) : rd F.mfr_EVT_CTL_EN 0 (bump f i s) = rd F.mfr_EVT_CTL_EN 0 s :=
  evtCtl_wr hf ..

/-- A register below those of the event outputs enables no source of Reel. -/
theorem srcEnabled_setReg {k : Nat} (hk : k < 0x8080) (b kind inst : Nat) (v : Word) (s : State) :
    srcEnabled b kind inst (s.setReg k v) = srcEnabled b kind inst s := by
  have hrd (f : FRef) (hf : f.b = .bank) : rd f b (s.setReg k v) = rd f b s := by
    refine rd_setReg_ne ?_ v s
    rw [hf]
    simp only [keyOf]
    omega
  unfold srcEnabled
  rw [hrd F.bank_SRC0 rfl, hrd F.bank_SRC1_AC_HI rfl, hrd F.bank_SRC1_FLT rfl, hrd F.bank_SRC2 rfl, hrd F.bank_SRC3 rfl, hrd F.bank_SRC4_WIN rfl]

theorem srcEnabled_wr {f : FRef} {i : Nat} (hk : keyOf f.b i f.o < 0x8080) (b kind inst v : Nat) (s : State) :
    srcEnabled b kind inst (wr f i v s) = srcEnabled b kind inst s := srcEnabled_setReg hk ..

theorem srcEnabled_bump {f : FRef} {i : Nat} (hk : keyOf f.b i f.o < 0x8080) (b kind inst : Nat) (s : State) :
    srcEnabled b kind inst (bump f i s) = srcEnabled b kind inst s := srcEnabled_setReg hk ..

/-- A source that no bank names sets no latch. -/
theorem sourceActive_unnamed {kind inst : Nat} {s : State} (h : ∀ b, b < 4 → srcEnabled b kind inst s = false) : sourceActive kind inst s = s :=
  forN_unchanged (fun b hb => if_neg (by simp [h b hb]))

/-- What a write of a register of the front does. -/
def writeFront (b : Blk) (i o : Nat) (v : Word) (s : State) : State :=
  match b with
  | .mfr => if o = 2 then writeSwStrobe v s else storeReg .mfr 0 o v s
  | .grp => writeGrp i o v s
  | .comp => writeComp i o v s
  | .enc => writeEnc i o v s
  | _ => s

/-- A write of a register of the front that is there and on. -/
theorem writeReg_front {b : Blk} {i o : Nat} {s : State} (hb : b = .mfr ∨ b = .grp ∨ b = .comp ∨ b = .enc)
    (hl : locate (keyOf b i o) = some (b, i, o)) (hk : keyOf b i o < 0x60000) (hf : (fieldsAt b o).isEmpty = false) (hon : blkOn b i s = true)
    (hm : modeOf s ≠ 0) (v : Word) : writeReg 4096 (keyOf b i o) v s = writeFront b i o v s := by
  unfold writeReg
  rw [if_neg (by omega), hl]
  dsimp only
  rw [if_neg (by simp [hf, hon, hm])]
  rcases hb with rfl | rfl | rfl | rfl <;> rfl

/-- An event of the front's logic while its clock runs. -/
theorem inFront_on {s : State} (h : clocksOn s = true) (f : State → State) : inFront f s = f s := if_pos h

end Sys2Proof.Machine
end

section
/-! The statement O32: analog comparators and encoder interfaces (R277 to R283). -/

namespace Sys2Proof.Machine

variable {n uv : Nat} {v : Word} {s : State}

/-! ### Comparators (R277, R278) -/

/-- Comparator `n` lies above its upper threshold (R277): its state and its output, and what follows from the crossing. -/
def compAbove (n : Nat) (s : State) : State :=
  wr F.comp_STAT_TRIP_HI n 1 (bump F.comp_STAT_COUNT n (wr F.comp_STAT_OUT n 1 (s.setComp n { s.comp n with hi := true, lo := false })))

theorem aboveFree_high {x lo hi : Int} (h : hi < x) (s : State) : aboveFree x lo hi s = (true, s) := if_pos h

/-- R277: a comparator inside, with its upper threshold alone enabled, whose pin lies above that threshold's bounds. -/
theorem compareAc_above (hn : n < 48) (hon : domOn (compDomain n) s = true) (hsil : rd F.mfr_EVT_CTL_EN 0 s = 0)
    (hsrc : ∀ b, b < 4 → srcEnabled b 1 n s = false) (hhi : rdB F.comp_CTL_EN_HI n s = true) (hlo : rdB F.comp_CTL_EN_LO n s = false)
    (hin : (s.comp n).hi = false ∧ (s.comp n).lo = false) (hv : (thresholdNv (rd F.comp_CTL_HI n s)).2 < 1000 * ((s.comp n).uv : Int)) :
    compareAc n s = compAbove n s := by
  obtain ⟨hh, hl⟩ := hin
  have hkey : keyOf .comp n 1 < 0x8080 := by simp only [keyOf]; omega
  have hnamed : ∀ b, b < 4 → srcEnabled b 1 n (bump F.comp_STAT_COUNT n
      (wr F.comp_STAT_OUT n 1 (s.setComp n { s.comp n with hi := true, lo := false }))) = false := fun b hb => by
    rw [srcEnabled_bump hkey, srcEnabled_wr hkey]
    exact hsrc b hb
  have hnone : rd F.mfr_EVT_CTL_EN 0 (compAbove n s) = 0 := by
    unfold compAbove
    rw [evtCtl_wr (by decide), evtCtl_bump (by decide), evtCtl_wr (by decide)]
    exact hsil
  unfold compareAc
  simp only [hon, hh, hl, hhi, hlo, if_true, if_false, Bool.not_true, Bool.false_eq_true, Int.sub_zero, aboveFree_high hv, Bool.or_false, Bool.not_false,
    Bool.and_true]
  rw [sourceActive_unnamed hnamed]
  exact postEvent_silent (by omega) hnone ..

/-- R278: a comparator with both thresholds disabled lies inside. -/
theorem compareAc_disabled (hon : domOn (compDomain n) s = true) (hhi : rdB F.comp_CTL_EN_HI n s = false) (hlo : rdB F.comp_CTL_EN_LO n s = false) :
    compareAc n s = wr F.comp_STAT_OUT n 0 (s.setComp n { s.comp n with hi := false, lo := false }) := by
  unfold compareAc
  simp [hon, hhi, hlo]

theorem comp_modComp_uv (hs : Rising s.comps) (n uv : Nat) :
    (s.modComp n (fun x => { x with uv := uv })).comp n = { s.comp n with uv := uv } := State.comp_setComp_self hs ..

theorem exec_comparatorCrossing_above (hn : n < 48) (hon : domOn (compDomain n) s = true) (hsil : rd F.mfr_EVT_CTL_EN 0 s = 0)
    (hsrc : ∀ b, b < 4 → srcEnabled b 1 n s = false) (hhi : rdB F.comp_CTL_EN_HI n s = true) (hlo : rdB F.comp_CTL_EN_LO n s = false)
    (hin : (s.comp n).hi = false ∧ (s.comp n).lo = false) (hs : Rising s.comps)
    (hv : (thresholdNv (rd F.comp_CTL_HI n s)).2 < 1000 * (uv : Int)) :
    exec (.comparatorCrossing n uv) s = .next (finish (wr F.comp_STAT_TRIP_HI n 1 (bump F.comp_STAT_COUNT n (wr F.comp_STAT_OUT n 1
      (s.setComp n { uv := uv, hi := true, lo := false }))))) := by
  have hcomp := comp_modComp_uv hs n uv
  have habove : crossAc n uv s = compAbove n (s.modComp n (fun x => { x with uv := uv })) :=
    compareAc_above hn hon hsil hsrc hhi hlo (by rw [hcomp]; exact hin) (by rw [hcomp]; exact hv)
  show answer (decide (n < 48)) (crossAc n uv s) = _
  rw [answer_of hn, habove]
  unfold compAbove
  rw [hcomp, State.modComp_eq, State.setComp_setComp hs]

/-- A write of CTL of a powered comparator. -/
theorem writeWord_compCtl (hn : n < 48) (hon : domOn (compDomain n) s = true) (hm : modeOf s ≠ 0) :
    writeWord .comp n 0 v s = compareAc n (storeReg .comp n 0 v s) :=
  writeReg_front (by decide) (locate_comp hn (by decide)) (by simp only [keyOf]; omega) rfl hon hm v

/-- CTL of a comparator as a write stores it: all its fields are RW. -/
def compCtlStored (w v : Word) : Word :=
  setBits (setBits (setBits (setBits (setBits w 23 1 (bits v 23 1)) 22 1 (bits v 22 1)) 20 2 (bits v 20 2)) 10 10 (bits v 10 10)) 0 10 (bits v 0 10)

theorem reg_storeReg_compCtl (hs : Rising s.regs) (n : Nat) (v : Word) :
    (storeReg .comp n 0 v s).reg (keyOf .comp n 0) = compCtlStored (s.reg (keyOf .comp n 0)) v := State.reg_setReg_self hs ..

theorem rd_compEn_storeReg (hs : Rising s.regs) (n : Nat) (v : Word) :
    rd F.comp_CTL_EN_HI n (storeReg .comp n 0 v s) = bits v 22 1 ∧ rd F.comp_CTL_EN_LO n (storeReg .comp n 0 v s) = bits v 23 1 := by
  have hlt (lo : Nat) : bits v lo 1 % 2 ^ 1 = bits v lo 1 := Nat.mod_eq_of_lt (bits_lt v lo 1)
  show bits ((storeReg .comp n 0 v s).reg (keyOf .comp n 0)) 22 1 = _ ∧ bits ((storeReg .comp n 0 v s).reg (keyOf .comp n 0)) 23 1 = _
  rw [reg_storeReg_compCtl hs]
  unfold compCtlStored
  constructor
  · rw [bits_setBits_beside _ (by decide) (by decide), bits_setBits_beside _ (by decide) (by decide), bits_setBits_beside _ (by decide) (by decide),
      bits_setBits_same _ (by decide), hlt]
  · rw [bits_setBits_beside _ (by decide) (by decide), bits_setBits_beside _ (by decide) (by decide), bits_setBits_beside _ (by decide) (by decide),
      bits_setBits_beside _ (by decide) (by decide), bits_setBits_same _ (by decide), hlt]

/-- A write of CTL leaves every register but itself, DOM_ON among them. -/
theorem domOn_storeReg_comp (d n : Nat) (v : Word) (s : State) : domOn d (storeReg .comp n 0 v s) = domOn d s := by
  have hkey (o : Nat) (ho : o < 0x2000) : keyOf .pwr 0 o ≠ keyOf .comp n 0 := by
    simp only [keyOf]
    omega
  have hlo : rd F.pwr_DOM_ON_LO 0 (storeReg .comp n 0 v s) = rd F.pwr_DOM_ON_LO 0 s := rd_setReg_ne (hkey 9 (by decide)) ..
  have hhi : rd F.pwr_DOM_ON_HI_ON 0 (storeReg .comp n 0 v s) = rd F.pwr_DOM_ON_HI_ON 0 s := rd_setReg_ne (hkey 10 (by decide)) ..
  unfold domOn
  rw [hlo, hhi]

/-- R278: a write of CTL that disables both thresholds brings the comparator inside. -/
theorem writeWord_compCtl_disables (hn : n < 48) (hon : domOn (compDomain n) s = true) (hm : modeOf s ≠ 0) (hs : Rising s.regs)
    (hv : v.toNat / 2 ^ 22 % 4 = 0) :
    writeWord .comp n 0 v s = wr F.comp_STAT_OUT n 0 ((storeReg .comp n 0 v s).setComp n { s.comp n with hi := false, lo := false }) := by
  obtain ⟨hhi, hlo⟩ := rd_compEn_storeReg hs n v
  have hbit22 : bits v 22 1 = 0 := by unfold bits; omega
  have hbit23 : bits v 23 1 = 0 := by unfold bits; omega
  rw [writeWord_compCtl hn hon hm]
  exact compareAc_disabled ((domOn_storeReg_comp ..).trans hon) (by unfold rdB; rw [hhi, hbit22]; rfl) (by unfold rdB; rw [hlo, hbit23]; rfl)

theorem exec_comparatorThresholdWrite_disabled (hn : n < 48) (hon : domOn (compDomain n) s = true) (hm : modeOf s ≠ 0) (hs : InOrder s)
    (hv : v.toNat / 2 ^ 22 % 4 = 0) :
    exec (.comparatorThresholdWrite n v uv) s =
      .next (finish (wr F.comp_STAT_OUT n 0 ((storeReg .comp n 0 v s).setComp n { uv := uv, hi := false, lo := false }))) := by
  have hset : (storeReg .comp n 0 v (s.modComp n (fun x => { x with uv := uv }))).setComp n { s.comp n with uv := uv, hi := false, lo := false } =
      (storeReg .comp n 0 v s).setComp n { uv := uv, hi := false, lo := false } :=
    State.setComp_setComp (s := storeReg .comp n 0 v s) hs.comps ..
  show answer (decide (n < 48)) (writeWord .comp n 0 v (s.modComp n (fun x => { x with uv := uv }))) = _
  rw [answer_of hn, writeWord_compCtl_disables (s := s.modComp n (fun x => { x with uv := uv })) hn hon hm hs.regs hv, comp_modComp_uv hs.comps, hset]

/-! ### Encoder interfaces (R280 to R283) -/

/-- The time at which encoder interface `n` has seen an edge: FILT samples ago. -/
def encStamp (n : Nat) (s : State) : Word := timeFOf (devAgo (rd F.enc_CTL_FILT n s) s)

/-- R280: what one count leaves in the registers of encoder interface `n`. -/
def encMoved (n : Nat) (by_ : Int) (s t : State) : State :=
  wrAll n [(F.enc_COUNT, lowBits 36 (encCount n s + by_)), (F.enc_EDGE_T, (encStamp n s).toNat), (F.enc_STAT_DIR, if by_ < 0 then 1 else 0)] t

theorem countEnc_unused (h : s.tbs = []) (n : Nat) (by_ : Int) (x : Enc) : countEnc n by_ (s.setEnc n x) = encMoved n by_ s (s.setEnc n x) :=
  edgeToTbs_unused (s := encMoved n by_ s (s.setEnc n x)) h ..

theorem exec_encoderEdge (hn : n < 16) (hclk : clocksOn s = true) (a b : Bool) : exec (.encoderEdge n a b) s = .next (finish (encoderEdge n a b s)) := by
  show answer (decide (n < 16)) (inFront (encoderEdge n a b) s) = _
  rw [answer_of hn, inFront_on hclk]

/-- The levels change in quadrature mode: by `d` places along the cycle. -/
theorem encoderEdge_quadrature (hon : domOn (encDomain n) s = true) (hmode : rd F.enc_CTL_MODE n s = 1) (hswap : rdB F.enc_CTL_SWAP n s = false) {a b : Bool} {d : Int}
    (hd : (quadPos a b - quadPos (s.enc n).a (s.enc n).b) % 4 = d) (h0 : d ≠ 0) :
    encoderEdge n a b s = if d = 2 then postEvent (n / 8) 3 n 1 (bump F.enc_STAT_QERR n (s.setEnc n { a := a, b := b }))
      else countEnc n (if d = 1 then 1 else -1) (s.setEnc n { a := a, b := b }) := by
  have hchange : ¬(!domOn (encDomain n) s ∨ ((s.enc n).a = a ∧ (s.enc n).b = b)) := by
    rintro (h | ⟨rfl, rfl⟩)
    · simp [hon] at h
    · exact h0 (by rw [← hd, Int.sub_self]; rfl)
  unfold encoderEdge
  simp only [hchange, if_false, hmode, hswap, Bool.false_eq_true, hd]

section
variable (hn : n < 16) (hclk : clocksOn s = true) (hon : domOn (encDomain n) s = true) (hsil : rd F.mfr_EVT_CTL_EN 0 s = 0) (htbs : s.tbs = [])
include hn hclk hon

include htbs in
theorem exec_encoderEdge_counts (hmode : rd F.enc_CTL_MODE n s = 1) (hswap : rdB F.enc_CTL_SWAP n s = false) {a b : Bool} {d by_ : Int}
    (hd : (quadPos a b - quadPos (s.enc n).a (s.enc n).b) % 4 = d) (hby : d = 1 ∧ by_ = 1 ∨ d = 3 ∧ by_ = -1) :
    exec (.encoderEdge n a b) s = .next (finish (encMoved n by_ s (s.setEnc n { a := a, b := b }))) := by
  have hstep : (if d = 1 then 1 else -1) = by_ := by split <;> omega
  rw [exec_encoderEdge hn hclk, encoderEdge_quadrature hon hmode hswap hd (by omega), if_neg (by omega), hstep, countEnc_unused htbs]

include hsil in
theorem exec_encoderEdge_error (hmode : rd F.enc_CTL_MODE n s = 1) (hswap : rdB F.enc_CTL_SWAP n s = false) {a b : Bool}
    (hd : (quadPos a b - quadPos (s.enc n).a (s.enc n).b) % 4 = 2) :
    exec (.encoderEdge n a b) s = .next (finish (bump F.enc_STAT_QERR n (s.setEnc n { a := a, b := b }))) := by
  rw [exec_encoderEdge hn hclk, encoderEdge_quadrature hon hmode hswap hd (by decide), if_pos rfl,
    postEvent_silent (s := bump F.enc_STAT_QERR n (s.setEnc n { a := a, b := b })) (by omega) ((evtCtl_bump (by decide) ..).trans hsil)]

/-- What an index edge leaves in the registers of encoder interface `n` (R283). -/
def encIndexed (n : Nat) (s : State) : State :=
  wrAll n [(F.enc_IDX_CNT, rd F.enc_COUNT n s), (F.enc_IDX_T, (encStamp n s).toNat), (F.enc_STAT_IDX_SEEN, 1)] s

include hsil htbs in
theorem exec_encoderIndex (hmode : rd F.enc_CTL_MODE n s ≠ 0) (hq : rdB F.enc_CTL_IDXQ n s = false) :
    exec (.encoderIndex n) s = .next (finish (encIndexed n s)) := by
  have hsilent : rd F.mfr_EVT_CTL_EN 0 (encIndexed n s) = 0 :=
    (evtCtl_wr (f := F.enc_STAT_IDX_SEEN) (by decide) ..).trans ((evtCtl_wr (f := F.enc_IDX_T) (by decide) ..).trans
      ((evtCtl_wr (f := F.enc_IDX_CNT) (by decide) ..).trans hsil))
  have hindex : encoderIndex n s = indexToTbs n (postEvent (n / 8) 3 n 2 (encIndexed n s)) := if_neg (by simp [hon, hmode, hq])
  show answer (decide (n < 16)) (inFront (encoderIndex n) s) = _
  rw [answer_of hn, inFront_on hclk, hindex, postEvent_silent (by omega) hsilent, indexToTbs_unused (s := encIndexed n s) htbs]

theorem exec_encoderGlitch (hmode : rd F.enc_CTL_MODE n s ≠ 0) (hfilt : rd F.enc_CTL_FILT n s ≠ 0) :
    exec (.encoderGlitch n) s = .next (finish (bump F.enc_STAT_GLITCH n s)) := by
  have hglitch : encoderGlitch n s = bump F.enc_STAT_GLITCH n s := if_pos ⟨hon, hmode, hfilt⟩
  show answer (decide (n < 16)) (inFront (encoderGlitch n) s) = _
  rw [answer_of hn, inFront_on hclk, hglitch]

end

/-- COUNT is one RW field of 36 bits. -/
theorem storeReg_encCount (n : Nat) (v : Word) (s : State) : storeReg .enc n 1 v s = s.setReg (keyOf .enc n 1) v := by
  have hword : setBits (s.reg (keyOf .enc n 1)) 0 36 (bits v 0 36) = v := by
    rw [setBits_whole]
    exact BitVec.eq_of_toNat_eq (by rw [BitVec.toNat_ofNat, bits, Nat.mod_mod, Nat.pow_zero, Nat.div_one, Nat.mod_eq_of_lt v.isLt])
  exact congrArg (s.setReg (keyOf .enc n 1)) hword

theorem exec_countWrite (hn : n < 16) (hon : domOn (encDomain n) s = true) (hm : modeOf s ≠ 0) (htbs : s.tbs = []) (v : Word) :
    exec (.countWrite n v) s = .next (finish (s.setReg (keyOf .enc n 1) v)) := by
  have hwrite : writeWord .enc n 1 v s = countToTbs n (encCount n s) (storeReg .enc n 1 v s) :=
    writeReg_front (by decide) (locate_enc hn (by decide)) (by simp only [keyOf]; omega) rfl hon hm v
  show answer (decide (n < 16)) (writeWord .enc n 1 v s) = _
  rw [answer_of hn, hwrite, storeReg_encCount, countToTbs_unused (s := s.setReg (keyOf .enc n 1) v) htbs]

/-- Settles O32, from what each of the six commands does. -/
theorem comparatorsAndEncoders : Obligations.ComparatorsAndEncoders := by
  unfold Obligations.ComparatorsAndEncoders
  refine ⟨fun n uv s hn hon hsil hsrc hhi hlo h1 h2 hs hv => exec_comparatorCrossing_above hn hon hsil hsrc hhi hlo ⟨h1, h2⟩ hs.comps hv,
    fun n uv v s hn hon hm hs hv => exec_comparatorThresholdWrite_disabled hn hon hm hs hv, fun n s hn hclk hm hon hsil htbs => ?_⟩
  refine ⟨fun a b hmode hswap => ⟨fun hd => ?_, fun hd => ?_, fun hd => ?_⟩, fun hmode hq => exec_encoderIndex hn hclk hon hsil htbs hmode hq,
    fun v => exec_countWrite hn hon hm htbs v, fun hmode hfilt => exec_encoderGlitch hn hclk hon hmode hfilt⟩
  · exact exec_encoderEdge_counts hn hclk hon htbs hmode hswap hd (.inl ⟨rfl, rfl⟩)
  · exact exec_encoderEdge_counts hn hclk hon htbs hmode hswap hd (.inr ⟨rfl, rfl⟩)
  · exact exec_encoderEdge_error hn hclk hon hsil hmode hswap hd

end Sys2Proof.Machine
end

section
/-! The statement O31: strobe points, strobes, writes of the strobe settings, and the item of a stream (R270, R273, R290). -/

namespace Sys2Proof.Machine

variable {g n : Nat} {s : State}

/-! ### Strobe points (R270) -/

/-- A value is a strobe point: a multiple of PER from PHASE within the turn. -/
abbrev IsPoint (per phase : Nat) (x : Int) : Prop := (x - phase) % 2 ^ 24 % per = 0

/-- A quotient grows by one where the divisor divides the number that is reached. -/
theorem div_step {per : Nat} (hper : per ≠ 0) (r : Int) : r / per = (r - 1) / per + if r % per = 0 then 1 else 0 := by
  have hpos : (0 : Int) < per := by omega
  have hr := Int.emod_add_mul_ediv r per
  have hnn := Int.emod_nonneg r hpos.ne'
  have hlt := Int.emod_lt_of_pos r hpos
  split
  · next h =>
    have hprev : r - 1 = (per - 1) + per * (r / per - 1) := by rw [Int.mul_sub]; omega
    have hzero : ((per : Int) - 1) / per = 0 := Int.ediv_eq_zero_of_lt (by omega) (by omega)
    rw [hprev, Int.add_mul_ediv_left _ _ hpos.ne', hzero]
    omega
  · next h =>
    have hprev : r - 1 = (r % per - 1) + per * (r / per) := by omega
    have hzero : (r % (per : Int) - 1) / per = 0 := Int.ediv_eq_zero_of_lt (by omega) (by omega)
    have hdiv : (r - 1) / per = r / per := by rw [hprev, Int.add_mul_ediv_left _ _ hpos.ne', hzero, Int.zero_add]
    omega

/-- One more value: the points up to it grow by one where it is a point. -/
theorem pointsUpTo_step {per : Nat} (hper : per ≠ 0) (phase : Nat) (x : Int) :
    pointsUpTo per phase x = pointsUpTo per phase (x - 1) + if IsPoint per phase x then 1 else 0 := by
  have hdiv := div_step hper ((x - phase) % 2 ^ 24)
  unfold pointsUpTo
  dsimp only
  by_cases h0 : (x - phase) % 2 ^ 24 = 0
  · have hq : (x - 1 - phase) / 2 ^ 24 = (x - phase) / 2 ^ 24 - 1 := by omega
    have hr : (x - 1 - phase) % 2 ^ 24 = 2 ^ 24 - 1 := by omega
    rw [if_pos (by rw [IsPoint, h0, Int.zero_emod]), hq, hr, h0, Int.zero_ediv, Int.sub_mul]
    push_cast
    omega
  · have hq : (x - 1 - phase) / 2 ^ 24 = (x - phase) / 2 ^ 24 := by omega
    have hr : (x - 1 - phase) % 2 ^ 24 = (x - phase) % 2 ^ 24 - 1 := by omega
    rw [hq, hr, hdiv]
    omega

/-- The points among the `n` values after `x`. -/
theorem pointsUpTo_ahead {per : Nat} (hper : per ≠ 0) (phase : Nat) (x : Int) (n : Nat) :
    pointsUpTo per phase (x + n) - pointsUpTo per phase x = ((List.range n).countP (fun j : Nat => IsPoint per phase (x + (j + 1))) : Nat) := by
  induction n with
  | zero => simp
  | succ n ih =>
    have hstep := pointsUpTo_step hper phase (x + (n + 1))
    rw [show x + ((n : Int) + 1) - 1 = x + n by omega] at hstep
    rw [List.range_succ, List.countP_append, List.countP_singleton]
    simp only [decide_eq_true_eq]
    push_cast
    omega

/-- The points among the `n` values before `x`. -/
theorem pointsUpTo_behind {per : Nat} (hper : per ≠ 0) (phase : Nat) (x : Int) (n : Nat) :
    pointsUpTo per phase (x - 1) - pointsUpTo per phase (x - n - 1) = ((List.range n).countP (fun j : Nat => IsPoint per phase (x + (-j - 1))) : Nat) := by
  induction n with
  | zero => simp
  | succ n ih =>
    have hstep := pointsUpTo_step hper phase (x - n - 1)
    rw [List.range_succ, List.countP_append, List.countP_singleton]
    simp only [decide_eq_true_eq]
    rw [show x + (-(n : Int) - 1) = x - n - 1 by omega]
    push_cast
    rw [show x - ((n : Int) + 1) - 1 = x - n - 1 - 1 by omega]
    omega

/-- R270: the points that a value reaches or crosses, counted one by one. -/
theorem pointsCrossed_eq_countP {per : Nat} (hper : per ≠ 0) (phase : Nat) (a b : Word) :
    pointsCrossed per phase a b = (List.range (b - a).toInt.natAbs).countP (fun j : Nat =>
      IsPoint per phase ((a.toNat : Int) + if 0 < (b - a).toInt then (j : Int) + 1 else -(j : Int) - 1)) := by
  unfold pointsCrossed
  dsimp only
  generalize (b - a).toInt = d
  rcases Int.lt_trichotomy d 0 with h | rfl | h
  · obtain ⟨n, rfl⟩ : ∃ n : Nat, d = -n := ⟨d.natAbs, by omega⟩
    have := pointsUpTo_behind hper phase a.toNat n
    simp only [show ¬0 < -(n : Int) by omega, h, if_true, if_false, Int.natAbs_neg, Int.natAbs_natCast, ← Int.sub_eq_add_neg]
    omega
  · simp
  · obtain ⟨n, rfl⟩ : ∃ n : Nat, d = n := ⟨d.natAbs, by omega⟩
    have := pointsUpTo_ahead hper phase a.toNat n
    simp only [h, if_true, Int.natAbs_natCast]
    omega

/-! ### A strobe (R270, R271) -/

/-- The strobe points of stream 0 to 3 skipped, with `n` more (R274). -/
def skipped (n : Nat) (x : Grp) : List (Nat × Nat) := (List.range 4).foldl (fun l i => addSat i n 511 l) x.skip

theorem strobeGroup_free (h : (s.grp g).strobe = none) (n : Nat) :
    strobeGroup g n s = (bumpBy F.grp_STAT_SKIPPED g (n - 1) s).setGrp g
      { s.grp g with strobe := some s.clock.tick, lateStrobe := false, skip := skipped (n - 1) (s.grp g) } :=
  if_neg (by simp [h])

theorem strobeGroup_waiting (h : (s.grp g).strobe.isSome = true) (n : Nat) :
    strobeGroup g n s = bump F.grp_STAT_MERGED g ((bumpBy F.grp_STAT_SKIPPED g (n - 1) s).setGrp g
      { s.grp g with skip := skipped (n - 1) (s.grp g) }) :=
  if_pos h

theorem State.grp_setGrp_of_ne {x : Grp} (h : x ≠ Grp.init) (k : Nat) (s : State) : (s.setGrp k x).grp k = x := Sparse.get_put_self _ _ h _

theorem State.setGrp_setGrp_of_ne {x : Grp} (h : x ≠ Grp.init) (k : Nat) (y : Grp) (s : State) : (s.setGrp k x).setGrp k y = s.setGrp k y := by
  unfold State.setGrp
  simp only [Sparse.put_put_of_ne _ _ h]

/-- Group `g` has compared its strobe timebase's value `b`. -/
def compared (g : Nat) (b : Word) (s : State) : State := s.setGrp g { s.grp g with at_ := some b }

theorem grp_compared (g : Nat) (b : Word) (s : State) : (compared g b s).grp g = { s.grp g with at_ := some b } :=
  State.grp_setGrp_of_ne (fun h => by simpa [Grp.init] using congrArg Grp.at_ h) ..

theorem setGrp_compared (g : Nat) (b : Word) (y : Grp) (s : State) : (compared g b s).setGrp g y = s.setGrp g y :=
  State.setGrp_setGrp_of_ne (fun h => by simpa [Grp.init] using congrArg Grp.at_ h) ..

/-- A strobe of a group that has just compared. -/
theorem strobeGroup_compared (g n : Nat) (b : Word) (s : State) :
    let x := { s.grp g with at_ := some b }
    let t := bumpBy F.grp_STAT_SKIPPED g (n - 1) s
    (x.strobe = none → strobeGroup g n (compared g b s) =
      t.setGrp g { x with strobe := some s.clock.tick, lateStrobe := false, skip := skipped (n - 1) x }) ∧
    (x.strobe.isSome = true → strobeGroup g n (compared g b s) = bump F.grp_STAT_MERGED g (t.setGrp g { x with skip := skipped (n - 1) x })) := by
  have hgrp := grp_compared g b s
  have hset (y : Grp) : (bumpBy F.grp_STAT_SKIPPED g (n - 1) (compared g b s)).setGrp g y = (bumpBy F.grp_STAT_SKIPPED g (n - 1) s).setGrp g y :=
    setGrp_compared g b y (bumpBy F.grp_STAT_SKIPPED g (n - 1) s)
  refine ⟨fun h => ?_, fun h => ?_⟩
  · rw [strobeGroup_free (by rw [hgrp]; exact h), hgrp, hset]
    rfl
  · rw [strobeGroup_waiting (by rw [hgrp]; exact h), hgrp, hset]

/-- R290: the settings of a group that no write has touched are those that its registers hold. -/
theorem strobeSettings_settled (h : (s.grp g).quiet = none) : strobeSettings g s = some (s.reg (keyOf .grp g 1), s.reg (keyOf .grp g 2)) := by
  unfold strobeSettings
  rw [h]

/-- R270: the value has reached or crossed `n` strobe points. -/
theorem strobePoint_crossed {a : Word} (hrun : grpRuns g s = true) (hen : rdB F.grp_STRB_CTL_EN g s = true) (hper : rd F.grp_STRB_CTL_PER g s ≠ 0)
    (h0 : n ≠ 0) (hquiet : (s.grp g).quiet = none) (hat : (s.grp g).at_ = some a)
    (hn : n = pointsCrossed (rd F.grp_STRB_CTL_PER g s) (rd F.grp_STRB_PH_PHASE g s) a (tbPub (rd F.grp_STRB_PH_TB g s) s)) :
    strobePoint g n s = strobeGroup g n (compared g (tbPub (rd F.grp_STRB_PH_TB g s) s) s) := by
  unfold strobePoint
  rw [strobeSettings_settled hquiet, hat]
  exact if_pos ⟨hrun, eq_of_beq hen, hper, h0, hn⟩

/-- R290: the tick after a write of the settings makes no strobe. -/
theorem strobePoint_afterWrite {w : Nat} {old : Option (Word × Word)} (h : (s.grp g).quiet = some (w, old)) (hw : w + 1 = s.clock.tick) (n : Nat) :
    strobePoint g n s = s := by
  have hnone : strobeSettings g s = none := by
    unfold strobeSettings
    rw [h]
    dsimp only
    rw [if_neg (by omega), if_pos hw]
  unfold strobePoint
  rw [hnone]

theorem exec_strobe (hg : g < 12) (n : Nat) (s : State) : exec (.strobe g n) s = .next (finish (inFront (strobePoint g n) s)) := answer_of hg _

/-! ### SW_STROBE, and the settings written (R270, R290) -/

/-- A write of SW_STROBE that names group `g` alone. -/
theorem writeSwStrobe_single (hg : g < 12) (hon : domOn (grpDomain g) s = true) : writeSwStrobe (BitVec.ofNat 36 (2 ^ g)) s = strobeGroup g 1 s := by
  have hword : (BitVec.ofNat 36 (2 ^ g)).toNat = 2 ^ g :=
    Nat.mod_eq_of_lt (Nat.pow_lt_pow_right (by decide) (by omega))
  have hother {j : Nat} (hj : j ≠ g) : ¬(BitVec.ofNat 36 (2 ^ g)).toNat.testBit j = true := by
    rw [hword, Nat.testBit_two_pow_of_ne hj.symm]
    decide
  have hnamed : (BitVec.ofNat 36 (2 ^ g)).toNat.testBit g = true := by rw [hword, Nat.testBit_two_pow_self]
  unfold writeSwStrobe
  refine (forN_single hg (fun j _ hj => ?_) (fun j _ hj => ?_)).trans (if_pos ⟨hnamed, hon⟩)
  · exact if_neg (fun h => hother hj h.1)
  · exact if_neg (fun h => hother hj h.1)

theorem exec_swStrobe (hclk : clocksOn s = true) (hon : domOn 48 s = true) (hm : modeOf s ≠ 0) (v : Word) :
    exec (.swStrobe v) s = .next (finish (writeSwStrobe v s)) := by
  have hwrite : writeWord .mfr 0 2 v s = writeSwStrobe v s := writeReg_front (by decide) (locate_mfr (by decide)) (by decide) rfl hon hm v
  show Host.Outcome.next (finish (inFront (writeWord .mfr 0 2 v) s)) = _
  rw [inFront_on hclk, hwrite]

theorem exec_strobeConfigWrite {r : Nat} (hg : g < 12) (hr : r = 1 ∨ r = 2) (hon : domOn (grpDomain g) s = true) (hm : modeOf s ≠ 0)
    (hq : ∀ e, (s.grp g).quiet = some e → e.1 ≠ s.clock.tick) (v : Word) :
    exec (.strobeConfigWrite g r v) s = .next (finish ((storeReg .grp g r v s).modGrp g (fun x =>
      { x with quiet := some (s.clock.tick, strobeSettings g s) }))) := by
  have hfields : (fieldsAt .grp r).isEmpty = false := by rcases hr with rfl | rfl <;> rfl
  have hwrite : writeWord .grp g r v s = writeGrp g r v s :=
    writeReg_front (by decide) (locate_grp hg (by omega)) (by simp only [keyOf]; omega) hfields hon hm v
  have hfirst : (s.grp g).quiet.map (·.1) ≠ some s.clock.tick := fun h => by
    obtain ⟨e, he, ht⟩ := Option.map_eq_some_iff.mp h
    exact hq e he ht
  have hgrp : writeGrp g r v s = (storeReg .grp g r v s).modGrp g (fun x => { x with quiet := some (s.clock.tick, strobeSettings g s) }) := by
    unfold writeGrp
    dsimp only
    rw [if_neg (by omega), if_pos hr]
    exact congrArg (fun x => (storeReg .grp g r v s).setGrp g x) (if_neg hfirst)
  show answer (decide (g < 12)) (if r = 1 ∨ r = 2 then writeWord .grp g r v s else s) = _
  rw [answer_of hg, if_pos hr, hwrite, hgrp]

/-! ### The item of a stream (R273, R274) -/

/-- The channels that stream `i` of group `g` carries. -/
def streamChans (g i : Nat) (s : State) : List Nat :=
  ((List.range 8).filter (fun k => (rd (streamF F.grp_STREAM_CHMASK i) g s).testBit k)).map (fun k => 8 * g + k)

/-- R273: the words of an item with the stamp, of a stream without status. -/
def stampedItem (g i : Nat) (stamp : Word) (s : State) : List Word := (streamChans g i s).map (fun c => wordOf (chanZ c s).1) ++ [stamp]

theorem formItem_stamped {i : Nat} (hstamp : rdB (streamF F.grp_STREAM_STAMP i) g s = true) (hstatus : rdB (streamF F.grp_STREAM_STATUS i) g s = false)
    (stamp : Word) : formItem g i false false stamp s = offerItem g i (stampedItem g i stamp s) none s := by
  unfold formItem
  simp [hstamp, hstatus, stampedItem, streamChans]

/-- Nothing holds group `g` back: it runs, its clock is there, and the restart is over (R265, R290). -/
structure Delivers (g : Nat) (s : State) : Prop where
  runs : grpRuns g s = true
  clock : (s.grp g).lost = false
  warm : grpWarm g s ≤ (s.grp g).edges

/-- No item of group `g` is held, and none has been skipped or replaced. -/
structure NothingHeld (g : Nat) (s : State) : Prop where
  held : (s.grp g).held = []
  skip : (s.grp g).skip = []
  repl : (s.grp g).repl = []

/-- R274: the held item of a stream is pushed whole where its queue has room. -/
theorem releaseStream_pushes {i q : Nat} {ws : List Word} (hg : Delivers g s) (hq : streamQueue g i s = some q)
    (hget : Sparse.get ([], none) i (s.grp g).held = (ws, none)) (hws : ws ≠ []) (hroom : canPushItem q ws.length s = true) :
    releaseStream g i s = pushItem q ws (s.setGrp g { s.grp g with
      held := Sparse.put ([], none) i ([], none) (s.grp g).held, skip := Sparse.put 0 i 0 (s.grp g).skip, repl := Sparse.put 0 i 0 (s.grp g).repl }) := by
  have hfree : ¬(ws.isEmpty = true ∨ (!grpRuns g s) = true ∨ (s.grp g).lost = true ∨ (s.grp g).edges < grpWarm g s ∨
      (!canPushItem q ws.length s) = true) := by
    simp [hws, hg.runs, hg.clock, hg.warm, hroom]
  unfold releaseStream
  dsimp only
  rw [hq, hget]
  exact if_neg hfree

/-- An item of a stream that holds none is held, and then pushed whole where its queue has room. -/
theorem offerItem_pushed {i q : Nat} {ws : List Word} (hs : Rising s.grps) (hg : Delivers g s) (hnone : NothingHeld g s)
    (hq : streamQueue g i s = some q) (hws : ws ≠ []) (hroom : canPushItem q ws.length s = true) :
    offerItem g i ws none s = pushItem q ws (s.setGrp g (s.grp g)) := by
  have hput : ((ws, none) : List Word × Option Nat) ≠ ([], none) := fun h => hws (congrArg Prod.fst h)
  let x : Grp := { s.grp g with held := [(i, ws, none)] }
  have hx : (s.setGrp g x).grp g = x := State.grp_setGrp_self hs g x
  have hoffer : offerItem g i ws none s = releaseStream g i (s.setGrp g x) := by
    unfold offerItem
    rw [hq]
    simp [hnone.held, Sparse.get, Sparse.put, hput, x]
  have hfree : Delivers g (s.setGrp g x) := ⟨hg.runs, by rw [hx]; exact hg.clock, by rw [hx]; exact hg.warm⟩
  have hback : { x with held := [], skip := [], repl := [] } = s.grp g := by
    conv_rhs => rw [show s.grp g = { s.grp g with held := (s.grp g).held, skip := (s.grp g).skip, repl := (s.grp g).repl } from rfl,
      hnone.held, hnone.skip, hnone.repl]
  rw [hoffer, releaseStream_pushes hfree hq (by rw [hx]; simp [x, Sparse.get]) hws hroom, hx, State.setGrp_setGrp hs, ← hback]
  simp [x, hnone.skip, hnone.repl, Sparse.put]

/-- Equal states are finished alike. -/
theorem finished {t u : State} (h : t = u) : (Host.Outcome.next (finish t) : Host.Outcome State Fault Refusal) = .next (finish u) := by rw [h]

/-- Settles O31, from what a strobe, SW_STROBE, a write of the settings and an item of a stream do. -/
theorem strobes : Obligations.Strobes := by
  unfold Obligations.Strobes
  refine ⟨fun g n a s hg hclk hrun hen hper h0 hquiet hat hn => ?_, fun g n w old s hg hq hw => ?_, fun g s hg hclk h48 hm hon hfree => ?_,
    fun g r v s hg hr hon hm hq => exec_strobeConfigWrite hg hr hon hm hq v,
    fun g i q stamp s hs _ hrun hlost hwarm hheld hskip hrepl hq hstamp hstatus hroom => ?_⟩
  · rw [bind_pure_comp, List.map_eq_map, List.countP_map] at hn
    have hcount := hn.trans (pointsCrossed_eq_countP hper (rd F.grp_STRB_PH_PHASE g s) a (tbPub (rd F.grp_STRB_PH_TB g s) s)).symm
    obtain ⟨hnew, hmerged⟩ := strobeGroup_compared g n (tbPub (rd F.grp_STRB_PH_TB g s) s) s
    have hpoint := strobePoint_crossed hrun hen hper h0 hquiet hat hcount
    rw [exec_strobe hg, inFront_on hclk, hpoint]
    exact ⟨fun h => finished (hnew h), fun h => finished (hmerged h)⟩
  · have hsame : inFront (strobePoint g n) s = s := by rw [inFront, strobePoint_afterWrite hq hw, ite_self]
    rw [exec_strobe hg, hsame]
  · rw [exec_swStrobe hclk h48 hm, writeSwStrobe_single hg hon, strobeGroup_free hfree]
    rfl
  · rw [formItem_stamped hstamp hstatus]
    exact offerItem_pushed hs.grps ⟨hrun, hlost, hwarm⟩ ⟨hheld, hskip, hrepl⟩ hq (by simp [stampedItem]) hroom

end Sys2Proof.Machine
end

section
/-! A modulator edge of a group (R264 to R276): what it leaves of registers and channels, and the checks of channels whose checks are off. -/

namespace Sys2Proof.Machine

variable {s t u : State} {ks js cs ds : Nat → Prop} {c g : Nat}

/-! ### What changes: some registers and some channels -/

/-- `t` differs from `s` in the registers of `ks` and the channels of `cs` alone. -/
structure FrontOnly (ks cs : Nat → Prop) (s t : State) : Prop where
  frame : t = { s with regs := t.regs, chans := t.chans }
  reg   : ∀ k, ¬ks k → t.reg k = s.reg k
  chan  : ∀ c, ¬cs c → t.chan c = s.chan c
  regs  : Rising t.regs
  chans : Rising t.chans

theorem FrontOnly.refl (hr : Rising s.regs) (hc : Rising s.chans) : FrontOnly ks cs s s := ⟨rfl, fun _ _ => rfl, fun _ _ => rfl, hr, hc⟩

theorem FrontOnly.trans (h : FrontOnly ks cs s t) (h2 : FrontOnly ks cs t u) : FrontOnly ks cs s u :=
  ⟨by rw [h2.frame, h.frame], fun k hk => (h2.reg k hk).trans (h.reg k hk), fun c hc => (h2.chan c hc).trans (h.chan c hc), h2.regs, h2.chans⟩

theorem FrontOnly.mono (h : FrontOnly ks cs s t) (hk : ∀ k, ks k → js k) (hc : ∀ c, cs c → ds c) : FrontOnly js ds s t :=
  ⟨h.frame, fun k hn => h.reg k (fun hj => hn (hk k hj)), fun c hn => h.chan c (fun hd => hn (hc c hd)), h.regs, h.chans⟩

theorem FrontOnly.setChan (h : FrontOnly ks cs s t) (hc : cs c) (x : Chan) : FrontOnly ks cs s (t.setChan c x) :=
  ⟨by rw [h.frame]; rfl, h.reg, fun d hd => (State.chan_setChan_ne t (by rintro rfl; exact hd hc) x).trans (h.chan d hd), h.regs,
    State.setChan_rising h.chans ..⟩

theorem FrontOnly.wr {f : FRef} {i : Nat} (h : FrontOnly ks cs s t) (hk : ks (keyOf f.b i f.o)) (v : Nat) : FrontOnly ks cs s (wr f i v t) :=
  ⟨by rw [h.frame]; rfl, fun k hn => (State.reg_setReg_ne t (by rintro rfl; exact hn hk) _).trans (h.reg k hn), h.chan, rising_wr h.regs .., h.chans⟩

theorem FrontOnly.grps_eq (h : FrontOnly ks cs s t) : t.grps = s.grps := by rw [h.frame]

theorem FrontOnly.trks_eq (h : FrontOnly ks cs s t) : t.trks = s.trks := by rw [h.frame]

theorem FrontOnly.grp_eq (h : FrontOnly ks cs s t) (g : Nat) : t.grp g = s.grp g := congrArg (Sparse.get Grp.init g) h.grps_eq

theorem FrontOnly.rd_eq {f : FRef} {i : Nat} (h : FrontOnly ks cs s t) (hk : ¬ks (keyOf f.b i f.o)) : rd f i t = rd f i s := by
  unfold rd
  rw [h.reg _ hk]

/-! ### Settings and results (Tables MF-6, MF-7, MF-10) -/

/-- A register that no edge writes: any but LAST, FAST and STAT of the channels and ANGLE, AMP and STAT of the resolver trackers. -/
def Setting (k : Nat) : Prop := ¬((0x6400 ≤ k ∧ k < 0x6700 ∧ 4 ≤ k % 8) ∨ (0x6C00 ≤ k ∧ k < 0x6C40 ∧ 3 ≤ k % 8))

theorem setting_low {k : Nat} (h : k < 0x6400) : Setting k := by unfold Setting; omega

theorem setting_high {k : Nat} (h : 0x6C40 ≤ k) : Setting k := by unfold Setting; omega

theorem setting_chan {o : Nat} (ho : o < 4) (hc : c < 256) : Setting (keyOf .chan c o) := by
  simp only [Setting, keyOf]
  omega

theorem setting_tracker {o : Nat} (ho : o < 3) (r : Nat) : Setting (keyOf (if r < 8 then .rt else .gt) (r % 8) o) := by
  unfold Setting
  split <;> (simp only [keyOf]; omega)

/-- LAST, FAST and STAT of the channels of `cs`. -/
def ResultReg (cs : Nat → Prop) (k : Nat) : Prop := ∃ c, cs c ∧ c < 96 ∧ (k = keyOf .chan c 4 ∨ k = keyOf .chan c 5 ∨ k = keyOf .chan c 6)

theorem not_resultReg_of_setting {k : Nat} (hk : Setting k) : ¬ResultReg cs k := by
  rintro ⟨c, -, hc, h⟩
  simp only [keyOf, Setting] at hk h
  omega

theorem not_resultReg_other {o : Nat} (ho : o < 8) (hc : ¬cs c) : ¬ResultReg cs (keyOf .chan c o) := by
  rintro ⟨d, hd, -, h⟩
  have hdc : d ≠ c := fun he => hc (he ▸ hd)
  simp only [keyOf] at h
  omega

theorem ResultReg.mono {k : Nat} (hcs : ∀ c, cs c → ds c) : ResultReg cs k → ResultReg ds k := fun ⟨c, hc, h⟩ => ⟨c, hcs c hc, h⟩

/-- `t` differs from `s` in the channels of `cs` and their results alone. -/
abbrev ChansOnly (cs : Nat → Prop) (s t : State) : Prop := FrontOnly (ResultReg cs) cs s t

theorem ChansOnly.mono (h : ChansOnly cs s t) (hcs : ∀ c, cs c → ds c) : ChansOnly ds s t := FrontOnly.mono h (fun _ => ResultReg.mono hcs) hcs

theorem ChansOnly.wr_result {f : FRef} (h : ChansOnly cs s t) (hc : cs c) (hlt : c < 96) (hf : f.b = .chan ∧ 4 ≤ f.o ∧ f.o < 7) (v : Nat) :
    ChansOnly cs s (wr f c v t) := by
  obtain ⟨hb, h4, h7⟩ := hf
  refine FrontOnly.wr h ⟨c, hc, hlt, ?_⟩ v
  rw [hb]
  simp only [keyOf]
  omega

/-- The settings of two states agree. -/
def SameSettings (s t : State) : Prop := ∀ k, Setting k → t.reg k = s.reg k

theorem ChansOnly.settings (h : ChansOnly cs s t) : SameSettings s t := fun k hk => h.reg k (not_resultReg_of_setting hk)

theorem SameSettings.trans (h : SameSettings s t) (h2 : SameSettings t u) : SameSettings s u := fun k hk => (h2 k hk).trans (h k hk)

theorem SameSettings.rd_eq (h : SameSettings s t) {f : FRef} {i : Nat} (hk : Setting (keyOf f.b i f.o)) : rd f i t = rd f i s := by
  unfold rd
  rw [h _ hk]

theorem SameSettings.rd_chan (h : SameSettings s t) {f : FRef} (hf : f.b = .chan ∧ f.o < 4) (hc : c < 256) : rd f c t = rd f c s :=
  h.rd_eq (by rw [hf.1]; exact setting_chan hf.2 hc)

theorem SameSettings.rd_grp (h : SameSettings s t) {f : FRef} (hf : f.b = .grp ∧ f.o < 8) (hg : g < 12) : rd f g t = rd f g s := by
  refine h.rd_eq (setting_low ?_)
  rw [hf.1]
  simp only [keyOf]
  omega

theorem SameSettings.evtCtl (h : SameSettings s t) : rd F.mfr_EVT_CTL_EN 0 t = rd F.mfr_EVT_CTL_EN 0 s := h.rd_eq (setting_low (by decide))

theorem SameSettings.domOn_eq (h : SameSettings s t) (d : Nat) : domOn d t = domOn d s := by
  unfold domOn
  rw [h.rd_eq (f := F.pwr_DOM_ON_LO) (setting_low (by decide)), h.rd_eq (f := F.pwr_DOM_ON_HI_ON) (setting_low (by decide))]

theorem SameSettings.grpWarm_eq (h : SameSettings s t) (hg : g < 12) : grpWarm g t = grpWarm g s := by
  unfold grpWarm
  rw [h.rd_grp (f := F.grp_CTL_DEC) (by decide) hg]
  congr 2
  refine List.map_congr_left fun i hi => h.rd_chan (by decide) ?_
  have := List.mem_range.mp hi
  omega

theorem trkF_eq (r o lo w : Nat) : trkF r o lo w = ⟨if r < 8 then .rt else .gt, o, lo, w⟩ := by
  unfold trkF
  split <;> rfl

theorem SameSettings.rd_trk (h : SameSettings s t) {o : Nat} (ho : o < 3) (r lo w : Nat) : rd (trkF r o lo w) (r % 8) t = rd (trkF r o lo w) (r % 8) s := by
  rw [trkF_eq]
  exact h.rd_eq (setting_tracker ho r)

theorem SameSettings.trkReads_eq (h : SameSettings s t) (r g : Nat) : trkReads r g t = trkReads r g s := by
  unfold trkReads rdB
  rw [h.domOn_eq, h.rd_trk (by decide), h.rd_trk (by decide)]

/-- A channel's value depends on its settings and on the edges of its group. -/
theorem SameSettings.chanZ_eq (h : SameSettings s t) (hgrps : t.grps = s.grps) (hc : c < 96) : chanZ c t = chanZ c s := by
  have hbits : chanBits c t = chanBits c s := by
    unfold chanBits State.grp
    rw [hgrps]
  have hoffset : rdW F.chan_OFFSET c t = rdW F.chan_OFFSET c s := h _ (setting_chan (by decide) (by omega))
  unfold chanZ rdZ
  rw [hbits, hoffset, h.rd_chan (f := F.chan_CFG_ORDER) (by decide) (by omega), h.rd_grp (f := F.grp_CTL_DEC) (by decide) (by omega),
    h.rd_chan (f := F.chan_CFG_SH) (by decide) (by omega), h.rd_chan (f := F.chan_GAIN) (by decide) (by omega)]

end Sys2Proof.Machine
end

section
/-! The checks of an edge (R266, R275), channel by channel, and what an edge does once they are made (R268 to R271, R284, R290). -/

namespace Sys2Proof.Machine

variable {s t u y : State} {c g i : Nat} {bit : Bool} {e : ModEdge}

/-! ### The checks of one channel -/

/-- A channel that takes one more bit: the run of equal bits goes on, or a new one starts. -/
def Chan.takeBit (bit : Bool) (x : Chan) : Chan :=
  let run := if x.run ≠ 0 ∧ x.bit = bit then x.run + 1 else 1
  { x with run := run, bit := bit, told := decide (run ≠ 1) && x.told }

/-- R266: a channel whose STUCK is 0 counts its run. -/
theorem stuckCheck_off (h : rd F.chan_CFG_STUCK c s = 0) (bit : Bool) : stuckCheck c bit s = s.setChan c ((s.chan c).takeBit bit) :=
  if_neg (fun hlim => hlim.1 (by rw [h]))

/-- R266: the edge that makes the run longer than its limit tells of it. -/
theorem stuckCheck_fires (hc : c < 96) (hsil : rd F.mfr_EVT_CTL_EN 0 s = 0) (hpos : 0 < rd F.chan_CFG_STUCK c s)
    (hrun : (s.chan c).run = rd F.chan_CFG_STUCK c s * 16) (htold : (s.chan c).told = false) :
    stuckCheck c (s.chan c).bit s =
      wr ⟨.grp, 7, 1 + c % 8, 1⟩ (c / 8) 1 (s.setChan c { s.chan c with run := (s.chan c).run + 1, told := true }) := by
  have hsilent (x : Chan) : rd F.mfr_EVT_CTL_EN 0 (wr ⟨.grp, 7, 1 + c % 8, 1⟩ (c / 8) 1 (s.setChan c x)) = 0 :=
    (evtCtl_wr (f := ⟨.grp, 7, 1 + c % 8, 1⟩) (.inl rfl) ..).trans hsil
  have hgoes : (s.chan c).run ≠ 0 := by omega
  unfold stuckCheck
  dsimp only
  rw [if_pos (show (s.chan c).run ≠ 0 ∧ (s.chan c).bit = (s.chan c).bit from ⟨hgoes, rfl⟩), if_pos ⟨by omega, by omega, by simp [htold]⟩,
    postEvent_silent (by omega) (hsilent _)]

/-- R275: a channel whose window is off lies inside. -/
theorem windowCheck_off (h : rd F.chan_CFG_FORDER c s = 0) :
    windowCheck c s = wr F.chan_STAT_WIN c 0 (wr F.chan_FAST_RAW c 0 (s.setChan c { s.chan c with out := 0, qual := 0 })) :=
  if_pos h

/-- The fast value of channel `c` (R275). -/
def fastValue (c : Nat) (s : State) : Int := sincRaw (rd F.chan_CFG_FORDER c s) (rd F.chan_CFG_FDEC c s) (chanBits c s)

/-- R275: what the edge that finds a window above WIN_HI for QUAL edges leaves of channel `c`. -/
def windowAbove (c : Nat) (s : State) : State :=
  let q := min ((s.chan c).qual + 1) 16
  wr F.chan_STAT_WIN_HI c 1 (wr F.chan_STAT_WIN c 1
    (((wr F.chan_FAST_RAW c (lowBits 18 (fastValue c s)) s).setChan c { s.chan c with qual := q }).setChan c { s.chan c with out := 1, qual := q }))

theorem windowCheck_above (hc : c < 96) (hsil : rd F.mfr_EVT_CTL_EN 0 s = 0) (hsrc : ∀ k, k < 4 → srcEnabled k 3 c s = false)
    (hon : rd F.chan_CFG_FORDER c s ≠ 0) (hin : (s.chan c).out = 0) (hqual : qualOf c s ≤ min ((s.chan c).qual + 1) 16)
    (hwarm : grpWarm (c / 8) s ≤ (s.grp (c / 8)).edges) (habove : rdZ F.chan_WIN_HI c s < fastValue c s) : windowCheck c s = windowAbove c s := by
  have hkey (o : Nat) (ho : o < 8) : keyOf .chan c o < 0x8080 := by simp only [keyOf]; omega
  have hnamed : ∀ k, k < 4 → srcEnabled k 3 c (windowAbove c s) = false := fun k hk => by
    unfold windowAbove
    rw [srcEnabled_wr (hkey 6 (by decide)), srcEnabled_wr (hkey 6 (by decide))]
    exact (srcEnabled_wr (f := F.chan_FAST_RAW) (hkey 5 (by decide)) ..).trans (hsrc k hk)
  have hsilent : rd F.mfr_EVT_CTL_EN 0 (windowAbove c s) = 0 := by
    unfold windowAbove
    rw [evtCtl_wr (by decide), evtCtl_wr (by decide)]
    exact (evtCtl_wr (f := F.chan_FAST_RAW) (by decide) ..).trans hsil
  have hgoes : ¬((s.chan c).out ≠ 0 ∨ min ((s.chan c).qual + 1) 16 < qualOf c s ∨ (s.grp (c / 8)).edges < grpWarm (c / 8) s) := by omega
  unfold fastValue at habove
  unfold windowCheck
  dsimp only
  rw [if_neg hon, if_pos habove, if_neg (by decide), if_neg hgoes, if_pos rfl]
  show postEvent (c / 48) 2 c 1 (sourceActive 3 c (windowAbove c s)) = _
  rw [sourceActive_unnamed hnamed, postEvent_silent (by omega) hsilent]

/-- The checks of channel `i` of group `g` at an edge. -/
def chanChecks (g : Nat) (e : ModEdge) (i : Nat) (s : State) : State := windowCheck (8 * g + i) (stuckCheck (8 * g + i) (e.bits.getLsbD i) s)

/-- Channel `c` makes no STUCK check and has no window. -/
def ChecksOff (c : Nat) (s : State) : Prop := rd F.chan_CFG_STUCK c s = 0 ∧ rd F.chan_CFG_FORDER c s = 0

theorem ChecksOff.settings (h : ChecksOff c s) (hs : SameSettings s t) (hc : c < 96) : ChecksOff c t :=
  ⟨(hs.rd_chan (by decide) (by omega)).trans h.1, (hs.rd_chan (by decide) (by omega)).trans h.2⟩

theorem chanChecks_off (h : ChecksOff (8 * g + i) s) (hr : Rising s.regs) (hch : Rising s.chans) (hg : g < 12) (hi : i < 8) :
    ChansOnly (· = 8 * g + i) s (chanChecks g e i s) ∧ ((chanChecks g e i s).chan (8 * g + i)).u = (s.chan (8 * g + i)).u := by
  obtain ⟨hstuck, hwin⟩ := h
  have hlt : 8 * g + i < 96 := by omega
  let x := (s.chan (8 * g + i)).takeBit (e.bits.getLsbD i)
  have hx : (s.setChan (8 * g + i) x).chan (8 * g + i) = x := State.chan_setChan_self hch ..
  have hcheck : chanChecks g e i s = wr F.chan_STAT_WIN (8 * g + i) 0 (wr F.chan_FAST_RAW (8 * g + i) 0
      ((s.setChan (8 * g + i) x).setChan (8 * g + i) { x with out := 0, qual := 0 })) := by
    unfold chanChecks
    rw [stuckCheck_off hstuck, windowCheck_off (s := s.setChan (8 * g + i) x) hwin, hx]
  have hbase : ChansOnly (· = 8 * g + i) s s := FrontOnly.refl hr hch
  have hset : ChansOnly (· = 8 * g + i) s ((s.setChan (8 * g + i) x).setChan (8 * g + i) { x with out := 0, qual := 0 }) :=
    (FrontOnly.setChan hbase rfl x).setChan rfl _
  have hchan : (chanChecks g e i s).chan (8 * g + i) = { x with out := 0, qual := 0 } := by
    rw [hcheck]
    exact State.chan_setChan_self (State.setChan_rising hch ..) ..
  rw [hchan, hcheck]
  exact ⟨(hset.wr_result rfl hlt (by decide) 0).wr_result rfl hlt (by decide) 0, rfl⟩

/-! ### The checks of a group -/

/-- The checks of the eight channels of group `g` at an edge. -/
def edgeChecks (g : Nat) (e : ModEdge) (s : State) : State := forN 8 (chanChecks g e) s

/-- The channels of group `g` but channel `i`. -/
def Others (g i c : Nat) : Prop := c / 8 = g ∧ c ≠ 8 * g + i

/-- The checks of a group whose channels all have theirs off. -/
theorem edgeChecks_off (hg : g < 12) (hr : Rising s.regs) (hch : Rising s.chans) (hoff : ∀ k, k < 8 → ChecksOff (8 * g + k) s) (e : ModEdge) :
    ChansOnly (· / 8 = g) s (edgeChecks g e s) ∧ ∀ c, ((edgeChecks g e s).chan c).u = (s.chan c).u := by
  refine forN_kept (P := fun t => ChansOnly (· / 8 = g) s t ∧ ∀ c, (t.chan c).u = (s.chan c).u) 8 (fun k hk y hy => ?_)
    ⟨FrontOnly.refl hr hch, fun _ => rfl⟩
  obtain ⟨hy, hu⟩ := hy
  obtain ⟨hstep, hsame⟩ := chanChecks_off (e := e) ((hoff k hk).settings hy.settings (by omega)) hy.regs hy.chans hg hk
  refine ⟨FrontOnly.trans hy (hstep.mono (by omega)), fun c => ?_⟩
  by_cases hc : c = 8 * g + k
  · rw [hc, hsame, hu]
  · rw [hstep.chan c hc, hu]

/-- The registers that the checks of channel `i` of group `g` may write: its results, and the group's STAT. -/
abbrev CheckReg (g i k : Nat) : Prop := ResultReg (· = 8 * g + i) k ∨ k = keyOf .grp g 7

/-- Channel `i` makes its checks between those of the others, which have theirs off. -/
theorem edgeChecks_single (hg : g < 12) (hi : i < 8) (hr : Rising s.regs) (hch : Rising s.chans)
    (hoff : ∀ k, k < 8 → k ≠ i → ChecksOff (8 * g + k) s)
    (hmid : ∀ y, ChansOnly (Others g i) s y → FrontOnly (CheckReg g i) (· = 8 * g + i) y (chanChecks g e i y)) :
    ∃ y, ChansOnly (Others g i) s y ∧ ChansOnly (Others g i) (chanChecks g e i y) (edgeChecks g e s) := by
  have hcfg {y : State} (hy : ChansOnly (Others g i) s y) {f : FRef} (hf : f.b = .chan ∧ f.o = 0) {k : Nat} (hk : k < 8) :
      rd f (8 * g + k) (chanChecks g e i y) = rd f (8 * g + k) y := by
    refine (hmid y hy).rd_eq ?_
    rw [hf.1, hf.2]
    rintro (h | h)
    · exact not_resultReg_of_setting (setting_chan (by decide) (by omega)) h
    · simp only [keyOf] at h
      omega
  refine forN_reaches (P := ChansOnly (Others g i) s) (Q := fun z => ∃ y, ChansOnly (Others g i) s y ∧ ChansOnly (Others g i) (chanChecks g e i y) z) hi
    (fun j hj y hy => ?_) (fun y hy => ⟨y, hy, FrontOnly.refl (hmid y hy).regs (hmid y hy).chans⟩) (fun j hj hj8 z hz => ?_) (FrontOnly.refl hr hch)
  · have hstep := (chanChecks_off (e := e) ((hoff j (by omega) (by omega)).settings hy.settings (by omega)) hy.regs hy.chans hg (by omega)).1
    exact FrontOnly.trans hy (hstep.mono (fun c hc => ⟨by omega, by omega⟩))
  · obtain ⟨y, hy, hz⟩ := hz
    have hoffy : ChecksOff (8 * g + j) y := (hoff j hj8 (by omega)).settings hy.settings (by omega)
    have hoffc : ChecksOff (8 * g + j) (chanChecks g e i y) :=
      ⟨(hcfg hy ⟨rfl, rfl⟩ hj8).trans hoffy.1, (hcfg hy ⟨rfl, rfl⟩ hj8).trans hoffy.2⟩
    have hstep := (chanChecks_off (e := e) (hoffc.settings hz.settings (by omega)) hz.regs hz.chans hg hj8).1
    exact ⟨y, hy, FrontOnly.trans hz (hstep.mono (fun c hc => ⟨by omega, by omega⟩))⟩

/-! ### One edge -/

/-- Group `g` takes an edge into its history (R267). -/
def noteEdge (g : Nat) (e : ModEdge) (s : State) : State := s.modGrp g (fun x => { x with hist := (e :: x.hist).take 4096, edges := x.edges + 1 })

/-- What an edge does once the channels have made their checks; `m` is the ratio of the group. -/
def afterChecks (g back m : Nat) (s : State) : State :=
  let s3 := forN 8 (resolverEdge g back) (strobeEdge g back s)
  forN 4 (fun i s => releaseStream g i s) (if m ≠ 0 ∧ (s3.grp g).edges % m = 0 then decimationPoint g back s3 else s3)

theorem oneEdge_eq (g back : Nat) (e : ModEdge) (s : State) :
    oneEdge g back e s = afterChecks g back (rd F.grp_CTL_DEC g s) (edgeChecks g e (noteEdge g e s)) := rfl

theorem grp_noteEdge (hs : Rising s.grps) (g : Nat) (e : ModEdge) :
    (noteEdge g e s).grp g = { s.grp g with hist := (e :: (s.grp g).hist).take 4096, edges := (s.grp g).edges + 1 } := State.grp_setGrp_self hs ..

/-- A group without held items releases none. -/
theorem releaseStreams_none (h : (s.grp g).held = []) : forN 4 (fun i s => releaseStream g i s) s = s := by
  refine forN_unchanged fun i _ => ?_
  have hempty : (streamWords i (s.grp g) [] none).isEmpty = true := rfl
  unfold releaseStream
  dsimp only
  rw [h]
  cases streamQueue g i s with
  | none => rfl
  | some q => exact if_pos (.inl hempty)

theorem strobeEdge_none (h : (s.grp g).strobe = none) (back : Nat) : strobeEdge g back s = s := by
  unfold strobeEdge
  dsimp only
  rw [h]

theorem resolverEdge_none {r : Nat} (h : (s.trk r).due = none) (back : Nat) : resolverEdge g back r s = s := by
  unfold resolverEdge
  rw [h]

/-- An edge at which no strobe, no resolver and no decimation point falls ends with the checks. -/
theorem afterChecks_checksOnly {m : Nat} (hheld : (s.grp g).held = []) (hstrobe : (s.grp g).strobe = none) (hdue : ∀ r, r < 8 → (s.trk r).due = none)
    (hm : (s.grp g).edges % m ≠ 0) (back : Nat) : afterChecks g back m s = s := by
  have hres : forN 8 (resolverEdge g back) s = s := forN_unchanged fun r hr => resolverEdge_none (hdue r hr) back
  unfold afterChecks
  rw [strobeEdge_none hstrobe, hres]
  dsimp only
  rw [if_neg (fun h => hm h.2), releaseStreams_none hheld]

/-! ### Edges that arrive -/

/-- One edge that arrives at a group that runs. -/
theorem feedEdges_single {b : ModEdge} {test : State → State → Bool} (hrun : grpRuns g s = true) (hlost : (s.grp g).lost = false)
    (htest : test s (oneEdge g 0 (timedEdge g s b) s) = true) : feedEdges g [b] test s = oneEdge g 0 (timedEdge g s b) s := by
  have hin : grpRuns g s = true ∧ (!(s.grp g).lost) = true ∧ edgesInTime g [b] s = true := ⟨hrun, by simp [hlost], by simp [edgesInTime]⟩
  exact (if_pos hin).trans (if_pos htest)

theorem answerEdges_single {ok : Bool} {b : ModEdge} {test : State → State → Bool} (hok : ok = true) (hclk : clocksOn s = true)
    (hrun : grpRuns g s = true) (hlost : (s.grp g).lost = false) (htest : test s (oneEdge g 0 (timedEdge g s b) s) = true) :
    answerEdges ok g [b] test s = .next (finish (oneEdge g 0 (timedEdge g s b) s)) := by
  unfold answerEdges
  rw [inFront_on hclk, feedEdges_single hrun hlost htest, hok]
  rfl

/-- R264: an edge in clock-out mode comes CLKDIV after the one before. -/
theorem timedEdge_clockOut (h : rdB F.grp_CTL_CLKMODE g s = false) (b : ModEdge) : timedEdge g s b = { b with gap := rd F.grp_CTL_CLKDIV g s } := by
  unfold timedEdge
  rw [h]
  rfl

/-- R264: an edge in clock-in mode comes as it was captured. -/
theorem timedEdge_clockIn (h : rdB F.grp_CTL_CLKMODE g s = true) (b : ModEdge) : timedEdge g s b = b := by
  unfold timedEdge
  rw [h]
  rfl

end Sys2Proof.Machine
end

section
/-! The statement O30: STUCK, windows, clock loss and return, and restarts (R265, R266, R275, R276, R290). -/

namespace Sys2Proof.Machine

variable {s t y : State} {c g i : Nat} {b e : ModEdge}

/-! ### An edge that ends with the checks -/

/-- No item of group `g` is held, no strobe of it and no resolver waits, and its next edge is no decimation point. -/
structure ChecksNext (g : Nat) (s : State) : Prop where
  rising : Rising s.grps
  held   : (s.grp g).held = []
  strobe : (s.grp g).strobe = none
  due    : ∀ r, r < 8 → (s.trk r).due = none
  point  : ((s.grp g).edges + 1) % rd F.grp_CTL_DEC g s ≠ 0

theorem oneEdge_checksOnly (h : ChecksNext g s) (hgrps : (edgeChecks g e (noteEdge g e s)).grps = (noteEdge g e s).grps)
    (htrks : (edgeChecks g e (noteEdge g e s)).trks = s.trks) : oneEdge g 0 e s = edgeChecks g e (noteEdge g e s) := by
  have hgrp : (edgeChecks g e (noteEdge g e s)).grp g =
      { s.grp g with hist := (e :: (s.grp g).hist).take 4096, edges := (s.grp g).edges + 1 } :=
    (congrArg (Sparse.get Grp.init g) hgrps).trans (grp_noteEdge h.rising g e)
  have hdue : ∀ r, r < 8 → ((edgeChecks g e (noteEdge g e s)).trk r).due = none := fun r hr =>
    (congrArg (fun l => (Sparse.get Trk.init r l).due) htrks).trans (h.due r hr)
  rw [oneEdge_eq, afterChecks_checksOnly (by rw [hgrp]; exact h.held) (by rw [hgrp]; exact h.strobe) hdue (by rw [hgrp]; exact h.point)]

/-- An edge of a group whose channel `i` alone makes checks. -/
theorem oneEdge_single (hg : g < 12) (hi : i < 8) (h : ChecksNext g s) (hr : Rising s.regs) (hch : Rising s.chans)
    (hoff : ∀ k, k < 8 → k ≠ i → ChecksOff (8 * g + k) s)
    (hmid : ∀ y, ChansOnly (Others g i) (noteEdge g e s) y →
      FrontOnly (CheckReg g i) (· = 8 * g + i) y (chanChecks g e i y)) :
    ∃ y, ChansOnly (Others g i) (noteEdge g e s) y ∧ ChansOnly (Others g i) (chanChecks g e i y) (oneEdge g 0 e s) := by
  obtain ⟨y, hy, hz⟩ := edgeChecks_single (s := noteEdge g e s) hg hi hr hch hoff hmid
  have hmidy := hmid y hy
  have hgrps : (edgeChecks g e (noteEdge g e s)).grps = (noteEdge g e s).grps := by rw [hz.grps_eq, hmidy.grps_eq, hy.grps_eq]
  have htrks : (edgeChecks g e (noteEdge g e s)).trks = s.trks := by rw [hz.trks_eq, hmidy.trks_eq, hy.trks_eq]; rfl
  refine ⟨y, hy, ?_⟩
  rw [oneEdge_checksOnly h hgrps htrks]
  exact hz

theorem not_others_self (g i : Nat) : ¬Others g i (8 * g + i) := fun h => h.2 rfl

theorem settings_noteEdge (h : ChansOnly (Others g i) (noteEdge g e s) y) : SameSettings s y := h.settings

/-! ### STUCK (R266) -/

/-- The bit of GRP.STAT that tells of channel `i` as STUCK. -/
abbrev stuckBit (i : Nat) : FRef := ⟨.grp, 7, 1 + i, 1⟩

/-- What the edge leaves of a channel of which it has told STUCK. -/
def stuckChan (x : Chan) : Chan := { x with run := x.run + 1, told := true, out := 0, qual := 0 }

/-- The checks of a channel whose window is off at the edge that makes it STUCK. -/
theorem chanChecks_stuck (hg : g < 12) (hi : i < 8) (hr : Rising s.regs) (hch : Rising s.chans) (hsil : rd F.mfr_EVT_CTL_EN 0 s = 0)
    (hwin : rd F.chan_CFG_FORDER (8 * g + i) s = 0) (hpos : 0 < rd F.chan_CFG_STUCK (8 * g + i) s)
    (hrun : (s.chan (8 * g + i)).run = rd F.chan_CFG_STUCK (8 * g + i) s * 16) (hbit : (s.chan (8 * g + i)).bit = e.bits.getLsbD i)
    (htold : (s.chan (8 * g + i)).told = false) :
    FrontOnly (CheckReg g i) (· = 8 * g + i) s (chanChecks g e i s) ∧
      (chanChecks g e i s).chan (8 * g + i) = stuckChan (s.chan (8 * g + i)) ∧ rd (stuckBit i) g (chanChecks g e i s) = 1 := by
  have hlt : 8 * g + i < 96 := by omega
  have hgrp : (8 * g + i) / 8 = g := by omega
  have hmod : (8 * g + i) % 8 = i := by omega
  let x : Chan := { s.chan (8 * g + i) with run := (s.chan (8 * g + i)).run + 1, told := true }
  let v : State := wr (stuckBit i) g 1 (s.setChan (8 * g + i) x)
  have hx : v.chan (8 * g + i) = x := State.chan_setChan_self hch ..
  have hfires : stuckCheck (8 * g + i) (e.bits.getLsbD i) s = v := by
    rw [← hbit, stuckCheck_fires hlt hsil hpos hrun htold, hgrp, hmod]
  have hwinv : rd F.chan_CFG_FORDER (8 * g + i) v = 0 := by
    refine (rd_setReg_ne (f := F.chan_CFG_FORDER) ?_ _ _).trans hwin
    show keyOf .chan (8 * g + i) 0 ≠ keyOf .grp g 7
    simp only [keyOf]
    omega
  have hcheck : chanChecks g e i s = wr F.chan_STAT_WIN (8 * g + i) 0 (wr F.chan_FAST_RAW (8 * g + i) 0 (v.setChan (8 * g + i) { x with out := 0, qual := 0 })) := by
    unfold chanChecks
    rw [hfires, windowCheck_off hwinv, hx]
  have hfast : ResultReg (· = 8 * g + i) (keyOf .chan (8 * g + i) 5) := ⟨_, rfl, hlt, .inr (.inl rfl)⟩
  have hstat : ResultReg (· = 8 * g + i) (keyOf .chan (8 * g + i) 6) := ⟨_, rfl, hlt, .inr (.inr rfl)⟩
  have hbase : FrontOnly (CheckReg g i) (· = 8 * g + i) s s := FrontOnly.refl hr hch
  have hv : FrontOnly (CheckReg g i) (· = 8 * g + i) s v := (hbase.setChan rfl x).wr (.inr rfl) 1
  rw [hcheck]
  refine ⟨((hv.setChan rfl _).wr (.inl hfast) 0).wr (.inl hstat) 0,
    State.chan_setChan_self (s := v) (State.setChan_rising hch ..) .., ?_⟩
  have hapart (o : Nat) : keyOf .grp g 7 ≠ keyOf .chan (8 * g + i) o := by
    simp only [keyOf]
    omega
  calc rd (stuckBit i) g (wr F.chan_STAT_WIN (8 * g + i) 0 (wr F.chan_FAST_RAW (8 * g + i) 0 (v.setChan (8 * g + i) { x with out := 0, qual := 0 })))
      = rd (stuckBit i) g (wr F.chan_FAST_RAW (8 * g + i) 0 (v.setChan (8 * g + i) { x with out := 0, qual := 0 })) := rd_setReg_ne (hapart 6) ..
    _ = rd (stuckBit i) g v := rd_setReg_ne (hapart 5) ..
    _ = 1 := rd_wr_self (f := stuckBit i) hr (show 1 + i + 1 ≤ 36 by omega) g 1

/-- R266: the edge that makes the run of channel `i` longer than its limit. -/
theorem exec_stuck (h : PlainGroup g s) (hi : i < 8) (hmode : rdB F.grp_CTL_CLKMODE g s = false) (hlost : (s.grp g).lost = false)
    (hnext : ChecksNext g s) (hchk : OnlyChecks g i 8 s) (hpos : 0 < rd F.chan_CFG_STUCK (8 * g + i) s)
    (hrun : (s.chan (8 * g + i)).run = rd F.chan_CFG_STUCK (8 * g + i) s * 16) (hbit : (s.chan (8 * g + i)).bit = b.bits.getLsbD i)
    (htold : (s.chan (8 * g + i)).told = false) :
    ∃ t, exec (.stuck (8 * g + i) [b]) s = .next (finish t) ∧ t.chan (8 * g + i) = stuckChan (s.chan (8 * g + i)) ∧ rd (stuckBit i) g t = 1 := by
  have hg := h.group
  have hgrp : (8 * g + i) / 8 = g := by omega
  let e : ModEdge := { b with gap := rd F.grp_CTL_CLKDIV g s }
  have hoff : ∀ k, k < 8 → k ≠ i → ChecksOff (8 * g + k) s := fun k hk hki => ⟨(hchk k hk).1 hki, (hchk k hk).2 (by omega)⟩
  have hthere (y : State) (hy : ChansOnly (Others g i) (noteEdge g e s) y) := by
    have hset := settings_noteEdge hy
    have hchan : y.chan (8 * g + i) = s.chan (8 * g + i) := hy.chan _ (not_others_self g i)
    have hlim : rd F.chan_CFG_STUCK (8 * g + i) y = rd F.chan_CFG_STUCK (8 * g + i) s := hset.rd_chan (by decide) (by omega)
    exact hchan ▸ chanChecks_stuck (e := e) hg hi hy.regs hy.chans (hset.evtCtl.trans h.silent)
      ((hset.rd_chan (by decide) (by omega)).trans ((hchk i hi).2 (by omega))) (hlim ▸ hpos) (by rw [hchan, hlim]; exact hrun) (by rw [hchan]; exact hbit)
      (by rw [hchan]; exact htold)
  obtain ⟨y, hy, hz⟩ := oneEdge_single hg hi hnext h.order.regs h.order.chans hoff (fun y hy => (hthere y hy).1)
  obtain ⟨-, hchan, hstat⟩ := hthere y hy
  have hchan' : (oneEdge g 0 e s).chan (8 * g + i) = stuckChan (s.chan (8 * g + i)) := (hz.chan _ (not_others_self g i)).trans hchan
  have hstat' : rd (stuckBit i) g (oneEdge g 0 e s) = 1 := (hz.settings.rd_grp (by simp) hg).trans hstat
  refine ⟨oneEdge g 0 e s, ?_, hchan', hstat'⟩
  have htest : (!(s.chan (8 * g + i)).told && ((oneEdge g 0 e s).chan (8 * g + i)).told) = true := by
    rw [hchan', htold]
    rfl
  show answerEdges (decide (8 * g + i < 96)) ((8 * g + i) / 8) [b] (fun x z => !(x.chan (8 * g + i)).told && (z.chan (8 * g + i)).told) s = _
  rw [hgrp, answerEdges_single (by simp; omega) h.clock h.runs hlost (by rw [timedEdge_clockOut hmode]; exact htest), timedEdge_clockOut hmode]

/-! ### The window (R275, R276) -/

/-- What the edge that finds the window above leaves to be read. -/
theorem windowAbove_reads (hc : c < 96) (hr : Rising s.regs) (hch : Rising s.chans) :
    ChansOnly (· = c) s (windowAbove c s) ∧ ((windowAbove c s).chan c).out = 1 ∧ rd F.chan_STAT_WIN c (windowAbove c s) = 1 ∧
      rd F.chan_STAT_WIN_HI c (windowAbove c s) = 1 ∧ rd F.chan_FAST_RAW c (windowAbove c s) = lowBits 18 (fastValue c s) := by
  let q := min ((s.chan c).qual + 1) 16
  let v : State := ((wr F.chan_FAST_RAW c (lowBits 18 (fastValue c s)) s).setChan c { s.chan c with qual := q }).setChan c
    { s.chan c with out := 1, qual := q }
  have hbase : ChansOnly (· = c) s s := FrontOnly.refl hr hch
  have hv : ChansOnly (· = c) s v := ((hbase.wr_result rfl hc (by decide) _).setChan rfl _).setChan rfl _
  have hw : ChansOnly (· = c) s (wr F.chan_STAT_WIN c 1 v) := hv.wr_result rfl hc (by decide) 1
  have hall : ChansOnly (· = c) s (windowAbove c s) := hw.wr_result rfl hc (by decide) 1
  have hfast : rd F.chan_FAST_RAW c v = lowBits 18 (fastValue c s) := by
    refine (rd_wr_self (f := F.chan_FAST_RAW) hr (by decide) c _).trans (Nat.mod_eq_of_lt ?_)
    show ((fastValue c s) % 2 ^ 18).toNat < 2 ^ 18
    omega
  refine ⟨hall, congrArg Chan.out (State.chan_setChan_self (State.setChan_rising hch ..) c { s.chan c with out := 1, qual := q }), ?_, ?_, ?_⟩
  · exact (rd_wr_apart hw.regs (f := F.chan_STAT_WIN) (by decide) c 1).trans (rd_wr_self hv.regs (by decide) c 1)
  · exact rd_wr_self hw.regs (f := F.chan_STAT_WIN_HI) (by decide) c 1
  · exact (rd_wr_apart hw.regs (f := F.chan_FAST_RAW) (by decide) c 1).trans ((rd_wr_apart hv.regs (f := F.chan_FAST_RAW) (by decide) c 1).trans hfast)

/-- The window of channel `c` has stood above WIN_HI long enough at the next edge, of which group `g` has then taken note (R275, R290). -/
structure AboveNext (g c : Nat) (e : ModEdge) (s : State) : Prop where
  on    : rd F.chan_CFG_FORDER c s ≠ 0
  inside : (s.chan c).out = 0
  qual  : qualOf c s ≤ min ((s.chan c).qual + 1) 16
  warm  : grpWarm g s ≤ (s.grp g).edges + 1
  alone : ∀ k, k < 4 → srcEnabled k 3 c s = false
  above : rdZ F.chan_WIN_HI c s < fastValue c (noteEdge g e s)

theorem SameSettings.srcEnabled_eq (h : SameSettings s t) {k : Nat} (hk : k < 4) (kind inst : Nat) : srcEnabled k kind inst t = srcEnabled k kind inst s := by
  have hrd (f : FRef) (hf : f.b = .bank) : rd f k t = rd f k s := by
    refine h.rd_eq (setting_high ?_)
    rw [hf]
    simp only [keyOf]
    omega
  unfold srcEnabled
  rw [hrd F.bank_SRC0 rfl, hrd F.bank_SRC1_AC_HI rfl, hrd F.bank_SRC1_FLT rfl, hrd F.bank_SRC2 rfl, hrd F.bank_SRC3 rfl, hrd F.bank_SRC4_WIN rfl]

theorem SameSettings.fastValue_eq (h : SameSettings s t) (hgrps : t.grps = s.grps) (hc : c < 96) : fastValue c t = fastValue c s := by
  unfold fastValue chanBits State.grp
  rw [hgrps, h.rd_chan (f := F.chan_CFG_FORDER) (by decide) (by omega), h.rd_chan (f := F.chan_CFG_FDEC) (by decide) (by omega)]

/-- The checks of a channel whose STUCK is 0 at the edge that finds its window above. -/
theorem chanChecks_above (hg : g < 12) (hi : i < 8) (hs : Rising s.grps) (hsil : rd F.mfr_EVT_CTL_EN 0 s = 0) (hstuck : rd F.chan_CFG_STUCK (8 * g + i) s = 0)
    (h : AboveNext g (8 * g + i) e s) (hy : ChansOnly (Others g i) (noteEdge g e s) y) :
    ∃ x : Chan, chanChecks g e i y = windowAbove (8 * g + i) (y.setChan (8 * g + i) x) ∧
      fastValue (8 * g + i) (y.setChan (8 * g + i) x) = fastValue (8 * g + i) (noteEdge g e s) := by
  have hlt : 8 * g + i < 96 := by omega
  have hgrp : (8 * g + i) / 8 = g := by omega
  have hset : SameSettings s y := settings_noteEdge hy
  let x := (y.chan (8 * g + i)).takeBit (e.bits.getLsbD i)
  let v := y.setChan (8 * g + i) x
  have hx : v.chan (8 * g + i) = x := State.chan_setChan_self hy.chans ..
  have hchan : y.chan (8 * g + i) = s.chan (8 * g + i) := hy.chan _ (not_others_self g i)
  have hfast : fastValue (8 * g + i) v = fastValue (8 * g + i) (noteEdge g e s) := hy.settings.fastValue_eq hy.grps_eq hlt
  have hedges : (v.grp g).edges = (s.grp g).edges + 1 := congrArg Grp.edges ((hy.grp_eq g).trans (grp_noteEdge hs g e))
  have hqualOf : qualOf (8 * g + i) v = qualOf (8 * g + i) s := by
    unfold qualOf
    rw [show rd F.chan_CFG_QUAL (8 * g + i) v = _ from hset.rd_chan (by decide) (by omega)]
  have hhi : rdZ F.chan_WIN_HI (8 * g + i) v = rdZ F.chan_WIN_HI (8 * g + i) s := by
    unfold rdZ
    rw [show rd F.chan_WIN_HI (8 * g + i) v = _ from hset.rd_chan (by decide) (by omega)]
  refine ⟨x, ?_, hfast⟩
  unfold chanChecks
  rw [stuckCheck_off ((hset.rd_chan (by decide) (by omega)).trans hstuck)]
  refine windowCheck_above (s := v) hlt (hset.evtCtl.trans hsil) (fun k hk => (hset.srcEnabled_eq hk 3 _).trans (h.alone k hk)) ?_ ?_ ?_ ?_ ?_
  · rw [show rd F.chan_CFG_FORDER (8 * g + i) v = _ from hset.rd_chan (by decide) (by omega)]
    exact h.on
  · rw [hx]
    exact (congrArg Chan.out hchan).trans h.inside
  · have hqual : x.qual = (s.chan (8 * g + i)).qual := by rw [← hchan]; rfl
    rw [hqualOf, hx, hqual]
    exact h.qual
  · rw [hgrp, hedges, show grpWarm g v = _ from hset.grpWarm_eq hg]
    exact h.warm
  · rw [hhi, hfast]
    exact h.above

/-- R275: the edge at which the fast value of channel `i` has stayed above WIN_HI for QUAL edges. -/
theorem exec_windowChange_above (h : PlainGroup g s) (hi : i < 8) (hmode : rdB F.grp_CTL_CLKMODE g s = false) (hlost : (s.grp g).lost = false)
    (hnext : ChecksNext g s) (hchk : OnlyChecks g 8 i s) (habove : AboveNext g (8 * g + i) { b with gap := rd F.grp_CTL_CLKDIV g s } s) :
    ∃ t, exec (.windowChange (8 * g + i) [b]) s = .next (finish t) ∧ (t.chan (8 * g + i)).out = 1 ∧ rd F.chan_STAT_WIN (8 * g + i) t = 1 ∧
      rd F.chan_STAT_WIN_HI (8 * g + i) t = 1 ∧
      rd F.chan_FAST_RAW (8 * g + i) t = lowBits 18 (fastValue (8 * g + i) (noteEdge g { b with gap := rd F.grp_CTL_CLKDIV g s } s)) := by
  have hg := h.group
  have hlt : 8 * g + i < 96 := by omega
  have hgrp : (8 * g + i) / 8 = g := by omega
  let e : ModEdge := { b with gap := rd F.grp_CTL_CLKDIV g s }
  have hoff : ∀ k, k < 8 → k ≠ i → ChecksOff (8 * g + k) s := fun k hk hki => ⟨(hchk k hk).1 (by omega), (hchk k hk).2 hki⟩
  have hthere (y : State) (hy : ChansOnly (Others g i) (noteEdge g e s) y) :
      FrontOnly (CheckReg g i) (· = 8 * g + i) y (chanChecks g e i y) ∧ ((chanChecks g e i y).chan (8 * g + i)).out = 1 ∧
        rd F.chan_STAT_WIN (8 * g + i) (chanChecks g e i y) = 1 ∧ rd F.chan_STAT_WIN_HI (8 * g + i) (chanChecks g e i y) = 1 ∧
        rd F.chan_FAST_RAW (8 * g + i) (chanChecks g e i y) = lowBits 18 (fastValue (8 * g + i) (noteEdge g e s)) := by
    obtain ⟨x, hx, hfast⟩ := chanChecks_above hg hi h.order.grps h.silent ((hchk i hi).1 (by omega)) habove hy
    have hbase : ChansOnly (· = 8 * g + i) y y := FrontOnly.refl hy.regs hy.chans
    have hset : ChansOnly (· = 8 * g + i) y (y.setChan (8 * g + i) x) := FrontOnly.setChan hbase rfl x
    obtain ⟨honly, hreads⟩ := windowAbove_reads hlt hset.regs hset.chans
    rw [hx]
    exact ⟨(FrontOnly.trans hset honly).mono (fun _ => .inl) (fun _ => id), hfast ▸ hreads⟩
  obtain ⟨y, hy, hz⟩ := oneEdge_single hg hi hnext h.order.regs h.order.chans hoff (fun y hy => (hthere y hy).1)
  obtain ⟨-, hout, hwin, hwinHi, hraw⟩ := hthere y hy
  have hkept {f : FRef} (hf : f.b = .chan ∧ f.o < 8) : rd f (8 * g + i) (oneEdge g 0 e s) = rd f (8 * g + i) (chanChecks g e i y) :=
    hz.rd_eq (by rw [hf.1]; exact not_resultReg_other hf.2 (not_others_self g i))
  have hout' : ((oneEdge g 0 e s).chan (8 * g + i)).out = 1 := (congrArg Chan.out (hz.chan _ (not_others_self g i))).trans hout
  refine ⟨oneEdge g 0 e s, ?_, hout', (hkept (by decide)).trans hwin, (hkept (by decide)).trans hwinHi, (hkept (by decide)).trans hraw⟩
  have htest : ((s.chan (8 * g + i)).out != ((oneEdge g 0 e s).chan (8 * g + i)).out) = true := by
    rw [hout', habove.inside]
    rfl
  show answerEdges (decide (8 * g + i < 96)) ((8 * g + i) / 8) [b] (fun x z => (x.chan (8 * g + i)).out != (z.chan (8 * g + i)).out) s = _
  rw [hgrp, answerEdges_single (by simp; omega) h.clock h.runs hlost (by rw [timedEdge_clockOut hmode]; exact htest), timedEdge_clockOut hmode]

/-! ### Loss and return of the clock (R265) -/

theorem exec_clkLost (h : PlainGroup g s) (hmode : rdB F.grp_CTL_CLKMODE g s = true) (hlost : (s.grp g).lost = false) :
    exec (.clkLost g) s = .next (finish (wr F.grp_STAT_CLK_LOST g 1 (s.modGrp g (fun x => { x with lost := true })))) := by
  have hg := h.group
  have hsilent : rd F.mfr_EVT_CTL_EN 0 (wr F.grp_STAT_CLK_LOST g 1 (s.modGrp g (fun x => { x with lost := true }))) = 0 :=
    (evtCtl_wr (by decide) ..).trans h.silent
  have hlose : clockLost g s = _ := if_pos ⟨h.runs, hmode, by simp [hlost]⟩
  show answer (decide (g < 12)) (inFront (clockLost g) s) = _
  rw [answer_of h.group, inFront_on h.clock, hlose, postEvent_silent (by omega) hsilent]

/-- A restart clears u and the run of QUAL of the group's channels (R290). -/
def clearChans (g : Nat) (s : State) : State := forN 8 (fun i s => s.modChan (8 * g + i) (fun x => { x with u := 0, qual := 0 })) s

theorem clearChans_spec (hch : Rising s.chans) (g : Nat) :
    clearChans g s = { s with chans := (clearChans g s).chans } ∧ Rising (clearChans g s).chans ∧
      ∀ i, i < 8 → (clearChans g s).chan (8 * g + i) = { s.chan (8 * g + i) with u := 0, qual := 0 } := by
  have hframe : clearChans g s = { s with chans := (clearChans g s).chans } ∧ Rising (clearChans g s).chans :=
    forN_kept (P := fun t : State => t = { s with chans := t.chans } ∧ Rising t.chans) 8
      (fun i _ y hy => ⟨by rw [hy.1]; rfl, State.setChan_rising hy.2 ..⟩) ⟨rfl, hch⟩
  refine ⟨hframe.1, hframe.2, fun i hi => ?_⟩
  refine (forN_reaches (P := fun t : State => t.chan (8 * g + i) = s.chan (8 * g + i) ∧ Rising t.chans)
    (Q := fun t : State => t.chan (8 * g + i) = { s.chan (8 * g + i) with u := 0, qual := 0 } ∧ Rising t.chans) hi (fun j hj y hy => ?_) (fun y hy => ?_)
    (fun j hj _ y hy => ?_) ⟨rfl, hch⟩).1
  · exact ⟨(State.chan_setChan_ne y (by omega) _).trans hy.1, State.setChan_rising hy.2 ..⟩
  · exact ⟨(State.chan_setChan_self hy.2 ..).trans (by rw [hy.1]), State.setChan_rising hy.2 ..⟩
  · exact ⟨(State.chan_setChan_ne y (by omega) _).trans hy.1, State.setChan_rising hy.2 ..⟩

/-- What a restart leaves: it changes the group and its channels alone (R290). -/
structure Restarted (g : Nat) (s t : State) : Prop where
  frame : t = { s with grps := t.grps, chans := t.chans }
  grps  : Rising t.grps
  chans : Rising t.chans
  grp   : t.grp g = { s.grp g with hist := [], edges := 0, points := 0 }
  chan  : ∀ i, i < 8 → t.chan (8 * g + i) = { s.chan (8 * g + i) with u := 0, qual := 0 }

/-- Group `g` at the beginning of a restart. -/
def restartedGrp (g : Nat) (s : State) : State := s.setGrp g { s.grp g with hist := [], edges := 0, points := 0 }

theorem restartGroup_eq (g : Nat) (s : State) : restartGroup g s = clearChans g (restartedGrp g s) := rfl

theorem restarted_restartGroup (hs : Rising s.grps) (hch : Rising s.chans) (g : Nat) : Restarted g s (restartGroup g s) := by
  rw [restartGroup_eq]
  obtain ⟨hframe, hrising, hchan⟩ := clearChans_spec (s := restartedGrp g s) hch g
  generalize clearChans g (restartedGrp g s) = t at hframe hrising hchan
  have hgrps : t.grps = (restartedGrp g s).grps := by rw [hframe]
  refine ⟨?_, ?_, hrising, ?_, hchan⟩
  · rw [hgrps]
    exact hframe
  · rw [hgrps]
    exact State.setGrp_rising hs ..
  · exact (congrArg (Sparse.get Grp.init g) hgrps).trans (State.grp_setGrp_self hs ..)

theorem Restarted.regs_eq (h : Restarted g s t) : t.regs = s.regs := by rw [h.frame]

theorem Restarted.trks_eq (h : Restarted g s t) : t.trks = s.trks := by rw [h.frame]

theorem Restarted.rd_eq (h : Restarted g s t) (f : FRef) (i : Nat) : rd f i t = rd f i s := by
  unfold rd State.reg
  rw [h.regs_eq]

/-- A write of CLK_LOST leaves every register but the group's STAT. -/
theorem rd_wr_clkLost {f : FRef} {i : Nat} (h : keyOf f.b i f.o ≠ keyOf .grp g 7) (v : Nat) (s : State) :
    rd f i (wr F.grp_STAT_CLK_LOST g v s) = rd f i s := rd_setReg_ne h ..

theorem grpRuns_wr_clkLost (g v : Nat) (s : State) : grpRuns g (wr F.grp_STAT_CLK_LOST g v s) = grpRuns g s := by
  have hlow (o : Nat) (ho : o < 0x2000) : keyOf .pwr 0 o ≠ keyOf .grp g 7 := by
    simp only [keyOf]
    omega
  unfold grpRuns domOn rdB
  rw [rd_wr_clkLost (f := F.pwr_DOM_ON_LO) (hlow 9 (by decide)), rd_wr_clkLost (f := F.pwr_DOM_ON_HI_ON) (hlow 10 (by decide)),
    rd_wr_clkLost (f := F.grp_CTL_EN) (by rw [Ne, show F.grp_CTL_EN.b = .grp from rfl, keyOf_right_inj]; decide)]

/-- A group whose clock is back: no loss stands, and a strobe that waits is delayed by the restart (R265). -/
def clockSeen (g : Nat) (s : State) : State := s.modGrp g (fun x => { x with lost := false, lateStrobe := x.strobe.isSome })

/-- A group whose clock is back, before the edge that came is counted (R265). -/
def clockReturned (g : Nat) (s : State) : State := wr F.grp_STAT_CLK_LOST g 0 (restartGroup g (clockSeen g s))

section
variable (hs : InOrder s)
include hs

theorem restarted_clockSeen (g : Nat) : Restarted g (clockSeen g s) (restartGroup g (clockSeen g s)) :=
  restarted_restartGroup (State.setGrp_rising hs.grps ..) hs.chans g

theorem grp_clockReturned (hstrobe : (s.grp g).strobe = none) :
    (clockReturned g s).grp g = { s.grp g with hist := [], edges := 0, points := 0, lost := false, lateStrobe := false } := by
  have hseen : (clockSeen g s).grp g = { s.grp g with lost := false, lateStrobe := (s.grp g).strobe.isSome } := State.grp_setGrp_self hs.grps ..
  refine (restarted_clockSeen hs g).grp.trans ?_
  rw [hseen, hstrobe]
  rfl

theorem rd_clockReturned {f : FRef} {i : Nat} (hf : keyOf f.b i f.o ≠ keyOf .grp g 7) : rd f i (clockReturned g s) = rd f i s :=
  (rd_wr_clkLost hf ..).trans ((restarted_clockSeen hs g).rd_eq f i)

theorem rising_clockReturned (g : Nat) : Rising (clockReturned g s).regs :=
  rising_wr (by rw [(restarted_clockSeen hs g).regs_eq]; exact hs.regs) ..

theorem rd_grp_clockReturned {f : FRef} (hf : f.b = .grp ∧ f.o = 0) (g : Nat) : rd f g (clockReturned g s) = rd f g s :=
  rd_clockReturned hs (by rw [hf.1, hf.2, Ne, keyOf_right_inj]; decide)

theorem rd_chan_clockReturned {f : FRef} (hf : f.b = .chan ∧ f.o = 0) (g c : Nat) : rd f c (clockReturned g s) = rd f c s := by
  refine rd_clockReturned hs ?_
  rw [hf.1, hf.2]
  simp only [keyOf]
  omega

theorem evtCtl_clockReturned (g : Nat) : rd F.mfr_EVT_CTL_EN 0 (clockReturned g s) = rd F.mfr_EVT_CTL_EN 0 s :=
  rd_clockReturned hs (Nat.lt_of_lt_of_le (by decide) (keyOf_front (b := .grp) (.inl rfl) g 7)).ne

theorem grpRuns_clockReturned (g : Nat) : grpRuns g (clockReturned g s) = grpRuns g s := by
  refine (grpRuns_wr_clkLost ..).trans ?_
  unfold grpRuns domOn rdB
  simp only [(restarted_clockSeen hs g).rd_eq]
  rfl

theorem checksNext_clockReturned (hheld : (s.grp g).held = []) (hstrobe : (s.grp g).strobe = none) (hdue : ∀ r, r < 8 → (s.trk r).due = none)
    (hdec : rd F.grp_CTL_DEC g s ≠ 1) : ChecksNext g (clockReturned g s) := by
  have hgrp := grp_clockReturned hs hstrobe
  refine ⟨(restarted_clockSeen hs g).grps, by rw [hgrp]; exact hheld, by rw [hgrp]; exact hstrobe, fun r hr => ?_, ?_⟩
  · exact (congrArg (fun l => (Sparse.get Trk.init r l).due) (restarted_clockSeen hs g).trks_eq).trans (hdue r hr)
  · rw [hgrp, rd_grp_clockReturned hs ⟨rfl, rfl⟩]
    exact fun h1 => hdec (Nat.dvd_one.mp (Nat.dvd_of_mod_eq_zero h1))

end

/-- R265: the first edge after a loss restarts the group. -/
theorem exec_clkBack (h : PlainGroup g s) (hmode : rdB F.grp_CTL_CLKMODE g s = true) (hlost : (s.grp g).lost = true)
    (hstrobe : (s.grp g).strobe = none) (hdue : ∀ r, r < 8 → (s.trk r).due = none) (hchk : OnlyChecks g 8 8 s) (hdec : rd F.grp_CTL_DEC g s ≠ 1) :
    ∃ t, exec (.clkBack g [b]) s = .next (finish t) ∧ rd F.grp_STAT_CLK_LOST g t = 0 ∧
      t.grp g = { s.grp g with hist := [b], edges := 1, points := 0, lost := false, lateStrobe := false } ∧ ∀ i, i < 8 → (t.chan (8 * g + i)).u = 0 := by
  have hg := h.group
  let v : State := clockReturned g s
  have hre := restarted_clockSeen h.order g
  have hgrp : v.grp g = _ := grp_clockReturned h.order hstrobe
  have hmodev : rdB F.grp_CTL_CLKMODE g v = true := by
    unfold rdB
    rw [rd_grp_clockReturned h.order ⟨rfl, rfl⟩]
    exact hmode
  have hoff : ∀ k, k < 8 → ChecksOff (8 * g + k) v := fun k hk =>
    ⟨(rd_chan_clockReturned h.order ⟨rfl, rfl⟩ ..).trans ((hchk k hk).1 (by omega)),
      (rd_chan_clockReturned h.order ⟨rfl, rfl⟩ ..).trans ((hchk k hk).2 (by omega))⟩
  obtain ⟨honly, hu⟩ := edgeChecks_off (s := noteEdge g b v) hg (rising_clockReturned h.order g) hre.chans hoff b
  have hfeed : clockBack g [b] s = edgeChecks g b (noteEdge g b v) := by
    have hback : clockBack g [b] s = feedEdges g [b] (fun _ _ => true) (postEvent (g / 6) 4 g 2 v) := if_pos ⟨h.runs, hlost, by simp⟩
    rw [hback, postEvent_silent (by omega) ((evtCtl_clockReturned h.order g).trans h.silent),
      feedEdges_single ((grpRuns_clockReturned h.order g).trans h.runs) (by rw [hgrp]) rfl, timedEdge_clockIn hmodev,
      oneEdge_checksOnly (checksNext_clockReturned h.order h.held hstrobe hdue hdec) honly.grps_eq honly.trks_eq]
  refine ⟨edgeChecks g b (noteEdge g b v), ?_, ?_, ?_, fun i hi => ?_⟩
  · show answer (decide (g < 12)) (inFront (clockBack g [b]) s) = _
    rw [answer_of hg, inFront_on h.clock, hfeed]
  · refine (honly.settings.rd_grp (by decide) hg).trans ?_
    exact rd_wr_self (f := F.grp_STAT_CLK_LOST) (by rw [hre.regs_eq]; exact h.order.regs) (by decide) g 0
  · rw [honly.grp_eq, grp_noteEdge (s := v) hre.grps, hgrp]
    rfl
  · refine (hu _).trans ?_
    exact congrArg Chan.u (hre.chan i hi)

/-! ### A write of CTL that restarts the group (R290) -/

/-- EN of CTL as a write stores it. -/
theorem rd_en_storeReg (hs : Rising s.regs) (g : Nat) (v : Word) : rd F.grp_CTL_EN g (storeReg .grp g 0 v s) = bits v 0 1 := by
  have hlast : ∃ w, storeReg .grp g 0 v s = s.setReg (keyOf .grp g 0) (setBits w 0 1 (bits v 0 1)) := ⟨_, rfl⟩
  obtain ⟨w, hw⟩ := hlast
  show bits ((storeReg .grp g 0 v s).reg (keyOf .grp g 0)) 0 1 = _
  rw [hw, State.reg_setReg_self hs, bits_setBits_same _ (by decide), Nat.mod_eq_of_lt (bits_lt v 0 1)]

/-- A group of which no loss stands, where the settings that a write has left ask for it (R265). -/
def lossCleared (g : Nat) (s : State) : State :=
  if rdB F.grp_CTL_EN g s && rdB F.grp_CTL_CLKMODE g s then s else wr F.grp_STAT_CLK_LOST g 0 (s.modGrp g (fun x => { x with lost := false }))

/-- EN has risen: the group restarts. -/
theorem afterGroupWrite_rises (hold : rdB F.grp_CTL_EN g s = false) (hnew : rdB F.grp_CTL_EN g t = true) :
    afterGroupWrite g s t = restartGroup g (lossCleared g t) :=
  if_pos (.inr ⟨hnew, by simp [hold]⟩)

theorem lossCleared_spec (hs : Rising s.grps) (g : Nat) :
    rd F.grp_CTL_EN g (lossCleared g s) = rd F.grp_CTL_EN g s ∧ Rising (lossCleared g s).grps ∧ (lossCleared g s).chans = s.chans ∧
      ((lossCleared g s).grp g).strobe = (s.grp g).strobe := by
  unfold lossCleared
  split
  · exact ⟨rfl, hs, rfl, rfl⟩
  · have hkey : keyOf .grp g 0 ≠ keyOf .grp g 7 := by rw [Ne, keyOf_right_inj]; decide
    have hgrp : (s.modGrp g (fun x => { x with lost := false })).grp g = { s.grp g with lost := false } := State.grp_setGrp_self hs ..
    refine ⟨rd_wr_clkLost (f := F.grp_CTL_EN) hkey .., State.setGrp_rising hs .., rfl, ?_⟩
    show ((s.modGrp g (fun x => { x with lost := false })).grp g).strobe = _
    rw [hgrp]

/-- A write of CTL that restarts the group. -/
theorem execGroupRestart_ctl {v : Word} (hg : g < 12) (hwrite : writeReg 4096 (keyOf .grp g 0) v s = t)
    (h : restartKey g t ≠ restartKey g s ∨ (!rdB F.grp_CTL_EN g s && rdB F.grp_CTL_EN g t) = true) :
    execGroupRestart (keyOf .grp g 0) v s = .next (finish t) := by
  unfold execGroupRestart
  rw [locate_grp hg (by decide), hwrite]
  exact finished (if_pos h)

/-- R290: a write of CTL with which EN rises. -/
theorem exec_groupRestart {v : Word} (hg : g < 12) (hon : domOn (grpDomain g) s = true) (hm : modeOf s ≠ 0) (hs : InOrder s)
    (hold : rdB F.grp_CTL_EN g s = false) (hv : v.toNat % 2 = 1) :
    ∃ t, exec (.groupRestart (keyOf .grp g 0) v) s = .next (finish t) ∧ rdB F.grp_CTL_EN g t = true ∧
      (t.grp g).hist = [] ∧ (t.grp g).edges = 0 ∧ (t.grp g).points = 0 ∧ (t.grp g).strobe = (s.grp g).strobe ∧
      ∀ i, i < 8 → (t.chan (8 * g + i)).u = 0 ∧ (t.chan (8 * g + i)).qual = 0 := by
  have hbit : bits v 0 1 = 1 := by unfold bits; omega
  have hnew : rdB F.grp_CTL_EN g (storeReg .grp g 0 v s) = true := by
    unfold rdB
    rw [rd_en_storeReg hs.regs, hbit]
    rfl
  let t := restartGroup g (lossCleared g (storeReg .grp g 0 v s))
  obtain ⟨hen, hgrps, hchans, hstrobe⟩ := lossCleared_spec (s := storeReg .grp g 0 v s) hs.grps g
  have hre : Restarted g (lossCleared g (storeReg .grp g 0 v s)) t := restarted_restartGroup hgrps (by rw [hchans]; exact hs.chans) g
  have hrises : rdB F.grp_CTL_EN g t = true := by
    unfold rdB
    rw [hre.rd_eq, hen]
    exact hnew
  have hwrite : writeReg 4096 (keyOf .grp g 0) v s = t :=
    (writeReg_front (by decide) (locate_grp hg (by decide)) (by simp only [keyOf]; omega) rfl hon hm v).trans (afterGroupWrite_rises hold hnew)
  refine ⟨t, execGroupRestart_ctl hg hwrite (.inr (by rw [hold, hrises]; rfl)), hrises, by rw [hre.grp], by rw [hre.grp], by rw [hre.grp], ?_,
    fun i hi => by rw [hre.chan i hi]; exact ⟨rfl, rfl⟩⟩
  rw [hre.grp]
  exact hstrobe

/-- The fast value at an edge, by the bits of the edges before it: it does not depend on how they are timed. -/
theorem fastValue_noteEdge (hs : Rising s.grps) (hi : i < 8) (b : ModEdge) (gap : Nat) :
    fastValue (8 * g + i) (noteEdge g { b with gap := gap } s) = sincRaw (rd F.chan_CFG_FORDER (8 * g + i) s) (rd F.chan_CFG_FDEC (8 * g + i) s)
      (((b :: (s.grp g).hist).take 4096).map (fun v => if v.bits.getLsbD i then 1 else -1)) := by
  have hgrp : (8 * g + i) / 8 = g := by omega
  have hmod : (8 * g + i) % 8 = i := by omega
  unfold fastValue chanBits
  rw [hgrp, hmod, grp_noteEdge hs]
  rfl

/-- Settles O30: the edge that fires a check, the loss and the return of the clock, and the write that restarts. -/
theorem groupStates : Obligations.GroupStates := by
  unfold Obligations.GroupStates
  refine ⟨fun g i b s hi h hmode hlost hdue hstrobe hpoint => ?_, fun g s h hmode hlost => exec_clkLost h hmode hlost,
    fun g b s h hmode hlost hstrobe hdue hchk hdec => exec_clkBack h hmode hlost hstrobe hdue hchk hdec,
    fun g v s hg hon hm hs hold hv => exec_groupRestart hg hon hm hs hold hv⟩
  have hnext : ChecksNext g s := ⟨h.order.grps, h.held, hstrobe, hdue, hpoint⟩
  refine ⟨fun hchk hpos hrun hbit htold => exec_stuck h hi hmode hlost hnext hchk hpos hrun hbit htold,
    fun hchk hon hin hqual hwarm hsrc hr => ?_⟩
  have hvalue : fastValue (8 * g + i) (noteEdge g { b with gap := rd F.grp_CTL_CLKDIV g s } s) = _ := fastValue_noteEdge h.order.grps hi ..
  have := exec_windowChange_above h hi hmode hlost hnext hchk ⟨hon, hin, hqual, hwarm, hsrc, by rw [hvalue]; exact hr⟩
  rw [hvalue] at this
  exact this

end Sys2Proof.Machine
end

section
/-! The statement O29: the filters, the decimation points and the strobed outputs of a group (R264 to R272, R290). -/

namespace Sys2Proof.Machine

variable {s t y : State} {c g i : Nat} {b e : ModEdge}

/-! ### The filters (R267) -/

/-- The sum of the first `m` of a list that begins with at least `m` equal values. -/
theorem sum_take_of_const {m q : Nat} {v : Int} {xs : List Int} (hq : q ≤ xs.length) (h : ∀ x ∈ xs.take q, x = v) (hm : m ≤ q) :
    (xs.take m).sum = m * v := by
  have hsub : ∀ x ∈ xs.take m, x = v := fun x hx => h x (List.take_subset_take_left xs hm hx)
  rw [List.eq_replicate_of_mem hsub, List.sum_replicate, List.length_take, Nat.min_eq_left (by omega)]
  simp

theorem length_boxSums (m : Nat) (xs : List Int) : (boxSums m xs).length = xs.length := by
  induction xs with
  | nil => rfl
  | cons x xs ih => simp [boxSums, ih]

/-- One stage over a list whose first `q` values are `v`: its first values are the sums of `m` of them. -/
theorem boxSums_const {m q : Nat} {v : Int} {xs : List Int} (hq : q + m ≤ xs.length + 1) (h : ∀ x ∈ xs.take (q + m - 1), x = v) (hm : 1 ≤ m) :
    ∀ x ∈ (boxSums m xs).take q, x = m * v := by
  induction q generalizing xs with
  | zero => simp
  | succ q ih =>
    cases xs with
    | nil => simp [boxSums]
    | cons a xs =>
      have hlen : q + m ≤ xs.length + 1 := by rw [List.length_cons] at hq; omega
      have htake : (a :: xs).take (q + 1 + m - 1) = a :: xs.take (q + m - 1) := by
        rw [show q + 1 + m - 1 = (q + m - 1) + 1 by omega, List.take_succ_cons]
      have hsum : ((a :: xs).take m).sum = m * v := sum_take_of_const (q := q + 1 + m - 1) (by simp; omega) h (by omega)
      intro x hx
      simp only [boxSums, List.take_succ_cons, List.mem_cons] at hx
      rcases hx with rfl | hx
      · exact hsum
      · exact ih hlen (fun z hz => h z (htake ▸ List.mem_cons_of_mem a hz)) x hx

/-- `n` stages over ones: the first value is m to the n-th. -/
theorem times_boxSums_const {m : Nat} (hm : 1 ≤ m) (n : Nat) {v : Int} {xs : List Int} (hlen : n * (m - 1) + 1 ≤ xs.length)
    (h : ∀ x ∈ xs.take (n * (m - 1) + 1), x = v) : (times (boxSums m) n xs).head? = some (m ^ n * v) := by
  induction n generalizing v xs with
  | zero =>
    cases xs with
    | nil => simp at hlen
    | cons a xs => simp [times, h a (by simp)]
  | succ n ih =>
    have hstage : n * (m - 1) + 1 + m - 1 = (n + 1) * (m - 1) + 1 := by rw [Nat.succ_mul]; omega
    have hbox := boxSums_const (q := n * (m - 1) + 1) (xs := xs) (by omega) (by rw [hstage]; exact h) hm
    show (times (boxSums m) n (boxSums m xs)).head? = _
    rw [ih (by rw [length_boxSums]; omega) hbox, pow_succ, mul_assoc]

/-- R267: a filter of order `n` and ratio `m` over ones gives m to the n-th. -/
theorem sincRaw_ones {n m : Nat} {xs : List Int} (hn : 1 ≤ n) (hlen : n * m ≤ xs.length) (h : ∀ x ∈ xs, x = 1) : sincRaw n m xs = (m : Int) ^ n := by
  unfold sincRaw
  obtain rfl | hm := Nat.eq_zero_or_pos m
  · have hempty (k : Nat) : times (boxSums 0) k [] = [] := by
      induction k with
      | zero => rfl
      | succ k ih => exact ih
    rw [Nat.mul_zero, List.take_zero, hempty, Nat.cast_zero, zero_pow (by omega)]
    rfl
  · have hle : n * (m - 1) + 1 ≤ n * m := by
      obtain ⟨k, rfl⟩ : ∃ k, m = k + 1 := ⟨m - 1, by omega⟩
      rw [Nat.add_sub_cancel, Nat.mul_succ]
      omega
    rw [times_boxSums_const hm n (v := 1) (by rw [List.length_take]; omega) (fun x hx => h x (List.mem_of_mem_take (List.mem_of_mem_take hx)))]
    simp

/-! ### A decimation point (R269, R272) -/

theorem clip36_bounds (x : Int) : -2 ^ 35 ≤ clip36 x ∧ clip36 x < 2 ^ 35 := by
  unfold clip36
  omega

theorem toInt_sat36 (x : Int) : (sat36 x).toInt = clip36 x := by
  have hword : sat36 x = wrap36 (clip36 x) := congrArg Prod.fst (satResult_eq_clip36 x)
  obtain ⟨hlo, hhi⟩ := clip36_bounds x
  rw [hword, wrap36, BitVec.toInt_ofInt, Int.bmod_eq_of_le (by omega) (by omega)]

/-- The value of channel `c` in the terms of R268 and R272. -/
theorem chanZ_eq_clip36 (h : rd F.chan_CFG_ORDER c s ≠ 0) :
    (chanZ c s).1 = clip36 (((clip36 (shiftRaw (sincRaw (rd F.chan_CFG_ORDER c s) (rd F.grp_CTL_DEC (c / 8) s) (chanBits c s)) (rdZ F.chan_CFG_SH c s)) -
      (rdW F.chan_OFFSET c s).toInt) * (rd F.chan_GAIN c s : Int) + 2 ^ 15) / 2 ^ 16) := by
  unfold chanZ
  simp only [h, if_false, toInt_sat36]

theorem chanZ_bounds (c : Nat) (s : State) : -2 ^ 35 ≤ (chanZ c s).1 ∧ (chanZ c s).1 < 2 ^ 35 := by
  by_cases h : rd F.chan_CFG_ORDER c s = 0
  · simp [chanZ, h]
  · rw [chanZ_eq_clip36 h]
    exact clip36_bounds _

theorem chansOnly_countSat (h : ChansOnly (· = c) s t) (hc : c < 96) : ChansOnly (· = c) s (countSat c t) := by
  unfold countSat
  split
  · exact h.wr_result rfl hc (by decide) _
  · exact h

theorem chans_countSat (c : Nat) (s : State) : (countSat c s).chans = s.chans := by
  unfold countSat
  split <;> rfl

theorem chansOnly_decimate (hr : Rising s.regs) (hch : Rising s.chans) (hc : c < 96) : ChansOnly (· = c) s (decimate c s) := by
  have hbase : ChansOnly (· = c) s s := FrontOnly.refl hr hch
  unfold decimate
  split
  · exact hbase
  · exact ((chansOnly_countSat hbase hc).wr_result rfl hc (by decide) _).setChan rfl _

/-- A number of 36 bits as a signed field reads it. -/
theorem rdZ_wr_word {f : FRef} (hs : Rising s.regs) (hf : f.lo = 0 ∧ f.w = 36) (i : Nat) {x : Int} (hx : -2 ^ 35 ≤ x ∧ x < 2 ^ 35) :
    rdZ f i (wr f i (lowBits 36 x) s) = x := by
  have hrd : rd f i (wr f i (lowBits 36 x) s) = lowBits 36 x := by
    rw [rd_wr_self hs (by omega), hf.2]
    exact Nat.mod_eq_of_lt (by unfold lowBits; omega)
  unfold rdZ
  rw [hrd, hf.2]
  unfold lowBits
  dsimp only
  split <;> omega

/-- R269, R272: what a decimation point leaves of a channel that is on. -/
theorem decimate_on (h : rd F.chan_CFG_ORDER c s ≠ 0) (hr : Rising s.regs) (hch : Rising s.chans) (hc : c < 96) :
    rdZ F.chan_LAST c (decimate c s) = (chanZ c s).1 ∧
      ((decimate c s).chan c).u = (s.chan c).u + ((chanZ c s).1 - (s.chan c).u) / 2 ^ rd F.chan_CFG_IIR_SH c s := by
  have hbase : ChansOnly (· = c) s s := FrontOnly.refl hr hch
  have hcount := chansOnly_countSat hbase hc
  have hchan : (countSat c s).chan c = s.chan c := congrArg (Sparse.get Chan.init c) (chans_countSat c s)
  have hdec : decimate c s = (wr F.chan_LAST c (lowBits 36 (chanZ c s).1) (countSat c s)).setChan c
      { s.chan c with u := (s.chan c).u + ((chanZ c s).1 - (s.chan c).u) / 2 ^ rd F.chan_CFG_IIR_SH c s } := by
    rw [← hchan]
    exact if_neg h
  rw [hdec]
  exact ⟨rdZ_wr_word (f := F.chan_LAST) hcount.regs ⟨rfl, rfl⟩ c (chanZ_bounds c s),
    congrArg Chan.u (State.chan_setChan_self (s := wr F.chan_LAST c (lowBits 36 (chanZ c s).1) (countSat c s)) hcount.chans c _)⟩

/-- The eight channels of group `g` at a decimation point. -/
def decimateAll (g : Nat) (s : State) : State := forN 8 (fun i s => decimate (8 * g + i) s) s

theorem chansOnly_decimateAll (hg : g < 12) (hr : Rising s.regs) (hch : Rising s.chans) : ChansOnly (· / 8 = g) s (decimateAll g s) :=
  forN_kept (P := fun t => ChansOnly (· / 8 = g) s t) 8 (fun i hi y hy =>
    FrontOnly.trans hy ((chansOnly_decimate (c := 8 * g + i) hy.regs hy.chans (by omega)).mono (fun c hc => by omega))) (FrontOnly.refl hr hch)

/-- R269, R272: what a decimation point leaves of channel `i` of its group, if that is on. -/
theorem decimateAll_on (hg : g < 12) (hi : i < 8) (hr : Rising s.regs) (hch : Rising s.chans) (h : rd F.chan_CFG_ORDER (8 * g + i) s ≠ 0) :
    let c := 8 * g + i
    rdZ F.chan_LAST c (decimateAll g s) = (chanZ c s).1 ∧
      ((decimateAll g s).chan c).u = (s.chan c).u + ((chanZ c s).1 - (s.chan c).u) / 2 ^ rd F.chan_CFG_IIR_SH c s := by
  have hlt : 8 * g + i < 96 := by omega
  refine (forN_reaches (P := fun y => ChansOnly (Others g i) s y)
    (Q := fun y => Rising y.regs ∧ Rising y.chans ∧ rdZ F.chan_LAST (8 * g + i) y = (chanZ (8 * g + i) s).1 ∧ (y.chan (8 * g + i)).u =
      (s.chan (8 * g + i)).u + ((chanZ (8 * g + i) s).1 - (s.chan (8 * g + i)).u) / 2 ^ rd F.chan_CFG_IIR_SH (8 * g + i) s) hi
    (fun j hj y hy => ?_) (fun y hy => ?_) (fun j hj hj8 y hy => ?_) (FrontOnly.refl hr hch)).2.2
  · exact FrontOnly.trans hy ((chansOnly_decimate (c := 8 * g + j) hy.regs hy.chans (by omega)).mono (fun c hc => ⟨by omega, by omega⟩))
  · have hset := hy.settings
    have hZ : chanZ (8 * g + i) y = chanZ (8 * g + i) s := hset.chanZ_eq hy.grps_eq hlt
    have hshift : rd F.chan_CFG_IIR_SH (8 * g + i) y = rd F.chan_CFG_IIR_SH (8 * g + i) s := hset.rd_chan (by decide) (by omega)
    obtain ⟨hlast, hu⟩ := decimate_on (c := 8 * g + i) (by rw [hset.rd_chan (f := F.chan_CFG_ORDER) (by decide) (by omega)]; exact h) hy.regs hy.chans hlt
    have hstep := chansOnly_decimate (c := 8 * g + i) hy.regs hy.chans hlt
    rw [hy.chan _ (not_others_self g i), hshift, hZ] at hu
    exact ⟨hstep.regs, hstep.chans, hlast.trans (congrArg Prod.fst hZ), hu⟩
  · obtain ⟨hry, hcy, hlast, hu⟩ := hy
    have hstep := chansOnly_decimate (c := 8 * g + j) hry hcy (by omega)
    have hkept : rd F.chan_LAST (8 * g + i) (decimate (8 * g + j) y) = rd F.chan_LAST (8 * g + i) y :=
      hstep.rd_eq (f := F.chan_LAST) (not_resultReg_other (o := 4) (by decide) (by omega))
    refine ⟨hstep.regs, hstep.chans, ?_, ?_⟩
    · unfold rdZ at hlast ⊢
      rw [hkept]
      exact hlast
    · rw [hstep.chan _ (by omega)]
      exact hu

/-- Group `g` counts a decimation point. -/
def notePoint (g : Nat) (s : State) : State := s.modGrp g (fun x => { x with points := x.points + 1 })

/-- No stream of group `g` is in use. -/
abbrev NoStreams (g : Nat) (s : State) : Prop := ∀ i, i < 4 → rd (streamF F.grp_STREAM_MODE i) g s = 0

theorem NoStreams.settings (h : NoStreams g s) (hs : SameSettings s t) (hg : g < 12) : NoStreams g t := fun i hi =>
  (hs.rd_grp (f := streamF F.grp_STREAM_MODE i) ⟨rfl, show 3 + i < 8 by omega⟩ hg).trans (h i hi)

/-- Stream `i` at the decimation point number `n` of its group (R273). -/
def pointStream (g back n i : Nat) (s : State) : State :=
  if rd (streamF F.grp_STREAM_MODE i) g s = 1 ∧ n % nthOf (rd (streamF F.grp_STREAM_NTH i) g s) = 0 then
    formItem g i true false (timeFOf (devAgo back s)) s
  else s

/-- Grid tracker `r` at the decimation point number `n` of a group (R287). -/
def pointTracker (g back n r : Nat) (s : State) : State :=
  if trkReads (8 + r) g s ∧ n % nthOf (rd (trkF 8 0 20 8) r s) = 0 then gridTake (8 + r) back s else s

theorem decimationPoint_eq (g back : Nat) (s : State) :
    decimationPoint g back s =
      if ((decimateAll g (notePoint g s)).grp g).edges < grpWarm g (decimateAll g (notePoint g s)) then decimateAll g (notePoint g s)
      else forN 8 (pointTracker g back ((decimateAll g (notePoint g s)).grp g).points)
        (forN 4 (pointStream g back ((decimateAll g (notePoint g s)).grp g).points) (decimateAll g (notePoint g s))) := rfl

theorem pointStreams_unused (h : NoStreams g s) (back n : Nat) : forN 4 (pointStream g back n) s = s :=
  forN_unchanged fun i hi => if_neg (by rw [h i hi]; omega)

theorem pointTrackers_unread (h : ∀ r, r < 8 → trkReads (8 + r) g s = false) (back n : Nat) : forN 8 (pointTracker g back n) s = s :=
  forN_unchanged fun r hr => if_neg (by rw [h r hr]; simp)

/-- A decimation point of a group that feeds no stream and no grid tracker. -/
theorem decimationPoint_plain (hg : g < 12) (hr : Rising s.regs) (hch : Rising s.chans) (hmode : NoStreams g s)
    (htrk : ∀ r, r < 8 → trkReads (8 + r) g s = false) (back : Nat) : decimationPoint g back s = decimateAll g (notePoint g s) := by
  have honly : ChansOnly (· / 8 = g) (notePoint g s) (decimateAll g (notePoint g s)) := chansOnly_decimateAll hg hr hch
  have hset : SameSettings s (decimateAll g (notePoint g s)) := honly.settings
  rw [decimationPoint_eq, pointStreams_unused (hmode.settings hset hg), pointTrackers_unread (fun r hr => (hset.trkReads_eq ..).trans (htrk r hr)),
    ite_self]

/-- An edge with a decimation point, at which no strobe and no resolver falls. -/
theorem afterChecks_decimates {m back : Nat} (hheld : ((decimationPoint g back s).grp g).held = []) (hstrobe : (s.grp g).strobe = none)
    (hdue : ∀ r, r < 8 → (s.trk r).due = none) (h0 : m ≠ 0) (hm : (s.grp g).edges % m = 0) :
    afterChecks g back m s = decimationPoint g back s := by
  have hres : forN 8 (resolverEdge g back) s = s := forN_unchanged fun r hr => resolverEdge_none (hdue r hr) back
  unfold afterChecks
  rw [strobeEdge_none hstrobe, hres]
  dsimp only
  rw [if_pos ⟨h0, hm⟩, releaseStreams_none hheld]

/-- The group at an edge with a decimation point. -/
def Grp.atPoint (e : ModEdge) (x : Grp) : Grp := { x with hist := (e :: x.hist).take 4096, edges := x.edges + 1, points := x.points + 1 }

/-- The next edge of group `g` is a decimation point, of a group in which no strobe and no tracker waits and no check is made. -/
structure PointNext (g : Nat) (s : State) : Prop where
  strobe : (s.grp g).strobe = none
  due    : ∀ r, r < 8 → (s.trk r).due = none
  reads  : ∀ r, r < 8 → trkReads (8 + r) g s = false
  checks : OnlyChecks g 8 8 s
  ratio  : rd F.grp_CTL_DEC g s ≠ 0
  point  : ((s.grp g).edges + 1) % rd F.grp_CTL_DEC g s = 0

theorem OnlyChecks.allOff (h : OnlyChecks g 8 8 s) : ∀ k, k < 8 → ChecksOff (8 * g + k) s :=
  fun k hk => ⟨(h k hk).1 (by omega), (h k hk).2 (by omega)⟩

section
variable (h : PlainGroup g s) (hnext : PointNext g s)
include h hnext

/-- Such an edge brings its bits into the filters, and the channels take their values. -/
theorem oneEdge_point (e : ModEdge) :
    ∃ u, ChansOnly (· / 8 = g) (noteEdge g e s) u ∧ (∀ c, (u.chan c).u = (s.chan c).u) ∧ oneEdge g 0 e s = decimateAll g (notePoint g u) := by
  have hg := h.group
  obtain ⟨honly, hu⟩ := edgeChecks_off (s := noteEdge g e s) hg h.order.regs h.order.chans hnext.checks.allOff e
  refine ⟨edgeChecks g e (noteEdge g e s), honly, hu, ?_⟩
  generalize hu : edgeChecks g e (noteEdge g e s) = u at honly
  have hset : SameSettings s u := honly.settings
  have hgrp : u.grp g = _ := (honly.grp_eq g).trans (grp_noteEdge h.order.grps g e)
  have hdue : ∀ r, r < 8 → (u.trk r).due = none := fun r hr => (congrArg (fun l => (Sparse.get Trk.init r l).due) honly.trks_eq).trans (hnext.due r hr)
  have hgrps : Rising u.grps := by
    rw [honly.grps_eq]
    exact State.setGrp_rising h.order.grps ..
  have hpoint := decimationPoint_plain hg honly.regs honly.chans (NoStreams.settings h.streams hset hg)
    (fun r hr => (hset.trkReads_eq ..).trans (hnext.reads r hr)) 0
  have hafter : (decimateAll g (notePoint g u)).grp g = (notePoint g u).grp g := (chansOnly_decimateAll (s := notePoint g u) hg honly.regs honly.chans).grp_eq g
  have hheld : ((decimationPoint g 0 u).grp g).held = [] := by
    rw [hpoint, hafter, notePoint, State.modGrp_eq, State.grp_setGrp_self hgrps, hgrp]
    exact h.held
  rw [oneEdge_eq, hu, afterChecks_decimates hheld (by rw [hgrp]; exact hnext.strobe) hdue hnext.ratio (by rw [hgrp]; exact hnext.point), hpoint]

theorem grp_oneEdge_point (e : ModEdge) : (oneEdge g 0 e s).grp g = (s.grp g).atPoint e := by
  obtain ⟨u, honly, -, hedge⟩ := oneEdge_point h hnext e
  have hgrps : Rising u.grps := by
    rw [honly.grps_eq]
    exact State.setGrp_rising h.order.grps ..
  have hgrp : u.grp g = _ := (honly.grp_eq g).trans (grp_noteEdge h.order.grps g e)
  have hafter : (decimateAll g (notePoint g u)).grp g = (notePoint g u).grp g := (chansOnly_decimateAll (s := notePoint g u) h.group honly.regs honly.chans).grp_eq g
  rw [hedge, hafter, notePoint, State.modGrp_eq, State.grp_setGrp_self hgrps, hgrp]
  rfl

theorem settings_oneEdge_point (e : ModEdge) : SameSettings s (oneEdge g 0 e s) := by
  obtain ⟨u, honly, -, hedge⟩ := oneEdge_point h hnext e
  have hset : SameSettings s (notePoint g u) := honly.settings
  rw [hedge]
  exact hset.trans (chansOnly_decimateAll (s := notePoint g u) h.group honly.regs honly.chans).settings

/-- The value of channel `i` at the decimation point, by the bits of the edges up to it. -/
theorem chan_oneEdge_point (e : ModEdge) {i : Nat} (hi : i < 8) (hon : rd F.chan_CFG_ORDER (8 * g + i) s ≠ 0) :
    let c := 8 * g + i
    let hist := (e :: (s.grp g).hist).take 4096
    let y := clip36 (shiftRaw (sincRaw (rd F.chan_CFG_ORDER c s) (rd F.grp_CTL_DEC g s) (hist.map (fun v => if v.bits.getLsbD i then 1 else -1)))
      (rdZ F.chan_CFG_SH c s))
    let z := clip36 (((y - (rdW F.chan_OFFSET c s).toInt) * (rd F.chan_GAIN c s : Int) + 2 ^ 15) / 2 ^ 16)
    rdZ F.chan_LAST c (oneEdge g 0 e s) = z ∧
      ((oneEdge g 0 e s).chan c).u = (s.chan c).u + (z - (s.chan c).u) / 2 ^ rd F.chan_CFG_IIR_SH c s := by
  have hlt : 8 * g + i < 96 := by have := h.group; omega
  have hdiv : (8 * g + i) / 8 = g := by omega
  have hmod : (8 * g + i) % 8 = i := by omega
  obtain ⟨u, honly, hu, hedge⟩ := oneEdge_point h hnext e
  have hset : SameSettings s (notePoint g u) := honly.settings
  have hgrps : Rising u.grps := by
    rw [honly.grps_eq]
    exact State.setGrp_rising h.order.grps ..
  have hgrp : u.grp g = _ := (honly.grp_eq g).trans (grp_noteEdge h.order.grps g e)
  have hbits : chanBits (8 * g + i) (notePoint g u) = ((e :: (s.grp g).hist).take 4096).map (fun v => if v.bits.getLsbD i then 1 else -1) := by
    unfold chanBits
    rw [hdiv, hmod, notePoint, State.modGrp_eq, State.grp_setGrp_self hgrps, hgrp]
  have horder : rd F.chan_CFG_ORDER (8 * g + i) (notePoint g u) = rd F.chan_CFG_ORDER (8 * g + i) s := hset.rd_chan (by decide) (by omega)
  have hshift : rdZ F.chan_CFG_SH (8 * g + i) (notePoint g u) = rdZ F.chan_CFG_SH (8 * g + i) s := by
    unfold rdZ
    rw [hset.rd_chan (f := F.chan_CFG_SH) (by decide) (by omega)]
  have hoffset : rdW F.chan_OFFSET (8 * g + i) (notePoint g u) = rdW F.chan_OFFSET (8 * g + i) s := hset _ (setting_chan (by decide) (by omega))
  have hsmooth : rd F.chan_CFG_IIR_SH (8 * g + i) (notePoint g u) = rd F.chan_CFG_IIR_SH (8 * g + i) s := hset.rd_chan (by decide) (by omega)
  have hkept : ((notePoint g u).chan (8 * g + i)).u = (s.chan (8 * g + i)).u := hu _
  have hall := decimateAll_on (s := notePoint g u) h.group hi honly.regs honly.chans (by rw [horder]; exact hon)
  rw [hedge]
  dsimp only at hall ⊢
  rw [chanZ_eq_clip36 (by rw [horder]; exact hon), hdiv, hbits, horder, hset.rd_grp (f := F.grp_CTL_DEC) (by decide) h.group, hshift, hoffset,
    hset.rd_chan (f := F.chan_GAIN) (by decide) (by omega), hkept, hsmooth] at hall
  exact hall

end

/-! ### The first edge after a strobe (R271) -/

/-- A strobe that is not delayed takes the edge; a group without streams forms no item. -/
theorem strobeEdge_taken {t0 back : Nat} (hmode : NoStreams g s) (hstrobe : (s.grp g).strobe = some t0) (htime : t0 + back ≤ s.clock.tick)
    (hwarm : grpWarm g s < (s.grp g).edges) : strobeEdge g back s = s.setGrp g { s.grp g with strobe := none, lateStrobe := false } := by
  have hstreams : (List.range 4).filter (fun i => decide (rd (streamF F.grp_STREAM_MODE i) g s = 2)) = [] :=
    List.filter_eq_nil_iff.mpr fun i hi => by simp [hmode i (List.mem_range.mp hi)]
  have hchans : strobedChans g s = [] := by
    have hnone : (List.range 8).filter (fun k => (List.range 4).any (fun i =>
        rd (streamF F.grp_STREAM_MODE i) g s == 2 && (rd (streamF F.grp_STREAM_CHMASK i) g s).testBit k)) = [] := by
      refine List.filter_eq_nil_iff.mpr fun k _ => ?_
      rw [Bool.not_eq_true, List.any_eq_false]
      intro i hi
      simp [hmode i (List.mem_range.mp hi)]
    unfold strobedChans
    rw [hnone]
    rfl
  unfold strobeEdge
  dsimp only
  rw [hstrobe]
  dsimp only
  rw [if_neg (by omega), if_pos (.inl hwarm), hstreams, hchans]
  rfl

/-- R271: the first edge after a strobe uses it up. -/
theorem oneEdge_strobed {t0 : Nat} (h : PlainGroup g s) (hstrobe : (s.grp g).strobe = some t0) (htime : t0 ≤ s.clock.tick)
    (hdue : ∀ r, r < 8 → (s.trk r).due = none) (hchk : OnlyChecks g 8 8 s) (hpoint : ((s.grp g).edges + 1) % rd F.grp_CTL_DEC g s ≠ 0)
    (hwarm : grpWarm g s < (s.grp g).edges + 1) (e : ModEdge) : (oneEdge g 0 e s).grp g =
      { s.grp g with hist := (e :: (s.grp g).hist).take 4096, edges := (s.grp g).edges + 1, strobe := none, lateStrobe := false } := by
  have hg := h.group
  have honly := (edgeChecks_off (s := noteEdge g e s) hg h.order.regs h.order.chans hchk.allOff e).1
  generalize hu : edgeChecks g e (noteEdge g e s) = u at honly
  have hset : SameSettings s u := honly.settings
  have hgrp : u.grp g = _ := (honly.grp_eq g).trans (grp_noteEdge h.order.grps g e)
  have hclock : u.clock = s.clock := by rw [honly.frame]; rfl
  have htaken := strobeEdge_taken (s := u) (back := 0) (NoStreams.settings h.streams hset hg) (by rw [hgrp]; exact hstrobe) (by rw [hclock]; exact htime)
    (by rw [hgrp, hset.grpWarm_eq hg]; exact hwarm)
  have hgrps : Rising u.grps := by
    rw [honly.grps_eq]
    exact State.setGrp_rising h.order.grps ..
  let v : State := u.setGrp g { u.grp g with strobe := none, lateStrobe := false }
  have hv : v.grp g =
      { s.grp g with hist := (e :: (s.grp g).hist).take 4096, edges := (s.grp g).edges + 1, strobe := none, lateStrobe := false } := by
    refine (State.grp_setGrp_self hgrps ..).trans ?_
    rw [hgrp]
  have hres : forN 8 (resolverEdge g 0) v = v := forN_unchanged fun r hr =>
    resolverEdge_none (s := v) ((congrArg (fun l => (Sparse.get Trk.init r l).due) honly.trks_eq).trans (hdue r hr)) 0
  have hafter : afterChecks g 0 (rd F.grp_CTL_DEC g s) u = v := by
    unfold afterChecks
    rw [htaken, hres]
    dsimp only
    rw [if_neg (fun hp => hpoint (by rw [hv] at hp; exact hp.2)), releaseStreams_none (by rw [hv]; exact h.held)]
  rw [oneEdge_eq, hu, hafter, hv]

/-- Settles O29: an edge with a decimation point, an edge that a strobe takes, and the filter over ones. -/
theorem filterEdges : Obligations.FilterEdges := by
  unfold Obligations.FilterEdges
  refine ⟨fun g b s h hmode hlost hstrobe hchk htrk => ?_, fun g b t0 s h hmode hlost hstrobe htime hdue hchk hlate hpoint hwarm => ?_,
    fun n m xs hn hlen hall => sincRaw_ones hn hlen hall⟩
  · intro x m hist hm hpoint
    have hnext : PointNext g s := ⟨hstrobe, fun r hr => (htrk r hr).2, fun r hr => (htrk r hr).1, hchk, hm, hpoint⟩
    let e : ModEdge := { b with gap := rd F.grp_CTL_CLKDIV g s }
    have hgrp := grp_oneEdge_point h hnext e
    have hanswer (test : State → State → Bool) (htest : test s (oneEdge g 0 e s) = true) :
        answerEdges (decide (g < 12)) g [b] test s = .next (finish (oneEdge g 0 e s)) := by
      rw [answerEdges_single (decide_eq_true h.group) h.clock h.runs hlost (by rw [timedEdge_clockOut hmode]; exact htest), timedEdge_clockOut hmode]
    refine ⟨oneEdge g 0 e s, hanswer _ ?_, fun hbefore hend => hanswer _ ?_, hgrp, fun i hi => ?_⟩
    · rw [hgrp]
      simp [Grp.atPoint]
    · rw [hgrp, (settings_oneEdge_point h hnext e).grpWarm_eq h.group]
      exact decide_eq_true ⟨hbefore, hend⟩
    · exact fun hon => chan_oneEdge_point h hnext e hi hon
  · let e : ModEdge := { b with gap := rd F.grp_CTL_CLKDIV g s }
    have hgrp := oneEdge_strobed h hstrobe htime hdue hchk hpoint hwarm e
    refine ⟨oneEdge g 0 e s, ?_, ?_⟩
    · refine (answerEdges_single (decide_eq_true h.group) h.clock h.runs hlost ?_).trans (by rw [timedEdge_clockOut hmode])
      rw [timedEdge_clockOut hmode, hgrp, hstrobe]
      rfl
    · rw [hgrp, ← hlate]

end Sys2Proof.Machine
end

section
/-! A sample of a resolver tracker (R284 to R286): what it takes from its channels, and what it leaves. -/

namespace Sys2Proof.Machine

variable {s t : State} {r g f amp ns : Nat} {neg : Bool}

/-! ### The fields of a resolver tracker -/

theorem trkF_low (hr : r < 8) (o lo w : Nat) : trkF r o lo w = ⟨.rt, o, lo, w⟩ := if_pos hr

/-- A whole word as a field. -/
theorem rd_word {i o : Nat} {b : Blk} (s : State) : rd ⟨b, o, 0, 36⟩ i s = (s.reg (keyOf b i o)).toNat := by
  unfold rd bits
  rw [Nat.pow_zero, Nat.div_one, Nat.mod_eq_of_lt (s.reg _).isLt]

theorem group_of_trkReads (hr : r < 8) (h : trkReads r g s = true) : rd (trkF r 0 1 4) r s = g := by
  unfold trkReads at h
  rw [Nat.mod_eq_of_lt hr] at h
  simp only [Bool.and_eq_true, beq_iff_eq] at h
  obtain ⟨⟨-, hgroup⟩, -⟩ := h
  exact hgroup

/-- The settings of a resolver tracker. -/
theorem SameSettings.rd_tracker (h : SameSettings s t) (hr : r < 8) {p : FRef} (hp : p.b = .rt ∧ p.o < 3) : rd p r t = rd p r s := by
  refine h.rd_eq ?_
  rw [hp.1]
  have := setting_tracker hp.2 r
  rwa [if_pos hr, Nat.mod_eq_of_lt hr] at this

/-! ### The nearer way to an angle (R285) -/

/-- The step of a tracker at angle `old` to an angle that ends in `f`, by the nearer way. -/
def angleStep (f old : Nat) : Int := signedMod 24 ((f : Int) - old)

theorem angleStep_bounds (f old : Nat) : -2 ^ 23 ≤ angleStep f old ∧ angleStep f old < 2 ^ 23 := by
  unfold angleStep signedMod
  dsimp only
  split <;> omega

theorem lowBits_angleStep (f old : Nat) : lowBits 36 ((old : Int) + angleStep f old) % 2 ^ 24 = f % 2 ^ 24 := by
  unfold lowBits angleStep signedMod
  dsimp only
  split <;> omega

/-! ### Free choices alone -/

/-- `t` differs from `s` in the count of free choices alone (log entry 5). -/
def FreeOnly (s t : State) : Prop := t = { s with free := t.free }

theorem FreeOnly.refl (s : State) : FreeOnly s s := rfl

theorem freeOnly_anyBool (s : State) : FreeOnly s s.anyBool.2 := rfl

theorem FreeOnly.trans {u : State} (h : FreeOnly s t) (h2 : FreeOnly t u) : FreeOnly s u := by
  unfold FreeOnly at *
  rw [h2, h]

/-! ### Angles and roots -/

/-- The quarter turn that holds an angle, and its legs there (R284). -/
def quarter (y x : Int) : Nat × Int × Int :=
  if 0 < x ∧ 0 ≤ y then (0, y, x) else if x ≤ 0 ∧ 0 < y then (2 ^ 22, -x, y)
  else if x < 0 ∧ y ≤ 0 then (2 ^ 23, -y, -x) else (3 * 2 ^ 22, x, -y)

/-- The angle of legs in a quarter turn. -/
def quarterAngle (q : Nat × Int × Int) (s : State) : Nat × State :=
  if q.2.1 = 0 ∨ q.2.1 = q.2.2 then (q.1 + angleBits q.2.1 q.2.2 22 0, s)
  else ((q.1 + angleBits q.2.1 q.2.2 22 0 + if s.anyBool.1 then 1 else 0) % 2 ^ 24, s.anyBool.2)

theorem angleOf_eq {y x : Int} (h : ¬(y = 0 ∧ x = 0)) (s : State) : angleOf y x s = quarterAngle (quarter y x) s := if_neg h

theorem freeOnly_quarterAngle (q : Nat × Int × Int) (s : State) : FreeOnly s (quarterAngle q s).2 := by
  unfold quarterAngle
  split
  · exact FreeOnly.refl s
  · exact freeOnly_anyBool s

theorem freeOnly_angleOf (y x : Int) (s : State) : FreeOnly s (angleOf y x s).2 := by
  by_cases h : y = 0 ∧ x = 0
  · rw [show angleOf y x s = s.anyBelow (2 ^ 24) from if_pos h]
    rfl
  · rw [angleOf_eq h]
    exact freeOnly_quarterAngle ..

/-- A root `q` of `n`, divided by `d` and rounded (log entry 15). -/
def roundedRoot (q n d : Nat) (s : State) : Nat × State :=
  if q * q = n ∧ q % d = 0 then (q / d, s) else (q / d + if s.anyBool.1 then 1 else 0, s.anyBool.2)

theorem rootOf_eq (n d : Nat) (s : State) : rootOf n d s = roundedRoot (sqrtFrom n 40 0) n d s := rfl

theorem freeOnly_roundedRoot (q n d : Nat) (s : State) : FreeOnly s (roundedRoot q n d s).2 := by
  unfold roundedRoot
  split
  · exact FreeOnly.refl s
  · exact freeOnly_anyBool s

theorem freeOnly_rootOf (n d : Nat) (s : State) : FreeOnly s (rootOf n d s).2 := by
  rw [rootOf_eq]
  exact freeOnly_roundedRoot ..

theorem freeOnly_groupDelay (c : Nat) (s : State) : FreeOnly s (groupDelay c s).2 := by
  unfold groupDelay roundFree
  dsimp only
  split
  · exact FreeOnly.refl s
  · exact freeOnly_anyBool s

/-! ### The amplitude (R286) -/

/-- The amplitude of two outputs fits its field. -/
theorem rootOf_lt {y x : Int} (hy : -2 ^ 35 ≤ y ∧ y ≤ 2 ^ 35) (hx : -2 ^ 35 ≤ x ∧ x ≤ 2 ^ 35) (s : State) :
    (rootOf (y * y + x * x).toNat (2 ^ 18) s).1 < 2 ^ 18 := by
  have hsq {v : Int} (hv : -2 ^ 35 ≤ v ∧ v ≤ 2 ^ 35) : v * v ≤ 2 ^ 70 := by
    have h := sq_le_sq' hv.1 hv.2
    rw [pow_two, ← pow_mul] at h
    exact h
  have hn : (y * y + x * x).toNat ≤ 2 ^ 71 := by
    have := hsq hy
    have := hsq hx
    omega
  generalize (y * y + x * x).toNat = n at hn
  obtain ⟨hlo, -⟩ := sqrtFrom_spec n 40 0 (Nat.zero_le _) (by omega)
  have hroot : sqrtFrom n 40 0 < 3 * 2 ^ 34 := by
    by_contra hge
    have := Nat.mul_le_mul (Nat.le_of_not_lt hge) (Nat.le_of_not_lt hge)
    omega
  rw [rootOf_eq]
  generalize sqrtFrom n 40 0 = q at hroot
  unfold roundedRoot
  split
  · dsimp only; omega
  · dsimp only; split <;> omega

/-! ### A tracker takes an angle (R285, R286) -/

/-- Tracker `r` has a sample. -/
def trackerSeen (r : Nat) (s : State) : State := s.modTrk r (fun x => { x with seen := true })

/-- Tracker `r` shows an angle and an amplitude. -/
def angleTaken (r angle amp : Nat) (s : State) : State := wr F.rt_AMP_VAL r amp (wr F.rt_ANGLE r angle (trackerSeen r s))

/-- An amplitude outside its window puts tracker `r` into fault, and is counted. -/
def ampFault (r : Nat) (s : State) : State := bump F.rt_STAT_AMP_ERR r (wr F.rt_STAT_FAULT r 1 s)

section
variable (hr : r < 8) (hseen : (s.trk r).seen = true) (hsil : rd F.mfr_EVT_CTL_EN 0 s = 0) (htbs : s.tbs = [])
include hr hseen hsil htbs

/-- A tracker that feeds no timebase and posts no event. -/
theorem trackAngle_eq (f amp ns : Nat) :
    let angle := lowBits 36 ((rd F.rt_ANGLE r s : Int) + angleStep f (rd F.rt_ANGLE r s))
    let taken := angleTaken r angle amp s
    trackAngle r f amp ns s =
      if amp < rd F.rt_AMP_WIN_AMIN r s ∨ rd F.rt_AMP_WIN_AMAX r s < amp then ampFault r taken
      else if rdB F.rt_STAT_FAULT r s then wr F.rt_STAT_FAULT r 0 taken else taken := by
  intro angle taken
  let told (code : Nat) (y : State) : State := postEvent (if r < 4 then 0 else 1) 5 r code y
  have hevt : rd F.mfr_EVT_CTL_EN 0 taken = 0 :=
    (evtCtl_wr (f := F.rt_AMP_VAL) (by decide) ..).trans ((evtCtl_wr (f := F.rt_ANGLE) (by decide) ..).trans hsil)
  have hevtFault : rd F.mfr_EVT_CTL_EN 0 (ampFault r taken) = 0 :=
    (evtCtl_bump (f := F.rt_STAT_AMP_ERR) (by decide) ..).trans ((evtCtl_wr (f := F.rt_STAT_FAULT) (by decide) ..).trans hevt)
  have hevtClear : rd F.mfr_EVT_CTL_EN 0 (wr F.rt_STAT_FAULT r 0 taken) = 0 := (evtCtl_wr (f := F.rt_STAT_FAULT) (by decide) ..).trans hevt
  have htell (code : Nat) {y : State} (hy : rd F.mfr_EVT_CTL_EN 0 y = 0) : told code y = y := postEvent_silent (by split <;> decide) hy ..
  have hword : (rdW (trkF r 3 0 36) r s).toNat = rd F.rt_ANGLE r s := by
    rw [trkF_low hr]
    exact (rd_word s).symm
  have hdeliver (y : State) (hy : y.tbs = s.tbs) (a : Nat) (x : Int) (dev : Nat) (fresh : Bool) : deliverAngle 2 r a x dev fresh y = y :=
    deliverAngle_unused (hy.trans htbs) ..
  have htold : trackAngle r f amp ns s = (if amp < rd F.rt_AMP_WIN_AMIN r s then told 1 (ampFault r taken)
      else if rd F.rt_AMP_WIN_AMAX r s < amp then told 2 (ampFault r taken)
      else deliverAngle 2 r angle (s.clock.tick - ns) (devAgo ns s) (rdB F.rt_STAT_FAULT r s)
        (if rdB F.rt_STAT_FAULT r s then told 3 (wr F.rt_STAT_FAULT r 0 taken) else taken)) := by
    unfold trackAngle
    rw [Nat.mod_eq_of_lt hr, hword, hseen]
    simp only [trkF_low hr, if_pos hr, if_true]
    rfl
  rw [htold, htell 1 hevtFault, htell 2 hevtFault, htell 3 hevtClear, hdeliver _ (by split <;> rfl), ite_or]

/-- Such a tracker changes its STAT alone once it shows the sample. -/
theorem frontOnly_trackAngle (hregs : Rising s.regs) (hchans : Rising s.chans) (f amp ns : Nat) :
    FrontOnly (· = keyOf .rt r 5) (fun _ => False)
      (angleTaken r (lowBits 36 ((rd F.rt_ANGLE r s : Int) + angleStep f (rd F.rt_ANGLE r s))) amp s) (trackAngle r f amp ns s) := by
  have hstat : keyOf F.rt_STAT_FAULT.b r F.rt_STAT_FAULT.o = keyOf .rt r 5 := rfl
  rw [trackAngle_eq hr hseen hsil htbs]
  generalize htaken : angleTaken r (lowBits 36 ((rd F.rt_ANGLE r s : Int) + angleStep f (rd F.rt_ANGLE r s))) amp s = taken
  have hbase : FrontOnly (· = keyOf .rt r 5) (fun _ => False) taken taken := by
    subst htaken
    exact FrontOnly.refl (rising_wr (rising_wr hregs ..) ..) hchans
  split
  · exact (hbase.wr (f := F.rt_STAT_FAULT) hstat 1).wr (f := F.rt_STAT_AMP_ERR) rfl _
  · split
    · exact hbase.wr (f := F.rt_STAT_FAULT) hstat 0
    · exact hbase

/-- An amplitude below its window leaves the tracker in fault (R286). -/
theorem fault_trackAngle (hregs : Rising s.regs) (hlow : amp < rd F.rt_AMP_WIN_AMIN r s) (f ns : Nat) :
    rd F.rt_STAT_FAULT r (trackAngle r f amp ns s) = 1 := by
  have htaken (angle : Nat) : Rising (angleTaken r angle amp s).regs := rising_wr (rising_wr hregs ..) ..
  rw [trackAngle_eq hr hseen hsil htbs, if_pos (.inl hlow), ampFault,
    rd_bump_apart (f := F.rt_STAT_FAULT) (g := F.rt_STAT_AMP_ERR) (rising_wr (htaken _) ..) (by decide), rd_wr_self (htaken _) (by decide)]
  rfl

end

/-! ### A sample (R284) -/

/-- What a sample of tracker `r` leaves: its angle moved by the nearer way to one that ends in `f`, and its fault when the amplitude is too low. -/
structure Sampled (r f : Nat) (s t : State) : Prop where
  settings : SameSettings s t
  grps     : t.grps = s.grps
  trk      : t.trk r = { s.trk r with seen := true }
  others   : ∀ k, k ≠ r → t.trk k = s.trk k
  angle    : rd F.rt_ANGLE r t = lowBits 36 ((rd F.rt_ANGLE r s : Int) + angleStep f (rd F.rt_ANGLE r s))
  fault    : rd F.rt_AMP_VAL r t < rd F.rt_AMP_WIN_AMIN r s → rd F.rt_STAT_FAULT r t = 1

theorem sampled_trackAngle {w : State} (hr : r < 8) (hseen : (w.trk r).seen = true) (hsil : rd F.mfr_EVT_CTL_EN 0 w = 0) (htbs : w.tbs = [])
    (hregs : Rising w.regs) (hchans : Rising w.chans) (htrks : Rising w.trks) (hamp : amp < 2 ^ 18) (f ns : Nat) :
    Sampled r f w (trackAngle r f amp ns w) := by
  have hfront := frontOnly_trackAngle hr hseen hsil htbs hregs hchans f amp ns
  have hlow (h : amp < rd F.rt_AMP_WIN_AMIN r w) := fault_trackAngle hr hseen hsil htbs hregs h f ns
  generalize hangle : lowBits 36 ((rd F.rt_ANGLE r w : Int) + angleStep f (rd F.rt_ANGLE r w)) = angle at hfront
  generalize trackAngle r f amp ns w = t at hfront hlow
  have hkey {o : Nat} (ho : o < 5) : keyOf .rt r o ≠ keyOf .rt r 5 := by
    rw [Ne, keyOf_right_inj]
    omega
  have htaken : Rising (wr F.rt_ANGLE r angle (trackerSeen r w)).regs := rising_wr hregs ..
  have hval : rd F.rt_AMP_VAL r t = amp := by
    rw [hfront.rd_eq (f := F.rt_AMP_VAL) (hkey (by decide)), angleTaken, rd_wr_self htaken (by decide)]
    exact Nat.mod_eq_of_lt hamp
  refine ⟨?_, hfront.grps_eq, ?_, ?_, ?_, fun h => hlow (by rwa [hval] at h)⟩
  · intro k hk
    have hne {o : Nat} (ho : 3 ≤ o ∧ o < 8) : k ≠ keyOf .rt r o := by
      rintro rfl
      simp only [Setting, keyOf] at hk
      omega
    rw [hfront.reg k (hne (by decide)), angleTaken]
    exact (State.reg_setReg_ne _ (hne (o := 4) (by decide)) _).trans (State.reg_setReg_ne _ (hne (o := 3) (by decide)) _)
  · exact (congrArg (Sparse.get Trk.init r) hfront.trks_eq).trans (State.trk_setTrk_self htrks ..)
  · exact fun k hk => (congrArg (Sparse.get Trk.init k) hfront.trks_eq).trans (State.trk_setTrk_ne w hk _)
  · rw [hfront.rd_eq (f := F.rt_ANGLE) (hkey (by decide)), angleTaken, rd_wr_apart (f := F.rt_ANGLE) (g := F.rt_AMP_VAL) htaken (by decide),
      rd_wr_self (show Rising (trackerSeen r w).regs from hregs) (by decide), hangle]
    exact Nat.mod_eq_of_lt (show angle < 2 ^ 36 by unfold lowBits at hangle; omega)

/-- Tracker `r` takes the angle and the amplitude of its two legs; channel `c` gives the delay. -/
def takeLegs (r back c : Nat) (y x : Int) (s : State) : State :=
  let angle := angleOf y x s
  let amp := rootOf (y * y + x * x).toNat (2 ^ 18) angle.2
  let delay := groupDelay c amp.2
  trackAngle r angle.1 amp.1 (back + delay.1) delay.2

/-- A resolver's sample by its two legs. The searches for the angle and the root stay opaque: the kernel would evaluate them bit by bit. -/
theorem resolverTake_eq (r back : Nat) (neg : Bool) (s : State) :
    let cs := 8 * rd (trkF r 0 1 4) r s + rd (trkF r 0 5 3) r s
    let cc := 8 * rd (trkF r 0 1 4) r s + rd (trkF r 0 8 3) r s
    let sgn : Int := if neg then -1 else 1
    resolverTake r back neg s = takeLegs r back cs (sgn * (chanZ cs s).1) (sgn * (chanZ cc s).1) (countSat cc (countSat cs s)) := by
  generalize hdef : resolverTake = take
  delta resolverTake at hdef
  subst hdef
  unfold takeLegs
  obtain ⟨angle, hangle⟩ : ∃ angle, angle = angleOf := ⟨_, rfl⟩
  obtain ⟨root, hroot⟩ : ∃ root, root = rootOf := ⟨_, rfl⟩
  rw [← hangle, ← hroot]

/-- Two legs give their angle and an amplitude that fits its field; the roundings are free. -/
theorem takeLegs_eq {y x : Int} (hy : -2 ^ 35 ≤ y ∧ y ≤ 2 ^ 35) (hx : -2 ^ 35 ≤ x ∧ x ≤ 2 ^ 35) (r back c : Nat) (s : State) :
    ∃ amp ns w, FreeOnly s w ∧ amp < 2 ^ 18 ∧ takeLegs r back c y x s = trackAngle r (angleOf y x s).1 amp ns w := by
  have hangle := freeOnly_angleOf y x s
  have hroot := freeOnly_rootOf (y * y + x * x).toNat (2 ^ 18) (angleOf y x s).2
  have hamp := rootOf_lt hy hx (angleOf y x s).2
  exact ⟨_, _, _, (hangle.trans hroot).trans (freeOnly_groupDelay c _), hamp, rfl⟩

theorem Sampled.of_freeOnly {w : State} (h : Sampled r f w t) (hw : FreeOnly s w) : Sampled r f s t := by
  unfold FreeOnly at hw
  rw [hw] at h
  exact ⟨h.settings, h.grps, h.trk, h.others, h.angle, h.fault⟩

theorem ChansOnly.rd_angle {cs : Nat → Prop} (h : ChansOnly cs s t) (r : Nat) : rd F.rt_ANGLE r t = rd F.rt_ANGLE r s := by
  refine h.rd_eq ?_
  rintro ⟨c, -, hc, hk⟩
  simp only [F.rt_ANGLE, keyOf] at hk
  omega

theorem Sampled.of_chansOnly {w : State} {cs : Nat → Prop} (h : Sampled r f w t) (hw : ChansOnly cs s w) (hr : r < 8) : Sampled r f s t := by
  have hangle := hw.rd_angle r
  have hmin : rd F.rt_AMP_WIN_AMIN r w = rd F.rt_AMP_WIN_AMIN r s := hw.settings.rd_tracker hr (by decide)
  have htrk (k : Nat) : w.trk k = s.trk k := congrArg (Sparse.get Trk.init k) hw.trks_eq
  exact ⟨hw.settings.trans h.settings, h.grps.trans hw.grps_eq, htrk r ▸ h.trk, fun k hk => (h.others k hk).trans (htrk k), hangle ▸ h.angle,
    hmin ▸ h.fault⟩

/-- The values that a sample reads, clipped ones counted (R268). -/
theorem chansOnly_countSats {cs cc : Nat} (hregs : Rising s.regs) (hchans : Rising s.chans) (hcs : cs < 96) (hcc : cc < 96) :
    ChansOnly (fun _ => True) s (countSat cc (countSat cs s)) := by
  have hfirst : ChansOnly (fun _ => True) s (countSat cs s) := (chansOnly_countSat (FrontOnly.refl hregs hchans) hcs).mono (fun _ _ => trivial)
  exact hfirst.trans ((chansOnly_countSat (FrontOnly.refl hfirst.regs hfirst.chans) hcc).mono (fun _ _ => trivial))

/-- A leg of a sample is in range at either point of a period. -/
theorem leg_bounds (neg : Bool) (c : Nat) (s : State) :
    -2 ^ 35 ≤ (if neg then -1 else 1) * (chanZ c s).1 ∧ (if neg then -1 else 1) * (chanZ c s).1 ≤ 2 ^ 35 := by
  have := chanZ_bounds c s
  split <;> omega

/-- The angle that a sample takes of channels `cs` and `cc` (R284). -/
def sampleAngle (neg : Bool) (cs cc : Nat) (s : State) : Nat :=
  let sgn : Int := if neg then -1 else 1
  (angleOf (sgn * (chanZ cs s).1) (sgn * (chanZ cc s).1) (countSat cc (countSat cs s))).1

/-- The sample of a tracker that has one already, feeds no timebase and posts no event. -/
theorem sampled_resolverTake (hr : r < 8) (hgroup : g < 12) (hg : rd (trkF r 0 1 4) r s = g) (hseen : (s.trk r).seen = true)
    (hsil : rd F.mfr_EVT_CTL_EN 0 s = 0) (htbs : s.tbs = []) (hregs : Rising s.regs) (hchans : Rising s.chans) (htrks : Rising s.trks)
    (back : Nat) (neg : Bool) :
    Sampled r (sampleAngle neg (8 * g + rd F.rt_CTL_CH_A r s) (8 * g + rd F.rt_CTL_CH_B r s) s) s (resolverTake r back neg s) := by
  let cs := 8 * g + rd F.rt_CTL_CH_A r s
  let cc := 8 * g + rd F.rt_CTL_CH_B r s
  have hcs : cs < 96 := by
    have : rd F.rt_CTL_CH_A r s < 8 := bits_lt ..
    omega
  have hcc : cc < 96 := by
    have : rd F.rt_CTL_CH_B r s < 8 := bits_lt ..
    omega
  have hA : trkF r 0 5 3 = F.rt_CTL_CH_A := trkF_low hr ..
  have hB : trkF r 0 8 3 = F.rt_CTL_CH_B := trkF_low hr ..
  have hread := chansOnly_countSats hregs hchans hcs hcc
  have htake := resolverTake_eq r back neg s
  rw [hg, hA, hB] at htake
  obtain ⟨amp, ns, w, hfree, hamp, hlegs⟩ := takeLegs_eq (leg_bounds neg cs s) (leg_bounds neg cc s) r back cs (countSat cc (countSat cs s))
  rw [htake, hlegs, sampleAngle]
  generalize countSat cc (countSat cs s) = v at *
  refine Sampled.of_chansOnly (Sampled.of_freeOnly ?_ hfree) hread hr
  have hregw : w.regs = v.regs := by rw [hfree]
  have hchanw : w.chans = v.chans := by rw [hfree]
  have htrkw : w.trks = s.trks := by rw [hfree]; exact hread.trks_eq
  have htbw : w.tbs = s.tbs := by rw [hfree, hread.frame]
  have hevt : rd F.mfr_EVT_CTL_EN 0 w = rd F.mfr_EVT_CTL_EN 0 v := by rw [hfree]; rfl
  exact sampled_trackAngle hr ((congrArg (fun l => (Sparse.get Trk.init r l).seen) htrkw).trans hseen) (hevt.trans (hread.settings.evtCtl.trans hsil))
    (htbw.trans htbs) (hregw ▸ hread.regs) (hchanw ▸ hread.chans) (htrkw ▸ htrks) hamp _ ns

/-! ### The edge that a sample falls on -/

/-- Tracker `r` has its sampling position taken. -/
def positionTaken (r : Nat) (s : State) : State := s.modTrk r (fun x => { x with due := none })

/-- A sampling position that waits takes the edge of its group. -/
theorem resolverEdge_takes {t0 back : Nat} (hdue : (s.trk r).due = some (t0, neg)) (hreads : trkReads r g s = true) (htime : t0 + back ≤ s.clock.tick)
    (hwarm : grpWarm g s ≤ (s.grp g).edges) : resolverEdge g back r s = resolverTake r back neg (positionTaken r s) := by
  unfold resolverEdge
  rw [hdue]
  dsimp only
  have hnow : ¬((!trkReads r g s) = true ∨ s.clock.tick < t0 + back) := by
    rw [hreads]
    exact not_or.mpr ⟨Bool.false_ne_true, Nat.not_lt.mpr htime⟩
  rw [if_neg hnow, if_neg (Nat.not_lt.mpr hwarm)]
  rfl

/-- The next edge of group `g` samples resolver tracker `r`: no other tracker waits, no strobe and no decimation point falls on it. -/
structure SampleNext (r g : Nat) (neg : Bool) (s : State) : Prop where
  tracker : r < 8
  reads   : trkReads r g s = true
  seen    : (s.trk r).seen = true
  due     : ∃ t0, (s.trk r).due = some (t0, neg) ∧ t0 ≤ s.clock.tick
  others  : ∀ k, k < 8 → k ≠ r → (s.trk k).due = none
  unused  : s.tbs = []
  strobe  : (s.grp g).strobe = none
  checks  : OnlyChecks g 8 8 s
  between : ((s.grp g).edges + 1) % rd F.grp_CTL_DEC g s ≠ 0
  warm    : grpWarm g s ≤ (s.grp g).edges + 1

/-- An edge at which only tracker `r` samples. -/
theorem afterChecks_samples {back m : Nat} (hr : r < 8) (hheld : ((resolverEdge g back r s).grp g).held = []) (hstrobe : (s.grp g).strobe = none)
    (hbefore : ∀ k, k < 8 → k ≠ r → (s.trk k).due = none) (hafter : ∀ k, k < 8 → k ≠ r → ((resolverEdge g back r s).trk k).due = none)
    (hm : ((resolverEdge g back r s).grp g).edges % m ≠ 0) : afterChecks g back m s = resolverEdge g back r s := by
  have hone : forN 8 (resolverEdge g back) s = resolverEdge g back r s :=
    forN_single hr (fun k hk hne => resolverEdge_none (hbefore k hk hne) back) (fun k hk hne => resolverEdge_none (hafter k hk hne) back)
  unfold afterChecks
  rw [strobeEdge_none hstrobe, hone]
  dsimp only
  rw [if_neg (fun h => hm h.2), releaseStreams_none hheld]

/-- Such an edge, with the state of the tracker's channels that the sample reads. -/
theorem sampled_oneEdge (h : PlainGroup g s) (hnext : SampleNext r g neg s) (e : ModEdge) :
    ∃ v, SameSettings s v ∧ rd F.rt_ANGLE r v = rd F.rt_ANGLE r s ∧ v.grp g = (noteEdge g e s).grp g ∧ (v.trk r).due = none ∧
      Sampled r (sampleAngle neg (8 * g + rd F.rt_CTL_CH_A r s) (8 * g + rd F.rt_CTL_CH_B r s) v) v (oneEdge g 0 e s) := by
  have hg := h.group
  obtain ⟨hr, hreads, hseen, ⟨t0, hdue, htime⟩, hothers, htbs, hstrobe, hchecks, hbetween, hwarm⟩ := hnext
  have honly := (edgeChecks_off (s := noteEdge g e s) hg h.order.regs h.order.chans hchecks.allOff e).1
  generalize hu : edgeChecks g e (noteEdge g e s) = u at honly
  have hset : SameSettings s u := honly.settings
  have hgrp : u.grp g = _ := (honly.grp_eq g).trans (grp_noteEdge h.order.grps g e)
  have htrks : u.trks = s.trks := honly.trks_eq
  have htrk (k : Nat) : u.trk k = s.trk k := congrArg (Sparse.get Trk.init k) htrks
  have hclock : u.clock = s.clock := by rw [honly.frame]; rfl
  have hrise : Rising u.trks := htrks ▸ h.order.trks
  have hself : (positionTaken r u).trk r = { u.trk r with due := none } := State.trk_setTrk_self hrise ..
  have hgroup : rd (trkF r 0 1 4) r u = g := by
    rw [← group_of_trkReads hr hreads, trkF_low hr]
    exact hset.rd_tracker hr (by decide)
  have hA : rd F.rt_CTL_CH_A r (positionTaken r u) = rd F.rt_CTL_CH_A r s := hset.rd_tracker hr (by decide)
  have hB : rd F.rt_CTL_CH_B r (positionTaken r u) = rd F.rt_CTL_CH_B r s := hset.rd_tracker hr (by decide)
  have hsampled := sampled_resolverTake (s := positionTaken r u) hr hg hgroup
    (by rw [hself, htrk]; exact hseen) (hset.evtCtl.trans h.silent) (show u.tbs = [] by rw [honly.frame]; exact htbs) honly.regs honly.chans
    (State.setTrk_rising hrise ..) 0 neg
  have htakes : resolverEdge g 0 r u = resolverTake r 0 neg (positionTaken r u) := by
    refine resolverEdge_takes (by rw [htrk]; exact hdue) ((hset.trkReads_eq r g).trans hreads) (by rw [hclock]; exact htime) ?_
    rw [hgrp, hset.grpWarm_eq hg]
    exact hwarm
  rw [hA, hB, ← htakes] at hsampled
  have hgrpr : (resolverEdge g 0 r u).grp g = u.grp g := congrArg (Sparse.get Grp.init g) hsampled.grps
  have hafter : afterChecks g 0 (rd F.grp_CTL_DEC g s) u = resolverEdge g 0 r u := by
    refine afterChecks_samples hr ?_ ?_ (fun k hk hne => by rw [htrk]; exact hothers k hk hne) (fun k hk hne => ?_) ?_
    · rw [hgrpr, hgrp]
      exact h.held
    · rw [hgrp]
      exact hstrobe
    · rw [hsampled.others k hne, positionTaken, State.modTrk_eq, State.trk_setTrk_ne _ hne, htrk]
      exact hothers k hk hne
    · rw [hgrpr, hgrp]
      exact hbetween
  refine ⟨positionTaken r u, hset, honly.rd_angle r, honly.grp_eq g, by rw [hself], ?_⟩
  rw [oneEdge_eq, hu, hafter]
  exact hsampled

/-- R284: the edge of its group at which tracker `r` samples. -/
theorem exec_resolverSample (h : PlainGroup g s) (hnext : SampleNext r g neg s) (hmode : rdB F.grp_CTL_CLKMODE g s = false)
    (hlost : (s.grp g).lost = false) (b : ModEdge) :
    exec (.resolverSample r [b]) s = .next (finish (oneEdge g 0 { b with gap := rd F.grp_CTL_CLKDIV g s } s)) := by
  obtain ⟨v, hset, -, hgrp, hdone, hsampled⟩ := sampled_oneEdge h hnext { b with gap := rd F.grp_CTL_CLKDIV g s }
  obtain ⟨t0, hdue, -⟩ := hnext.due
  have hdone' : ((oneEdge g 0 { b with gap := rd F.grp_CTL_CLKDIV g s } s).trk r).due = none := by rw [hsampled.trk, hdone]
  have hafter : (oneEdge g 0 { b with gap := rd F.grp_CTL_CLKDIV g s } s).grp g = v.grp g := congrArg (Sparse.get Grp.init g) hsampled.grps
  have hwarm : grpWarm g (oneEdge g 0 { b with gap := rd F.grp_CTL_CLKDIV g s } s) ≤
      ((oneEdge g 0 { b with gap := rd F.grp_CTL_CLKDIV g s } s).grp g).edges := by
    rw [(hset.trans hsampled.settings).grpWarm_eq h.group, hafter, hgrp, grp_noteEdge h.order.grps]
    exact hnext.warm
  have hanswer := answerEdges_single (ok := decide (r < 8)) (b := b)
    (test := fun a b => (a.trk r).due.isSome && (b.trk r).due.isNone && decide (grpWarm g b ≤ (b.grp g).edges))
    (decide_eq_true hnext.tracker) h.clock h.runs hlost (by
      rw [timedEdge_clockOut hmode, hdue, hdone', decide_eq_true hwarm]
      rfl)
  rw [timedEdge_clockOut hmode] at hanswer
  refine Eq.trans ?_ hanswer
  show execResolverSample r [b] s = _
  unfold execResolverSample
  rw [group_of_trkReads hnext.tracker hnext.reads]

/-! ### An angle on an axis (R284) -/

theorem sinTurn_pos : ∀ k, k < 22 → 0 < sinTurn (2 ^ k) := by decide +kernel

/-- No fraction of a turn fits below a leg of zero. -/
theorem angleBits_zero {x : Int} (hx : 0 < x) {k : Nat} (hk : k ≤ 22) : angleBits 0 x k 0 = 0 := by
  induction k with
  | zero => rfl
  | succ k ih =>
    have hpos : 0 < x * sinTurn (0 + 2 ^ k) := by
      rw [Nat.zero_add]
      exact Int.mul_pos hx (sinTurn_pos k (by omega))
    unfold angleBits
    dsimp only
    rw [if_neg (fun h => by rw [Int.zero_mul] at h; omega)]
    exact ih (by omega)

theorem quarterAngle_axis {a : Int} (ha : 0 < a) (base : Nat) (s : State) : (quarterAngle (base, 0, a) s).1 = base := by
  unfold quarterAngle
  rw [if_pos (.inl rfl), angleBits_zero ha (Nat.le_refl _)]
  rfl

theorem angleOf_axes {n : Int} (hn : 0 < n) (s : State) :
    (angleOf 0 n s).1 = 0 ∧ (angleOf n 0 s).1 = 2 ^ 22 ∧ (angleOf 0 (-n) s).1 = 2 ^ 23 ∧ (angleOf (-n) 0 s).1 = 3 * 2 ^ 22 := by
  have heast : quarter 0 n = (0, 0, n) := if_pos ⟨hn, le_rfl⟩
  have hnorth : quarter n 0 = (2 ^ 22, 0, n) := (if_neg (by omega)).trans (if_pos ⟨le_rfl, hn⟩)
  have hwest : quarter 0 (-n) = (2 ^ 23, 0, n) := by
    unfold quarter
    rw [if_neg (by omega), if_neg (by omega), if_pos ⟨by omega, le_rfl⟩, neg_neg, neg_zero]
  have hsouth : quarter (-n) 0 = (3 * 2 ^ 22, 0, n) := by
    unfold quarter
    rw [if_neg (by omega), if_neg (by omega), if_neg (by omega), neg_neg]
  rw [angleOf_eq (by omega), angleOf_eq (by omega), angleOf_eq (by omega), angleOf_eq (by omega), heast, hnorth, hwest, hsouth]
  exact ⟨quarterAngle_axis hn _ s, quarterAngle_axis hn _ s, quarterAngle_axis hn _ s, quarterAngle_axis hn _ s⟩

/-- Settles O33: the edge at which a tracker samples, and the angles on the axes. -/
theorem resolverTracker : Obligations.ResolverTracker := by
  unfold Obligations.ResolverTracker
  refine ⟨fun r g t0 neg b s hr h hchecks hreads hmode hlost hstrobe hbetween hwarm htbs hdue htime hothers hseen => ?_, fun n s hn => angleOf_axes hn s⟩
  have hnext : SampleNext r g neg s := ⟨hr, hreads, hseen, ⟨t0, hdue, htime⟩, hothers, htbs, hstrobe, hchecks, hbetween, hwarm⟩
  have hexec := exec_resolverSample h hnext hmode hlost b
  obtain ⟨v, hset, hold, -, hdone, hsampled⟩ := sampled_oneEdge h hnext { b with gap := rd F.grp_CTL_CLKDIV g s }
  generalize oneEdge g 0 { b with gap := rd F.grp_CTL_CLKDIV g s } s = t at hexec hsampled
  have hvalue {lo : Nat} : chanZ (8 * g + rd ⟨.rt, 0, lo, 3⟩ r s) t = chanZ (8 * g + rd ⟨.rt, 0, lo, 3⟩ r s) v := by
    have hchan : rd ⟨.rt, 0, lo, 3⟩ r s < 8 := bits_lt ..
    exact hsampled.settings.chanZ_eq hsampled.grps (by have := h.group; omega)
  have hmin : rd F.rt_AMP_WIN_AMIN r v = rd F.rt_AMP_WIN_AMIN r s := hset.rd_tracker hr (by decide)
  have hA : chanZ (8 * g + rd F.rt_CTL_CH_A r s) t = chanZ (8 * g + rd F.rt_CTL_CH_A r s) v := hvalue
  have hB : chanZ (8 * g + rd F.rt_CTL_CH_B r s) t = chanZ (8 * g + rd F.rt_CTL_CH_B r s) v := hvalue
  have hangle := hsampled.angle
  rw [hold, sampleAngle, ← hA, ← hB] at hangle
  intro sgn
  refine ⟨t, _, countSat (8 * g + rd F.rt_CTL_CH_B r s) (countSat (8 * g + rd F.rt_CTL_CH_A r s) v), hexec, by rw [hsampled.trk],
    by rw [hsampled.trk, hdone], ?_, (angleStep_bounds _ _).1, (angleStep_bounds _ _).2, hangle, fun hlow => hsampled.fault (hmin ▸ hlow)⟩
  rw [hangle, lowBits_angleStep]

end Sys2Proof.Machine
end
